-- ==== Sys2Proof/Word.lean ====
section
/-! DEFINITION. The word types of the tray and the one representation of sparse storage: a list of key and value pairs in canonical form (keys strictly rising, no entry equal to what an unlisted key reads as). -/

namespace Sys2Proof

/-- A byte of any addressed memory. -/
abbrev Byte := BitVec 8

/-- A register of a register page (R6: 32 bits). -/
abbrev Word32 := BitVec 32

/-- A gable register or address (R419: 64 bits). -/
abbrev Word64 := BitVec 64

/-- Sparse storage by key. What an unlisted key reads as is given beside each operation. -/
abbrev SMap (α : Type) := List (Nat × α)

end Sys2Proof
end

