-- ==== Sys2Proof/Syntax.lean ====
section
/-! DEFINITION. The commands the tray takes: one constructor per row of spec/opcode_table.json, with the operands that its sender or its physical surroundings give. -/

namespace Sys2Proof

/-- Who sends a register access (R71, R85, R104): the host through the PF, a gable, the debug port, or VF v + 1. -/
inductive Src where
  | host
  | gable (g : Fin 2)
  | debug
  | vf (v : Fin 8)
deriving DecidableEq, Repr

/-- What the check code finds in a stored word (R190 to R192). -/
inductive StErr where
  | clean | single | multi | poison
deriving DecidableEq, Repr

/-- Who makes a ligger move (R326, R393): a spar on the pair bound to a slot, or a fixed engine on a pair. -/
inductive Mover where
  | spar (i : Fin 72) (slot : Fin 8)
  | engine (e : Fin 256) (pair : Fin 1024)
deriving DecidableEq, Repr

/-- A lane of a channel (R348, R362): a data lane of a pseudo-channel, or a command/address lane. -/
inductive Lane where
  | dq (pc : Fin 2) (lane : Fin 32)
  | ca (lane : Fin 64)
deriving DecidableEq, Repr

/-- How a gutter transfer ends (R688, R139): whole; after `n` bytes or words by an error of the host's; or it stops after `n` for the while. -/
inductive GutEnd where
  | whole
  | hostErr (n : Nat)
  | part (n : Nat)
deriving DecidableEq, Repr

/-- What a PCIe configuration request does (R574, R667): it reads, or writes the number of enabled VFs, a function's MSI-X enable, or its power state. -/
inductive CfgOp where
  | read (fn : Fin 9) (dw : Fin 1024)
  | numVfs (n : Fin 9)
  | msix (fn : Fin 9) (en : Bool)
  | d3hot (fn : Fin 9) (on : Bool)
deriving DecidableEq, Repr

/-- A relay entry of a CTRL frame (R487): the freed credits of VC 0 to 3, STAMP, VERDICT, DOWN and CALSEQ. -/
structure RelayEnt where
  cred : List Nat := [0, 0, 0, 0]
  stamp : Nat := 0
  verdict : Nat := 0
  down : Nat := 0xF
  calseq : Nat := 0
deriving DecidableEq, Repr

/-- The payload of a CTRL frame (R486): `out` and `phase` are the two halves of CAL, `map` the LANEMAP by physical lane, `relay` the entries by ring position. -/
structure CtrlFrame where
  sfn : Nat
  pos : Nat
  nring : Nat
  calseq : Nat
  out : Nat
  phase : Nat
  map : List Nat
  step : Nat
  relay : List RelayEnt
deriving DecidableEq, Repr

/-- What a calibration step finds (R507): the transmitter's BIAS and MOD, and the receiver's trims, its lock and the corrected symbols that it counts. -/
structure CalStep where
  bias : Byte
  mod : Byte
  tint : Fin 64
  offset : BitVec 7
  thresh : Byte
  lock : Bool
  ce : Fin 65536
deriving DecidableEq, Repr

/-- What a burn of one fuse bit comes to (R537): the pulses after which it reads 1 at margin, or that it does not and how it then reads at normal read. -/
inductive BitBurn where
  | ok (pulses : Fin 4)
  | fail (normal : Bool)
deriving DecidableEq, Repr

/-- Who asks for a rise (R600). -/
inductive OnBy where
  | alarm (n : Fin 2)
  | trayOn
  | req (src : Src)
deriving DecidableEq, Repr

/-- Who asks for a fall (R600); PWR_REQ names its target (true: DORMANT) and FORCE. -/
inductive OffBy where
  | trayOff
  | req (src : Src) (dormant force : Bool)
deriving DecidableEq, Repr

/-- Who asks for a warm reset (R621): TRAY_RST#, or a write of EAV_WRST. -/
inductive WarmBy where
  | pin
  | write (src : Src) (v : Word32)
deriving DecidableEq, Repr

/-- What the surroundings give an instruction of a gable (R430, R448): what strikes the word that is fetched and the word that is loaded, what strikes the exception-table reads in their order, and the cycles of wait. -/
structure GabIn where
  up : StErr := .clean
  mem : StErr := .clean
  tab : List StErr := []
  wait : Nat := 0
deriving DecidableEq, Repr

/-- A command of the tray: one constructor per row of spec/opcode_table.json, with the rule that gives the row. [DESIGN CHOICE, assumption log 5] -/
inductive Instr where
  /-- R29: The course timer reaches the tick: outputs are committed or discarded, the course number advances, the clock switches and TICK is raised. -/
  | tick (uj : Fin (2 ^ 31)) (valid : Bool)
  /-- R28: At the end of the arm window, every engine of the plan starts its first stint. -/
  | runPhaseStart
  /-- R28: Every engine of the plan has reached the end of its stint list and every write is acknowledged, so the plan is done. -/
  | planDone
  /-- R51: The run-time bound t passes with the plan not done, BUDGET_SLIP is raised and CRS_SLIP_CNT is incremented. -/
  | budgetSlip
  /-- R29: At the start of the tick guard, CRS decides overrun, Purlin requeues, updates the energy bucket and selects the plan or wadding for the next course. -/
  | selectionPoint (actual : Fin 65536)
  /-- R159: A plan passed over STARVE successive times gets a reservation, and RESV_START is raised. -/
  | resvStart
  /-- R160: A reservation lapses after 4 × STARVE selection points without dispatch, and the passed-over count restarts. -/
  | resvLapse
  /-- R56: A plan overruns CRS_OVR_LIMIT.LIMIT times in succession and is failed instead of requeued. -/
  | ovrLimit
  /-- R30: At 0.40 µs into the tick guard, the core voltage starts to ramp up for a higher next operating point. -/
  | voltageRamp
  /-- R37: A follower receives a sync mark, checks it and places its tick CRS_SYNC_DLY after it. -/
  | syncMark (w : BitVec 48) (phase : BitVec 16) (gap : Nat)
  /-- R32: The master emits a sync mark CRS_SYNC_LEAD before its own tick. -/
  | syncMarkEmit
  /-- R38: A mark is missed, the tick is placed from the tray's own timer and HOLDOVER sets. -/
  | syncMiss
  /-- R38: CRS_SRC.HOLD consecutive marks are missed, SYNC_LOST is raised and SYNC_OK clears. -/
  | syncLost
  /-- R39: Four consecutive valid marks regain sync; the realigning wadding course ends and SYNC_OK sets. -/
  | syncBack
  /-- R67: A write to CRS_NEXT_AT arms a course-length change, or is refused if too late. -/
  | nextLenArm (src : Src) (v : Word32)
  /-- R67: A write of 1 to CRS_NEXT_CAN.CANCEL cancels an armed length change in time. -/
  | cancel (src : Src)
  /-- R66: A read of a low word latches the high word of the same 64-bit value. -/
  | crsNumRead (src : Src)
  /-- R11: A read of an RC counter returns it and clears it for every source. -/
  | rcRead (src : Src) (off : Fin 0x4000000)
  /-- R77: A write of PG_CTRL.EN = 1 starts a disabled block, or sets EN_PEND during a drain. -/
  | enable (src : Src) (pg : Nat)
  /-- R77: A write of PG_CTRL.EN = 0 starts the block's drain, or clears a pending enable. -/
  | disable (src : Src) (pg : Nat)
  /-- R77: A block's start completes and READY becomes 1. -/
  | startComplete (pg : Nat)
  /-- R78: A block's drain completes, QUIESCING clears and a pending enable starts the block. -/
  | drainComplete (pg : Nat)
  /-- R79: A write of 1 to PG_CTRL.SRST soft-resets an idle block, or is refused with STATE. -/
  | srst (src : Src) (pg : Nat)
  /-- R79: A soft reset completes within 256 cycles, and SRST reads 0. -/
  | srstDone (pg : Nat)
  /-- R80: A write of PG_CTRL.FREEZE sets or clears the freeze request. -/
  | freeze (src : Src) (pg : Nat) (on : Bool)
  /-- R80: A freeze takes effect at the block's next work boundary, and the block starts no new work. -/
  | freezeEffect (pg : Nat)
  /-- R84: A write to PG_EVT_SET sets PG_EVT_RAW bits, unless PG_LOCK is set. -/
  | evtSet (src : Src) (pg : Nat) (v : Word32)
  /-- R87: A write of 1 to PG_ERR_CODE.VALID clears the whole error record. -/
  | errClear (src : Src) (pg : Nat)
  /-- R89: A write of 1 to PG_LOCK.LOCK makes the page's RWL fields read-only until a cold or warm reset. -/
  | lock (src : Src) (pg : Nat)
  /-- R711: A write to a register that has no row of its own updates its fields under the access types and the common checks. -/
  | registerWrite (src : Src) (off : Fin 0x4000000) (v : Word32)
  /-- R93: A BAR0 request of 1 to 8 bytes is split into the registers it touches and handled one after another. -/
  | bar0Request (src : Src) (addr : Fin 0x4000000) (n : Fin 8) (be : BitVec 8) (wr : Option Word64) (ups : List StErr)
  /-- R95: A BAR0 request longer than 8 bytes is completed with Completer Abort. -/
  | oversizeRequest (src : Src) (addr : Fin 0x4000000)
  /-- R100: An access to a gable store window reaches the store, or reads 0 and records WINDOW_LOCKED. -/
  | storeWindowAccess (src : Src) (reg : Fin 0x80000) (wr : Option Word32) (up : StErr)
  /-- R101: A write to +12 of a control-store word commits the staged 128 bits, unless mask ROM or BUSY_SELF refuses it. -/
  | controlWordCommit (src : Src) (g : Fin 2) (w : Fin 16384) (v : Word32)
  /-- R119: Creates an object at the lowest FREE handle in state EMPTY. -/
  | create (src : Src) (slot : Fin 2)
  /-- R121: Frees an object and releases its pages or slots. -/
  | free (src : Src) (slot : Fin 2)
  /-- R119: Sets PIN and asks for the object to be fetched if it is EVICTED. -/
  | pin (src : Src) (slot : Fin 2)
  /-- R119: Clears PIN and clears every BAR2 window that maps the object. -/
  | unpin (src : Src) (slot : Fin 2)
  /-- R119: Asks the pager to page out an eviction candidate. -/
  | evict (src : Src) (slot : Fin 2)
  /-- R119: Asks the pager to page in an EVICTED object. -/
  | fetch (src : Src) (slot : Fin 2)
  /-- R119: Returns the first word of the object's table entry and the low word of EPOCH. -/
  | query (src : Src) (slot : Fin 2)
  /-- R124: Requests a standing grant of a run of shingles, to be placed at the next selection point. -/
  | stGrant (src : Src) (slot : Fin 2)
  /-- R124: Requests removal of a standing grant at the next selection point. -/
  | stFree (src : Src) (slot : Fin 2)
  /-- R124: At a selection point, waiting ST_GRANT and ST_FREE commands are applied, slot 0 first, and complete. -/
  | standingGrantApply
  /-- R137: The pager starts a page-out of a whole object, taking its host slots and setting MOVING, or raises HB_FULL. -/
  | pageOut
  /-- R137: The pager starts a page-in of a whole object when its placement has enough free pages. -/
  | pageIn
  /-- R137: One 2 MiB page move completes; the last one ends the object move and clears MOVING. -/
  | pageMove (ok : Bool)
  /-- R140: After three failed attempts on the same move, the object is poisoned. -/
  | pagerPoison (h : Fin (2 ^ 24)) (out : Bool)
  /-- R116: A retired object-table page is replaced from a free page of its stack and refilled from the other copy. -/
  | otRepaired
  /-- R139: A waiting gutter access to an object proceeds once the object is free of the running plan, of a move or of a fetch. -/
  | gutterResume (c : Fin 8) (e : GutEnd)
  /-- R164: A write of PUE_PRIs changes the priority of a queued plan or stores it for a running plan. -/
  | priorityChange (src : Src) (slot : Fin 2) (fn : Fin 16) (prio : Fin 16)
  /-- R175: A write of a changed owner byte to BST_OWNERj starts a handover of the bank. -/
  | ownerWrite (src : Src) (b : Fin 64) (j : Fin 8) (v : Word32)
  /-- R175: The old owner has no access outstanding, and the bank's BST_OWNER_PEND bit clears. -/
  | handoverComplete (b : Fin 64) (bank : Fin 32)
  /-- R190: The corrected word is written back in the next idle cycle of its bank. -/
  | correctionWriteBack (b : Fin 64)
  /-- R194: BST_CFG.CE_FENCE corrected errors within one course give fence cause 2. -/
  | ceFence (b : Fin 64)
  /-- R194: A write of 1 to BST_FENCE.REQ requests a fence of the batten. -/
  | fenceRequest (src : Src) (b : Fin 64)
  /-- R195: At the tick that ends the course of its cause, a fence takes effect and a preserving march starts if AUTO_MARCH = 1. -/
  | fenced (b : Fin 64)
  /-- R197: At the first tick after a passing preserving march of all 32 banks, the batten returns. -/
  | unfenced (b : Fin 64)
  /-- R201: A write of BST_MARCH.GO requests a march, which starts at once, fences the batten, or is refused. -/
  | marchRequest (src : Src) (b : Fin 64) (mode : Fin 4)
  /-- R201: A march requested while the course timer ran starts at the tick at which its fence takes effect. -/
  | marchStart (b : Fin 64)
  /-- R200: A store march ends, its result stands in BST_MARCH_STAT and MARCH_DONE is raised. -/
  | marchDone (b : Fin 64) (faults : List (Nat × Nat))
  /-- R206: A write to BST_REPAIRb sets or clears a soft repair of a spare row. -/
  | repairWrite (src : Src) (b : Fin 64) (bank : Fin 32) (v : Word32)
  /-- R216: After the earlier stint's operations on an array complete, its mode change starts. -/
  | modeChange (b : Fin 64) (a : Fin 4)
  /-- R216: A mode change ends after 96 cycles with every pocket register 0. -/
  | modeChangeDone (b : Fin 64) (a : Fin 4)
  /-- R227: A write to SLT_MCTLe starts the 256-cycle check of a modulus entry. -/
  | modulusEntryCheck (src : Src) (b : Fin 64) (e : Fin 96) (v : Word32)
  /-- R227: A modulus entry's check ends VALID or BAD, and MOD_VALID or MOD_BAD is raised. -/
  | modValid (b : Fin 64) (e : Fin 96)
  /-- R228: A write to SLT_Qe or SLT_PSIe sets the entry's STATE to EMPTY. -/
  | modulusValueWrite (src : Src) (b : Fin 64) (e : Fin 96) (k : Fin 4) (v : Word32)
  /-- R275: A yealm takes its next key-switch descriptor, checks it and reads its input ciphertext. -/
  | ksDescriptor (y : Fin 4)
  /-- R286: The row runs stages S1 to S3 of a descriptor once its input has arrived. -/
  | preStages (y : Fin 4)
  /-- R278: Once the pre-stages are complete, the yealm streams the key, regenerating seeded halves, into the row's arrays. -/
  | keyStream (y : Fin 4) (bad : Bool)
  /-- R286: The row runs stages X2 to F of a descriptor after its key stream. -/
  | postStages (y : Fin 4)
  /-- R279: Once the post-stages are complete, the yealm writes the descriptor's output ciphertext to its stack. -/
  | outputWrite (y : Fin 4)
  /-- R291: A write of YLM_KAT.GO runs the known-answer test on all 32 SHAKE128 engines. -/
  | kat (src : Src) (y : Fin 4) (v : Word32)
  /-- R291: A known-answer test ends, and READY sets again if it passed. -/
  | katDone (y : Fin 4) (fail : BitVec 32)
  /-- R306: A stook forms, caps, sorts and emits pillars from a slot range. -/
  | pillar (n : Fin 4) (ce : Nat) (ue : Option (Fin 1310720))
  /-- R312: A stook forms three-axis Morton keys and sorts them for later neighbour descriptors. -/
  | sort3 (n : Fin 4) (ce : Nat) (ue : Option (Fin 1310720))
  /-- R313: A stook selects up to K window positions within RADIUS of each query and emits their features. -/
  | ball (n : Fin 4) (ce : Nat) (ue : Option (Fin 1310720))
  /-- R313: A stook selects the K nearest window positions of each query and emits their features. -/
  | knn (n : Fin 4) (ce : Nat) (ue : Option (Fin 1310720))
  /-- R334: A receiver takes the halves of a beat pair and delivers it once it is whole. -/
  | beatPairArrival (recv : Fin 256) (issuer : Fin 256) (cls : Fin 8) (seq : Fin 4) (half : Fin 2) (hbm : Option (Fin 4 × Fin 32)) (eng : Option (Fin 256)) (pair : Option (Fin 1024)) (rivals : List (Fin 256 × Fin 8))
  /-- R337: SPLIT_TO cycles pass after a lone half, which counts as a split and requests a replay. -/
  | splitTimeout (recv : Fin 256) (issuer : Fin 256) (cls : Fin 8) (n : Fin 4) (ch : Fin 32)
  /-- R355: A read of a data slot is decoded against its check bytes and corrected or reported. -/
  | hbmRead (n : Fin 4) (b : Nat) (errs : List (Fin 68 × Byte)) (planReads : Bool)
  /-- R713: A write covering part of a beat pair reads, merges and writes the whole beat pair. -/
  | partialWrite (n : Fin 4) (b : Nat) (first : Fin 64) (bs : List Byte) (errs : List (Fin 68 × Byte))
  /-- R359: An interface parity error puts its pseudo-channel into HOLD and reissues from the retry buffer. -/
  | parity (n : Fin 4) (pc : Fin 64) (kind : Fin 4)
  /-- R359: A reissued command returns, leading back to NORMAL or to another attempt. -/
  | retryCheck (n : Fin 4) (pc : Fin 64) (ok : Bool)
  /-- R362: After the third failure in a row, the controller stops the channel and starts a field lane repair. -/
  | lane (n : Fin 4) (pc : Fin 64)
  /-- R362: A field lane repair completes, or fails and declares STACK_LOST. -/
  | repair (n : Fin 4) (pc : Fin 64) (lane : Lane) (ok : Bool)
  /-- R375: A stack declares STACK_LOST, takes no further access and the tray fails. -/
  | stackLost (n : Fin 4)
  /-- R363: Every 16 µs, a controller reads its stack's temperature and raises the refresh class if needed. -/
  | tempReading (n : Fin 4) (valid : Bool) (t : BitVec 16)
  /-- R364: After HOLD readings below the boundary, the refresh class falls one step at a tick. -/
  | classDown (n : Fin 4)
  /-- R368: In a wadding course, the patrol scrub serves its queue and reads and corrects BLOCKS blocks. -/
  | scrub (n : Fin 4) (errs : List (Nat × Fin 68 × Byte))
  /-- R371: A write of PHY_TRAIN.GO starts stack training at phase 1. -/
  | trainStart (src : Src) (n : Fin 4)
  /-- R371: A training phase ends; the next one begins, or training ends with TRAIN_DONE or TRAIN_FAIL. -/
  | trainPhaseDone (n : Fin 4) (fail : BitVec 32) (lanes : List (Fin 32 × Lane))
  /-- R373: A write of PHY_TRAIN.ABORT ends training at the next phase boundary. -/
  | abort (src : Src) (n : Fin 4)
  /-- R404: A HALT micro-word halts the spar and records the halt. -/
  | seqHalt (ix : Fin 74) (bad : Bool)
  /-- R384: A micro-word continues to upc + 1. -/
  | seqNext (ix : Fin 74) (bad : Bool)
  /-- R384: A micro-word jumps to NA. -/
  | seqJump (ix : Fin 74) (bad : Bool)
  /-- R384: A micro-word jumps to NA if the selected condition holds. -/
  | jcond (ix : Fin 74) (bad : Bool)
  /-- R384: A micro-word jumps to NA if the selected condition does not hold. -/
  | jncond (ix : Fin 74) (bad : Bool)
  /-- R384: A micro-word pushes upc + 1 and jumps to NA. -/
  | seqCall (ix : Fin 74) (bad : Bool)
  /-- R384: A micro-word calls NA if the condition holds. -/
  | callc (ix : Fin 74) (bad : Bool)
  /-- R384: A micro-word pops the call stack and continues there. -/
  | seqRet (ix : Fin 74) (bad : Bool)
  /-- R384: A micro-word returns if the condition holds. -/
  | retc (ix : Fin 74) (bad : Bool)
  /-- R384: A micro-word decrements LC0 and jumps while it is non-zero. -/
  | loop0 (ix : Fin 74) (bad : Bool)
  /-- R384: A micro-word decrements LC1 and jumps while it is non-zero. -/
  | loop1 (ix : Fin 74) (bad : Bool)
  /-- R384: A DISPATCH micro-word jumps to NA plus the masked value of a register. -/
  | dispatchWord (ix : Fin 74) (bad : Bool)
  /-- R385: A micro-word stalls until its condition holds, with a wait limit. -/
  | seqWait (ix : Fin 74) (bad : Bool)
  /-- R385: The awaited condition holds, the datapath fields take effect and the spar jumps to NA. -/
  | waitEnd (ix : Fin 74)
  /-- R385: The wait limit passes first and micro-trap WAIT_TIMEOUT is raised. -/
  | waitTimeout (ix : Fin 74)
  /-- R384: A micro-word raises micro-trap SWTRAP. -/
  | seqTrap (ix : Fin 74) (bad : Bool)
  /-- R402: A micro-word pops the trap frame and resumes at the saved address. -/
  | trapret (ix : Fin 74) (bad : Bool)
  /-- R407: A micro-word ends the stint: it waits on a sway, changes modes, binds slots and parameters and enters the next stint or ends the list. -/
  | endstint (ix : Fin 74) (bad : Bool)
  /-- R330: A sway dependence is met, and the marked descriptor or stint may begin. -/
  | swayWaitEnd (e : Fin 256)
  /-- R389: The ALU does nothing. -/
  | aluNop (ix : Fin 74) (d : BitVec 96)
  /-- R389: v[RD] takes v[RA] + v[RB] with flags. -/
  | aluAdd (ix : Fin 74) (d : BitVec 96)
  /-- R389: v[RD] takes v[RA] − v[RB] with flags. -/
  | aluSub (ix : Fin 74) (d : BitVec 96)
  /-- R389: v[RD] takes v[RA] AND v[RB]. -/
  | aluAnd (ix : Fin 74) (d : BitVec 96)
  /-- R389: v[RD] takes v[RA] OR v[RB]. -/
  | aluOr (ix : Fin 74) (d : BitVec 96)
  /-- R389: v[RD] takes v[RA] XOR v[RB]. -/
  | aluXor (ix : Fin 74) (d : BitVec 96)
  /-- R389: v[RD] takes v[RA] shifted left. -/
  | aluShl (ix : Fin 74) (d : BitVec 96)
  /-- R389: v[RD] takes v[RA] shifted right, logical. -/
  | aluShr (ix : Fin 74) (d : BitVec 96)
  /-- R389: v[RD] takes IMM, zero-extended. -/
  | ldi (ix : Fin 74) (d : BitVec 96)
  /-- R389: v[RD] takes v[RA] + IMM. -/
  | addi (ix : Fin 74) (d : BitVec 96)
  /-- R389: v[RD] takes the product of the low 16 bits of v[RA] and v[RB]. -/
  | mul16 (ix : Fin 74) (d : BitVec 96)
  /-- R389: v[RD] takes the unsigned minimum. -/
  | min (ix : Fin 74) (d : BitVec 96)
  /-- R389: v[RD] takes the unsigned maximum. -/
  | max (ix : Fin 74) (d : BitVec 96)
  /-- R389: LC0 takes v[RA][15:0]. -/
  | setlc0 (ix : Fin 74) (d : BitVec 96)
  /-- R389: LC1 takes v[RA][15:0]. -/
  | setlc1 (ix : Fin 74) (d : BitVec 96)
  /-- R389: v[RD] takes the pointer P of a window. -/
  | getp (ix : Fin 74) (d : BitVec 96)
  /-- R390: The micro-operation does nothing. -/
  | nop (ix : Fin 72)
  /-- R233: Sets named pocket registers, or all accumulators, to 0. -/
  | clear (b : Fin 64) (d : BitVec 96)
  /-- R233: Copies vectors from the store into ledge slots. -/
  | lload (b : Fin 64) (d : BitVec 96) (ups : List StErr)
  /-- R233: Runs K multiply-accumulate steps in integer or MOD36 mode. -/
  | mac (b : Fin 64) (d : BitVec 96) (upsA : List StErr) (upsB : List StErr) (par : Option (Fin 4 × Bool))
  /-- R223: Requantises accumulators and writes them to the store. -/
  | drain (b : Fin 64) (d : BitVec 96) (par : Option (Fin 4 × Bool))
  /-- R233: Copies a register plane from the store. -/
  | pload (b : Fin 64) (d : BitVec 96) (ups : List StErr)
  /-- R233: Copies a register plane to the store. -/
  | pstore (b : Fin 64) (d : BitVec 96) (par : Option (Fin 4 × Bool))
  /-- R233: Adds register planes element-wise modulo q. -/
  | modAdd (b : Fin 64) (d : BitVec 96) (par : Option (Fin 4 × Bool))
  /-- R233: Subtracts register planes element-wise modulo q. -/
  | modSub (b : Fin 64) (d : BitVec 96) (par : Option (Fin 4 × Bool))
  /-- R233: Negates a register plane modulo q. -/
  | neg (b : Fin 64) (d : BitVec 96) (par : Option (Fin 4 × Bool))
  /-- R233: Takes the element-wise Montgomery product of planes. -/
  | ewmul (b : Fin 64) (d : BitVec 96) (ups : List StErr) (par : Option (Fin 4 × Bool))
  /-- R233: Accumulates the element-wise Montgomery product of planes. -/
  | ewmac (b : Fin 64) (d : BitVec 96) (ups : List StErr) (par : Option (Fin 4 × Bool))
  /-- R233: M-scales a register plane. -/
  | tom (b : Fin 64) (d : BitVec 96) (par : Option (Fin 4 × Bool))
  /-- R233: Multiplies two plain planes modulo q. -/
  | mulp (b : Fin 64) (d : BitVec 96) (par : Option (Fin 4 × Bool))
  /-- R231: Takes the forward negacyclic transform across all four arrays. -/
  | ntt (b : Fin 64) (d : BitVec 96) (par : Option (Fin 4 × Bool))
  /-- R231: Takes the inverse transform across all four arrays. -/
  | intt (b : Fin 64) (d : BitVec 96) (par : Option (Fin 4 × Bool))
  /-- R390: Loads a requant table entry from the store. -/
  | rqload (b : Fin 64) (d : BitVec 96) (ups : List StErr)
  /-- R390: Loads a modulus entry from the store and starts its check. -/
  | modload (b : Fin 64) (d : BitVec 96) (ups : List StErr)
  /-- R390: Loads the column map from four store words. -/
  | colmap (b : Fin 64) (d : BitVec 96) (ups : List StErr)
  /-- R390: Sets a window's BASE, LEN and STRIDE and returns its P to 0. -/
  | wset (b : Fin 64) (d : BitVec 96)
  /-- R390: Sets a window's USER, F and W. -/
  | wgroup (b : Fin 64) (d : BitVec 96)
  /-- R393: A producer acquires a buffer of a ligger pair, stalling while FREE = 0. -/
  | acquire (m : Mover)
  /-- R326: FREE becomes non-zero and a stalled ACQUIRE takes its buffer. -/
  | acquireResume (m : Mover)
  /-- R393: A producer posts a buffer, to apply once its writes are acknowledged. -/
  | post (m : Mover)
  /-- R333: Every write to the buffer has arrived whole and FULL increases. -/
  | postApply (p : Fin 1024)
  /-- R326: A consumer takes a full buffer at its scheduled step. -/
  | take (m : Mover)
  /-- R326: A consumer releases a buffer and FREE increases. -/
  | release (m : Mover)
  /-- R392: Reads a store word into a spar register and sets the D conditions. -/
  | srd (b : Fin 64) (d : BitVec 96) (up : StErr)
  /-- R390: Writes two registers into a store word. -/
  | swr (b : Fin 64) (d : BitVec 96)
  /-- R201: A spar requests a march of its batten's banks. -/
  | storeTest (b : Fin 64) (d : BitVec 96)
  /-- R390: A spar writes a BST_REPAIR entry of a bank. -/
  | storeRepair (b : Fin 64) (d : BitVec 96)
  /-- R415: A spar requests a control-store march of a region. -/
  | csTest (ix : Fin 72) (d : BitVec 96)
  /-- R394: A yealm or stook spar drives a fixed stage of its engine. -/
  | engineMicroOperation (ix : Fin 72) (d : BitVec 96)
  /-- R410: A write to SPR_PARK requests or releases a park of the spar. -/
  | park (src : Src) (ix : Fin 72) (v : Word32)
  /-- R410: A park request takes effect at once or at the tick, and PARKED is raised. -/
  | parked (ix : Fin 72)
  /-- R414: A write of SPR_RUN.GO starts an idle spar at an address without a stint. -/
  | sprRun (src : Src) (ix : Fin 72) (v : Word32)
  /-- R414: A write of SPR_ATTN.GO raises micro-trap ATTN, whose handler copies the spar state to the gable's snapshot. -/
  | attn (src : Src) (ix : Fin 72) (v : Word32) (left : Nat)
  /-- R412: A write to SPR_CS_D3 commits the staged control-store word, or is refused. -/
  | csCommit (src : Src) (ix : Fin 72) (v : Word32)
  /-- R413: A write to SPR_PMm sets a patch match entry, or is refused. -/
  | patchMatchWrite (src : Src) (ix : Fin 72) (m : Fin 16) (v : Word32)
  /-- R415: A write of SPR_CS_TEST.GO requests a control-store march, or is refused. -/
  | csTestRequest (src : Src) (ix : Fin 72) (v : Word32)
  /-- R415: A control-store march ends and its result stands in SPR_CS_TSTAT. -/
  | csTestDone (ix : Fin 72) (bad : Bool)
  /-- R428: A gable adds two registers. -/
  | add (g : Fin 2) (x : GabIn)
  /-- R428: A gable subtracts two registers. -/
  | sub (g : Fin 2) (x : GabIn)
  /-- R428: A gable takes the AND of two registers. -/
  | and (g : Fin 2) (x : GabIn)
  /-- R428: A gable takes the OR of two registers. -/
  | or (g : Fin 2) (x : GabIn)
  /-- R428: A gable takes the XOR of two registers. -/
  | xor (g : Fin 2) (x : GabIn)
  /-- R428: A gable takes g[ra] AND NOT g[rb]. -/
  | andn (g : Fin 2) (x : GabIn)
  /-- R428: A gable shifts left. -/
  | shl (g : Fin 2) (x : GabIn)
  /-- R428: A gable shifts right, logical. -/
  | shr (g : Fin 2) (x : GabIn)
  /-- R428: A gable shifts right, arithmetic. -/
  | shra (g : Fin 2) (x : GabIn)
  /-- R428: A gable compares signed. -/
  | clt (g : Fin 2) (x : GabIn)
  /-- R428: A gable compares unsigned. -/
  | cltu (g : Fin 2) (x : GabIn)
  /-- R428: A gable multiplies, low 64 bits. -/
  | mul (g : Fin 2) (x : GabIn)
  /-- R428: A gable multiplies signed, high 64 bits. -/
  | mulhs (g : Fin 2) (x : GabIn)
  /-- R428: A gable multiplies unsigned, high 64 bits. -/
  | mulhu (g : Fin 2) (x : GabIn)
  /-- R429: A gable divides signed. -/
  | divs (g : Fin 2) (x : GabIn)
  /-- R429: A gable divides unsigned. -/
  | divu (g : Fin 2) (x : GabIn)
  /-- R429: A gable takes the signed remainder. -/
  | mods (g : Fin 2) (x : GabIn)
  /-- R429: A gable takes the unsigned remainder. -/
  | modu (g : Fin 2) (x : GabIn)
  /-- R428: A gable takes the signed minimum. -/
  | mins (g : Fin 2) (x : GabIn)
  /-- R428: A gable takes the signed maximum. -/
  | maxs (g : Fin 2) (x : GabIn)
  /-- R428: A gable takes the unsigned minimum. -/
  | minu (g : Fin 2) (x : GabIn)
  /-- R428: A gable takes the unsigned maximum. -/
  | maxu (g : Fin 2) (x : GabIn)
  /-- R428: A gable counts the 1 bits of a register. -/
  | popc (g : Fin 2) (x : GabIn)
  /-- R427: A gable adds an immediate. -/
  | addk (g : Fin 2) (x : GabIn)
  /-- R427: A gable takes the AND with an immediate. -/
  | andk (g : Fin 2) (x : GabIn)
  /-- R427: A gable takes the OR with an immediate. -/
  | ork (g : Fin 2) (x : GabIn)
  /-- R427: A gable takes the XOR with an immediate. -/
  | xork (g : Fin 2) (x : GabIn)
  /-- R427: A gable shifts left by an immediate. -/
  | shlk (g : Fin 2) (x : GabIn)
  /-- R427: A gable shifts right by an immediate. -/
  | shrk (g : Fin 2) (x : GabIn)
  /-- R427: A gable shifts right arithmetically by an immediate. -/
  | shrak (g : Fin 2) (x : GabIn)
  /-- R427: A gable compares with an immediate. -/
  | cltk (g : Fin 2) (x : GabIn)
  /-- R427: A gable loads a shifted immediate. -/
  | ldh (g : Fin 2) (x : GabIn)
  /-- R427: A gable loads PC plus a shifted immediate. -/
  | ldpc (g : Fin 2) (x : GabIn)
  /-- R427: A gable loads a signed byte. -/
  | ld8 (g : Fin 2) (x : GabIn)
  /-- R427: A gable loads an unsigned byte. -/
  | ld8u (g : Fin 2) (x : GabIn)
  /-- R427: A gable loads a signed half-word. -/
  | ld16 (g : Fin 2) (x : GabIn)
  /-- R427: A gable loads an unsigned half-word. -/
  | ld16u (g : Fin 2) (x : GabIn)
  /-- R427: A gable loads a signed word. -/
  | ld32 (g : Fin 2) (x : GabIn)
  /-- R427: A gable loads an unsigned word. -/
  | ld32u (g : Fin 2) (x : GabIn)
  /-- R427: A gable loads a double word. -/
  | ld64 (g : Fin 2) (x : GabIn)
  /-- R427: A gable stores a byte. -/
  | st8 (g : Fin 2) (x : GabIn)
  /-- R427: A gable stores a half-word. -/
  | st16 (g : Fin 2) (x : GabIn)
  /-- R427: A gable stores a word. -/
  | st32 (g : Fin 2) (x : GabIn)
  /-- R427: A gable stores a double word. -/
  | st64 (g : Fin 2) (x : GabIn)
  /-- R427: A gable jumps if the selected comparison holds. -/
  | jc (g : Fin 2) (x : GabIn)
  /-- R427: A gable jumps relative and links. -/
  | jl (g : Fin 2) (x : GabIn)
  /-- R427: A gable jumps to a register and links. -/
  | jlr (g : Fin 2) (x : GabIn)
  /-- R441: A gable jumps, links and pushes onto the shadow stack, spilling if full. -/
  | call (g : Fin 2) (x : GabIn)
  /-- R441: A gable jumps to a register, links and pushes onto the shadow stack. -/
  | callr (g : Fin 2) (x : GabIn)
  /-- R442: A gable returns after checking the target against the shadow stack. -/
  | ret (g : Fin 2) (x : GabIn)
  /-- R427: A gable raises SVC at its level with a code. -/
  | svc (g : Fin 2) (x : GabIn)
  /-- R437: A gable returns from a trap. -/
  | eret (g : Fin 2) (x : GabIn)
  /-- R440: A gable returns from a fast interrupt. -/
  | firet (g : Fin 2) (x : GabIn)
  /-- R427: A gable waits for an interrupt source. -/
  | wfi (g : Fin 2) (x : GabIn)
  /-- R474: A source targeting the gable is pending and enabled, and WFI ends. -/
  | wfiEnd (g : Fin 2) (wait : Nat)
  /-- R423: A gable reads a CSR. -/
  | crd (g : Fin 2) (x : GabIn)
  /-- R423: A gable exchanges a CSR with a register, with the CSR's own effects such as WDOG_KICK. -/
  | cxch (g : Fin 2) (x : GabIn)
  /-- R427: A gable sets bits in a CSR. -/
  | cbset (g : Fin 2) (x : GabIn)
  /-- R427: A gable clears bits in a CSR. -/
  | cbclr (g : Fin 2) (x : GabIn)
  /-- R427: A gable raises BRK. -/
  | brk (g : Fin 2) (x : GabIn)
  /-- R427: A gable waits for its earlier window writes to take effect. -/
  | fence (g : Fin 2) (x : GabIn)
  /-- R427: Every earlier window write of the gable has taken effect and FENCE completes. -/
  | fenceComplete (g : Fin 2) (wait : Nat)
  /-- R439: An ordinary interrupt is taken at an instruction boundary. -/
  | irq (g : Fin 2) (tab : List StErr)
  /-- R440: A fast interrupt is taken into the shadow bank. -/
  | firq (g : Fin 2) (tab : List StErr)
  /-- R445: The gable watchdog expires a first time and WDOG becomes pending. -/
  | wdogTrap (g : Fin 2) (tab : List StErr)
  /-- R445: The gable watchdog expires a second time and resets the tray or gable 1. -/
  | wdogReset (g : Fin 2)
  /-- R446: A write of GAB_CTL.STOP requests a gable stop. -/
  | stop (src : Src) (g : Fin 2)
  /-- R446: A stop takes effect at the next instruction boundary. -/
  | stopped (g : Fin 2)
  /-- R446: A stopped or halted gable resumes at GAB_PC. -/
  | start (src : Src) (g : Fin 2)
  /-- R446: A stopped gable returns to its reset state at GAB_ENTRY. -/
  | gableReset (src : Src) (g : Fin 2)
  /-- R449: A write of GAB_MARCH requests a march of a gable store, or is refused. -/
  | gableMarch (src : Src) (g : Fin 2) (v : Word32)
  /-- R449: A gable store march ends and its result stands in GAB_MARCH_STAT. -/
  | gableMarchDone (g : Fin 2) (pass : Bool)
  /-- R455: A write of GAB_PMm sets a gable patch match entry, or is refused. -/
  | gablePatchWrite (src : Src) (g : Fin 2) (m : Fin 32) (v : Word32)
  /-- R453: A gable micro-operation does nothing. -/
  | uopNop (g : Fin 2) (d : BitVec 96)
  /-- R453: A gable micro-operation fetches IR from PC with the execute check. -/
  | uopFetch (g : Fin 2) (d : BitVec 96) (x : GabIn)
  /-- R453: A gable micro-operation loads from memory. -/
  | load (g : Fin 2) (d : BitVec 96) (x : GabIn)
  /-- R453: A gable micro-operation stores to memory. -/
  | store (g : Fin 2) (d : BitVec 96)
  /-- R453: A gable micro-operation reads a CSR. -/
  | csrrd (g : Fin 2) (d : BitVec 96)
  /-- R453: A gable micro-operation writes a CSR. -/
  | csrwr (g : Fin 2) (d : BitVec 96)
  /-- R453: A gable micro-operation performs trap entry with VEC. -/
  | uopTrap (g : Fin 2) (d : BitVec 96) (x : GabIn)
  /-- R453: A gable micro-operation performs the trap return. -/
  | xret (g : Fin 2) (d : BitVec 96)
  /-- R453: A gable micro-operation performs fast-interrupt entry. -/
  | fent (g : Fin 2) (d : BitVec 96) (x : GabIn)
  /-- R453: A gable micro-operation performs fast-interrupt return. -/
  | fret (g : Fin 2) (d : BitVec 96)
  /-- R453: A gable micro-operation pushes onto the shadow stack. -/
  | sspush (g : Fin 2) (d : BitVec 96)
  /-- R453: A gable micro-operation checks the shadow stack. -/
  | sschk (g : Fin 2) (d : BitVec 96) (x : GabIn)
  /-- R453: A gable micro-operation kicks the watchdog. -/
  | wkick (g : Fin 2) (d : BitVec 96)
  /-- R453: A gable micro-operation waits for an interrupt. -/
  | uopWfi (g : Fin 2) (d : BitVec 96)
  /-- R453: A gable micro-operation fences window writes. -/
  | uopFence (g : Fin 2) (d : BitVec 96)
  /-- R466: A gable read claims the winning eligible ordinary-line source and makes it ACTIVE. -/
  | irqClaim (src : Src)
  /-- R466: A gable read claims the winning eligible fast-line source. -/
  | irqFclaim (src : Src)
  /-- R467: A gable ends service of a source, or the write is refused. -/
  | irqComplete (src : Src) (n : Fin 256)
  /-- R467: The host ends service of a host-target source. -/
  | irqHcomplete (src : Src) (n : Fin 256)
  /-- R470: A gable makes an event of its own software source. -/
  | irqSet (src : Src) (n : Fin 16)
  /-- R470: A writer makes an event of a software source of a named gable. -/
  | irqXset (src : Src) (g : Fin 2) (n : Fin 16)
  /-- R473: A write of IRQ_SRCn changes a source's priority, enable or target as its state allows. -/
  | irqSrcWrite (src : Src) (n : Fin 256) (v : Word32)
  /-- R471: A pending enabled host-target source sends its MSI-X message and becomes ACTIVE. -/
  | msixSend
  /-- R485: At each superframe boundary, the transmitter sends a CTRL frame on every lane and applies lane-map changes. -/
  | superframe
  /-- R486: A receiver takes a CTRL frame: relay entries, credits, lane map, verdicts and ring checks. -/
  | ctrlFrame (p : Fin 9) (ce : Fin 17) (f : CtrlFrame)
  /-- R488: The own relay entry does not return within 64 superframes of link-up, and RING_ERR is raised. -/
  | ringTimeout
  /-- R499: A receiver takes a DATA frame, checking the consignment header or the last frame and writing the payload. -/
  | dataFrame (p : Fin 9) (ce : Fin 17) (v : Fin 2) (first : Bool) (last : Bool) (seq : Fin 65536) (bs : List Byte)
  /-- R500: A receiver takes the sender's end-of-course frame and its overrun flag. -/
  | eocFrame (p : Fin 9) (ce : Fin 17) (course : Word64) (ovr : Bool)
  /-- R500: In each tick guard, the tray sends its EOC frame on every logical lane. -/
  | eocSend
  /-- R502: A receiver delivers a message to its gable FIFO, or forwards or drops it. -/
  | msgFrame (p : Fin 9) (ce : Fin 17) (g : Fin 2) (seq : Fin 65536) (dest : Byte) (src : Byte) (hops : Byte) (data : BitVec 256)
  /-- R638: A receiver takes an IDLE frame and checks that it descrambles to zeros. -/
  | idleFrame (p : Fin 9) (ce : Fin 17) (zeros : Bool)
  /-- R638: 16 IDLE frames in a row fail to descramble, J3_MAP sets and the link goes down. -/
  | j3Map
  /-- R493: The transmit engine takes its next descriptor, checks it and sends the consignment frames. -/
  | consignmentSend
  /-- R497: A write of BTX_PSTq_OBJ opens or closes a posting, or is refused with POST_BAD. -/
  | postingWrite (src : Src) (q : Fin 64) (valid : Bool) (h : Fin (2 ^ 24))
  /-- R502: A write of BTX_MSGg_TXCTL.GO queues a message for a free slot. -/
  | msgSend (src : Src) (g : Fin 2) (dest : Fin 16)
  /-- R491: A waiting message leaves in a slot that no consignment fills. -/
  | msgTransmit (g : Fin 2)
  /-- R519: A write of BTX_MSGg_RXPOP frees the head message and its credit. -/
  | rxpop (src : Src) (g : Fin 2)
  /-- R507: In the tick guard's calibration slot, the transmitter and receiver run calibration step k on the out-of-service lane. -/
  | calibrationStep (c : CalStep)
  /-- R508: At the first superframe boundary after the step-8 tick, the lane starts carrying copies of the next lane. -/
  | shadowStart
  /-- R509: After 4096 SHADOW frames, the receiver writes ACCEPT or REJECT in its relay entry. -/
  | verdict (same : Bool) (ce : Fin 65536) (skew : BitVec 16)
  /-- R510: At the superframe boundary after ACCEPT is read, the logical lane moves and the next lane enters CAL. -/
  | rejoin
  /-- R511: No verdict arrives within 256 superframes of SHADOW and the attempt ends. -/
  | calTimeout
  /-- R514: A lane runs out of attempts or fails with no spare and is retired, a second retirement failing the tray. -/
  | retired (side : Fin 2)
  /-- R512: A receiver finds a lane DOWN from lost frames, or clears LINK_UP if three lanes go down. -/
  | laneDown
  /-- R513: At the superframe boundary after DOWN is read, the failed lane's logical lane moves onto the out-of-service lane. -/
  | failover
  /-- R515: 5 ms after the Batrix enable, lanes that failed to lock are calibrated back to back or retired. -/
  | bringupLock (side : Fin 2) (lock : BitVec 9) (runs : List (Fin 9 × CalStep))
  /-- R535: A write of 0x0000_F1A5 to FLS_ARM arms the next FLS command. -/
  | flsArm (src : Src) (v : Word32)
  /-- R537: Burns the bits of DATA into a word with pulses and margin verify. -/
  | burn (src : Src) (word : Fin 1024)
  /-- R536: Reads a fuse word at margin. -/
  | mread (src : Src) (word : Fin 1024)
  /-- R536: Reads a fuse word at normal read. -/
  | nread (src : Src) (word : Fin 1024)
  /-- R538: Raises a rollback counter by one in all three copies. -/
  | advRb (src : Src) (n : Fin 16)
  /-- R538: Raises the debug lock level in all three copies. -/
  | raiseDbg (src : Src) (level : Fin 16)
  /-- R542: A write of FLS_LOCK closes regions or all burning until the next cold reset. -/
  | flsLock (src : Src) (v : Word32)
  /-- R553: Reads up to 256 flash bytes into the buffer. -/
  | read (src : Src)
  /-- R553: Programs up to 256 bytes within one flash page. -/
  | prog (src : Src)
  /-- R553: Erases the 64 KiB flash sector that holds ADDR. -/
  | erase (src : Src)
  /-- R553: Reads the flash's 3-byte identifier. -/
  | readId (src : Src)
  /-- R576: A recovery command erases a flash sector of an image or bundle partition. -/
  | recoveryErase (fail : Bool)
  /-- R576: A recovery command stages 8 bytes and programs the page when its last bytes arrive. -/
  | recoveryWrite (fail : Bool)
  /-- R576: A recovery command returns the boot ROM to B1 without a reset. -/
  | restart
  /-- R583: SUB passes from 32 767 to 0 and SEC advances by one. -/
  | secondRollover
  /-- R585: A read of DMR_SNAP latches SEC, SUB and the calendar into the snapshot registers. -/
  | dmrSnap (src : Src) (edges : Fin 32768)
  /-- R586: A write of DMR_COMMIT.GO sets COMMIT_PEND for the staged time. -/
  | dmrCommit (src : Src) (go : Bool)
  /-- R586: At the next oscillator edge, SEC takes the staged value, SUB becomes 0 and TIME_VALID sets. -/
  | committed
  /-- R577: The dormer changes its supply between aux and cell, measuring the cell and logging as needed. -/
  | supply (cell : Bool) (mv : BitVec 16)
  /-- R578: The hourly cell measurement classifies the backup cell. -/
  | cell (mv : BitVec 16)
  /-- R580: The dormer supply falls below 1.80 V and the dormer stops. -/
  | dormerStop
  /-- R580: A supply returns, and a dormer reset sets every DMR field to its reset value. -/
  | lostPwr (cell : Bool)
  /-- R581: The crystal is open or shorted for 8 ms, and the dormer counts from its RC oscillator. -/
  | oscFault (short : Bool)
  /-- R582: After 2 s of good crystal, the dormer returns to it at a rollover. -/
  | oscBack
  /-- R594: A write of DMR_LOG_CLR clears the ring. -/
  | logClr (src : Src) (clr : Bool)
  /-- R599: The J1 input becomes valid, and the tray passes from OFF to DORMANT. -/
  | inputValid
  /-- R631: The input falls below 40 V and IN_UV is raised, or J1_UNDER is logged. -/
  | inUv
  /-- R631: The input rises above 60 V and IN_OV is raised, or J1_OVER is logged. -/
  | inOv
  /-- R632: A reversed input is blocked and logged by the dormer. -/
  | j1Reverse
  /-- R613: The input is lost or over 64 V, and the tray falls to OFF, overriding every transition. -/
  | inputLoss (ov : Bool)
  /-- R600: An ON request from an alarm, a TRAY_ON edge or PWR_REQ starts a rise or is latched. -/
  | onRequest (by' : OnBy)
  /-- R600: An OFF request starts a fall, waits for the step in progress or changes the target. -/
  | offRequest (by' : OffBy)
  /-- R614: An IDLE request puts the stacks in self-refresh, gates the engines and sets OP3. -/
  | idleRequest (src : Src)
  /-- R614: A RUN request takes the stacks out of self-refresh and ungates the engines. -/
  | runRequest (src : Src)
  /-- R601: A sequencer-driven power-up step completes and the next step begins. -/
  | riseStepDone
  /-- R606: A sequencer-driven power-down step completes and the next step begins. -/
  | fallStepDone
  /-- R605: A write of PWR_ADV completes the named firmware step, or is refused. -/
  | pwrAdv (src : Src) (v : Word32)
  /-- R605: A firmware step exceeds PWR_TMO and a forced fall starts. -/
  | stepTmo
  /-- R604: 6 ms after U9 began, U9 completes whether or not the link is up. -/
  | u9Timeout
  /-- R608: A required rail loses power good and a forced fall starts. -/
  | powerGoodLoss (r : Fin 6)
  /-- R609: Within 1 ms of EMERG, the sequencer stops the stacks and switches their rails off. -/
  | hbmOff
  /-- R617: A write of PWR_PMB_CMD.GO starts a direct PMBus transaction, or ends it with DENIED. -/
  | pmbTransaction (src : Src) (v : Word32)
  /-- R617: A direct PMBus transaction ends with its status. -/
  | pmbDone (st : Fin 5) (data : Word32)
  /-- R618: Every PWR_POLL.MS, the poller reads each regulator's status and temperature. -/
  | pmbusPoll (rs : List (Fin 7 × BitVec 16 × BitVec 16))
  /-- R627: A temperature sensor updates its reading. -/
  | sensorUpdate (k : Fin 66) (raw : BitVec 16)
  /-- R608: A batten sensor exceeds SNS_CFG.TRIP for two readings in a row and a forced fall starts. -/
  | trip (b : Fin 64)
  /-- R621: TRAY_RST#, EAV_WRST or the tray watchdog resets the tray and restarts the rise at U7. -/
  | warmReset (by' : WarmBy)
  /-- R621: The PCIe fundamental reset resets the eave, gutter engines, function pages and plan queues. -/
  | perst
  /-- R623: A function-level reset withdraws a function's plans, frees its objects and resets its pages. -/
  | flr (fn : Fin 9)
  /-- R640: A new input-pair state holds for 16 samples and takes effect. -/
  | j4In (st : Fin 4)
  /-- R643: The output monitor classifies the sync output as OK, OPEN or SHORT. -/
  | j4Out (st : Fin 3)
  /-- R644: The ribbon identity changes class, and the lamp supplies are removed if it is not OK. -/
  | j5 (idA : Fin 4096) (idB : Fin 4096)
  /-- R645: 10 ms after J5 returns to OK, the lamp supplies return and a lamp test runs. -/
  | supplyReturn
  /-- R637: The optical module or plug is seated or removed, gating VOPT and the lasers. -/
  | j3Plug (module : Bool) (plug : Bool)
  /-- R637: 1 ms after PLUG becomes 1, the lasers may switch on. -/
  | laserEnable
  /-- R648: The TAP runs EXTEST on the boundary scan. -/
  | extest (cap : List Bool) (data : List Bool)
  /-- R648: The TAP returns the 32-bit identity. -/
  | idcode
  /-- R648: The TAP runs SAMPLE/PRELOAD on the boundary scan. -/
  | samplePreload (cap : List Bool) (data : List Bool)
  /-- R648: The TAP runs CLAMP. -/
  | clamp (data : List Bool)
  /-- R648: The TAP runs HIGHZ. -/
  | highz (data : List Bool)
  /-- R648: The TAP selects the 1-bit bypass register. -/
  | bypass (data : List Bool)
  /-- R649: An Update-DR of DBG_REG starts one 4-byte BAR0 access from the debug port. -/
  | dbgReg (addr : Fin 0x1000000) (wr : Option Word32) (data : List Bool)
  /-- R650: Raises ATTN in a gable to enter the debug service, or ends the service. -/
  | dbgGattn (g : Fin 2) (cmd : Fin 4) (left : Nat) (data : List Bool)
  /-- R650: A gable in the debug service executes one instruction at level M. -/
  | dbgGinsn (g : Fin 2) (w : Word32) (x : GabIn) (data : List Bool)
  /-- R657: A lamp pattern engine advances one step every STEP ms. -/
  | patternStep (e : Fin 5)
  /-- R658: A write of FSC_PEe_CTL restarts the engine at step 0. -/
  | patternRestart (src : Src) (e : Fin 4) (v : Word32)
  /-- R659: A lamp sink leaves regulation, and a lamp test follows 100 µs later. -/
  | regulation (loc : Bool)
  /-- R659: A lamp test starts, periodically, on request, on supply return or after a regulation loss. -/
  | lampTest (why : Option Src)
  /-- R662: A lamp test ends, updating fault entries and latching bypasses or killing the locator. -/
  | testDone (stat : BitVec 16) (loc : BitVec 8) (nsS : Bool) (nsL : Bool)
  /-- R669: A BAR2 access reaches the committed contents of the object that its window maps, or is dropped. -/
  | bar2Access (addr : Fin (2 ^ 34)) (len : Nat) (wr : Option (List Byte))
  /-- R670: A write of EAV_WINw maps or unmaps a pinned object in a BAR2 window. -/
  | windowMap (src : Src) (w : Fin 8) (valid : Bool) (h : Fin (2 ^ 24))
  /-- R671: Binds a domain to a function. -/
  | bind (src : Src) (fn : Fin 16) (d : Fin 64)
  /-- R671: Unbinds a domain from a function. -/
  | unbind (src : Src) (fn : Fin 16) (d : Fin 64)
  /-- R676: A write of EAV_SUBs.GO checks a plan image and queues the plan or refuses it. -/
  | submit (src : Src) (slot : Fin 2) (fn : Fin 16)
  /-- R680: A report waiting in the backlog is written to the ring when HEAD frees room. -/
  | cqBacklogWrite (fn : Fin 9)
  /-- R681: A VF posts a mailbox request, and MB_REQ is raised. -/
  | vmbDoor (v : Fin 8) (code : Fin 256)
  /-- R681: Gable 1 posts the response, and the VF sees it with RSP raised. -/
  | mbDone (src : Src) (v : Fin 8) (status : Fin 65536)
  /-- R686: A write of a channel's TAIL starts the gutter on its descriptors. -/
  | gutterDoorbell (src : Src) (c : Fin 8) (tail : Fin 4096)
  /-- R687: A gutter descriptor moves bytes from host memory into an object. -/
  | hostToObject (c : Fin 8) (e : GutEnd)
  /-- R687: A gutter descriptor moves bytes from an object to host memory. -/
  | objectToHost (c : Fin 8) (e : GutEnd)
  /-- R687: A gutter descriptor moves words from host memory into a batten store. -/
  | hostToStore (c : Fin 8) (e : GutEnd)
  /-- R687: A gutter descriptor moves words from a batten store to host memory. -/
  | storeToHost (c : Fin 8) (e : GutEnd) (ups : List (Fin 262144 × StErr))
  /-- R574: A PCIe configuration request is completed with retry status until the eave is enabled. -/
  | configRequest (op : CfgOp)
  /-- R689: The PCIe link changes state, width or rate, and LINK_CHG is raised. -/
  | linkChg (up : Bool) (width : Fin 17) (gen : Fin 7) (flit : Bool)
  /-- R391: An array operation issued by a spar completes after its cycle count, freeing its queue entry, clearing ABUSY, releasing a spar stalled on a full queue and letting a waiting mode change start. -/
  | arrayOperationDone (b : Fin 64) (a : Fin 4) (busy : Nat)
  /-- R512: A lane takes lock and the west segment comes up, so LINK_UP and the lane's LOCK are raised after bring-up or after a link loss. -/
  | linkUp (p : Fin 9)
  /-- R484: A frame arrives whose code cannot be corrected, and it is discarded, counted in BTX_RXp_UE and breaks any consignment it belonged to. -/
  | uncorrectableFrame (p : Fin 9) (vc : Option (Fin 4))
  /-- R518: A lane's monitor photodiode reading leaves the range set by the calibration target, and MON_FAULT is raised on the TX lanes page. -/
  | monFault (p : Fin 9) (pwr : Fin 4096)
  /-- R632: A reversed, low or high J1 input returns to its normal range, IN_OK sets again and the dormer logs J1_CLEAR in OFF and DORMANT. -/
  | j1Clear
  /-- R648: The test access port leaves or returns to Test-Logic-Reset through TMS or TRST#, so FSC_CONN.J7_SESSION changes and its event is raised. -/
  | j7Session (out : Bool)
  /-- R627: A sensor reading that has not updated within its last four periods, or whose sensor loses power, becomes invalid, and SENSOR_BAD is raised on the SNS page. -/
  | snsReadingInvalid (k : Fin 73)
  /-- R553: A flash READ, PROG, ERASE or READ_ID command ends after up to 2 s, with SFC_STAT holding OK or DEV_FAIL and DONE raised. -/
  | flashCommandDone (fail : Bool)
  /-- R552: A BURN, ADV_RB or RAISE_DBG command ends after its pulses and verifies, taking up to 1.088 ms, with its status written and CMD_DONE raised. -/
  | flsCmdDone (res : List BitBurn)
deriving DecidableEq, Repr

end Sys2Proof
end

