-- ==== Sys2Proof/Config.lean ====
section
/-! DEFINITION. What an implementation of the tray fixes, and the free values: opaque constants, so that no proof can see what they are. -/

namespace Sys2Proof.Config

/-- PG_ID version nibbles (VER_MAJ, VER_MIN) by block type code: the spec leaves the numbers to each part (R73). [DESIGN CHOICE, assumption log 6] -/
opaque pgVersion : Nat → Nat

/-- PG_CAP.BLOCK of the pages whose chapter states none (R73). [DESIGN CHOICE, assumption log 6] -/
opaque pgBlockCap : Nat → Nat

/-- GLB_ID silicon revision, REV_MAJ and REV_MIN as bits [15:8] (R107). [DESIGN CHOICE, assumption log 6] -/
opaque revision : Nat

/-- The words of mask ROM: of spar i at i, of gable g at 72 + g (R381, R451). What they hold is the vendor's. [DESIGN CHOICE, assumption log 6, 13] -/
opaque romWord : Nat → Nat → BitVec 128

/-- A value the spec leaves open, indexed by a counter that the state advances at each use. [DESIGN CHOICE, assumption log 6] -/
opaque freeValue : Nat → Nat

/-- The value of an inverse modulo a number that is no prime: R225 and R242 leave primality to the sender and state no result. [DESIGN CHOICE, assumption log 6, 66] -/
opaque freeInverse : Nat → Nat → Nat

/-- The fixed entry of the routine that the spar of a yealm or stook runs, by spar number: mask ROM or vendor RAM (R409 states no address). [DESIGN CHOICE, assumption log 6, 29] -/
opaque engineEntry : Nat → Nat

/-- The fixed stage that an engine micro-operation drives (R394), by OP code. [DESIGN CHOICE, assumption log 65] -/
opaque engineStage : Nat → Nat

/-- What the patterns of the lane check are, by pseudo-channel, data slot of the reserve and byte (R353). [DESIGN CHOICE, assumption log 6] -/
opaque reservePattern : Nat → Nat → Nat → BitVec 8

/-- Which of the check slots that a full cache holds gives way, by pseudo-channel of the tray and the groups cached, most recent first (R357). [DESIGN CHOICE, assumption log 6, 116] -/
opaque checkVictim : Nat → List Nat → Nat

/-- The valid payload of a PATTERN frame, by its FRAME index (R507 states none), and the logical lane under which an idle lane's frames are scrambled (R483 states none). [DESIGN CHOICE, assumption log 6, 117] -/
opaque patternPayload : Nat → List (BitVec 8)
opaque idleSeed : Nat

/-- The words of gable 0's boot ROM (R420, R560), and the first of the eight that hold the patch key (R564). [DESIGN CHOICE, assumption log 6] -/
opaque bootRomWord : Nat → BitVec 32
opaque patchKeyAt : Nat

/-- The flash's 3-byte identifier, as READ_ID returns it (R553). [DESIGN CHOICE, assumption log 6] -/
opaque flashId : Nat

/-- The code that the boot ROM records for NO_VKEY (R560), which the spec does not number. [DESIGN CHOICE, assumption log 6; DEDUCED, assumption log 37] -/
opaque noVkeyCode : Nat

/-- Whether the data of a VOUT_TRIM write sets more than ±20 mV, by regulator and data (R617; R620 and R617 give no unit). [DESIGN CHOICE, assumption log 6; PRESUMED, assumption log 41] -/
opaque vtrimOver : Nat → Nat → Bool

end Sys2Proof.Config
end

