-- ==== Sys2Proof/Machine/Regs.lean ====
section
/-! DEFINITION. The register fields of the spec, one constant each: the offset within the page, the bits, and how a field repeats over registers (n1, s1), over views (n2, s2) and inside one register (nb, sb). Written from the register tables of chapters 02 to 23 (R63 to R69, R73 to R90, R107, R145, R168, R209, R237, R240, R294, R320, R345, R347, R377, R379, R417, R458, R476, R519 to R522, R551, R555, R596, R626, R629, R653, R666, R683, R690 to R693). -/

namespace Sys2Proof.Machine

/-- A register field and its repeats: instance `i` counts bit groups first, then registers, then views. -/
structure Fld where
  off : Nat
  hi : Nat
  lo : Nat
  n1 : Nat := 1
  s1 : Nat := 0
  nb : Nat := 1
  sb : Nat := 0
  n2 : Nat := 1
  s2 : Nat := 0
deriving DecidableEq, Repr

/-- Access types of R10. -/
inductive Acc where
  | ro | rw | rwl | w1c | w1s | wo | rc
deriving DecidableEq, Repr

/-- One row of a register table: the field, its access type, its Cold values by instance (the last one repeats), whether the Warm column gives a value (then it is the Cold value; otherwise the field is kept), the first instance that exists, and the stated range. -/
structure Row where
  f : Fld
  acc : Acc
  cold : List Nat := [0]
  warm : Bool := true
  first : Nat := 0
  rng : Option (Nat × Nat) := none
deriving DecidableEq, Repr

-- Common header, R73, R76, R81, R85, R89
def PG_ID_TYPE : Fld := { off := 0x000, hi := 31, lo := 16 }
def PG_ID_INST : Fld := { off := 0x000, hi := 15, lo := 8 }
def PG_ID_VER_MAJ : Fld := { off := 0x000, hi := 7, lo := 4 }
def PG_ID_VER_MIN : Fld := { off := 0x000, hi := 3, lo := 0 }
def PG_CAP_LOCKABLE : Fld := { off := 0x004, hi := 31, lo := 31 }
def PG_CAP_EVENTS : Fld := { off := 0x004, hi := 30, lo := 30 }
def PG_CAP_FREEZE : Fld := { off := 0x004, hi := 29, lo := 29 }
def PG_CAP_SRST : Fld := { off := 0x004, hi := 28, lo := 28 }
def PG_CAP_ENABLE : Fld := { off := 0x004, hi := 27, lo := 27 }
def PG_CAP_BLOCK : Fld := { off := 0x004, hi := 23, lo := 0 }
def PG_CTRL_FREEZE : Fld := { off := 0x008, hi := 2, lo := 2 }
def PG_CTRL_SRST : Fld := { off := 0x008, hi := 1, lo := 1 }
def PG_CTRL_EN : Fld := { off := 0x008, hi := 0, lo := 0 }
def PG_STAT_EN_PEND : Fld := { off := 0x00C, hi := 3, lo := 3 }
def PG_STAT_QUIESCING : Fld := { off := 0x00C, hi := 2, lo := 2 }
def PG_STAT_READY : Fld := { off := 0x00C, hi := 1, lo := 1 }
def PG_STAT_BUSY : Fld := { off := 0x00C, hi := 0, lo := 0 }
def PG_EVT_RAW : Fld := { off := 0x010, hi := 31, lo := 0 }
def PG_EVT_EN : Fld := { off := 0x014, hi := 31, lo := 0 }
def PG_EVT_PEND : Fld := { off := 0x018, hi := 31, lo := 0 }
def PG_EVT_SET : Fld := { off := 0x01C, hi := 31, lo := 0 }
def PG_ERR_VALID : Fld := { off := 0x020, hi := 31, lo := 31 }
def PG_ERR_OVF : Fld := { off := 0x020, hi := 30, lo := 30 }
def PG_ERR_CODE : Fld := { off := 0x020, hi := 15, lo := 0 }
def PG_ERR_ADDR_LO : Fld := { off := 0x024, hi := 31, lo := 0 }
def PG_ERR_SRC : Fld := { off := 0x028, hi := 31, lo := 28 }
def PG_ERR_ADDR_HI : Fld := { off := 0x028, hi := 15, lo := 0 }
def PG_LOCK_LOCK : Fld := { off := 0x02C, hi := 0, lo := 0 }

-- R63
def CRS_LEN_LEN : Fld := { off := 0x040, hi := 13, lo := 0 }

-- R64
def CRS_SRC_HOLD : Fld := { off := 0x044, hi := 15, lo := 8 }
def CRS_SRC_SYNC_OUT_EN : Fld := { off := 0x044, hi := 1, lo := 1 }
def CRS_SRC_MODE : Fld := { off := 0x044, hi := 0, lo := 0 }

-- R65
def CRS_SYNC_LEAD_LEAD : Fld := { off := 0x048, hi := 11, lo := 0 }
def CRS_SYNC_DLY_DLY : Fld := { off := 0x04C, hi := 11, lo := 0 }
def CRS_SYNC_MEAS_VALID : Fld := { off := 0x050, hi := 31, lo := 31 }
def CRS_SYNC_MEAS_PHASE : Fld := { off := 0x050, hi := 15, lo := 0 }

-- R68
def CRS_STAT_REALIGN : Fld := { off := 0x064, hi := 10, lo := 10 }
def CRS_STAT_NEXT_ARMED : Fld := { off := 0x064, hi := 9, lo := 9 }
def CRS_STAT_SEQ_HOLD : Fld := { off := 0x064, hi := 8, lo := 8 }
def CRS_STAT_HOLDOVER : Fld := { off := 0x064, hi := 7, lo := 7 }
def CRS_STAT_SYNC_OK : Fld := { off := 0x064, hi := 6, lo := 6 }
def CRS_STAT_OP : Fld := { off := 0x064, hi := 5, lo := 4 }
def CRS_STAT_PLAN_DONE : Fld := { off := 0x064, hi := 3, lo := 3 }
def CRS_STAT_WADDING : Fld := { off := 0x064, hi := 2, lo := 2 }
def CRS_STAT_PHASE : Fld := { off := 0x064, hi := 1, lo := 0 }

-- R69
def CRS_PLAN_ID : Fld := { off := 0x068, hi := 31, lo := 0 }
def CRS_BUDGET_T : Fld := { off := 0x06C, hi := 17, lo := 0 }
def CRS_FAULT_VALID : Fld := { off := 0x070, hi := 31, lo := 31 }
def CRS_FAULT_LIGGER : Fld := { off := 0x070, hi := 13, lo := 4 }
def CRS_FAULT_CAUSE : Fld := { off := 0x070, hi := 2, lo := 0 }
def CRS_FAULT_CRS_NUM : Fld := { off := 0x074, hi := 31, lo := 0 }
def CRS_FAULT_PLAN_ID : Fld := { off := 0x078, hi := 31, lo := 0 }
def CRS_OVR_CNT_COUNT : Fld := { off := 0x07C, hi := 15, lo := 0 }
def CRS_LATE_CNT_COUNT : Fld := { off := 0x080, hi := 15, lo := 0 }
def CRS_SLIP_CNT_COUNT : Fld := { off := 0x084, hi := 15, lo := 0 }
def CRS_OVR_LIMIT_LIMIT : Fld := { off := 0x088, hi := 3, lo := 0 }
def CRS_NEXT_CAN_CANCEL : Fld := { off := 0x08C, hi := 0, lo := 0 }

-- R145
def PUR_OT_CFG_LOG2 : Fld := { off := 0x040, hi := 4, lo := 0 }
def PUR_OT_PAGE_PAGES : Fld := { off := 0x044, hi := 16, lo := 0 }
def PUR_HB_BASE_LO_BASE : Fld := { off := 0x048, hi := 31, lo := 21 }
def PUR_HB_BASE_HI_BASE : Fld := { off := 0x04C, hi := 31, lo := 0 }
def PUR_HB_SLOTS_SLOTS : Fld := { off := 0x050, hi := 23, lo := 0 }
def PUR_HB_FREE_SLOTS : Fld := { off := 0x054, hi := 23, lo := 0 }
def PUR_FREE_LOW_PAGES : Fld := { off := 0x058, hi := 14, lo := 0 }
def PUR_PIN_MAX_PAGES : Fld := { off := 0x05C, hi := 16, lo := 0 }
def PUR_PINNED_PAGES : Fld := { off := 0x060, hi := 16, lo := 0 }
def PUR_OBJ_COUNT_COUNT : Fld := { off := 0x064, hi := 24, lo := 0 }
def PUR_RETIRED_PAGES : Fld := { off := 0x068, hi := 16, lo := 0 }
def PUR_POISON_CNT_COUNT : Fld := { off := 0x06C, hi := 15, lo := 0 }
def PUR_EVICT_CNT_COUNT : Fld := { off := 0x070, hi := 15, lo := 0 }
def PUR_FETCH_CNT_COUNT : Fld := { off := 0x074, hi := 15, lo := 0 }
def PUR_POISON_LAST_HANDLE : Fld := { off := 0x078, hi := 23, lo := 0 }
def PUR_FREE_PAGES : Fld := { off := 0x080, hi := 14, lo := 0, n1 := 4, s1 := 4 }
def PUR_FENCE_LO_BATTEN : Fld := { off := 0x090, hi := 31, lo := 0 }
def PUR_FENCE_HI_BATTEN : Fld := { off := 0x094, hi := 31, lo := 0 }
def PUR_CMD_ARG0_ARG : Fld := { off := 0x0C0, hi := 31, lo := 0, n1 := 2, s1 := 32 }
def PUR_CMD_ARG1_ARG : Fld := { off := 0x0C4, hi := 31, lo := 0, n1 := 2, s1 := 32 }
def PUR_CMD_ARG2_ARG : Fld := { off := 0x0C8, hi := 31, lo := 0, n1 := 2, s1 := 32 }
def PUR_CMD_ARG3_ARG : Fld := { off := 0x0CC, hi := 31, lo := 0, n1 := 2, s1 := 32 }
def PUR_CMD_OP : Fld := { off := 0x0D0, hi := 7, lo := 0, n1 := 2, s1 := 32 }
def PUR_CMD_STAT_BUSY : Fld := { off := 0x0D4, hi := 31, lo := 31, n1 := 2, s1 := 32 }
def PUR_CMD_STAT_STATUS : Fld := { off := 0x0D4, hi := 15, lo := 0, n1 := 2, s1 := 32 }
def PUR_CMD_RES0_RES : Fld := { off := 0x0D8, hi := 31, lo := 0, n1 := 2, s1 := 32 }
def PUR_CMD_RES1_RES : Fld := { off := 0x0DC, hi := 31, lo := 0, n1 := 2, s1 := 32 }

-- R168
def PUE_CFG_STARVE : Fld := { off := 0x040, hi := 23, lo := 16 }
def PUE_CFG_THROT_OP : Fld := { off := 0x040, hi := 13, lo := 12 }
def PUE_CFG_OP_MAX : Fld := { off := 0x040, hi := 9, lo := 8 }
def PUE_CFG_WAD_OP : Fld := { off := 0x040, hi := 5, lo := 4 }
def PUE_CFG_MEAS : Fld := { off := 0x040, hi := 0, lo := 0 }
def PUE_FILL_MW : Fld := { off := 0x044, hi := 19, lo := 0 }
def PUE_DEPTH_MJ : Fld := { off := 0x048, hi := 23, lo := 0 }
def PUE_WAD_P_MW : Fld := { off := 0x04C, hi := 19, lo := 0 }
def PUE_BASE_P_MW : Fld := { off := 0x050, hi := 19, lo := 0, n1 := 4, s1 := 4 }
def PUE_SCALE_SCALE : Fld := { off := 0x060, hi := 10, lo := 0, n1 := 4, s1 := 4 }
def PUE_LEVEL_UJ : Fld := { off := 0x080, hi := 31, lo := 0 }
def PUE_LAST_SEL_CHARGE : Fld := { off := 0x100, hi := 31, lo := 16 }
def PUE_LAST_SEL_REASON : Fld := { off := 0x100, hi := 11, lo := 8 }
def PUE_LAST_SEL_OP : Fld := { off := 0x100, hi := 5, lo := 4 }
def PUE_LAST_SEL_WAD : Fld := { off := 0x100, hi := 0, lo := 0 }
def PUE_LAST_MEAS_UJ : Fld := { off := 0x104, hi := 31, lo := 0 }
def PUE_LAST_CHG_UJ : Fld := { off := 0x108, hi := 31, lo := 0 }
def PUE_PRI_ID_ID : Fld := { off := 0x110, hi := 31, lo := 0, n1 := 2, s1 := 16 }
def PUE_PRI_FUNC : Fld := { off := 0x114, hi := 11, lo := 8, n1 := 2, s1 := 16 }
def PUE_PRI_PRIO : Fld := { off := 0x114, hi := 3, lo := 0, n1 := 2, s1 := 16 }
def PUE_PRI_STAT_BUSY : Fld := { off := 0x118, hi := 31, lo := 31, n1 := 2, s1 := 16 }
def PUE_PRI_STAT_STATUS : Fld := { off := 0x118, hi := 15, lo := 0, n1 := 2, s1 := 16 }
def PUE_WAD_CNT_COUNT : Fld := { off := 0x130, hi := 15, lo := 0 }
def PUE_DOWN_CNT_COUNT : Fld := { off := 0x134, hi := 15, lo := 0 }
def PUE_RESV_CNT_COUNT : Fld := { off := 0x138, hi := 15, lo := 0 }
def PUE_RESV_ACTIVE : Fld := { off := 0x13C, hi := 31, lo := 31 }
def PUE_RESV_FUNC : Fld := { off := 0x13C, hi := 19, lo := 16 }
def PUE_RESV_COUNT : Fld := { off := 0x13C, hi := 7, lo := 0 }
def PUE_RESV_ID_ID : Fld := { off := 0x140, hi := 31, lo := 0 }
def PUE_ZLIM_K : Fld := { off := 0x180, hi := 31, lo := 16, n1 := 16, s1 := 4 }
def PUE_ZLIM_LIMIT : Fld := { off := 0x180, hi := 7, lo := 0, n1 := 16, s1 := 4 }
def PUE_ZTEMP_BAD : Fld := { off := 0x1C0, hi := 31, lo := 31, n1 := 16, s1 := 4 }
def PUE_ZTEMP_TEMP : Fld := { off := 0x1C0, hi := 15, lo := 0, n1 := 16, s1 := 4 }

-- R209
def BST_OWNER_BANK : Fld := { off := 0x040, hi := 7, lo := 0, n1 := 8, s1 := 4, nb := 4, sb := 8 }
def BST_OWNER_PEND_PEND : Fld := { off := 0x060, hi := 31, lo := 0 }
def BST_CFG_AUTO_MARCH : Fld := { off := 0x064, hi := 8, lo := 8 }
def BST_CFG_CE_FENCE : Fld := { off := 0x064, hi := 7, lo := 0 }
def BST_FENCE_LOST : Fld := { off := 0x068, hi := 9, lo := 9 }
def BST_FENCE_CAUSE : Fld := { off := 0x068, hi := 7, lo := 4 }
def BST_FENCE_REQ : Fld := { off := 0x068, hi := 2, lo := 2 }
def BST_FENCE_MARCHING : Fld := { off := 0x068, hi := 1, lo := 1 }
def BST_FENCE_FENCED : Fld := { off := 0x068, hi := 0, lo := 0 }
def BST_MARCH_GO : Fld := { off := 0x070, hi := 31, lo := 31 }
def BST_MARCH_MODE : Fld := { off := 0x070, hi := 1, lo := 0 }
def BST_MARCH_BANKS_BANKS : Fld := { off := 0x074, hi := 31, lo := 0 }
def BST_MARCH_STAT_RUN : Fld := { off := 0x078, hi := 31, lo := 31 }
def BST_MARCH_STAT_PASS : Fld := { off := 0x078, hi := 30, lo := 30 }
def BST_MARCH_STAT_DONE : Fld := { off := 0x078, hi := 29, lo := 29 }
def BST_MARCH_STAT_STATUS : Fld := { off := 0x078, hi := 15, lo := 0 }
def BST_MARCH_FAIL_BANKS : Fld := { off := 0x07C, hi := 31, lo := 0 }
def BST_CE_CNT_COUNT : Fld := { off := 0x080, hi := 15, lo := 0 }
def BST_CE_ADDR_ADDR : Fld := { off := 0x084, hi := 17, lo := 0 }
def BST_UE_CNT_COUNT : Fld := { off := 0x088, hi := 15, lo := 0 }
def BST_UE_ADDR_ADDR : Fld := { off := 0x08C, hi := 17, lo := 0 }
def BST_POISON_CNT_COUNT : Fld := { off := 0x090, hi := 15, lo := 0 }
def BST_REFUSE_VALID : Fld := { off := 0x094, hi := 31, lo := 31 }
def BST_REFUSE_MASTER : Fld := { off := 0x094, hi := 29, lo := 24 }
def BST_REFUSE_WHY : Fld := { off := 0x094, hi := 21, lo := 20 }
def BST_REFUSE_ADDR : Fld := { off := 0x094, hi := 17, lo := 0 }
def BST_BOUND_D : Fld := { off := 0x098, hi := 10, lo := 0 }
def BST_CW_BASE_BASE : Fld := { off := 0x0A0, hi := 17, lo := 5, n1 := 8, s1 := 4 }
def BST_CW_LEN_LEN : Fld := { off := 0x0C0, hi := 18, lo := 0, n1 := 8, s1 := 4 }
def BST_CW_STRIDE_STRIDE : Fld := { off := 0x0E0, hi := 17, lo := 0, n1 := 8, s1 := 4 }
def BST_CW_GROUP_USER : Fld := { off := 0x100, hi := 15, lo := 8, n1 := 8, s1 := 4 }
def BST_CW_GROUP_F : Fld := { off := 0x100, hi := 7, lo := 3, n1 := 8, s1 := 4 }
def BST_CW_GROUP_W : Fld := { off := 0x100, hi := 2, lo := 0, n1 := 8, s1 := 4 }
def BST_CW_PTR_P : Fld := { off := 0x120, hi := 17, lo := 0, n1 := 8, s1 := 4 }
def BST_REPAIR_SOFT1 : Fld := { off := 0x200, hi := 24, lo := 24, n1 := 32, s1 := 4 }
def BST_REPAIR_VALID1 : Fld := { off := 0x200, hi := 23, lo := 23, n1 := 32, s1 := 4 }
def BST_REPAIR_ROW1 : Fld := { off := 0x200, hi := 22, lo := 16, n1 := 32, s1 := 4 }
def BST_REPAIR_SOFT0 : Fld := { off := 0x200, hi := 8, lo := 8, n1 := 32, s1 := 4 }
def BST_REPAIR_VALID0 : Fld := { off := 0x200, hi := 7, lo := 7, n1 := 32, s1 := 4 }
def BST_REPAIR_ROW0 : Fld := { off := 0x200, hi := 6, lo := 0, n1 := 32, s1 := 4 }

-- R237
def BTN_LOC_ROW : Fld := { off := 0x040, hi := 5, lo := 3 }
def BTN_LOC_COL : Fld := { off := 0x040, hi := 2, lo := 0 }
def BTN_USE_PLAN : Fld := { off := 0x044, hi := 31, lo := 31 }
def BTN_USE_FENCED : Fld := { off := 0x044, hi := 30, lo := 30 }
def BTN_USE_GATED : Fld := { off := 0x044, hi := 3, lo := 0 }
def BTN_BUSY_CNT_COUNT : Fld := { off := 0x048, hi := 31, lo := 0 }

-- R240
def SLT_MODE_MODE : Fld := { off := 0x040, hi := 1, lo := 0, nb := 4, sb := 8 }
def SLT_SAT_SAT : Fld := { off := 0x044, hi := 3, lo := 0 }
def SLT_SAT_CNT_COUNT : Fld := { off := 0x048, hi := 15, lo := 0 }
def SLT_PAR_CNT_COUNT : Fld := { off := 0x04C, hi := 15, lo := 0 }
def SLT_FAULT_VALID : Fld := { off := 0x050, hi := 31, lo := 31 }
def SLT_FAULT_ARRAY : Fld := { off := 0x050, hi := 17, lo := 16 }
def SLT_FAULT_KIND : Fld := { off := 0x050, hi := 11, lo := 8 }
def SLT_FAULT_ENTRY : Fld := { off := 0x050, hi := 6, lo := 0 }
def SLT_COLMOD_ENTRY : Fld := { off := 0x060, hi := 6, lo := 0, n1 := 8, s1 := 4, nb := 4, sb := 8 }
def SLT_Q_LO_Q : Fld := { off := 0x400, hi := 31, lo := 0, n1 := 96, s1 := 32 }
def SLT_Q_HI_Q : Fld := { off := 0x404, hi := 3, lo := 0, n1 := 96, s1 := 32 }
def SLT_PSI_LO_PSI : Fld := { off := 0x408, hi := 31, lo := 0, n1 := 96, s1 := 32 }
def SLT_PSI_HI_PSI : Fld := { off := 0x40C, hi := 3, lo := 0, n1 := 96, s1 := 32 }
def SLT_MCTL_STATE : Fld := { off := 0x410, hi := 31, lo := 30, n1 := 96, s1 := 32 }
def SLT_MCTL_WHY : Fld := { off := 0x410, hi := 27, lo := 24, n1 := 96, s1 := 32 }
def SLT_MCTL_LOGN : Fld := { off := 0x410, hi := 4, lo := 0, n1 := 96, s1 := 32 }

-- R294
def YLM_STAT_DESC : Fld := { off := 0x040, hi := 31, lo := 16 }
def YLM_STAT_STAGE : Fld := { off := 0x040, hi := 11, lo := 8 }
def YLM_STAT_ACTIVE : Fld := { off := 0x040, hi := 4, lo := 4 }
def YLM_STAT_PAIRED : Fld := { off := 0x040, hi := 3, lo := 3 }
def YLM_STAT_ROW : Fld := { off := 0x040, hi := 2, lo := 0 }
def YLM_SW_CNT_COUNT : Fld := { off := 0x044, hi := 15, lo := 0 }
def YLM_BYTES_LO_BYTES : Fld := { off := 0x048, hi := 31, lo := 0 }
def YLM_BYTES_HI_BYTES : Fld := { off := 0x04C, hi := 31, lo := 0 }
def YLM_REFUSE_VALID : Fld := { off := 0x050, hi := 31, lo := 31 }
def YLM_REFUSE_DESC : Fld := { off := 0x050, hi := 23, lo := 8 }
def YLM_REFUSE_CODE : Fld := { off := 0x050, hi := 7, lo := 0 }
def YLM_REFUSE_H_HANDLE : Fld := { off := 0x054, hi := 23, lo := 0 }
def YLM_REFUSE_CNT_COUNT : Fld := { off := 0x058, hi := 15, lo := 0 }
def YLM_KAT_GO : Fld := { off := 0x05C, hi := 0, lo := 0 }
def YLM_KAT_STAT_RUN : Fld := { off := 0x060, hi := 31, lo := 31 }
def YLM_KAT_STAT_PASS : Fld := { off := 0x060, hi := 30, lo := 30 }
def YLM_KAT_STAT_DONE : Fld := { off := 0x060, hi := 29, lo := 29 }
def YLM_KAT_FAIL_ENGINE : Fld := { off := 0x064, hi := 31, lo := 0 }
def YLM_CFG_KAT_ON_EN : Fld := { off := 0x068, hi := 0, lo := 0 }
def YLM_RAIL_CNT_COUNT : Fld := { off := 0x06C, hi := 15, lo := 0 }

-- R320
def STK_STAT_DESC : Fld := { off := 0x040, hi := 31, lo := 16 }
def STK_STAT_OP : Fld := { off := 0x040, hi := 10, lo := 8 }
def STK_STAT_ACTIVE : Fld := { off := 0x040, hi := 4, lo := 4 }
def STK_STAT_STAGE : Fld := { off := 0x040, hi := 2, lo := 0 }
def STK_DESC_CNT_COUNT : Fld := { off := 0x044, hi := 15, lo := 0 }
def STK_LAST_VALID_NV : Fld := { off := 0x048, hi := 18, lo := 0 }
def STK_LAST_PIL_PILLARS : Fld := { off := 0x04C, hi := 18, lo := 0 }
def STK_VOID_CNT_COUNT : Fld := { off := 0x050, hi := 15, lo := 0 }
def STK_OUT_CNT_COUNT : Fld := { off := 0x054, hi := 15, lo := 0 }
def STK_CAPDROP_CNT_COUNT : Fld := { off := 0x058, hi := 15, lo := 0 }
def STK_PILDROP_CNT_COUNT : Fld := { off := 0x05C, hi := 15, lo := 0 }
def STK_REFUSE_VALID : Fld := { off := 0x060, hi := 31, lo := 31 }
def STK_REFUSE_DESC : Fld := { off := 0x060, hi := 23, lo := 8 }
def STK_REFUSE_CODE : Fld := { off := 0x060, hi := 7, lo := 0 }
def STK_REFUSE_H_HANDLE : Fld := { off := 0x064, hi := 23, lo := 0 }
def STK_REFUSE_CNT_COUNT : Fld := { off := 0x068, hi := 15, lo := 0 }
def STK_MEM_CE_CNT_COUNT : Fld := { off := 0x06C, hi := 15, lo := 0 }
def STK_MEM_UE_ADDR_ADDR : Fld := { off := 0x070, hi := 20, lo := 0 }

-- R345
def RDG_PRI_PRIO : Fld := { off := 0x040, hi := 3, lo := 0, n1 := 8, s1 := 4 }
def RDG_CFG_SPLIT_TO : Fld := { off := 0x060, hi := 4, lo := 0 }
def RDG_SPLIT_CNT_COUNT : Fld := { off := 0x064, hi := 15, lo := 0 }
def RDG_REPLAY_CNT_COUNT : Fld := { off := 0x068, hi := 15, lo := 0 }
def RDG_REPLAY_LAST_VALID : Fld := { off := 0x06C, hi := 31, lo := 31 }
def RDG_REPLAY_LAST_STACK : Fld := { off := 0x06C, hi := 17, lo := 16 }
def RDG_REPLAY_LAST_CHAN : Fld := { off := 0x06C, hi := 12, lo := 8 }
def RDG_REPLAY_LAST_ENGINE : Fld := { off := 0x06C, hi := 7, lo := 0 }
def RDG_LINKERR_VALID : Fld := { off := 0x070, hi := 31, lo := 31 }
def RDG_LINKERR_ENTRY : Fld := { off := 0x070, hi := 23, lo := 16 }
def RDG_LINKERR_CODE : Fld := { off := 0x070, hi := 3, lo := 0 }
def RDG_PROTO_VALID : Fld := { off := 0x074, hi := 31, lo := 31 }
def RDG_PROTO_PAIR : Fld := { off := 0x074, hi := 17, lo := 8 }
def RDG_PROTO_KIND : Fld := { off := 0x074, hi := 3, lo := 0 }

-- R347
def LIG_ACTIVE_LO_ACTIVE : Fld := { off := 0x040, hi := 31, lo := 0 }
def LIG_ACTIVE_HI_ACTIVE : Fld := { off := 0x044, hi := 31, lo := 0 }
def LIG_LATE_LO_LATE : Fld := { off := 0x048, hi := 31, lo := 0 }
def LIG_LATE_HI_LATE : Fld := { off := 0x04C, hi := 31, lo := 0 }
def LIG_STAT_ACTIVE : Fld := { off := 0x100, hi := 31, lo := 31, n1 := 64, s1 := 4 }
def LIG_STAT_SW : Fld := { off := 0x100, hi := 30, lo := 30, n1 := 64, s1 := 4 }
def LIG_STAT_NB : Fld := { off := 0x100, hi := 19, lo := 16, n1 := 64, s1 := 4 }
def LIG_STAT_FREE : Fld := { off := 0x100, hi := 15, lo := 8, n1 := 64, s1 := 4 }
def LIG_STAT_FULL : Fld := { off := 0x100, hi := 7, lo := 0, n1 := 64, s1 := 4 }
def LIG_ENDS_CONS : Fld := { off := 0x200, hi := 15, lo := 8, n1 := 64, s1 := 4 }
def LIG_ENDS_PROD : Fld := { off := 0x200, hi := 7, lo := 0, n1 := 64, s1 := 4 }

-- R377
def HBM_STAT_LOST : Fld := { off := 0x040, hi := 31, lo := 31 }
def HBM_STAT_SREF : Fld := { off := 0x040, hi := 8, lo := 8 }
def HBM_STAT_TRAINED : Fld := { off := 0x040, hi := 4, lo := 4 }
def HBM_STAT_CLASS : Fld := { off := 0x040, hi := 1, lo := 0 }
def HBM_TEMP_VALID : Fld := { off := 0x044, hi := 31, lo := 31 }
def HBM_TEMP_TEMP : Fld := { off := 0x044, hi := 15, lo := 0 }
def HBM_REF_CFG_HOLD : Fld := { off := 0x048, hi := 15, lo := 8 }
def HBM_REF_CFG_HYST : Fld := { off := 0x048, hi := 3, lo := 0 }
def HBM_CE_CNT_COUNT : Fld := { off := 0x04C, hi := 15, lo := 0 }
def HBM_UE_CNT_COUNT : Fld := { off := 0x050, hi := 15, lo := 0 }
def HBM_CE_ADDR_SYMS : Fld := { off := 0x054, hi := 31, lo := 30 }
def HBM_CE_ADDR_B : Fld := { off := 0x054, hi := 29, lo := 0 }
def HBM_UE_ADDR_B : Fld := { off := 0x058, hi := 29, lo := 0 }
def HBM_PAR_CNT_COUNT : Fld := { off := 0x05C, hi := 15, lo := 0 }
def HBM_RETRY_LAST_VALID : Fld := { off := 0x060, hi := 31, lo := 31 }
def HBM_RETRY_LAST_KIND : Fld := { off := 0x060, hi := 9, lo := 8 }
def HBM_RETRY_LAST_PC : Fld := { off := 0x060, hi := 5, lo := 5 }
def HBM_RETRY_LAST_CHAN : Fld := { off := 0x060, hi := 4, lo := 0 }
def HBM_REPAIR_CNT_COUNT : Fld := { off := 0x064, hi := 15, lo := 0 }
def HBM_SCRUB_CFG_EN : Fld := { off := 0x068, hi := 31, lo := 31 }
def HBM_SCRUB_CFG_BLOCKS : Fld := { off := 0x068, hi := 12, lo := 0 }
def HBM_SCRUB_POS_BLOCK : Fld := { off := 0x06C, hi := 19, lo := 0 }
def HBM_LOST_WHY_WHY : Fld := { off := 0x070, hi := 3, lo := 0 }

-- R379
def PHY_CFG_RATE : Fld := { off := 0x040, hi := 0, lo := 0 }
def PHY_TRAIN_ABORT : Fld := { off := 0x044, hi := 1, lo := 1 }
def PHY_TRAIN_GO : Fld := { off := 0x044, hi := 0, lo := 0 }
def PHY_TRAIN_STAT_RUN : Fld := { off := 0x048, hi := 31, lo := 31 }
def PHY_TRAIN_STAT_PASS : Fld := { off := 0x048, hi := 30, lo := 30 }
def PHY_TRAIN_STAT_DONE : Fld := { off := 0x048, hi := 29, lo := 29 }
def PHY_TRAIN_STAT_ABORTED : Fld := { off := 0x048, hi := 28, lo := 28 }
def PHY_TRAIN_STAT_PHASE : Fld := { off := 0x048, hi := 3, lo := 0 }
def PHY_TRAIN_FAIL_CHAN : Fld := { off := 0x04C, hi := 31, lo := 0 }
def PHY_SPARE_CA_LANE : Fld := { off := 0x080, hi := 29, lo := 24, n1 := 32, s1 := 4 }
def PHY_SPARE_DQ1_LANE : Fld := { off := 0x080, hi := 20, lo := 16, n1 := 32, s1 := 4 }
def PHY_SPARE_DQ0_LANE : Fld := { off := 0x080, hi := 12, lo := 8, n1 := 32, s1 := 4 }
def PHY_SPARE_CA : Fld := { off := 0x080, hi := 2, lo := 2, n1 := 32, s1 := 4 }
def PHY_SPARE_DQ1 : Fld := { off := 0x080, hi := 1, lo := 1, n1 := 32, s1 := 4 }
def PHY_SPARE_DQ0 : Fld := { off := 0x080, hi := 0, lo := 0, n1 := 32, s1 := 4 }

-- R417
def SPR_STAT_HALTED : Fld := { off := 0x040, hi := 31, lo := 31 }
def SPR_STAT_PARKED : Fld := { off := 0x040, hi := 30, lo := 30 }
def SPR_STAT_SEALED : Fld := { off := 0x040, hi := 29, lo := 29 }
def SPR_STAT_IN_TRAP : Fld := { off := 0x040, hi := 28, lo := 28 }
def SPR_STAT_WAITING : Fld := { off := 0x040, hi := 27, lo := 27 }
def SPR_STAT_ENDED : Fld := { off := 0x040, hi := 26, lo := 26 }
def SPR_STAT_RUNNING : Fld := { off := 0x040, hi := 25, lo := 25 }
def SPR_STAT_FRAME : Fld := { off := 0x040, hi := 18, lo := 16 }
def SPR_STAT_UPC : Fld := { off := 0x040, hi := 12, lo := 0 }
def SPR_HALT_VALID : Fld := { off := 0x044, hi := 31, lo := 31 }
def SPR_HALT_UPC : Fld := { off := 0x044, hi := 28, lo := 16 }
def SPR_HALT_WHY : Fld := { off := 0x044, hi := 3, lo := 0 }
def SPR_TRAP_VALID : Fld := { off := 0x048, hi := 31, lo := 31 }
def SPR_TRAP_UPC : Fld := { off := 0x048, hi := 28, lo := 16 }
def SPR_TRAP_CAUSE : Fld := { off := 0x048, hi := 3, lo := 0 }
def SPR_TRAP_CNT_COUNT : Fld := { off := 0x04C, hi := 15, lo := 0 }
def SPR_PARK_PARKED : Fld := { off := 0x050, hi := 1, lo := 1 }
def SPR_PARK_PARK : Fld := { off := 0x050, hi := 0, lo := 0 }
def SPR_RUN_GO : Fld := { off := 0x054, hi := 31, lo := 31 }
def SPR_RUN_ENTRY : Fld := { off := 0x054, hi := 12, lo := 0 }
def SPR_ATTN_GO : Fld := { off := 0x058, hi := 0, lo := 0 }
def SPR_STINT_INDEX : Fld := { off := 0x05C, hi := 25, lo := 16 }
def SPR_STINT_NST : Fld := { off := 0x05C, hi := 9, lo := 0 }
def SPR_CS_ADDR_INC : Fld := { off := 0x060, hi := 31, lo := 31 }
def SPR_CS_ADDR_ADDR : Fld := { off := 0x060, hi := 12, lo := 0 }
def SPR_CS_D_DATA : Fld := { off := 0x064, hi := 31, lo := 0, n1 := 4, s1 := 4 }
def SPR_CS_TEST_GO : Fld := { off := 0x074, hi := 31, lo := 31 }
def SPR_CS_TEST_REGION : Fld := { off := 0x074, hi := 1, lo := 0 }
def SPR_CS_TSTAT_RUN : Fld := { off := 0x078, hi := 31, lo := 31 }
def SPR_CS_TSTAT_PASS : Fld := { off := 0x078, hi := 30, lo := 30 }
def SPR_CS_TSTAT_DONE : Fld := { off := 0x078, hi := 29, lo := 29 }
def SPR_CS_TSTAT_STATUS : Fld := { off := 0x078, hi := 15, lo := 0 }
def SPR_PM_VALID : Fld := { off := 0x080, hi := 31, lo := 31, n1 := 16, s1 := 4 }
def SPR_PM_TARGET : Fld := { off := 0x080, hi := 28, lo := 16, n1 := 16, s1 := 4 }
def SPR_PM_MATCH : Fld := { off := 0x080, hi := 12, lo := 0, n1 := 16, s1 := 4 }

-- R458
def GAB_STAT_HALTED : Fld := { off := 0x040, hi := 31, lo := 31 }
def GAB_STAT_STOPPED : Fld := { off := 0x040, hi := 30, lo := 30 }
def GAB_STAT_WFI : Fld := { off := 0x040, hi := 29, lo := 29 }
def GAB_STAT_DBL : Fld := { off := 0x040, hi := 28, lo := 28 }
def GAB_STAT_LVL : Fld := { off := 0x040, hi := 5, lo := 4 }
def GAB_STAT_BANK : Fld := { off := 0x040, hi := 3, lo := 3 }
def GAB_PC_PC : Fld := { off := 0x044, hi := 31, lo := 0 }
def GAB_CTL_RESET : Fld := { off := 0x048, hi := 2, lo := 2 }
def GAB_CTL_START : Fld := { off := 0x048, hi := 1, lo := 1 }
def GAB_CTL_STOP : Fld := { off := 0x048, hi := 0, lo := 0 }
def GAB_ENTRY_ADDR : Fld := { off := 0x04C, hi := 31, lo := 0 }
def GAB_HALT_VALID : Fld := { off := 0x050, hi := 31, lo := 31 }
def GAB_HALT_CAUSE : Fld := { off := 0x050, hi := 11, lo := 8 }
def GAB_HALT_WHY : Fld := { off := 0x050, hi := 3, lo := 0 }
def GAB_WDOG_STAGE : Fld := { off := 0x054, hi := 0, lo := 0 }
def GAB_WDOG_CNT_COUNT : Fld := { off := 0x058, hi := 15, lo := 0 }
def GAB_MARCH_GO : Fld := { off := 0x060, hi := 31, lo := 31 }
def GAB_MARCH_MODE : Fld := { off := 0x060, hi := 8, lo := 8 }
def GAB_MARCH_TARGET : Fld := { off := 0x060, hi := 3, lo := 0 }
def GAB_MARCH_STAT_RUN : Fld := { off := 0x064, hi := 31, lo := 31 }
def GAB_MARCH_STAT_PASS : Fld := { off := 0x064, hi := 30, lo := 30 }
def GAB_MARCH_STAT_DONE : Fld := { off := 0x064, hi := 29, lo := 29 }
def GAB_MARCH_STAT_STATUS : Fld := { off := 0x064, hi := 15, lo := 0 }
def GAB_CE_CNT_COUNT : Fld := { off := 0x068, hi := 15, lo := 0 }
def GAB_UE_VALID : Fld := { off := 0x06C, hi := 31, lo := 31 }
def GAB_UE_DATA : Fld := { off := 0x06C, hi := 30, lo := 30 }
def GAB_UE_OFFSET : Fld := { off := 0x06C, hi := 18, lo := 0 }
def GAB_PM_VALID : Fld := { off := 0x080, hi := 31, lo := 31, n1 := 32, s1 := 4 }
def GAB_PM_TARGET : Fld := { off := 0x080, hi := 29, lo := 16, n1 := 32, s1 := 4 }
def GAB_PM_MATCH : Fld := { off := 0x080, hi := 13, lo := 0, n1 := 32, s1 := 4 }
def GAB_SDBG_IDX_ITEM : Fld := { off := 0x100, hi := 20, lo := 16 }
def GAB_SDBG_IDX_SPAR : Fld := { off := 0x100, hi := 6, lo := 0 }
def GAB_SDBG_LO_DATA : Fld := { off := 0x104, hi := 31, lo := 0 }
def GAB_SDBG_HI_DATA : Fld := { off := 0x108, hi := 3, lo := 0 }

-- R476
def IRQ_CLAIM_NUM : Fld := { off := 0x040, hi := 7, lo := 0 }
def IRQ_FCLAIM_NUM : Fld := { off := 0x044, hi := 7, lo := 0 }
def IRQ_COMPLETE_NUM : Fld := { off := 0x048, hi := 7, lo := 0 }
def IRQ_LEVEL_LEVELS : Fld := { off := 0x04C, hi := 15, lo := 0 }
def IRQ_SET_NUM : Fld := { off := 0x050, hi := 3, lo := 0 }
def IRQ_XSET_GABLE : Fld := { off := 0x054, hi := 8, lo := 8 }
def IRQ_XSET_NUM : Fld := { off := 0x054, hi := 3, lo := 0 }
def IRQ_HCOMPLETE_NUM : Fld := { off := 0x058, hi := 7, lo := 0 }
def IRQ_PEND_PEND : Fld := { off := 0x060, hi := 31, lo := 0, n1 := 8, s1 := 4 }
def IRQ_ACTIVE_ACTIVE : Fld := { off := 0x080, hi := 31, lo := 0, n1 := 8, s1 := 4 }
def IRQ_SRC_STATE : Fld := { off := 0x400, hi := 25, lo := 24, n1 := 256, s1 := 4 }
def IRQ_SRC_VEC : Fld := { off := 0x400, hi := 21, lo := 16, n1 := 256, s1 := 4 }
def IRQ_SRC_EN : Fld := { off := 0x400, hi := 12, lo := 12, n1 := 256, s1 := 4 }
def IRQ_SRC_FUNC : Fld := { off := 0x400, hi := 11, lo := 8, n1 := 256, s1 := 4 }
def IRQ_SRC_CMODE : Fld := { off := 0x400, hi := 7, lo := 7, n1 := 256, s1 := 4 }
def IRQ_SRC_LINE : Fld := { off := 0x400, hi := 6, lo := 6, n1 := 256, s1 := 4 }
def IRQ_SRC_TARGET : Fld := { off := 0x400, hi := 5, lo := 4, n1 := 256, s1 := 4 }
def IRQ_SRC_PRIO : Fld := { off := 0x400, hi := 3, lo := 0, n1 := 256, s1 := 4 }
def IRQ_LOST_LOST : Fld := { off := 0x800, hi := 31, lo := 31, n1 := 256, s1 := 4 }
def IRQ_LOST_COUNT : Fld := { off := 0x800, hi := 7, lo := 0, n1 := 256, s1 := 4 }

-- R519
def BTX_CFG_CAL_EN : Fld := { off := 0x040, hi := 16, lo := 16 }
def BTX_CFG_NRING : Fld := { off := 0x040, hi := 8, lo := 4 }
def BTX_CFG_POS : Fld := { off := 0x040, hi := 3, lo := 0 }
def BTX_STAT_LINK_UP : Fld := { off := 0x044, hi := 31, lo := 31 }
def BTX_STAT_RING_OK : Fld := { off := 0x044, hi := 30, lo := 30 }
def BTX_SFN_SFN : Fld := { off := 0x048, hi := 31, lo := 0 }
def BTX_CRED_CRED : Fld := { off := 0x050, hi := 13, lo := 0, n1 := 4, s1 := 4 }
def BTX_TX_CNT_COUNT : Fld := { off := 0x060, hi := 15, lo := 0 }
def BTX_RX_CNT_COUNT : Fld := { off := 0x064, hi := 15, lo := 0 }
def BTX_DISC_CNT_COUNT : Fld := { off := 0x068, hi := 15, lo := 0 }
def BTX_DISC_LAST_VALID : Fld := { off := 0x06C, hi := 31, lo := 31 }
def BTX_DISC_LAST_POST : Fld := { off := 0x06C, hi := 13, lo := 8 }
def BTX_DISC_LAST_WHY : Fld := { off := 0x06C, hi := 3, lo := 0 }
def BTX_DISC_TAG_TAG : Fld := { off := 0x070, hi := 31, lo := 0 }
def BTX_RX_LAST_POST : Fld := { off := 0x074, hi := 5, lo := 0 }
def BTX_TX_REFUSE_VALID : Fld := { off := 0x078, hi := 31, lo := 31 }
def BTX_TX_REFUSE_DESC : Fld := { off := 0x078, hi := 23, lo := 8 }
def BTX_TX_REFUSE_CODE : Fld := { off := 0x078, hi := 3, lo := 0 }
def BTX_MSG_DROP_COUNT : Fld := { off := 0x07C, hi := 15, lo := 0 }
def BTX_MSG_TXD_DATA : Fld := { off := 0x100, hi := 31, lo := 0, n1 := 8, s1 := 4, n2 := 2, s2 := 0x80 }
def BTX_MSG_TXCTL_GO : Fld := { off := 0x120, hi := 31, lo := 31, n2 := 2, s2 := 0x80 }
def BTX_MSG_TXCTL_DEST : Fld := { off := 0x120, hi := 3, lo := 0, n2 := 2, s2 := 0x80 }
def BTX_MSG_TXSTAT_BUSY : Fld := { off := 0x124, hi := 31, lo := 31, n2 := 2, s2 := 0x80 }
def BTX_MSG_RXD_DATA : Fld := { off := 0x140, hi := 31, lo := 0, n1 := 8, s1 := 4, n2 := 2, s2 := 0x80 }
def BTX_MSG_RXSTAT_SRC : Fld := { off := 0x160, hi := 11, lo := 8, n2 := 2, s2 := 0x80 }
def BTX_MSG_RXSTAT_COUNT : Fld := { off := 0x160, hi := 4, lo := 0, n2 := 2, s2 := 0x80 }
def BTX_MSG_RXPOP_POP : Fld := { off := 0x164, hi := 0, lo := 0, n2 := 2, s2 := 0x80 }
def BTX_PST_TAG_TAG : Fld := { off := 0x400, hi := 31, lo := 0, n1 := 64, s1 := 16 }
def BTX_PST_OBJ_VALID : Fld := { off := 0x404, hi := 31, lo := 31, n1 := 64, s1 := 16 }
def BTX_PST_OBJ_HANDLE : Fld := { off := 0x404, hi := 23, lo := 0, n1 := 64, s1 := 16 }
def BTX_PST_STAT_WHY : Fld := { off := 0x408, hi := 3, lo := 0, n1 := 64, s1 := 16 }

-- R520
def BTX_TX_TRIM_MOD : Fld := { off := 0x100, hi := 15, lo := 8, n1 := 9, s1 := 16 }
def BTX_TX_TRIM_BIAS : Fld := { off := 0x100, hi := 7, lo := 0, n1 := 9, s1 := 16 }
def BTX_TX_MON_PWR : Fld := { off := 0x104, hi := 11, lo := 0, n1 := 9, s1 := 16 }
def BTX_TX_STAT_STATE : Fld := { off := 0x108, hi := 6, lo := 4, n1 := 9, s1 := 16 }
def BTX_TX_STAT_LOGICAL : Fld := { off := 0x108, hi := 3, lo := 0, n1 := 9, s1 := 16 }

-- R521
def BTX_RX_TRIM_TINT : Fld := { off := 0x100, hi := 21, lo := 16, n1 := 9, s1 := 32 }
def BTX_RX_TRIM_OFFSET : Fld := { off := 0x100, hi := 14, lo := 8, n1 := 9, s1 := 32 }
def BTX_RX_TRIM_THRESH : Fld := { off := 0x100, hi := 7, lo := 0, n1 := 9, s1 := 32 }
def BTX_RX_STAT_LOCK : Fld := { off := 0x104, hi := 31, lo := 31, n1 := 9, s1 := 32 }
def BTX_RX_STAT_STATE : Fld := { off := 0x104, hi := 6, lo := 4, n1 := 9, s1 := 32 }
def BTX_RX_STAT_LOGICAL : Fld := { off := 0x104, hi := 3, lo := 0, n1 := 9, s1 := 32 }
def BTX_RX_SKEW_PS : Fld := { off := 0x108, hi := 15, lo := 0, n1 := 9, s1 := 32 }
def BTX_RX_CE_COUNT : Fld := { off := 0x10C, hi := 15, lo := 0, n1 := 9, s1 := 32 }
def BTX_RX_UE_COUNT : Fld := { off := 0x110, hi := 15, lo := 0, n1 := 9, s1 := 32 }

-- R522
def BTX_CAL_CFG_MON_TGT : Fld := { off := 0x040, hi := 31, lo := 24 }
def BTX_CAL_CFG_SKEW_MAX : Fld := { off := 0x040, hi := 23, lo := 16 }
def BTX_CAL_CFG_TRIES : Fld := { off := 0x040, hi := 11, lo := 8 }
def BTX_CAL_CFG_CE_MAX : Fld := { off := 0x040, hi := 7, lo := 0 }
def BTX_CAL_STAT_PHASE : Fld := { off := 0x044, hi := 31, lo := 28, n1 := 2, s1 := 4 }
def BTX_CAL_STAT_STEP : Fld := { off := 0x044, hi := 27, lo := 24, n1 := 2, s1 := 4 }
def BTX_CAL_STAT_OUT : Fld := { off := 0x044, hi := 23, lo := 20, n1 := 2, s1 := 4 }
def BTX_CAL_STAT_TRY : Fld := { off := 0x044, hi := 19, lo := 16, n1 := 2, s1 := 4 }
def BTX_CAL_STAT_CALSEQ : Fld := { off := 0x044, hi := 7, lo := 0, n1 := 2, s1 := 4 }
def BTX_CAL_LAST_VALID : Fld := { off := 0x04C, hi := 31, lo := 31 }
def BTX_CAL_LAST_ACCEPT : Fld := { off := 0x04C, hi := 30, lo := 30 }
def BTX_CAL_LAST_CE : Fld := { off := 0x04C, hi := 29, lo := 16 }
def BTX_CAL_LAST_SKEW : Fld := { off := 0x04C, hi := 15, lo := 0 }
def BTX_RETIRED_RX : Fld := { off := 0x050, hi := 24, lo := 16 }
def BTX_RETIRED_TX : Fld := { off := 0x050, hi := 8, lo := 0 }
def BTX_REJOIN_CNT_COUNT : Fld := { off := 0x054, hi := 15, lo := 0 }
def BTX_REJECT_CNT_COUNT : Fld := { off := 0x058, hi := 15, lo := 0 }

-- R551
def FLS_STAT_LOADED : Fld := { off := 0x040, hi := 31, lo := 31 }
def FLS_STAT_ARMED : Fld := { off := 0x040, hi := 29, lo := 29 }
def FLS_REGION_STATE : Fld := { off := 0x044, hi := 1, lo := 0, nb := 7, sb := 2 }
def FLS_SEC_DBG : Fld := { off := 0x048, hi := 25, lo := 24 }
def FLS_SEC_CUST_EN : Fld := { off := 0x048, hi := 16, lo := 16 }
def FLS_SEC_OKEY : Fld := { off := 0x048, hi := 15, lo := 15 }
def FLS_SEC_VKEY : Fld := { off := 0x048, hi := 14, lo := 14 }
def FLS_SEC_D : Fld := { off := 0x048, hi := 6, lo := 0 }
def FLS_WEAK_CNT_COUNT : Fld := { off := 0x04C, hi := 15, lo := 0 }
def FLS_RB_VALUE : Fld := { off := 0x050, hi := 6, lo := 0, n1 := 4, s1 := 4 }
def FLS_LOCK_PROG : Fld := { off := 0x060, hi := 8, lo := 8 }
def FLS_LOCK_REGION : Fld := { off := 0x060, hi := 6, lo := 0 }
def FLS_ARM_KEY : Fld := { off := 0x064, hi := 31, lo := 0 }
def FLS_CMD_WORD : Fld := { off := 0x068, hi := 25, lo := 16 }
def FLS_CMD_ARG : Fld := { off := 0x068, hi := 7, lo := 4 }
def FLS_CMD_OP : Fld := { off := 0x068, hi := 3, lo := 0 }
def FLS_DATA_DATA : Fld := { off := 0x06C, hi := 31, lo := 0 }
def FLS_RDATA_DATA : Fld := { off := 0x070, hi := 31, lo := 0 }
def FLS_CMD_STAT_BUSY : Fld := { off := 0x074, hi := 31, lo := 31 }
def FLS_CMD_STAT_STATUS : Fld := { off := 0x074, hi := 15, lo := 0 }
def FLS_PULSE_CNT_COUNT : Fld := { off := 0x078, hi := 15, lo := 0 }
def FLS_VHASH_HASH : Fld := { off := 0x080, hi := 31, lo := 0, n1 := 12, s1 := 4 }
def FLS_OHASH_HASH : Fld := { off := 0x0B0, hi := 31, lo := 0, n1 := 12, s1 := 4 }

-- R555
def SFC_CFG_DIV : Fld := { off := 0x040, hi := 2, lo := 0 }
def SFC_WP_WP : Fld := { off := 0x044, hi := 5, lo := 0 }
def SFC_ADDR_ADDR : Fld := { off := 0x048, hi := 25, lo := 0 }
def SFC_LEN_LEN : Fld := { off := 0x04C, hi := 8, lo := 0 }
def SFC_CMD_OP : Fld := { off := 0x050, hi := 2, lo := 0 }
def SFC_STAT_BUSY : Fld := { off := 0x054, hi := 31, lo := 31 }
def SFC_STAT_STATUS : Fld := { off := 0x054, hi := 15, lo := 0 }
def SFC_FAIL_CNT_COUNT : Fld := { off := 0x058, hi := 15, lo := 0 }
def SFC_BUF_DATA : Fld := { off := 0x100, hi := 31, lo := 0, n1 := 64, s1 := 4 }

-- R596
def DMR_STAT_COMMIT_PEND : Fld := { off := 0x040, hi := 8, lo := 8 }
def DMR_STAT_TIME_VALID : Fld := { off := 0x040, hi := 7, lo := 7 }
def DMR_STAT_OSC_RC : Fld := { off := 0x040, hi := 6, lo := 6 }
def DMR_STAT_OSC_FAULT : Fld := { off := 0x040, hi := 5, lo := 4 }
def DMR_STAT_SUPPLY : Fld := { off := 0x040, hi := 0, lo := 0 }
def DMR_SNAP_TIME_VALID : Fld := { off := 0x044, hi := 31, lo := 31 }
def DMR_SNAP_SUB : Fld := { off := 0x044, hi := 14, lo := 0 }
def DMR_SEC_LO_SEC : Fld := { off := 0x048, hi := 31, lo := 0 }
def DMR_SEC_HI_SEC : Fld := { off := 0x04C, hi := 7, lo := 0 }
def DMR_SUB_SUB : Fld := { off := 0x050, hi := 14, lo := 0 }
def DMR_DATE_YEAR : Fld := { off := 0x054, hi := 31, lo := 16 }
def DMR_DATE_VALID : Fld := { off := 0x054, hi := 15, lo := 15 }
def DMR_DATE_MONTH : Fld := { off := 0x054, hi := 12, lo := 8 }
def DMR_DATE_DAY : Fld := { off := 0x054, hi := 5, lo := 0 }
def DMR_TIME_WDAY : Fld := { off := 0x058, hi := 26, lo := 24 }
def DMR_TIME_HOUR : Fld := { off := 0x058, hi := 21, lo := 16 }
def DMR_TIME_MIN : Fld := { off := 0x058, hi := 14, lo := 8 }
def DMR_TIME_SEC : Fld := { off := 0x058, hi := 6, lo := 0 }
def DMR_SET_LO_SEC : Fld := { off := 0x060, hi := 31, lo := 0 }
def DMR_SET_HI_SEC : Fld := { off := 0x064, hi := 7, lo := 0 }
def DMR_COMMIT_GO : Fld := { off := 0x068, hi := 0, lo := 0 }
def DMR_ALM_LO_ALM : Fld := { off := 0x070, hi := 31, lo := 0, n1 := 2, s1 := 16 }
def DMR_ALM_HI_ALM : Fld := { off := 0x074, hi := 7, lo := 0, n1 := 2, s1 := 16 }
def DMR_ALM_PER_PER : Fld := { off := 0x078, hi := 23, lo := 0, n1 := 2, s1 := 16 }
def DMR_ALM_CTL_MISSED : Fld := { off := 0x07C, hi := 9, lo := 9, n1 := 2, s1 := 16 }
def DMR_ALM_CTL_FIRED : Fld := { off := 0x07C, hi := 8, lo := 8, n1 := 2, s1 := 16 }
def DMR_ALM_CTL_WAKE : Fld := { off := 0x07C, hi := 1, lo := 1, n1 := 2, s1 := 16 }
def DMR_ALM_CTL_EN : Fld := { off := 0x07C, hi := 0, lo := 0, n1 := 2, s1 := 16 }
def DMR_CELL_STATE : Fld := { off := 0x090, hi := 31, lo := 30 }
def DMR_CELL_MV : Fld := { off := 0x090, hi := 15, lo := 0 }
def DMR_LOG_STAT_OVF : Fld := { off := 0x098, hi := 31, lo := 31 }
def DMR_LOG_STAT_COUNT : Fld := { off := 0x098, hi := 12, lo := 8 }
def DMR_LOG_STAT_HEAD : Fld := { off := 0x098, hi := 3, lo := 0 }
def DMR_LOG_CLR_CLR : Fld := { off := 0x09C, hi := 0, lo := 0 }
def DMR_LOG_A_SEC : Fld := { off := 0x100, hi := 31, lo := 0, n1 := 16, s1 := 8 }
def DMR_LOG_B_VALID : Fld := { off := 0x104, hi := 31, lo := 31, n1 := 16, s1 := 8 }
def DMR_LOG_B_DETAIL : Fld := { off := 0x104, hi := 23, lo := 16, n1 := 16, s1 := 8 }
def DMR_LOG_B_CODE : Fld := { off := 0x104, hi := 15, lo := 8, n1 := 16, s1 := 8 }
def DMR_LOG_B_SEC : Fld := { off := 0x104, hi := 7, lo := 0, n1 := 16, s1 := 8 }
def DMR_SCRATCH_DATA : Fld := { off := 0x180, hi := 31, lo := 0, n1 := 16, s1 := 4 }

-- R626
def PWR_STAT_WAIT_ADV : Fld := { off := 0x040, hi := 31, lo := 31 }
def PWR_STAT_OFF_PEND : Fld := { off := 0x040, hi := 30, lo := 30 }
def PWR_STAT_ON_PEND : Fld := { off := 0x040, hi := 29, lo := 29 }
def PWR_STAT_FORCED : Fld := { off := 0x040, hi := 28, lo := 28 }
def PWR_STAT_HBM_OFF : Fld := { off := 0x040, hi := 27, lo := 27 }
def PWR_STAT_IN_OK : Fld := { off := 0x040, hi := 26, lo := 26 }
def PWR_STAT_TGT : Fld := { off := 0x040, hi := 8, lo := 8 }
def PWR_REQ_GO : Fld := { off := 0x044, hi := 31, lo := 31 }
def PWR_REQ_FORCE : Fld := { off := 0x044, hi := 8, lo := 8 }
def PWR_REQ_TGT : Fld := { off := 0x044, hi := 4, lo := 4 }
def PWR_REQ_KIND : Fld := { off := 0x044, hi := 1, lo := 0 }
def PWR_ADV_GO : Fld := { off := 0x048, hi := 31, lo := 31 }
def PWR_ADV_DIR : Fld := { off := 0x048, hi := 4, lo := 4 }
def PWR_ADV_STEP : Fld := { off := 0x048, hi := 3, lo := 0 }
def PWR_TMO_MS : Fld := { off := 0x04C, hi := 15, lo := 0 }
def PWR_RST_PREV_STEP : Fld := { off := 0x050, hi := 11, lo := 8 }
def PWR_RST_PREV_STATE : Fld := { off := 0x050, hi := 7, lo := 4 }
def PWR_RST_CAUSE : Fld := { off := 0x050, hi := 3, lo := 0 }
def PWR_WAKE_VALID : Fld := { off := 0x054, hi := 31, lo := 31 }
def PWR_WAKE_SRC : Fld := { off := 0x054, hi := 3, lo := 0 }
def PWR_IN_MV : Fld := { off := 0x058, hi := 31, lo := 16 }
def PWR_IN_MA : Fld := { off := 0x058, hi := 15, lo := 0 }
def PWR_E_LO_UJ : Fld := { off := 0x060, hi := 31, lo := 0 }
def PWR_E_HI_UJ : Fld := { off := 0x064, hi := 31, lo := 0 }
def PWR_ECRS_VALID : Fld := { off := 0x068, hi := 31, lo := 31 }
def PWR_ECRS_UJ : Fld := { off := 0x068, hi := 30, lo := 0 }
def PWR_PMB_CMD_GO : Fld := { off := 0x070, hi := 31, lo := 31 }
def PWR_PMB_CMD_RD : Fld := { off := 0x070, hi := 30, lo := 30 }
def PWR_PMB_CMD_R : Fld := { off := 0x070, hi := 18, lo := 16 }
def PWR_PMB_CMD_LEN : Fld := { off := 0x070, hi := 10, lo := 8 }
def PWR_PMB_CMD_CODE : Fld := { off := 0x070, hi := 7, lo := 0 }
def PWR_PMB_DATA_DATA : Fld := { off := 0x074, hi := 31, lo := 0 }
def PWR_PMB_STAT_BUSY : Fld := { off := 0x078, hi := 31, lo := 31 }
def PWR_PMB_STAT_STATUS : Fld := { off := 0x078, hi := 3, lo := 0 }
def PWR_VR_PG : Fld := { off := 0x080, hi := 31, lo := 31, n1 := 7, s1 := 4 }
def PWR_VR_FAULT : Fld := { off := 0x080, hi := 30, lo := 30, n1 := 7, s1 := 4 }
def PWR_VR_ADDR : Fld := { off := 0x080, hi := 22, lo := 16, n1 := 7, s1 := 4 }
def PWR_VR_SW : Fld := { off := 0x080, hi := 15, lo := 0, n1 := 7, s1 := 4 }
def PWR_POLL_MS : Fld := { off := 0x0A0, hi := 15, lo := 0 }

-- R629
def SNS_BAT_VALID : Fld := { off := 0x040, hi := 31, lo := 31, n1 := 64, s1 := 4 }
def SNS_BAT_TEMP : Fld := { off := 0x040, hi := 15, lo := 0, n1 := 64, s1 := 4 }
def SNS_VR_VALID : Fld := { off := 0x140, hi := 31, lo := 31, n1 := 7, s1 := 4 }
def SNS_VR_TEMP : Fld := { off := 0x140, hi := 15, lo := 0, n1 := 7, s1 := 4 }
def SNS_INPUT_VALID : Fld := { off := 0x160, hi := 31, lo := 31 }
def SNS_INPUT_TEMP : Fld := { off := 0x160, hi := 15, lo := 0 }
def SNS_OPT_VALID : Fld := { off := 0x164, hi := 31, lo := 31 }
def SNS_OPT_TEMP : Fld := { off := 0x164, hi := 15, lo := 0 }
def SNS_CFG_TRIP : Fld := { off := 0x168, hi := 15, lo := 8 }
def SNS_CFG_WARN : Fld := { off := 0x168, hi := 7, lo := 0 }
def SNS_TRIP_REC_VALID : Fld := { off := 0x16C, hi := 31, lo := 31 }
def SNS_TRIP_REC_BATTEN : Fld := { off := 0x16C, hi := 5, lo := 0 }
def SNS_OFF_OFF : Fld := { off := 0x200, hi := 15, lo := 0, n1 := 66, s1 := 4 }

-- R653
def FSC_CONN_J7_SESSION : Fld := { off := 0x200, hi := 23, lo := 23 }
def FSC_CONN_J3_MAP : Fld := { off := 0x200, hi := 22, lo := 22 }
def FSC_CONN_J3_PLUG : Fld := { off := 0x200, hi := 21, lo := 21 }
def FSC_CONN_J3_MOD : Fld := { off := 0x200, hi := 20, lo := 20 }
def FSC_CONN_J5 : Fld := { off := 0x200, hi := 18, lo := 16 }
def FSC_CONN_J4_OUT : Fld := { off := 0x200, hi := 13, lo := 12 }
def FSC_CONN_J4_INV : Fld := { off := 0x200, hi := 8, lo := 8 }
def FSC_CONN_J4_IN : Fld := { off := 0x200, hi := 2, lo := 0 }
def FSC_CONN_CFG_AUTO_INV : Fld := { off := 0x204, hi := 0, lo := 0 }
def FSC_J5_ID_ID_B : Fld := { off := 0x208, hi := 27, lo := 16 }
def FSC_J5_ID_ID_A : Fld := { off := 0x208, hi := 11, lo := 0 }
def FSC_J4_INV_CNT_COUNT : Fld := { off := 0x20C, hi := 15, lo := 0 }
def FSC_J7_LEVEL : Fld := { off := 0x210, hi := 1, lo := 0 }

-- R666
def FSC_CFG_TEST_S : Fld := { off := 0x040, hi := 15, lo := 8 }
def FSC_CFG_GAMMA_OFF : Fld := { off := 0x040, hi := 1, lo := 1 }
def FSC_CFG_AUTO : Fld := { off := 0x040, hi := 0, lo := 0 }
def FSC_S_CUR_CUR : Fld := { off := 0x044, hi := 5, lo := 0 }
def FSC_L_CUR_CUR : Fld := { off := 0x048, hi := 5, lo := 0 }
def FSC_S_SRC : Fld := { off := 0x050, hi := 9, lo := 8, n1 := 8, s1 := 4 }
def FSC_S_LEVEL : Fld := { off := 0x050, hi := 7, lo := 0, n1 := 8, s1 := 4 }
def FSC_L_SRC : Fld := { off := 0x070, hi := 9, lo := 8 }
def FSC_L_LEVEL : Fld := { off := 0x070, hi := 7, lo := 0 }
def FSC_PE_CTL_STEP : Fld := { off := 0x080, hi := 15, lo := 8, n1 := 4, s1 := 16 }
def FSC_PE_CTL_DIR : Fld := { off := 0x080, hi := 2, lo := 2, n1 := 4, s1 := 16 }
def FSC_PE_CTL_MODE : Fld := { off := 0x080, hi := 1, lo := 0, n1 := 4, s1 := 16 }
def FSC_PE_LVL_INC : Fld := { off := 0x084, hi := 23, lo := 16, n1 := 4, s1 := 16 }
def FSC_PE_LVL_HI : Fld := { off := 0x084, hi := 15, lo := 8, n1 := 4, s1 := 16 }
def FSC_PE_LVL_LO : Fld := { off := 0x084, hi := 7, lo := 0, n1 := 4, s1 := 16 }
def FSC_PE_MASK_MASK : Fld := { off := 0x088, hi := 7, lo := 0, n1 := 4, s1 := 16 }
def FSC_PE_POS_LEVEL : Fld := { off := 0x08C, hi := 23, lo := 16, n1 := 4, s1 := 16 }
def FSC_PE_POS_P : Fld := { off := 0x08C, hi := 3, lo := 0, n1 := 4, s1 := 16 }
def FSC_FAULT_LOC_DEAD : Fld := { off := 0x0C0, hi := 31, lo := 31 }
def FSC_FAULT_NSHORT_L : Fld := { off := 0x0C0, hi := 29, lo := 29 }
def FSC_FAULT_NSHORT_S : Fld := { off := 0x0C0, hi := 28, lo := 28 }
def FSC_FAULT_LOC : Fld := { off := 0x0C0, hi := 17, lo := 16, nb := 4, sb := 2 }
def FSC_FAULT_STAT : Fld := { off := 0x0C0, hi := 1, lo := 0, nb := 8, sb := 2 }
def FSC_BYP_LATCH : Fld := { off := 0x0C4, hi := 7, lo := 0 }
def FSC_TEST_GO : Fld := { off := 0x0D0, hi := 0, lo := 0 }
def FSC_TEST_STAT_RUN : Fld := { off := 0x0D4, hi := 31, lo := 31 }
def FSC_TEST_STAT_COUNT : Fld := { off := 0x0D4, hi := 15, lo := 0 }
def FSC_REG_L_OUT : Fld := { off := 0x0D8, hi := 1, lo := 1 }
def FSC_REG_S_OUT : Fld := { off := 0x0D8, hi := 0, lo := 0 }

-- R690
def EAV_LINK_UP : Fld := { off := 0x040, hi := 31, lo := 31 }
def EAV_LINK_WIDTH : Fld := { off := 0x040, hi := 20, lo := 16 }
def EAV_LINK_GEN : Fld := { off := 0x040, hi := 10, lo := 8 }
def EAV_LINK_FLIT : Fld := { off := 0x040, hi := 4, lo := 4 }
def EAV_WRST_KEY : Fld := { off := 0x048, hi := 31, lo := 0 }
def EAV_BIND_GO : Fld := { off := 0x050, hi := 31, lo := 31 }
def EAV_BIND_OP : Fld := { off := 0x050, hi := 24, lo := 24 }
def EAV_BIND_FUNC : Fld := { off := 0x050, hi := 11, lo := 8 }
def EAV_BIND_DOMAIN : Fld := { off := 0x050, hi := 5, lo := 0 }
def EAV_BIND_STAT_BUSY : Fld := { off := 0x054, hi := 31, lo := 31 }
def EAV_BIND_STAT_STATUS : Fld := { off := 0x054, hi := 15, lo := 0 }
def EAV_SUB_HANDLE_HANDLE : Fld := { off := 0x060, hi := 23, lo := 0, n1 := 2, s1 := 16 }
def EAV_SUB_GO : Fld := { off := 0x064, hi := 31, lo := 31, n1 := 2, s1 := 16 }
def EAV_SUB_FUNC : Fld := { off := 0x064, hi := 3, lo := 0, n1 := 2, s1 := 16 }
def EAV_SUB_STAT_BUSY : Fld := { off := 0x068, hi := 31, lo := 31, n1 := 2, s1 := 16 }
def EAV_SUB_STAT_STATUS : Fld := { off := 0x068, hi := 15, lo := 0, n1 := 2, s1 := 16 }
def EAV_SUB_ID_ID : Fld := { off := 0x06C, hi := 31, lo := 0, n1 := 2, s1 := 16 }
def EAV_MB_PEND_PEND : Fld := { off := 0x0A0, hi := 8, lo := 1 }
def EAV_WIN_VALID : Fld := { off := 0x0C0, hi := 31, lo := 31, n1 := 8, s1 := 4 }
def EAV_WIN_HANDLE : Fld := { off := 0x0C0, hi := 23, lo := 0, n1 := 8, s1 := 4 }
def EAV_MB_REQ_DATA : Fld := { off := 0x100, hi := 31, lo := 0, n1 := 16, s1 := 4, n2 := 8, s2 := 0x100 }
def EAV_MB_CODE_CODE : Fld := { off := 0x140, hi := 7, lo := 0, n2 := 8, s2 := 0x100 }
def EAV_MB_RSP_DATA : Fld := { off := 0x180, hi := 31, lo := 0, n1 := 16, s1 := 4, n2 := 8, s2 := 0x100 }
def EAV_MB_DONE_GO : Fld := { off := 0x1C0, hi := 31, lo := 31, n2 := 8, s2 := 0x100 }
def EAV_MB_DONE_STATUS : Fld := { off := 0x1C0, hi := 15, lo := 0, n2 := 8, s2 := 0x100 }

-- R691
def GUT_CFG_PAGER_SHARE : Fld := { off := 0x040, hi := 4, lo := 0 }
def GUT_PCQ_BASE_LO_BASE : Fld := { off := 0x060, hi := 31, lo := 12 }
def GUT_PCQ_BASE_HI_BASE : Fld := { off := 0x064, hi := 31, lo := 0 }
def GUT_PCQ_CFG_EN : Fld := { off := 0x068, hi := 31, lo := 31 }
def GUT_PCQ_CFG_LOG2 : Fld := { off := 0x068, hi := 3, lo := 0 }
def GUT_PCQ_TAIL_TAIL : Fld := { off := 0x06C, hi := 11, lo := 0 }
def GUT_PCQ_HEAD_HEAD : Fld := { off := 0x070, hi := 11, lo := 0 }
def GUT_PCQ_LOST_COUNT : Fld := { off := 0x074, hi := 15, lo := 0 }
def GUT_PAGER_BUSY : Fld := { off := 0x080, hi := 3, lo := 0 }
def GUT_CH_BASE_LO_BASE : Fld := { off := 0x100, hi := 31, lo := 12, n1 := 8, s1 := 32 }
def GUT_CH_BASE_HI_BASE : Fld := { off := 0x104, hi := 31, lo := 0, n1 := 8, s1 := 32 }
def GUT_CH_CFG_EN : Fld := { off := 0x108, hi := 31, lo := 31, n1 := 8, s1 := 32 }
def GUT_CH_CFG_FUNC : Fld := { off := 0x108, hi := 19, lo := 16, n1 := 8, s1 := 32 }
def GUT_CH_CFG_LOG2 : Fld := { off := 0x108, hi := 3, lo := 0, n1 := 8, s1 := 32 }
def GUT_CH_TAIL_TAIL : Fld := { off := 0x10C, hi := 11, lo := 0, n1 := 8, s1 := 32 }
def GUT_CH_HEAD_HEAD : Fld := { off := 0x110, hi := 11, lo := 0, n1 := 8, s1 := 32 }
def GUT_CH_ERR_VALID : Fld := { off := 0x114, hi := 31, lo := 31, n1 := 8, s1 := 32 }
def GUT_CH_ERR_INDEX : Fld := { off := 0x114, hi := 27, lo := 16, n1 := 8, s1 := 32 }
def GUT_CH_ERR_STATUS : Fld := { off := 0x114, hi := 2, lo := 0, n1 := 8, s1 := 32 }

-- R692
def VDB_CQ_BASE_LO_BASE : Fld := { off := 0x040, hi := 31, lo := 12 }
def VDB_CQ_BASE_HI_BASE : Fld := { off := 0x044, hi := 31, lo := 0 }
def VDB_CQ_CFG_EN : Fld := { off := 0x048, hi := 31, lo := 31 }
def VDB_CQ_CFG_LOG2 : Fld := { off := 0x048, hi := 3, lo := 0 }
def VDB_CQ_TAIL_TAIL : Fld := { off := 0x04C, hi := 11, lo := 0 }
def VDB_CQ_HEAD_HEAD : Fld := { off := 0x050, hi := 11, lo := 0 }
def VDB_CQ_LOST_COUNT : Fld := { off := 0x054, hi := 15, lo := 0 }
def VDB_G_TAIL_TAIL : Fld := { off := 0x058, hi := 11, lo := 0 }
def VDB_G_HEAD_HEAD : Fld := { off := 0x05C, hi := 11, lo := 0 }

-- R66
def CRS_NUM_LO_NUM : Fld := { off := 0x054, hi := 31, lo := 0 }
def CRS_NUM_HI_NUM : Fld := { off := 0x058, hi := 31, lo := 0 }

-- R67
def CRS_NEXT_LEN_LEN : Fld := { off := 0x05C, hi := 13, lo := 0 }
def CRS_NEXT_AT_AT : Fld := { off := 0x060, hi := 31, lo := 0 }

-- R107
def GLB_ID_PART : Fld := { off := 0x040, hi := 31, lo := 16 }
def GLB_MAP_VER : Fld := { off := 0x044, hi := 15, lo := 0 }
def GLB_SERIAL_LO_SERIAL : Fld := { off := 0x048, hi := 31, lo := 0 }
def GLB_SERIAL_HI_SERIAL : Fld := { off := 0x04C, hi := 31, lo := 0 }
def GLB_STATE_FAILED : Fld := { off := 0x050, hi := 8, lo := 8 }
def GLB_STATE_STEP : Fld := { off := 0x050, hi := 7, lo := 4 }
def GLB_STATE_STATE : Fld := { off := 0x050, hi := 3, lo := 0 }
def GLB_FAIL_DIR : Fld := { off := 0x054, hi := 20, lo := 20 }
def GLB_FAIL_BATTEN : Fld := { off := 0x054, hi := 19, lo := 14 }
def GLB_FAIL_STACKS : Fld := { off := 0x054, hi := 13, lo := 10 }
def GLB_FAIL_HBM_TEMP : Fld := { off := 0x054, hi := 3, lo := 3 }
def GLB_FAIL_LANES : Fld := { off := 0x054, hi := 2, lo := 2 }
def GLB_FAIL_BATTEN_LOST : Fld := { off := 0x054, hi := 1, lo := 1 }
def GLB_FAIL_STACK_LOST : Fld := { off := 0x054, hi := 0, lo := 0 }
def GLB_SCRATCH_DATA : Fld := { off := 0x058, hi := 31, lo := 0, n1 := 4, s1 := 4 }

-- R105
def VF_NUM_NUM : Fld := { off := 0x040, hi := 3, lo := 0 }
def VF_DOMAIN_LO_D : Fld := { off := 0x044, hi := 31, lo := 0 }
def VF_DOMAIN_HI_D : Fld := { off := 0x048, hi := 31, lo := 0 }

-- R693
def VMB_REQ_DATA : Fld := { off := 0x040, hi := 31, lo := 0, n1 := 16, s1 := 4 }
def VMB_DOOR_CODE : Fld := { off := 0x080, hi := 7, lo := 0 }
def VMB_STAT_BUSY : Fld := { off := 0x084, hi := 31, lo := 31 }
def VMB_STAT_STATUS : Fld := { off := 0x084, hi := 15, lo := 0 }
def VMB_RSP_DATA : Fld := { off := 0x0C0, hi := 31, lo := 0, n1 := 16, s1 := 4 }

-- R683
def EAV_MSIX_ADDR_LO : Fld := { off := 0xC00, hi := 31, lo := 0, n1 := 64, s1 := 16 }
def EAV_MSIX_ADDR_HI : Fld := { off := 0xC04, hi := 31, lo := 0, n1 := 64, s1 := 16 }
def EAV_MSIX_DATA : Fld := { off := 0xC08, hi := 31, lo := 0, n1 := 64, s1 := 16 }
def EAV_MSIX_MASK : Fld := { off := 0xC0C, hi := 0, lo := 0, n1 := 64, s1 := 16 }
def EAV_MSIX_PBA : Fld := { off := 0x0F0, hi := 31, lo := 0, n1 := 2, s1 := 4 }
def VMB_MSIX_ADDR_LO : Fld := { off := 0x800, hi := 31, lo := 0, n1 := 64, s1 := 16 }
def VMB_MSIX_ADDR_HI : Fld := { off := 0x804, hi := 31, lo := 0, n1 := 64, s1 := 16 }
def VMB_MSIX_DATA : Fld := { off := 0x808, hi := 31, lo := 0, n1 := 64, s1 := 16 }
def VMB_MSIX_MASK : Fld := { off := 0x80C, hi := 0, lo := 0, n1 := 64, s1 := 16 }
def VMB_MSIX_PBA : Fld := { off := 0xC00, hi := 31, lo := 0, n1 := 2, s1 := 4 }

end Sys2Proof.Machine
end

