-- ==== Sys2Proof/Machine/RegTable.lean ====
section
/-! DEFINITION. The rows of every register table of the spec: access type, Cold and Warm columns, stated range. Fields marked F or X, and fields whose Cold column is a dash, hold 0 here until they are loaded (assumption log 2); PWR rows hold their aux power-on values (R626) and DMR rows their dormer-reset values (R596). -/

namespace Sys2Proof.Machine

/-- Default target fields of the shared interrupt sources, R463: TARGET. Private sources 1 to 31 and reserved sources 164 to 255 hold 0. -/
def irqTargetDflt : List Nat :=
  (List.range 256).map fun n =>
    if n < 40 then 0 else if n < 46 then 1 else if n = 46 then 0 else if n = 47 then 1
    else if n < 56 then 0 else if n < 88 then 1 else if n < 92 then 0 else if n < 156 then 1
    else if n < 164 then 2 else 0

/-- R463: FUNC of the VF sources 155 + v. -/
def irqFuncDflt : List Nat :=
  (List.range 256).map fun n => if 156 ≤ n ∧ n < 164 then n - 155 else 0

/-- R463: CMODE 1 for the VF sources. -/
def irqCmodeDflt : List Nat :=
  (List.range 256).map fun n => if 156 ≤ n ∧ n < 164 then 1 else 0

/-- Register rows of the CRS page, R63, R64, R65, R68, R69, R66, R67. [DEDUCED, assumption log 21] -/
def crsRows : List Row :=
  [{ f := CRS_LEN_LEN, acc := .rw, cold := [2000], rng := some (250, 16000) },
   { f := CRS_SRC_HOLD, acc := .rwl, cold := [4], warm := false },
   { f := CRS_SRC_SYNC_OUT_EN, acc := .rwl, warm := false },
   { f := CRS_SRC_MODE, acc := .rwl, warm := false },
   { f := CRS_SYNC_LEAD_LEAD, acc := .rwl, cold := [2000], warm := false, rng := some (1000, 4000) },
   { f := CRS_SYNC_DLY_DLY, acc := .rwl, cold := [2000], warm := false, rng := some (500, 4000) },
   { f := CRS_SYNC_MEAS_VALID, acc := .ro },
   { f := CRS_SYNC_MEAS_PHASE, acc := .ro },
   { f := CRS_STAT_REALIGN, acc := .ro },
   { f := CRS_STAT_NEXT_ARMED, acc := .ro },
   { f := CRS_STAT_SEQ_HOLD, acc := .ro },
   { f := CRS_STAT_HOLDOVER, acc := .ro },
   { f := CRS_STAT_SYNC_OK, acc := .ro },
   { f := CRS_STAT_OP, acc := .ro },
   { f := CRS_STAT_PLAN_DONE, acc := .ro },
   { f := CRS_STAT_WADDING, acc := .ro },
   { f := CRS_STAT_PHASE, acc := .ro },
   { f := CRS_PLAN_ID, acc := .ro },
   { f := CRS_BUDGET_T, acc := .ro },
   { f := CRS_FAULT_VALID, acc := .w1c },
   { f := CRS_FAULT_LIGGER, acc := .ro },
   { f := CRS_FAULT_CAUSE, acc := .ro },
   { f := CRS_FAULT_CRS_NUM, acc := .ro },
   { f := CRS_FAULT_PLAN_ID, acc := .ro }] ++
  [{ f := CRS_OVR_CNT_COUNT, acc := .rc },
   { f := CRS_LATE_CNT_COUNT, acc := .rc },
   { f := CRS_SLIP_CNT_COUNT, acc := .rc },
   { f := CRS_OVR_LIMIT_LIMIT, acc := .rwl, cold := [3], warm := false },
   { f := CRS_NEXT_CAN_CANCEL, acc := .wo },
   { f := CRS_NUM_LO_NUM, acc := .rw },
   { f := CRS_NUM_HI_NUM, acc := .rw },
   { f := CRS_NEXT_LEN_LEN, acc := .rw, cold := [2000] },
   { f := CRS_NEXT_AT_AT, acc := .rw }]

/-- Register rows of the PUR page, R145. -/
def purRows : List Row :=
  [{ f := PUR_OT_CFG_LOG2, acc := .rwl, cold := [16], rng := some (16, 24) },
   { f := PUR_OT_PAGE_PAGES, acc := .ro },
   { f := PUR_HB_BASE_LO_BASE, acc := .rwl },
   { f := PUR_HB_BASE_HI_BASE, acc := .rwl },
   { f := PUR_HB_SLOTS_SLOTS, acc := .rwl },
   { f := PUR_HB_FREE_SLOTS, acc := .ro },
   { f := PUR_FREE_LOW_PAGES, acc := .rw, cold := [64], rng := some (0, 17344) },
   { f := PUR_PIN_MAX_PAGES, acc := .rwl, cold := [34688], warm := false, rng := some (0, 69376) },
   { f := PUR_PINNED_PAGES, acc := .ro },
   { f := PUR_OBJ_COUNT_COUNT, acc := .ro },
   { f := PUR_RETIRED_PAGES, acc := .ro, warm := false },
   { f := PUR_POISON_CNT_COUNT, acc := .rc },
   { f := PUR_EVICT_CNT_COUNT, acc := .rc },
   { f := PUR_FETCH_CNT_COUNT, acc := .rc },
   { f := PUR_POISON_LAST_HANDLE, acc := .ro },
   { f := PUR_FREE_PAGES, acc := .ro },
   { f := PUR_FENCE_LO_BATTEN, acc := .ro },
   { f := PUR_FENCE_HI_BATTEN, acc := .ro },
   { f := PUR_CMD_ARG0_ARG, acc := .rw },
   { f := PUR_CMD_ARG1_ARG, acc := .rw },
   { f := PUR_CMD_ARG2_ARG, acc := .rw },
   { f := PUR_CMD_ARG3_ARG, acc := .rw },
   { f := PUR_CMD_OP, acc := .wo },
   { f := PUR_CMD_STAT_BUSY, acc := .ro }] ++
  [{ f := PUR_CMD_STAT_STATUS, acc := .ro },
   { f := PUR_CMD_RES0_RES, acc := .ro },
   { f := PUR_CMD_RES1_RES, acc := .ro }]

/-- Register rows of the PUE page, R168. -/
def pueRows : List Row :=
  [{ f := PUE_CFG_STARVE, acc := .rwl, cold := [8], warm := false },
   { f := PUE_CFG_THROT_OP, acc := .rwl, cold := [2], warm := false },
   { f := PUE_CFG_OP_MAX, acc := .rw },
   { f := PUE_CFG_WAD_OP, acc := .rwl, cold := [3], warm := false },
   { f := PUE_CFG_MEAS, acc := .rwl, cold := [1], warm := false },
   { f := PUE_FILL_MW, acc := .rw, cold := [300000], warm := false, rng := some (0, 300000) },
   { f := PUE_DEPTH_MJ, acc := .rw, cold := [1200], warm := false, rng := some (100, 60000) },
   { f := PUE_WAD_P_MW, acc := .rwl, cold := [45000], warm := false },
   { f := PUE_BASE_P_MW, acc := .rwl, cold := [0x11170, 0xF230, 0xD6D8, 0xC350], warm := false },
   { f := PUE_SCALE_SCALE, acc := .rwl, cold := [0x400, 0x339, 0x287, 0x210], warm := false, rng := some (1, 1024) },
   { f := PUE_LEVEL_UJ, acc := .ro },
   { f := PUE_LAST_SEL_CHARGE, acc := .ro },
   { f := PUE_LAST_SEL_REASON, acc := .ro },
   { f := PUE_LAST_SEL_OP, acc := .ro },
   { f := PUE_LAST_SEL_WAD, acc := .ro },
   { f := PUE_LAST_MEAS_UJ, acc := .ro },
   { f := PUE_LAST_CHG_UJ, acc := .ro },
   { f := PUE_PRI_ID_ID, acc := .rw },
   { f := PUE_PRI_FUNC, acc := .wo },
   { f := PUE_PRI_PRIO, acc := .wo },
   { f := PUE_PRI_STAT_BUSY, acc := .ro },
   { f := PUE_PRI_STAT_STATUS, acc := .ro },
   { f := PUE_WAD_CNT_COUNT, acc := .rc },
   { f := PUE_DOWN_CNT_COUNT, acc := .rc }] ++
  [{ f := PUE_RESV_CNT_COUNT, acc := .rc },
   { f := PUE_RESV_ACTIVE, acc := .ro },
   { f := PUE_RESV_FUNC, acc := .ro },
   { f := PUE_RESV_COUNT, acc := .ro },
   { f := PUE_RESV_ID_ID, acc := .ro },
   { f := PUE_ZLIM_K, acc := .rwl, cold := [1311,1311,1311,1311,1311,1311,1311,1311,655,655,655,655,328,328,197,66], warm := false },
   { f := PUE_ZLIM_LIMIT, acc := .rwl, cold := [95,95,95,95,95,95,95,95,90,90,90,90,110,110,105,70], warm := false, rng := some (40, 125) },
   { f := PUE_ZTEMP_BAD, acc := .ro },
   { f := PUE_ZTEMP_TEMP, acc := .ro }]

/-- Register rows of the BST page, R209. -/
def bstRows : List Row :=
  [{ f := BST_OWNER_BANK, acc := .rw, warm := false },
   { f := BST_OWNER_PEND_PEND, acc := .ro },
   { f := BST_CFG_AUTO_MARCH, acc := .rwl, cold := [1], warm := false },
   { f := BST_CFG_CE_FENCE, acc := .rwl, cold := [8], warm := false },
   { f := BST_FENCE_LOST, acc := .ro, warm := false },
   { f := BST_FENCE_CAUSE, acc := .ro },
   { f := BST_FENCE_REQ, acc := .w1s },
   { f := BST_FENCE_MARCHING, acc := .ro },
   { f := BST_FENCE_FENCED, acc := .ro },
   { f := BST_MARCH_GO, acc := .wo },
   { f := BST_MARCH_MODE, acc := .wo },
   { f := BST_MARCH_BANKS_BANKS, acc := .rw, cold := [4294967295] },
   { f := BST_MARCH_STAT_RUN, acc := .ro },
   { f := BST_MARCH_STAT_PASS, acc := .ro },
   { f := BST_MARCH_STAT_DONE, acc := .ro },
   { f := BST_MARCH_STAT_STATUS, acc := .ro },
   { f := BST_MARCH_FAIL_BANKS, acc := .ro, warm := false },
   { f := BST_CE_CNT_COUNT, acc := .rc },
   { f := BST_CE_ADDR_ADDR, acc := .ro },
   { f := BST_UE_CNT_COUNT, acc := .rc },
   { f := BST_UE_ADDR_ADDR, acc := .ro },
   { f := BST_POISON_CNT_COUNT, acc := .rc },
   { f := BST_REFUSE_VALID, acc := .w1c },
   { f := BST_REFUSE_MASTER, acc := .ro }] ++
  [{ f := BST_REFUSE_WHY, acc := .ro },
   { f := BST_REFUSE_ADDR, acc := .ro },
   { f := BST_BOUND_D, acc := .ro },
   { f := BST_CW_BASE_BASE, acc := .rw },
   { f := BST_CW_LEN_LEN, acc := .rw, cold := [1], rng := some (1, 262144) },
   { f := BST_CW_STRIDE_STRIDE, acc := .rw },
   { f := BST_CW_GROUP_USER, acc := .rw },
   { f := BST_CW_GROUP_F, acc := .rw },
   { f := BST_CW_GROUP_W, acc := .rw },
   { f := BST_CW_PTR_P, acc := .ro },
   { f := BST_REPAIR_SOFT1, acc := .ro, warm := false },
   { f := BST_REPAIR_VALID1, acc := .rw, warm := false },
   { f := BST_REPAIR_ROW1, acc := .rw, warm := false },
   { f := BST_REPAIR_SOFT0, acc := .ro, warm := false },
   { f := BST_REPAIR_VALID0, acc := .rw, warm := false },
   { f := BST_REPAIR_ROW0, acc := .rw, warm := false }]

/-- Register rows of the BTN page, R237. -/
def btnRows : List Row :=
  [{ f := BTN_LOC_ROW, acc := .ro, warm := false },
   { f := BTN_LOC_COL, acc := .ro, warm := false },
   { f := BTN_USE_PLAN, acc := .ro },
   { f := BTN_USE_FENCED, acc := .ro, warm := false },
   { f := BTN_USE_GATED, acc := .ro, cold := [15] },
   { f := BTN_BUSY_CNT_COUNT, acc := .rc }]

/-- Register rows of the SLT page, R240. -/
def sltRows : List Row :=
  [{ f := SLT_MODE_MODE, acc := .ro },
   { f := SLT_SAT_SAT, acc := .ro },
   { f := SLT_SAT_CNT_COUNT, acc := .rc },
   { f := SLT_PAR_CNT_COUNT, acc := .rc },
   { f := SLT_FAULT_VALID, acc := .w1c },
   { f := SLT_FAULT_ARRAY, acc := .ro },
   { f := SLT_FAULT_KIND, acc := .ro },
   { f := SLT_FAULT_ENTRY, acc := .ro },
   { f := SLT_COLMOD_ENTRY, acc := .rw, warm := false, rng := some (0, 95) },
   { f := SLT_Q_LO_Q, acc := .rw, warm := false },
   { f := SLT_Q_HI_Q, acc := .rw, warm := false },
   { f := SLT_PSI_LO_PSI, acc := .rw, warm := false },
   { f := SLT_PSI_HI_PSI, acc := .rw, warm := false },
   { f := SLT_MCTL_STATE, acc := .ro, warm := false },
   { f := SLT_MCTL_WHY, acc := .ro, warm := false },
   { f := SLT_MCTL_LOGN, acc := .rw, warm := false }]

/-- Register rows of the YLM page, R294. -/
def ylmRows : List Row :=
  [{ f := YLM_STAT_DESC, acc := .ro },
   { f := YLM_STAT_STAGE, acc := .ro },
   { f := YLM_STAT_ACTIVE, acc := .ro },
   { f := YLM_STAT_PAIRED, acc := .ro },
   { f := YLM_STAT_ROW, acc := .ro },
   { f := YLM_SW_CNT_COUNT, acc := .rc },
   { f := YLM_BYTES_LO_BYTES, acc := .ro },
   { f := YLM_BYTES_HI_BYTES, acc := .ro },
   { f := YLM_REFUSE_VALID, acc := .w1c },
   { f := YLM_REFUSE_DESC, acc := .ro },
   { f := YLM_REFUSE_CODE, acc := .ro },
   { f := YLM_REFUSE_H_HANDLE, acc := .ro },
   { f := YLM_REFUSE_CNT_COUNT, acc := .rc },
   { f := YLM_KAT_GO, acc := .wo },
   { f := YLM_KAT_STAT_RUN, acc := .ro },
   { f := YLM_KAT_STAT_PASS, acc := .ro },
   { f := YLM_KAT_STAT_DONE, acc := .ro },
   { f := YLM_KAT_FAIL_ENGINE, acc := .ro },
   { f := YLM_CFG_KAT_ON_EN, acc := .rwl, cold := [1], warm := false },
   { f := YLM_RAIL_CNT_COUNT, acc := .rc }]

/-- Register rows of the STK page, R320. -/
def stkRows : List Row :=
  [{ f := STK_STAT_DESC, acc := .ro },
   { f := STK_STAT_OP, acc := .ro },
   { f := STK_STAT_ACTIVE, acc := .ro },
   { f := STK_STAT_STAGE, acc := .ro },
   { f := STK_DESC_CNT_COUNT, acc := .rc },
   { f := STK_LAST_VALID_NV, acc := .ro },
   { f := STK_LAST_PIL_PILLARS, acc := .ro },
   { f := STK_VOID_CNT_COUNT, acc := .rc },
   { f := STK_OUT_CNT_COUNT, acc := .rc },
   { f := STK_CAPDROP_CNT_COUNT, acc := .rc },
   { f := STK_PILDROP_CNT_COUNT, acc := .rc },
   { f := STK_REFUSE_VALID, acc := .w1c },
   { f := STK_REFUSE_DESC, acc := .ro },
   { f := STK_REFUSE_CODE, acc := .ro },
   { f := STK_REFUSE_H_HANDLE, acc := .ro },
   { f := STK_REFUSE_CNT_COUNT, acc := .rc },
   { f := STK_MEM_CE_CNT_COUNT, acc := .rc },
   { f := STK_MEM_UE_ADDR_ADDR, acc := .ro }]

/-- Register rows of the RDG page, R345. -/
def rdgRows : List Row :=
  [{ f := RDG_PRI_PRIO, acc := .rwl, cold := [15,14,12,12,12,10,2,1], warm := false },
   { f := RDG_CFG_SPLIT_TO, acc := .rwl, cold := [16], warm := false, rng := some (4, 31) },
   { f := RDG_SPLIT_CNT_COUNT, acc := .rc },
   { f := RDG_REPLAY_CNT_COUNT, acc := .rc },
   { f := RDG_REPLAY_LAST_VALID, acc := .w1c },
   { f := RDG_REPLAY_LAST_STACK, acc := .ro },
   { f := RDG_REPLAY_LAST_CHAN, acc := .ro },
   { f := RDG_REPLAY_LAST_ENGINE, acc := .ro },
   { f := RDG_LINKERR_VALID, acc := .w1c },
   { f := RDG_LINKERR_ENTRY, acc := .ro },
   { f := RDG_LINKERR_CODE, acc := .ro },
   { f := RDG_PROTO_VALID, acc := .w1c },
   { f := RDG_PROTO_PAIR, acc := .ro },
   { f := RDG_PROTO_KIND, acc := .ro }]

/-- Register rows of the LIG page, R347. -/
def ligRows : List Row :=
  [{ f := LIG_ACTIVE_LO_ACTIVE, acc := .ro },
   { f := LIG_ACTIVE_HI_ACTIVE, acc := .ro },
   { f := LIG_LATE_LO_LATE, acc := .w1c },
   { f := LIG_LATE_HI_LATE, acc := .w1c },
   { f := LIG_STAT_ACTIVE, acc := .ro },
   { f := LIG_STAT_SW, acc := .ro },
   { f := LIG_STAT_NB, acc := .ro },
   { f := LIG_STAT_FREE, acc := .ro },
   { f := LIG_STAT_FULL, acc := .ro },
   { f := LIG_ENDS_CONS, acc := .ro },
   { f := LIG_ENDS_PROD, acc := .ro }]

/-- Register rows of the HBM page, R377. -/
def hbmRows : List Row :=
  [{ f := HBM_STAT_LOST, acc := .ro, warm := false },
   { f := HBM_STAT_SREF, acc := .ro, warm := false },
   { f := HBM_STAT_TRAINED, acc := .ro, warm := false },
   { f := HBM_STAT_CLASS, acc := .ro, warm := false },
   { f := HBM_TEMP_VALID, acc := .ro },
   { f := HBM_TEMP_TEMP, acc := .ro },
   { f := HBM_REF_CFG_HOLD, acc := .rwl, cold := [16], warm := false, rng := some (1, 255) },
   { f := HBM_REF_CFG_HYST, acc := .rwl, cold := [2], warm := false, rng := some (1, 10) },
   { f := HBM_CE_CNT_COUNT, acc := .rc },
   { f := HBM_UE_CNT_COUNT, acc := .rc },
   { f := HBM_CE_ADDR_SYMS, acc := .ro },
   { f := HBM_CE_ADDR_B, acc := .ro },
   { f := HBM_UE_ADDR_B, acc := .ro },
   { f := HBM_PAR_CNT_COUNT, acc := .rc },
   { f := HBM_RETRY_LAST_VALID, acc := .w1c },
   { f := HBM_RETRY_LAST_KIND, acc := .ro },
   { f := HBM_RETRY_LAST_PC, acc := .ro },
   { f := HBM_RETRY_LAST_CHAN, acc := .ro },
   { f := HBM_REPAIR_CNT_COUNT, acc := .rc },
   { f := HBM_SCRUB_CFG_EN, acc := .rwl, cold := [1], warm := false },
   { f := HBM_SCRUB_CFG_BLOCKS, acc := .rwl, cold := [512], warm := false, rng := some (1, 4096) },
   { f := HBM_SCRUB_POS_BLOCK, acc := .ro, warm := false },
   { f := HBM_LOST_WHY_WHY, acc := .ro, warm := false }]

/-- Register rows of the PHY page, R379. -/
def phyRows : List Row :=
  [{ f := PHY_CFG_RATE, acc := .rwl, warm := false },
   { f := PHY_TRAIN_ABORT, acc := .wo },
   { f := PHY_TRAIN_GO, acc := .wo },
   { f := PHY_TRAIN_STAT_RUN, acc := .ro, warm := false },
   { f := PHY_TRAIN_STAT_PASS, acc := .ro, warm := false },
   { f := PHY_TRAIN_STAT_DONE, acc := .ro, warm := false },
   { f := PHY_TRAIN_STAT_ABORTED, acc := .ro, warm := false },
   { f := PHY_TRAIN_STAT_PHASE, acc := .ro, warm := false },
   { f := PHY_TRAIN_FAIL_CHAN, acc := .ro, warm := false },
   { f := PHY_SPARE_CA_LANE, acc := .ro, warm := false },
   { f := PHY_SPARE_DQ1_LANE, acc := .ro, warm := false },
   { f := PHY_SPARE_DQ0_LANE, acc := .ro, warm := false },
   { f := PHY_SPARE_CA, acc := .ro, warm := false },
   { f := PHY_SPARE_DQ1, acc := .ro, warm := false },
   { f := PHY_SPARE_DQ0, acc := .ro, warm := false }]

/-- Register rows of the SPR page, R417. -/
def sprRows : List Row :=
  [{ f := SPR_STAT_HALTED, acc := .ro },
   { f := SPR_STAT_PARKED, acc := .ro },
   { f := SPR_STAT_SEALED, acc := .ro },
   { f := SPR_STAT_IN_TRAP, acc := .ro },
   { f := SPR_STAT_WAITING, acc := .ro },
   { f := SPR_STAT_ENDED, acc := .ro },
   { f := SPR_STAT_RUNNING, acc := .ro },
   { f := SPR_STAT_FRAME, acc := .ro },
   { f := SPR_STAT_UPC, acc := .ro },
   { f := SPR_HALT_VALID, acc := .w1c },
   { f := SPR_HALT_UPC, acc := .ro },
   { f := SPR_HALT_WHY, acc := .ro },
   { f := SPR_TRAP_VALID, acc := .w1c },
   { f := SPR_TRAP_UPC, acc := .ro },
   { f := SPR_TRAP_CAUSE, acc := .ro },
   { f := SPR_TRAP_CNT_COUNT, acc := .rc },
   { f := SPR_PARK_PARKED, acc := .ro },
   { f := SPR_PARK_PARK, acc := .rw },
   { f := SPR_RUN_GO, acc := .wo },
   { f := SPR_RUN_ENTRY, acc := .wo },
   { f := SPR_ATTN_GO, acc := .wo },
   { f := SPR_STINT_INDEX, acc := .ro },
   { f := SPR_STINT_NST, acc := .ro },
   { f := SPR_CS_ADDR_INC, acc := .rw }] ++
  [{ f := SPR_CS_ADDR_ADDR, acc := .rw },
   { f := SPR_CS_D_DATA, acc := .rw },
   { f := SPR_CS_TEST_GO, acc := .wo },
   { f := SPR_CS_TEST_REGION, acc := .wo },
   { f := SPR_CS_TSTAT_RUN, acc := .ro },
   { f := SPR_CS_TSTAT_PASS, acc := .ro },
   { f := SPR_CS_TSTAT_DONE, acc := .ro },
   { f := SPR_CS_TSTAT_STATUS, acc := .ro },
   { f := SPR_PM_VALID, acc := .rwl },
   { f := SPR_PM_TARGET, acc := .rwl, rng := some (6144, 7679) },
   { f := SPR_PM_MATCH, acc := .rwl }]

/-- Register rows of the GAB page, R458. -/
def gabRows (inst : Nat) : List Row :=
  [{ f := GAB_STAT_HALTED, acc := .ro },
   { f := GAB_STAT_STOPPED, acc := .ro, cold := [if inst = 0 then 0 else 1] },
   { f := GAB_STAT_WFI, acc := .ro },
   { f := GAB_STAT_DBL, acc := .ro },
   { f := GAB_STAT_LVL, acc := .ro, cold := [2] },
   { f := GAB_STAT_BANK, acc := .ro },
   { f := GAB_PC_PC, acc := .ro, cold := [if inst = 0 then 1048576 else 0] },
   { f := GAB_CTL_RESET, acc := .w1s },
   { f := GAB_CTL_START, acc := .w1s },
   { f := GAB_CTL_STOP, acc := .w1s },
   { f := GAB_ENTRY_ADDR, acc := .rwl, cold := [if inst = 0 then 1048576 else 0], warm := false },
   { f := GAB_HALT_VALID, acc := .w1c },
   { f := GAB_HALT_CAUSE, acc := .ro },
   { f := GAB_HALT_WHY, acc := .ro },
   { f := GAB_WDOG_STAGE, acc := .ro },
   { f := GAB_WDOG_CNT_COUNT, acc := .rc },
   { f := GAB_MARCH_GO, acc := .wo },
   { f := GAB_MARCH_MODE, acc := .wo },
   { f := GAB_MARCH_TARGET, acc := .wo },
   { f := GAB_MARCH_STAT_RUN, acc := .ro },
   { f := GAB_MARCH_STAT_PASS, acc := .ro },
   { f := GAB_MARCH_STAT_DONE, acc := .ro },
   { f := GAB_MARCH_STAT_STATUS, acc := .ro },
   { f := GAB_CE_CNT_COUNT, acc := .rc }] ++
  [{ f := GAB_UE_VALID, acc := .w1c },
   { f := GAB_UE_DATA, acc := .ro },
   { f := GAB_UE_OFFSET, acc := .ro },
   { f := GAB_PM_VALID, acc := .rwl },
   { f := GAB_PM_TARGET, acc := .rwl, rng := some (12288, 16383) },
   { f := GAB_PM_MATCH, acc := .rwl, rng := some (0, 12287) },
   { f := GAB_SDBG_IDX_ITEM, acc := .rw, rng := some (0, 17) },
   { f := GAB_SDBG_IDX_SPAR, acc := .ro },
   { f := GAB_SDBG_LO_DATA, acc := .ro },
   { f := GAB_SDBG_HI_DATA, acc := .ro }]

/-- Register rows of the IRQ page, R476. -/
def irqRows : List Row :=
  [{ f := IRQ_CLAIM_NUM, acc := .ro },
   { f := IRQ_FCLAIM_NUM, acc := .ro },
   { f := IRQ_COMPLETE_NUM, acc := .wo },
   { f := IRQ_LEVEL_LEVELS, acc := .rw, cold := [65535] },
   { f := IRQ_SET_NUM, acc := .wo, rng := some (1, 8) },
   { f := IRQ_XSET_GABLE, acc := .wo },
   { f := IRQ_XSET_NUM, acc := .wo, rng := some (1, 8) },
   { f := IRQ_HCOMPLETE_NUM, acc := .wo },
   { f := IRQ_PEND_PEND, acc := .ro },
   { f := IRQ_ACTIVE_ACTIVE, acc := .ro },
   { f := IRQ_SRC_STATE, acc := .ro, first := 1 },
   { f := IRQ_SRC_VEC, acc := .rwl, first := 1 },
   { f := IRQ_SRC_EN, acc := .rw, first := 1 },
   { f := IRQ_SRC_FUNC, acc := .rwl, cold := irqFuncDflt, first := 1 },
   { f := IRQ_SRC_CMODE, acc := .rwl, cold := irqCmodeDflt, first := 1 },
   { f := IRQ_SRC_LINE, acc := .rwl, first := 1 },
   { f := IRQ_SRC_TARGET, acc := .rwl, cold := irqTargetDflt, first := 1 },
   { f := IRQ_SRC_PRIO, acc := .rw, first := 1 },
   { f := IRQ_LOST_LOST, acc := .w1c, first := 1 },
   { f := IRQ_LOST_COUNT, acc := .ro, first := 1 }]

/-- Register rows of the BTXC page, R519. -/
def btxcRows : List Row :=
  [{ f := BTX_CFG_CAL_EN, acc := .rwl, cold := [1], warm := false },
   { f := BTX_CFG_NRING, acc := .rwl, cold := [1], warm := false, rng := some (1, 16) },
   { f := BTX_CFG_POS, acc := .rwl, warm := false },
   { f := BTX_STAT_LINK_UP, acc := .ro },
   { f := BTX_STAT_RING_OK, acc := .ro },
   { f := BTX_SFN_SFN, acc := .ro },
   { f := BTX_CRED_CRED, acc := .ro },
   { f := BTX_TX_CNT_COUNT, acc := .rc },
   { f := BTX_RX_CNT_COUNT, acc := .rc },
   { f := BTX_DISC_CNT_COUNT, acc := .rc },
   { f := BTX_DISC_LAST_VALID, acc := .w1c },
   { f := BTX_DISC_LAST_POST, acc := .ro },
   { f := BTX_DISC_LAST_WHY, acc := .ro },
   { f := BTX_DISC_TAG_TAG, acc := .ro },
   { f := BTX_RX_LAST_POST, acc := .ro },
   { f := BTX_TX_REFUSE_VALID, acc := .w1c },
   { f := BTX_TX_REFUSE_DESC, acc := .ro },
   { f := BTX_TX_REFUSE_CODE, acc := .ro },
   { f := BTX_MSG_DROP_COUNT, acc := .rc },
   { f := BTX_MSG_TXD_DATA, acc := .rw },
   { f := BTX_MSG_TXCTL_GO, acc := .wo },
   { f := BTX_MSG_TXCTL_DEST, acc := .wo },
   { f := BTX_MSG_TXSTAT_BUSY, acc := .ro },
   { f := BTX_MSG_RXD_DATA, acc := .ro }] ++
  [{ f := BTX_MSG_RXSTAT_SRC, acc := .ro },
   { f := BTX_MSG_RXSTAT_COUNT, acc := .ro },
   { f := BTX_MSG_RXPOP_POP, acc := .wo },
   { f := BTX_PST_TAG_TAG, acc := .rw },
   { f := BTX_PST_OBJ_VALID, acc := .rw },
   { f := BTX_PST_OBJ_HANDLE, acc := .rw },
   { f := BTX_PST_STAT_WHY, acc := .ro }]

/-- Register rows of the BTXT page, R520. -/
def btxtRows : List Row :=
  [{ f := BTX_TX_TRIM_MOD, acc := .rw, cold := [80], warm := false },
   { f := BTX_TX_TRIM_BIAS, acc := .rw, cold := [120], warm := false },
   { f := BTX_TX_MON_PWR, acc := .ro },
   { f := BTX_TX_STAT_STATE, acc := .ro },
   { f := BTX_TX_STAT_LOGICAL, acc := .ro }]

/-- Register rows of the BTXR page, R521. -/
def btxrRows : List Row :=
  [{ f := BTX_RX_TRIM_TINT, acc := .rw, cold := [32], warm := false },
   { f := BTX_RX_TRIM_OFFSET, acc := .rw, warm := false },
   { f := BTX_RX_TRIM_THRESH, acc := .rw, warm := false },
   { f := BTX_RX_STAT_LOCK, acc := .ro },
   { f := BTX_RX_STAT_STATE, acc := .ro },
   { f := BTX_RX_STAT_LOGICAL, acc := .ro },
   { f := BTX_RX_SKEW_PS, acc := .ro },
   { f := BTX_RX_CE_COUNT, acc := .rc },
   { f := BTX_RX_UE_COUNT, acc := .rc }]

/-- Register rows of the BTXL page, R522. -/
def btxlRows : List Row :=
  [{ f := BTX_CAL_CFG_MON_TGT, acc := .rwl, cold := [64], warm := false },
   { f := BTX_CAL_CFG_SKEW_MAX, acc := .rwl, cold := [40], warm := false, rng := some (1, 160) },
   { f := BTX_CAL_CFG_TRIES, acc := .rwl, cold := [3], warm := false, rng := some (1, 15) },
   { f := BTX_CAL_CFG_CE_MAX, acc := .rwl, cold := [64], warm := false },
   { f := BTX_CAL_STAT_PHASE, acc := .ro },
   { f := BTX_CAL_STAT_STEP, acc := .ro },
   { f := BTX_CAL_STAT_OUT, acc := .ro, cold := [15] },
   { f := BTX_CAL_STAT_TRY, acc := .ro },
   { f := BTX_CAL_STAT_CALSEQ, acc := .ro },
   { f := BTX_CAL_LAST_VALID, acc := .w1c },
   { f := BTX_CAL_LAST_ACCEPT, acc := .ro },
   { f := BTX_CAL_LAST_CE, acc := .ro },
   { f := BTX_CAL_LAST_SKEW, acc := .ro },
   { f := BTX_RETIRED_RX, acc := .ro, warm := false },
   { f := BTX_RETIRED_TX, acc := .ro, warm := false },
   { f := BTX_REJOIN_CNT_COUNT, acc := .rc },
   { f := BTX_REJECT_CNT_COUNT, acc := .rc }]

/-- Register rows of the FLS page, R551. -/
def flsRows : List Row :=
  [{ f := FLS_STAT_LOADED, acc := .ro, warm := false },
   { f := FLS_STAT_ARMED, acc := .ro },
   { f := FLS_REGION_STATE, acc := .ro, warm := false },
   { f := FLS_SEC_DBG, acc := .ro, warm := false },
   { f := FLS_SEC_CUST_EN, acc := .ro, warm := false },
   { f := FLS_SEC_OKEY, acc := .ro, warm := false },
   { f := FLS_SEC_VKEY, acc := .ro, warm := false },
   { f := FLS_SEC_D, acc := .ro, warm := false },
   { f := FLS_WEAK_CNT_COUNT, acc := .ro, warm := false },
   { f := FLS_RB_VALUE, acc := .ro, warm := false },
   { f := FLS_LOCK_PROG, acc := .w1s, warm := false },
   { f := FLS_LOCK_REGION, acc := .w1s, warm := false },
   { f := FLS_ARM_KEY, acc := .wo },
   { f := FLS_CMD_WORD, acc := .wo },
   { f := FLS_CMD_ARG, acc := .wo },
   { f := FLS_CMD_OP, acc := .wo },
   { f := FLS_DATA_DATA, acc := .rw },
   { f := FLS_RDATA_DATA, acc := .ro },
   { f := FLS_CMD_STAT_BUSY, acc := .ro },
   { f := FLS_CMD_STAT_STATUS, acc := .ro },
   { f := FLS_PULSE_CNT_COUNT, acc := .rc },
   { f := FLS_VHASH_HASH, acc := .ro, warm := false },
   { f := FLS_OHASH_HASH, acc := .ro, warm := false }]

/-- Register rows of the SFC page, R555. -/
def sfcRows : List Row :=
  [{ f := SFC_CFG_DIV, acc := .rwl, cold := [3], rng := some (1, 7) },
   { f := SFC_WP_WP, acc := .rwl },
   { f := SFC_ADDR_ADDR, acc := .rw },
   { f := SFC_LEN_LEN, acc := .rw, rng := some (1, 256) },
   { f := SFC_CMD_OP, acc := .wo },
   { f := SFC_STAT_BUSY, acc := .ro },
   { f := SFC_STAT_STATUS, acc := .ro },
   { f := SFC_FAIL_CNT_COUNT, acc := .rc },
   { f := SFC_BUF_DATA, acc := .rw }]

/-- Register rows of the DMR page, R596. -/
def dmrRows : List Row :=
  [{ f := DMR_STAT_COMMIT_PEND, acc := .ro, warm := false },
   { f := DMR_STAT_TIME_VALID, acc := .ro, warm := false },
   { f := DMR_STAT_OSC_RC, acc := .ro, warm := false },
   { f := DMR_STAT_OSC_FAULT, acc := .ro, warm := false },
   { f := DMR_STAT_SUPPLY, acc := .ro, warm := false },
   { f := DMR_SNAP_TIME_VALID, acc := .ro, warm := false },
   { f := DMR_SNAP_SUB, acc := .ro, warm := false },
   { f := DMR_SEC_LO_SEC, acc := .ro, warm := false },
   { f := DMR_SEC_HI_SEC, acc := .ro, warm := false },
   { f := DMR_SUB_SUB, acc := .ro, warm := false },
   { f := DMR_DATE_YEAR, acc := .ro, cold := [8192], warm := false },
   { f := DMR_DATE_VALID, acc := .ro, cold := [1], warm := false },
   { f := DMR_DATE_MONTH, acc := .ro, cold := [1], warm := false },
   { f := DMR_DATE_DAY, acc := .ro, cold := [1], warm := false },
   { f := DMR_TIME_WDAY, acc := .ro, cold := [6], warm := false },
   { f := DMR_TIME_HOUR, acc := .ro, warm := false },
   { f := DMR_TIME_MIN, acc := .ro, warm := false },
   { f := DMR_TIME_SEC, acc := .ro, warm := false },
   { f := DMR_SET_LO_SEC, acc := .rw, warm := false },
   { f := DMR_SET_HI_SEC, acc := .rw, warm := false },
   { f := DMR_COMMIT_GO, acc := .wo },
   { f := DMR_ALM_LO_ALM, acc := .rw, warm := false },
   { f := DMR_ALM_HI_ALM, acc := .rw, warm := false },
   { f := DMR_ALM_PER_PER, acc := .rw, warm := false }] ++
  [{ f := DMR_ALM_CTL_MISSED, acc := .w1c, warm := false },
   { f := DMR_ALM_CTL_FIRED, acc := .w1c, warm := false },
   { f := DMR_ALM_CTL_WAKE, acc := .rwl, warm := false },
   { f := DMR_ALM_CTL_EN, acc := .rw, warm := false },
   { f := DMR_CELL_STATE, acc := .ro, cold := [2], warm := false },
   { f := DMR_CELL_MV, acc := .ro, warm := false },
   { f := DMR_LOG_STAT_OVF, acc := .ro, warm := false },
   { f := DMR_LOG_STAT_COUNT, acc := .ro, warm := false },
   { f := DMR_LOG_STAT_HEAD, acc := .ro, warm := false },
   { f := DMR_LOG_CLR_CLR, acc := .wo },
   { f := DMR_LOG_A_SEC, acc := .ro, warm := false },
   { f := DMR_LOG_B_VALID, acc := .ro, warm := false },
   { f := DMR_LOG_B_DETAIL, acc := .ro, warm := false },
   { f := DMR_LOG_B_CODE, acc := .ro, warm := false },
   { f := DMR_LOG_B_SEC, acc := .ro, warm := false },
   { f := DMR_SCRATCH_DATA, acc := .rw, warm := false }]

/-- Register rows of the PWR page, R626. -/
def pwrRows : List Row :=
  [{ f := PWR_STAT_WAIT_ADV, acc := .ro, warm := false },
   { f := PWR_STAT_OFF_PEND, acc := .ro, warm := false },
   { f := PWR_STAT_ON_PEND, acc := .ro, warm := false },
   { f := PWR_STAT_FORCED, acc := .ro, warm := false },
   { f := PWR_STAT_HBM_OFF, acc := .ro, warm := false },
   { f := PWR_STAT_IN_OK, acc := .ro, warm := false },
   { f := PWR_STAT_TGT, acc := .ro, warm := false },
   { f := PWR_REQ_GO, acc := .wo },
   { f := PWR_REQ_FORCE, acc := .wo },
   { f := PWR_REQ_TGT, acc := .wo },
   { f := PWR_REQ_KIND, acc := .wo },
   { f := PWR_ADV_GO, acc := .wo },
   { f := PWR_ADV_DIR, acc := .wo },
   { f := PWR_ADV_STEP, acc := .wo },
   { f := PWR_TMO_MS, acc := .rwl, cold := [2000], warm := false, rng := some (1, 65535) },
   { f := PWR_RST_PREV_STEP, acc := .ro, warm := false },
   { f := PWR_RST_PREV_STATE, acc := .ro, warm := false },
   { f := PWR_RST_CAUSE, acc := .ro, cold := [1], warm := false },
   { f := PWR_WAKE_VALID, acc := .w1c, warm := false },
   { f := PWR_WAKE_SRC, acc := .ro, warm := false },
   { f := PWR_IN_MV, acc := .ro, warm := false },
   { f := PWR_IN_MA, acc := .ro, warm := false },
   { f := PWR_E_LO_UJ, acc := .ro, warm := false },
   { f := PWR_E_HI_UJ, acc := .ro, warm := false }] ++
  [{ f := PWR_ECRS_VALID, acc := .ro, warm := false },
   { f := PWR_ECRS_UJ, acc := .ro, warm := false },
   { f := PWR_PMB_CMD_GO, acc := .wo },
   { f := PWR_PMB_CMD_RD, acc := .wo },
   { f := PWR_PMB_CMD_R, acc := .wo },
   { f := PWR_PMB_CMD_LEN, acc := .wo },
   { f := PWR_PMB_CMD_CODE, acc := .wo },
   { f := PWR_PMB_DATA_DATA, acc := .rw, warm := false },
   { f := PWR_PMB_STAT_BUSY, acc := .ro, warm := false },
   { f := PWR_PMB_STAT_STATUS, acc := .ro, warm := false },
   { f := PWR_VR_PG, acc := .ro, warm := false },
   { f := PWR_VR_FAULT, acc := .ro, warm := false },
   { f := PWR_VR_ADDR, acc := .rwl, cold := [0x40,0x41,0x42,0x43,0x44,0x45,0x46], warm := false },
   { f := PWR_VR_SW, acc := .ro, warm := false },
   { f := PWR_POLL_MS, acc := .rwl, cold := [10], warm := false, rng := some (1, 1000) }]

/-- Register rows of the SNS page, R629. -/
def snsRows : List Row :=
  [{ f := SNS_BAT_VALID, acc := .ro },
   { f := SNS_BAT_TEMP, acc := .ro },
   { f := SNS_VR_VALID, acc := .ro },
   { f := SNS_VR_TEMP, acc := .ro },
   { f := SNS_INPUT_VALID, acc := .ro },
   { f := SNS_INPUT_TEMP, acc := .ro },
   { f := SNS_OPT_VALID, acc := .ro },
   { f := SNS_OPT_TEMP, acc := .ro },
   { f := SNS_CFG_TRIP, acc := .rwl, cold := [115], warm := false, rng := some (90, 125) },
   { f := SNS_CFG_WARN, acc := .rw, cold := [100], warm := false, rng := some (40, 125) },
   { f := SNS_TRIP_REC_VALID, acc := .w1c, warm := false },
   { f := SNS_TRIP_REC_BATTEN, acc := .ro, warm := false },
   { f := SNS_OFF_OFF, acc := .rw, warm := false }]

/-- Register rows of the FSC page, R653, R666. -/
def fscRows : List Row :=
  [{ f := FSC_CONN_J7_SESSION, acc := .ro },
   { f := FSC_CONN_J3_MAP, acc := .ro },
   { f := FSC_CONN_J3_PLUG, acc := .ro },
   { f := FSC_CONN_J3_MOD, acc := .ro },
   { f := FSC_CONN_J5, acc := .ro, cold := [1] },
   { f := FSC_CONN_J4_OUT, acc := .ro, cold := [3] },
   { f := FSC_CONN_J4_INV, acc := .ro },
   { f := FSC_CONN_J4_IN, acc := .ro, cold := [1] },
   { f := FSC_CONN_CFG_AUTO_INV, acc := .rwl, cold := [1], warm := false },
   { f := FSC_J5_ID_ID_B, acc := .ro, cold := [4095] },
   { f := FSC_J5_ID_ID_A, acc := .ro, cold := [4095] },
   { f := FSC_J4_INV_CNT_COUNT, acc := .rc },
   { f := FSC_J7_LEVEL, acc := .ro, warm := false },
   { f := FSC_CFG_TEST_S, acc := .rwl, cold := [10], rng := some (1, 255) },
   { f := FSC_CFG_GAMMA_OFF, acc := .rw },
   { f := FSC_CFG_AUTO, acc := .rw, cold := [1] },
   { f := FSC_S_CUR_CUR, acc := .rwl, cold := [20], rng := some (4, 48) },
   { f := FSC_L_CUR_CUR, acc := .rwl, cold := [16], rng := some (4, 48) },
   { f := FSC_S_SRC, acc := .rw },
   { f := FSC_S_LEVEL, acc := .rw },
   { f := FSC_L_SRC, acc := .rw, cold := [3] },
   { f := FSC_L_LEVEL, acc := .rw },
   { f := FSC_PE_CTL_STEP, acc := .rw, cold := [100], rng := some (1, 255) },
   { f := FSC_PE_CTL_DIR, acc := .rw }] ++
  [{ f := FSC_PE_CTL_MODE, acc := .rw },
   { f := FSC_PE_LVL_INC, acc := .rw, cold := [8], rng := some (1, 255) },
   { f := FSC_PE_LVL_HI, acc := .rw, cold := [255] },
   { f := FSC_PE_LVL_LO, acc := .rw },
   { f := FSC_PE_MASK_MASK, acc := .rw, cold := [0xFF,0xFF,0x0F,0x0F] },
   { f := FSC_PE_POS_LEVEL, acc := .ro },
   { f := FSC_PE_POS_P, acc := .ro },
   { f := FSC_FAULT_LOC_DEAD, acc := .ro, warm := false },
   { f := FSC_FAULT_NSHORT_L, acc := .ro, warm := false },
   { f := FSC_FAULT_NSHORT_S, acc := .ro, warm := false },
   { f := FSC_FAULT_LOC, acc := .ro, warm := false },
   { f := FSC_FAULT_STAT, acc := .ro, warm := false },
   { f := FSC_BYP_LATCH, acc := .ro, warm := false },
   { f := FSC_TEST_GO, acc := .wo },
   { f := FSC_TEST_STAT_RUN, acc := .ro },
   { f := FSC_TEST_STAT_COUNT, acc := .rc },
   { f := FSC_REG_L_OUT, acc := .ro },
   { f := FSC_REG_S_OUT, acc := .ro }]

/-- Register rows of the EAV page, R690, R683. -/
def eavRows : List Row :=
  [{ f := EAV_LINK_UP, acc := .ro },
   { f := EAV_LINK_WIDTH, acc := .ro },
   { f := EAV_LINK_GEN, acc := .ro },
   { f := EAV_LINK_FLIT, acc := .ro },
   { f := EAV_WRST_KEY, acc := .wo },
   { f := EAV_BIND_GO, acc := .wo },
   { f := EAV_BIND_OP, acc := .wo },
   { f := EAV_BIND_FUNC, acc := .wo },
   { f := EAV_BIND_DOMAIN, acc := .wo },
   { f := EAV_BIND_STAT_BUSY, acc := .ro },
   { f := EAV_BIND_STAT_STATUS, acc := .ro },
   { f := EAV_SUB_HANDLE_HANDLE, acc := .rw },
   { f := EAV_SUB_GO, acc := .wo },
   { f := EAV_SUB_FUNC, acc := .wo },
   { f := EAV_SUB_STAT_BUSY, acc := .ro },
   { f := EAV_SUB_STAT_STATUS, acc := .ro },
   { f := EAV_SUB_ID_ID, acc := .ro },
   { f := EAV_MB_PEND_PEND, acc := .ro },
   { f := EAV_WIN_VALID, acc := .rw },
   { f := EAV_WIN_HANDLE, acc := .rw },
   { f := EAV_MB_REQ_DATA, acc := .ro },
   { f := EAV_MB_CODE_CODE, acc := .ro },
   { f := EAV_MB_RSP_DATA, acc := .rw },
   { f := EAV_MB_DONE_GO, acc := .wo }] ++
  [{ f := EAV_MB_DONE_STATUS, acc := .wo },
   { f := EAV_MSIX_ADDR_LO, acc := .rw },
   { f := EAV_MSIX_ADDR_HI, acc := .rw },
   { f := EAV_MSIX_DATA, acc := .rw },
   { f := EAV_MSIX_MASK, acc := .rw, cold := [1] },
   { f := EAV_MSIX_PBA, acc := .ro }]

/-- Register rows of the GUT page, R691. -/
def gutRows : List Row :=
  [{ f := GUT_CFG_PAGER_SHARE, acc := .rwl, cold := [8], warm := false, rng := some (0, 16) },
   { f := GUT_PCQ_BASE_LO_BASE, acc := .rw },
   { f := GUT_PCQ_BASE_HI_BASE, acc := .rw },
   { f := GUT_PCQ_CFG_EN, acc := .rw },
   { f := GUT_PCQ_CFG_LOG2, acc := .rw, cold := [4], rng := some (4, 12) },
   { f := GUT_PCQ_TAIL_TAIL, acc := .ro },
   { f := GUT_PCQ_HEAD_HEAD, acc := .rw },
   { f := GUT_PCQ_LOST_COUNT, acc := .rc },
   { f := GUT_PAGER_BUSY, acc := .ro },
   { f := GUT_CH_BASE_LO_BASE, acc := .rw },
   { f := GUT_CH_BASE_HI_BASE, acc := .rw },
   { f := GUT_CH_CFG_EN, acc := .rw },
   { f := GUT_CH_CFG_FUNC, acc := .rw, rng := some (0, 8) },
   { f := GUT_CH_CFG_LOG2, acc := .rw, cold := [4], rng := some (4, 12) },
   { f := GUT_CH_TAIL_TAIL, acc := .rw },
   { f := GUT_CH_HEAD_HEAD, acc := .ro },
   { f := GUT_CH_ERR_VALID, acc := .w1c },
   { f := GUT_CH_ERR_INDEX, acc := .ro },
   { f := GUT_CH_ERR_STATUS, acc := .ro }]

/-- Register rows of the VDB page, R692. -/
def vdbRows : List Row :=
  [{ f := VDB_CQ_BASE_LO_BASE, acc := .rw },
   { f := VDB_CQ_BASE_HI_BASE, acc := .rw },
   { f := VDB_CQ_CFG_EN, acc := .rw },
   { f := VDB_CQ_CFG_LOG2, acc := .rw, cold := [4], rng := some (4, 12) },
   { f := VDB_CQ_TAIL_TAIL, acc := .ro },
   { f := VDB_CQ_HEAD_HEAD, acc := .rw },
   { f := VDB_CQ_LOST_COUNT, acc := .rc },
   { f := VDB_G_TAIL_TAIL, acc := .rw },
   { f := VDB_G_HEAD_HEAD, acc := .ro }]

/-- Register rows of the GLB page, R107. -/
def glbRows : List Row :=
  [{ f := GLB_ID_PART, acc := .ro, cold := [1088], warm := false },
   { f := GLB_MAP_VER, acc := .ro, cold := [1], warm := false },
   { f := GLB_SERIAL_LO_SERIAL, acc := .ro, warm := false },
   { f := GLB_SERIAL_HI_SERIAL, acc := .ro, warm := false },
   { f := GLB_STATE_FAILED, acc := .ro, warm := false },
   { f := GLB_STATE_STEP, acc := .ro },
   { f := GLB_STATE_STATE, acc := .ro, cold := [5] },
   { f := GLB_FAIL_DIR, acc := .ro, warm := false },
   { f := GLB_FAIL_BATTEN, acc := .ro, warm := false },
   { f := GLB_FAIL_STACKS, acc := .ro, warm := false },
   { f := GLB_FAIL_HBM_TEMP, acc := .ro, warm := false },
   { f := GLB_FAIL_LANES, acc := .ro, warm := false },
   { f := GLB_FAIL_BATTEN_LOST, acc := .ro, warm := false },
   { f := GLB_FAIL_STACK_LOST, acc := .ro, warm := false },
   { f := GLB_SCRATCH_DATA, acc := .rw, warm := false }]

/-- Register rows of the VFC page, R105. -/
def vfcRows : List Row :=
  [{ f := VF_NUM_NUM, acc := .ro, warm := false },
   { f := VF_DOMAIN_LO_D, acc := .ro },
   { f := VF_DOMAIN_HI_D, acc := .ro }]

/-- Register rows of the VMB page, R693, R683. -/
def vmbRows : List Row :=
  [{ f := VMB_REQ_DATA, acc := .rw },
   { f := VMB_DOOR_CODE, acc := .wo },
   { f := VMB_STAT_BUSY, acc := .ro },
   { f := VMB_STAT_STATUS, acc := .ro },
   { f := VMB_RSP_DATA, acc := .ro },
   { f := VMB_MSIX_ADDR_LO, acc := .rw },
   { f := VMB_MSIX_ADDR_HI, acc := .rw },
   { f := VMB_MSIX_DATA, acc := .rw },
   { f := VMB_MSIX_MASK, acc := .rw, cold := [1] },
   { f := VMB_MSIX_PBA, acc := .ro }]

end Sys2Proof.Machine
end

