-- ==== Sys2Proof/Machine/Pages.lean ====
section
/-! DEFINITION. The address map (R99, R104): which page a byte offset belongs to, its writers, its capabilities and its assigned event bits. Keys of the register store are PF BAR0 byte offsets; the pages of VF v lie at 0x8000000 + v * 0x10000, and the private interrupt bank of gable g (R462) at 0x9000000 + g * 0x1000. -/

namespace Sys2Proof.Machine

/-- The kinds of page of R99 and R104, and the private interrupt banks of R462. -/
inductive PgKind where
  | glb | pwr | sns | dmr | fsc | fls | sfc | irq | eav | gut | crs | pur | pue | gab
  | hbm | phy | ylm | spr | stk | rdg | lig | btxc | btxt | btxr | btxl
  | btn | bst | slt | vfc | vdb | vmb | irqb
deriving DecidableEq, Repr

abbrev pgGLB : Nat := 0x0
abbrev pgPWR : Nat := 0x1000
abbrev pgSNS : Nat := 0x2000
abbrev pgDMR : Nat := 0x3000
abbrev pgFSC : Nat := 0x4000
abbrev pgFLS : Nat := 0x5000
abbrev pgSFC : Nat := 0x6000
abbrev pgIRQ : Nat := 0x7000
abbrev pgEAV : Nat := 0x8000
abbrev pgGUT : Nat := 0x9000
abbrev pgCRS : Nat := 0xA000
abbrev pgPUR : Nat := 0xB000
abbrev pgPUE : Nat := 0xC000
abbrev pgRDG : Nat := 0x40000
abbrev pgBTXC : Nat := 0x51000
abbrev pgBTXT : Nat := 0x52000
abbrev pgBTXR : Nat := 0x53000
abbrev pgBTXL : Nat := 0x54000
/-- The pages of a unit that comes in several; the low bits of its number choose. -/
def pgGAB (g : Nat) : Nat := 0xD000 + 0x1000 * (g % 2)
def pgHBM (n : Nat) : Nat := 0x10000 + 0x1000 * (n % 4)
def pgPHY (n : Nat) : Nat := 0x14000 + 0x1000 * (n % 4)
def pgYLM (n : Nat) : Nat := 0x20000 + 0x4000 * (n % 4)
def pgSTK (n : Nat) : Nat := 0x30000 + 0x4000 * (n % 4)
def pgLIG (m : Nat) : Nat := 0x41000 + 0x1000 * (m % 16)
def pgBTN (n : Nat) : Nat := 0x100000 + 0x4000 * n
def pgBST (n : Nat) : Nat := 0x102000 + 0x4000 * n
def pgSLT (n : Nat) : Nat := 0x103000 + 0x4000 * n
/-- R99: battens 0-63, yealms 64-67, stooks 68-71. -/
def pgSPR (i : Nat) : Nat :=
  if i < 64 then 0x101000 + 0x4000 * i
  else if i < 68 then 0x21000 + 0x4000 * (i - 64) else 0x31000 + 0x4000 * ((i - 68) % 4)
/-- BAR0 of VF v, R104. -/
def vfBar (v : Nat) : Nat := 0x8000000 + 0x10000 * v
def pgVFC (v : Nat) : Nat := vfBar v
def pgVDB (v : Nat) : Nat := vfBar v + 0x1000
def pgVMB (v : Nat) : Nat := vfBar v + 0x2000
/-- The private interrupt bank of gable g, R462. [DESIGN CHOICE, assumption log 8] -/
def pgIRQB (g : Nat) : Nat := 0x9000000 + 0x1000 * g

/-- R99 and R104: the kind and instance of the page that holds a byte offset; `none` for a reserved range. [DESIGN CHOICE, assumption log 8] -/
def pageOf (key : Nat) : Option (PgKind × Nat) :=
  let p := key / 0x1000
  if p < 0xF then
    match p with
    | 0 => some (.glb, 0) | 1 => some (.pwr, 0) | 2 => some (.sns, 0) | 3 => some (.dmr, 0)
    | 4 => some (.fsc, 0) | 5 => some (.fls, 0) | 6 => some (.sfc, 0) | 7 => some (.irq, 0)
    | 8 => some (.eav, 0) | 9 => some (.gut, 0) | 10 => some (.crs, 0) | 11 => some (.pur, 0)
    | 12 => some (.pue, 0) | 13 => some (.gab, 0) | _ => some (.gab, 1)
  else if p < 0x10 then none
  else if p < 0x14 then some (.hbm, p - 0x10)
  else if p < 0x18 then some (.phy, p - 0x14)
  else if p < 0x20 then none
  else if p < 0x30 then
    match (p - 0x20) % 4 with
    | 0 => some (.ylm, (p - 0x20) / 4) | 1 => some (.spr, 64 + (p - 0x20) / 4) | _ => none
  else if p < 0x40 then
    match (p - 0x30) % 4 with
    | 0 => some (.stk, (p - 0x30) / 4) | 1 => some (.spr, 68 + (p - 0x30) / 4) | _ => none
  else if p < 0x41 then some (.rdg, 0)
  else if p < 0x51 then some (.lig, p - 0x41)
  else if p < 0x52 then some (.btxc, 0)
  else if p < 0x53 then some (.btxt, 0)
  else if p < 0x54 then some (.btxr, 0)
  else if p < 0x55 then some (.btxl, 0)
  else if p < 0x100 then none
  else if p < 0x200 then
    match (p - 0x100) % 4 with
    | 0 => some (.btn, (p - 0x100) / 4) | 1 => some (.spr, (p - 0x100) / 4)
    | 2 => some (.bst, (p - 0x100) / 4) | _ => some (.slt, (p - 0x100) / 4)
  else if p < 0x8010 then none
  else if p < 0x8090 then
    match p % 0x10 with
    | 0 => some (.vfc, p / 0x10 - 0x800) | 1 => some (.vdb, p / 0x10 - 0x800)
    | 2 => some (.vmb, p / 0x10 - 0x800) | _ => none
  else if p = 0x9000 then some (.irqb, 0)
  else if p = 0x9001 then some (.irqb, 1)
  else none

/-- Block type codes, R99 and R104. -/
def PgKind.type : PgKind → Nat
  | .glb => 0x1 | .pwr => 0x2 | .sns => 0x3 | .dmr => 0x4 | .fsc => 0x5 | .fls => 0x6 | .sfc => 0x7
  | .irq => 0x8 | .eav => 0x9 | .gut => 0xA | .crs => 0xB | .pur => 0xC | .pue => 0xD | .gab => 0xE
  | .hbm => 0x10 | .phy => 0x11 | .ylm => 0x12 | .stk => 0x13 | .rdg => 0x14 | .lig => 0x15
  | .btxc => 0x16 | .btxt => 0x17 | .btxr => 0x18 | .btxl => 0x19 | .btn => 0x20 | .spr => 0x21
  | .bst => 0x22 | .slt => 0x23 | .vfc => 0x30 | .vdb => 0x31 | .vmb => 0x32 | .irqb => 0x8

/-- The event bits each chapter assigns (R62, R107, R144, R167, R208, R239, R292, R319, R344, R346, R376, R378, R416, R457, R475, R518, R550, R555, R595, R625, R628, R652, R665, R690 to R693); all others are reserved (R81). GAB1 alone has WDOG_RESET. -/
def evtMask : PgKind → Nat → Nat
  | .crs, _ => 0x7FF | .glb, _ => 0x1 | .pur, _ => 0xFF | .pue, _ => 0xFF | .bst, _ => 0x1FF
  | .slt, _ => 0x1F | .ylm, _ => 0xF | .stk, _ => 0x1F | .rdg, _ => 0xF | .lig, _ => 0x3
  | .hbm, _ => 0x3FF | .phy, _ => 0x7 | .spr, _ => 0x1F
  | .gab, g => if g = 0 then 0x1F7 else 0x1FF
  | .irq, _ => 0x3 | .btxc, _ => 0xFF | .btxt, _ => 0x3 | .btxr, _ => 0x7 | .btxl, _ => 0x1F
  | .fls, _ => 0xF | .sfc, _ => 0x3 | .dmr, _ => 0x3FF | .pwr, _ => 0x1FF | .sns, _ => 0x7
  | .fsc, _ => 0xFF007F | .eav, _ => 0x7 | .gut, _ => 0xF
  | .vdb, _ => 0xF | .vmb, _ => 0x1 | .btn, _ => 0 | .vfc, _ => 0 | .irqb, _ => 0

/-- PG_CAP bits, stated with each page: (LOCKABLE, EVENTS, FREEZE, SRST, ENABLE). The CRS page has all five (R61, R64). -/
def pgCaps : PgKind → Bool × Bool × Bool × Bool × Bool
  | .crs => (true, true, true, true, true)
  | .pur => (true, true, true, true, true)
  | .pue => (true, true, false, true, true)
  | .glb => (false, true, false, false, false)
  | .btn => (false, false, false, false, false)
  | .slt => (false, true, false, false, false)
  | .ylm => (true, true, false, true, true)
  | .stk => (false, true, false, true, true)
  | .lig => (false, true, false, false, false)
  | .hbm => (true, true, false, false, true)
  | .btxc => (true, true, false, true, true)
  | .fsc => (true, true, true, false, true)
  | .eav => (true, true, false, false, true)
  | .gut => (true, true, false, false, true)
  | .vfc => (false, false, false, false, false)
  | .vdb => (false, true, false, false, false)
  | .vmb => (false, true, false, false, false)
  | .irqb => (false, false, false, false, false)
  | .pwr | .sns | .dmr | .fls | .sfc | .irq | .gab | .phy | .spr | .rdg | .btxt | .btxr | .btxl | .bst =>
      (true, true, false, false, false)

def PgKind.lockable (k : PgKind) : Bool := (pgCaps k).1
def PgKind.events (k : PgKind) : Bool := (pgCaps k).2.1
def PgKind.freezes (k : PgKind) : Bool := (pgCaps k).2.2.1
def PgKind.srsts (k : PgKind) : Bool := (pgCaps k).2.2.2.1
def PgKind.enables (k : PgKind) : Bool := (pgCaps k).2.2.2.2

/-- The register rows of a page. -/
def rowsOf : PgKind → Nat → List Row
  | .glb, _ => glbRows | .pwr, _ => pwrRows | .sns, _ => snsRows | .dmr, _ => dmrRows
  | .fsc, _ => fscRows | .fls, _ => flsRows | .sfc, _ => sfcRows | .irq, _ => irqRows
  | .eav, _ => eavRows | .gut, _ => gutRows | .crs, _ => crsRows | .pur, _ => purRows
  | .pue, _ => pueRows | .gab, g => gabRows g | .hbm, _ => hbmRows | .phy, _ => phyRows
  | .ylm, _ => ylmRows | .spr, _ => sprRows | .stk, _ => stkRows | .rdg, _ => rdgRows
  | .lig, _ => ligRows | .btxc, _ => btxcRows | .btxt, _ => btxtRows | .btxr, _ => btxrRows
  | .btxl, _ => btxlRows | .btn, _ => btnRows | .bst, _ => bstRows | .slt, _ => sltRows
  | .vfc, _ => vfcRows | .vdb, _ => vdbRows | .vmb, _ => vmbRows | .irqb, _ => irqRows

/-- Writers of R99: host, gable 0, gable 1. VF pages have their VF as only writer (R104). -/
def pgWriters : PgKind → Nat → Bool × Bool × Bool
  | .glb, _ => (true, true, true) | .pwr, _ => (false, true, false) | .sns, _ => (false, true, false)
  | .dmr, _ => (true, true, false) | .fsc, _ => (true, true, false) | .fls, _ => (false, true, false)
  | .sfc, _ => (false, true, false) | .irq, _ => (true, true, true) | .eav, _ => (true, true, true)
  | .gut, _ => (true, false, true) | .crs, _ => (true, true, true) | .pur, _ => (true, true, true)
  | .pue, _ => (true, true, true) | .gab, g => (false, true, g == 1) | .hbm, _ => (false, true, false)
  | .phy, _ => (false, true, false) | .ylm, _ => (false, true, true) | .spr, _ => (false, true, true)
  | .stk, _ => (false, true, true) | .rdg, _ => (false, true, true) | .lig, _ => (false, true, true)
  | .btxc, _ => (false, true, true) | .btxt, _ => (false, true, false) | .btxr, _ => (false, true, false)
  | .btxl, _ => (false, true, false) | .btn, _ => (false, true, true) | .bst, _ => (false, true, true)
  | .slt, _ => (false, true, true) | .vfc, _ => (false, false, false) | .vdb, _ => (false, false, false)
  | .vmb, _ => (false, false, false) | .irqb, _ => (false, true, true)

/-- Aux-domain pages (R597), which answer while the core rails are off (R598), by kind. -/
def PgKind.aux : PgKind → Bool
  | .glb | .pwr | .sns | .dmr | .fsc | .fls | .sfc | .irq | .irqb | .gab => true
  | _ => false

/-- The byte offset of the register that holds instance `i` of a field. -/
def Fld.addr (f : Fld) (i : Nat) : Nat :=
  f.off + f.s2 * (i / (f.nb * f.n1) % f.n2) + f.s1 * (i / f.nb % f.n1)

/-- The lowest bit of instance `i` of a field within its register. -/
def Fld.sh (f : Fld) (i : Nat) : Nat := f.lo + f.sb * (i % f.nb)

/-- The width of a field in bits. -/
def Fld.width (f : Fld) : Nat := f.hi - f.lo + 1

/-- The number of instances of a field. -/
def Fld.count (f : Fld) : Nat := f.nb * f.n1 * f.n2

/-- The instances of a field that lie in the register at a page offset, in ascending order. -/
def Fld.instsAt (f : Fld) (off : Nat) : List Nat :=
  if off < f.off then [] else
  let d := off - f.off
  let o := if f.s2 = 0 then 0 else d / f.s2
  let d' := if f.s2 = 0 then d else d % f.s2
  let r := if f.s1 = 0 then 0 else d' / f.s1
  let e := if f.s1 = 0 then d' else d' % f.s1
  if e = 0 ∧ o < f.n2 ∧ r < f.n1 then
    (List.range f.nb).map fun b => (o * f.n1 + r) * f.nb + b
  else []

/-- The field instances of a row in the register at a page offset, less those below the first that exists. -/
def Row.at (r : Row) (off : Nat) : List Nat := (r.f.instsAt off).filter (fun i => r.first ≤ i)

/-- Read bits [sh + w - 1 : sh] of a word. -/
def fieldGet (x : Word32) (sh w : Nat) : Nat := x.toNat / 2 ^ sh % 2 ^ w

/-- Write bits [sh + w - 1 : sh] of a word, keeping the others. -/
def fieldSet (x : Word32) (sh w v : Nat) : Word32 :=
  BitVec.ofNat 32 (x.toNat % 2 ^ sh + v % 2 ^ w * 2 ^ sh + x.toNat / 2 ^ (sh + w) * 2 ^ (sh + w))

/-- The Cold value of instance `i` of a row. -/
def Row.coldAt (r : Row) (i : Nat) : Nat := r.cold.getD i (r.cold.getLast?.getD 0)

/-- What an unlisted register of the store reads as: the Cold column of its rows. Header fields are 0 except that PG_EVT_RAW of DMR is 0x100 at a dormer reset (R595). [DESIGN CHOICE, assumption log 2] -/
def regDefault (key : Nat) : Word32 :=
  match pageOf key with
  | none => 0
  | some (k, inst) =>
    let off := key % 0x1000
    if off < 0x40 then
      if k = .dmr ∧ off = 0x10 then 0x100 else 0
    else
      (rowsOf k inst).foldl (fun acc r => if r.cold.all (· == 0) then acc else
        (r.at off).foldl (fun a i => fieldSet a (r.f.sh i) r.f.width (r.coldAt i)) acc) 0

end Sys2Proof.Machine
end

