-- ==== Sys2Proof/Machine/State.lean ====
section
/-! DEFINITION. The state of the tray: plain data. Registers of the register pages are one sparse store; each block's further state has a structure of its own. -/

namespace Sys2Proof.Machine

/-- What the tray sends to the outside. [DESIGN CHOICE, assumption log 100] -/
inductive Output where
  /-- the value a read returned to its sender -/
  | data (src : Src) (v : Nat)
  /-- bytes that a read of memory returned, and the poisoned (EP) bit -/
  | bytes (src : Src) (bs : List Byte) (ep : Bool)
  /-- a request completed with Completer Abort (R95, R615, R689) -/
  | abort (src : Src)
  /-- a configuration request completed with retry status (R574) -/
  | crs
  /-- an MSI-X message (R471) -/
  | msix (fn vec addr data : Nat)
  /-- a sync mark on J4 sync out (R32) -/
  | mark (w : BitVec 48)
  /-- bits shifted out of the test access port (R648) -/
  | scan (bits : List Bool)
  /-- a coded frame on a physical lane of the east segment (R481) -/
  | frame (lane : Nat) (bs : List Byte)
deriving DecidableEq, Repr

/-! ## Interrupt controller -/

/-- The target and completion mode under which an ACTIVE source is served (R473). -/
structure IrqServe where
  target : Nat := 0
  cmode : Nat := 0
deriving DecidableEq, Repr

/-- Interrupt controller state beyond its registers. -/
structure IrqSt where
  /-- shared sources: the former target and mode of an ACTIVE source -/
  serve : SMap IrqServe := []
  /-- last source returned by a claim, at key (2 * gable + line) * 16 + PRIO (R466) -/
  rot : SMap Nat := []
deriving DecidableEq, Repr

/-! ## Plans -/

/-- An object-list entry (R127). -/
structure ObjUse where
  handle : Nat
  use : Nat
deriving DecidableEq, Repr

/-- A standing grant that a plan names (R672). -/
structure GrantRef where
  num : Nat
  batten : Nat
  len : Nat
deriving DecidableEq, Repr

/-- A batten-table entry (R673). -/
structure BatEnt where
  demand : Nat := 0
  stints : Bool := false
  stlist : Nat := 0
  nst : Nat := 0
  slOff : Nat := 0
  owner : List Nat := []
deriving DecidableEq, Repr

/-- An engine-table entry (R674). -/
structure EngEnt where
  present : Bool := false
  paired : Bool := false
  row : Nat := 0
  count : Nat := 0
  descOff : Nat := 0
deriving DecidableEq, Repr

/-- A queued plan: its header and tables (R672 to R674), who submitted it, and what Purlin and the governor keep with it. -/
structure Plan where
  fn : Nat := 0
  img : Nat := 0
  /-- queue sequence number (R153) -/
  seq : Nat := 0
  id : Nat := 0
  domain : Nat := 0
  c0 : Nat := 0
  c2 : Nat := 0
  minOp : Nat := 0
  refClass : Nat := 0
  retry : Nat := 0
  prio : Nat := 0
  energy : Nat := 0
  postbw : Bool := false
  heat : List Nat := []
  sealedBlk : List Byte := []
  objs : List ObjUse := []
  nlink : Nat := 0
  linkOff : Nat := 0
  grants : List GrantRef := []
  bats : List BatEnt := []
  engs : List EngEnt := []
  /-- overruns in succession (R56) -/
  ovr : Nat := 0
  /-- successive selection points at which it was passed over (R158) -/
  passed : Nat := 0
  /-- counted ready at the latest selection point (R129) -/
  ready : Bool := false
deriving DecidableEq, Repr

/-- A plan dispatched to a course, with its output shadow pages (R131). -/
structure Run where
  plan : Plan
  /-- output handle and its shadow pages -/
  shadows : List (Nat × List Nat) := []
  /-- R623: an FLR withdrew it, its report is dropped -/
  silent : Bool := false
  /-- it has failed before its course began: 0 no, 1 a domain mismatch, 2 poison (R57, R116, R141) -/
  fail : Nat := 0
deriving DecidableEq, Repr

/-- What a selection point chose for the next course (R156). -/
structure Selected where
  run : Option Run := none
  op : Nat := 0
  /-- charge in microjoules; none while PUE is not READY (R716) -/
  charge : Option Nat := none
deriving DecidableEq, Repr

/-! ## Courses -/

/-- Course timer state beyond the CRS page. -/
structure CrsSt where
  /-- the course timer runs (R61) -/
  running : Bool := false
  /-- enabled, and the first tick has not fallen -/
  first : Bool := false
  /-- the selection point of the present tick guard has passed -/
  judged : Bool := false
  next : Option Selected := none
  /-- the plan of the present course -/
  run : Option Run := none
  /-- first overrun cause of the course, 0 none (R52) -/
  cause : Nat := 0
  lig : Nat := 0
  /-- a LATE cause occurred in the course -/
  late : Bool := false
  /-- run-time failure: 0 none, 1 domain, 2 poison (R57, R679) -/
  failWhy : Nat := 0
  /-- the plan failed under R56 at its last overrun -/
  limit : Bool := false
  /-- OVR_LIMIT has still to be raised for the course just ended -/
  limitDue : Bool := false
  /-- the engines of the plan are frozen (R54) -/
  frozen : Bool := false
  /-- BUDGET_SLIP has been raised in this course -/
  slipped : Bool := false
  /-- plans failed at the latest selection point under R130 -/
  pendFail : List Plan := []
  /-- the tray failed while this course ran (R21) -/
  trayFail : Bool := false
  /-- successive missed marks (R38) -/
  missed : Nat := 0
  /-- sync has been lost and not regained -/
  lost : Bool := false
  /-- successive valid marks since the loss (R39) -/
  valid : Nat := 0
  /-- the selection point has selected the realigning wadding course (R39) -/
  realignNext : Bool := false
  /-- the present course is the realigning wadding course -/
  realigning : Bool := false
  /-- the realigning course has ended and SYNC_BACK has still to come -/
  backDue : Bool := false
  /-- a valid mark has come since the enable (R61) -/
  marked : Bool := false
  /-- the mark that the master sent last (R65) -/
  sent : Option (BitVec 48) := none
  /-- operating point to whose core voltage the regulator is set (R30, R603) -/
  volt : Nat := 3
  /-- latched CRS_NUM_HI (R66) -/
  numLatch : Nat := 0
  /-- units of the RETRY allowance charged in this course, at key 32 * stack + channel (R360) -/
  charges : SMap Nat := []
  /-- charge of the present course (R716) -/
  charge : Option Nat := none
  /-- charge, measured energy and validity of the last complete course, still to be reconciled (R151) -/
  recon : Option (Nat × Nat × Bool) := none
deriving DecidableEq, Repr

/-! ## Purlin -/

/-- Object states of R111. -/
inductive ObjState where
  | free | empty | resident | evicted
deriving DecidableEq, Repr

/-- An object-table entry (R110, R111), with the pages that its page-list entries name (R114). -/
structure Obj where
  state : ObjState := .free
  pin : Bool := false
  poison : Bool := false
  moving : Bool := false
  place : Nat := 0
  kind : Nat := 0
  owner : Nat := 0
  domain : Nat := 0
  /-- size in bytes, minus 1 -/
  size1 : Nat := 0
  last : Nat := 0
  epoch : Nat := 0
  pages : List Nat := []
  slots : List Nat := []
deriving DecidableEq, Repr

/-- Use of a pool page. -/
inductive PgUse where
  | free | used | retired
deriving DecidableEq, Repr

/-- A standing grant (R124); a length of 0 is no grant. -/
structure Grant where
  batten : Nat := 0
  first : Nat := 0
  len : Nat := 0
deriving DecidableEq, Repr

/-- A command waiting for a selection point (R124): its arguments as written, and whether they are out of range. -/
structure StCmd where
  free : Bool
  bad : Bool
  batten : Nat
  len : Nat
  num : Nat
deriving DecidableEq, Repr

/-- An object move that a command or a gutter access asks for (R715). -/
structure Ask where
  out : Bool
  handle : Nat
deriving DecidableEq, Repr

/-- The object move in progress (R137): the pages and slots it took, and the next page to copy. -/
structure Move where
  out : Bool
  handle : Nat
  pages : List Nat
  slots : List Nat
  next : Nat := 0
deriving DecidableEq, Repr

/-- Purlin's state beyond its registers. -/
structure PurSt where
  formatted : Bool := false
  /-- the object table as Purlin decodes it, by handle -/
  objs : SMap Obj := []
  /-- the bytes of the table's copies, one little-endian number for the 32 bytes at 32 * h, at key copy * 2^24 + h (R111, R115) -/
  table : SMap (BitVec 256) := []
  /-- the page list: the page that an entry holds (R114) -/
  plist : SMap (Option Nat) := []
  /-- PLIST of the objects that hold pages, by handle (R111) -/
  plAt : SMap Nat := []
  /-- freed objects whose move has not completed (R121) -/
  dying : SMap Obj := []
  /-- handles withheld under OT_LOST (R116) -/
  withheld : List Nat := []
  /-- withheld handles that PUR_OBJ_COUNT counts -/
  lostUsed : Nat := 0
  pages : SMap PgUse := []
  /-- pages of the primary and of the mirror table copy -/
  tab : List (List Nat) := []
  /-- table pages awaiting a free page: copy and index (R116) -/
  unrep : List (Nat × Nat) := []
  /-- host slots in use -/
  slots : SMap Bool := []
  grants : SMap Grant := []
  /-- ST_GRANT and ST_FREE of each slot waiting for the selection point -/
  stWait : List (Nat × StCmd) := []
  asks : List Ask := []
  move : Option Move := none
  /-- failed attempts of a move, at key 2 * handle + (1 for a page-out) (R140) -/
  tries : SMap Nat := []
  /-- moves to retry at the next selection point (R140) -/
  retry : List Ask := []
  /-- gutter channels whose write into an object has begun and not completed, with the object (R139) -/
  writing : List (Nat × Nat) := []
  /-- objects for which HB_FULL has been raised since the last selection point (R137) -/
  hbFull : List Nat := []
  /-- every plan waiting to be dispatched, in queue sequence order -/
  queue : List Plan := []
  nextSeq : Nat := 0
  /-- queue sequence numbers in the latest ranking (R136) -/
  rank : List Nat := []
deriving DecidableEq, Repr

/-- Energy governor state beyond its registers. -/
structure GovSt where
  /-- queue sequence number of the reserved plan (R159) -/
  resv : Option Nat := none
  /-- a reservation that begins at the next selection point -/
  due : Option Nat := none
  /-- selection points since the reservation began -/
  count : Nat := 0
  /-- an HBM zone was above 95 °C at the latest selection point -/
  throttled : Bool := false
deriving DecidableEq, Repr

/-! ## Batten stores -/

/-- A store word: 72 data bits (R170), and the state of its check bits. -/
structure StWord where
  data : BitVec 72 := 0
  err : StErr := .clean
deriving DecidableEq, Repr

/-- A march that runs or waits for its tick (R201). -/
structure March where
  mode : Nat
  banks : Nat
  /-- waits for the tick at which its fence takes effect -/
  waiting : Bool
  /-- started after the fence took effect (R197) -/
  fenced : Bool
deriving DecidableEq, Repr

/-- Batten store state beyond the BST page. -/
structure BstSt where
  /-- owner byte of each bank before its latest handover (R175, R185) -/
  former : SMap Nat := []
  /-- corrected errors in this course (R194) -/
  ceCourse : Nat := 0
  /-- a fence cause has occurred and takes effect at the coming tick -/
  fenceDue : Bool := false
  /-- that tick has come -/
  fenceTick : Bool := false
  march : Option March := none
  /-- a passing preserving march of all banks has completed (R197) -/
  passed : Bool := false
  /-- the tick after it has come -/
  backTick : Bool := false
  /-- addresses whose corrected word waits to be written back, oldest first (R190) -/
  writeBack : List Nat := []
  /-- standing grants of the running plan on this batten, first and length (R181) -/
  grants : List (Nat × Nat) := []
  /-- first word and words of the loaded stint list (R202) -/
  stFirst : Nat := 0
  stWords : Nat := 0
deriving DecidableEq, Repr

/-! ## Slate arrays -/

/-- One slate array's queue and mode change (R216, R391). -/
structure ArrSt where
  /-- operations issued and not completed, 0 to 4 -/
  queue : Nat := 0
  /-- modulus entries of the operations that wait behind the oldest one, in their order -/
  waits : List (List Nat) := []
  /-- modes that stint boundaries ask for, oldest first -/
  want : List Nat := []
  /-- a mode change is in progress -/
  changing : Bool := false
deriving DecidableEq, Repr

/-- Slate state. Array a of batten b has number 4 * b + a. -/
structure SltSt where
  arrs : SMap ArrSt := []
  /-- residue registers at key (array * 32 + register) * 1024 + 32 * i + j (R212) -/
  pock : SMap (BitVec 36) := []
  /-- integer accumulators acc[m][n] at key (array * 256 + m) * 256 + n (R220) -/
  acc : SMap Int := []
  /-- ledge words at key (array * 1024 + slot) * 16 + word (R211) -/
  ledge : SMap (BitVec 72) := []
  /-- requant entries at key array * 256 + entry (R222) -/
  requant : SMap (BitVec 72) := []
  /-- battens on which an array has saturated in this clear-lane course (R221) -/
  satCourse : SMap Bool := []
  /-- cycles of BTN_BUSY_CNT below a unit of 1024, by batten (R237) -/
  busyRest : SMap Nat := []
deriving DecidableEq, Repr

/-! ## Ligger pairs and the ridge -/

/-- A beat pair of which a receiver has taken a half, and which it has not yet delivered (R334, R337). -/
structure BeatPair where
  seq : Nat
  /-- half 0, and half 1, has arrived -/
  lo : Bool := false
  hi : Bool := false
  /-- it has split, and its replay is requested -/
  replay : Bool := false
  /-- HALF of the first half of the replay that has arrived -/
  fresh : Option Nat := none
  /-- the ligger pair whose buffer it is written to -/
  pair : Option Nat := none
  /-- the engine at the plan's end of the path -/
  eng : Option Nat := none
deriving DecidableEq, Repr

/-! ## Spars -/

/-- A micro-trap frame entry (R401). -/
structure SprFrame where
  saved : Nat := 0
  cl : Bool := false
  lc0 : BitVec 16 := 0
  lc1 : BitVec 16 := 0
  residue : Nat := 0
deriving DecidableEq, Repr

/-- What holds a spar: a WAIT word with its remaining limit (0: no limit), an ACQUIRE of a pair (in an ENDSTINT word), the sway mark of stint idx, or an ENDSTINT word whose datapath has still to take effect. -/
inductive SprHold where
  | none
  | wait (limit : Nat)
  | acquire (pair : Nat) (last : Bool)
  | sway (idx : Nat)
  | ending
deriving DecidableEq, Repr

/-- Spar state (R388, R396, R407), beyond the SPR page. -/
structure SprSt where
  v : SMap (BitVec 36) := []
  /-- the registers as they stood before the present word's ALU operation (R387) -/
  pre : Option (SMap (BitVec 36)) := Option.none
  lc0 : BitVec 16 := 0
  lc1 : BitVec 16 := 0
  fz : Bool := false
  fn : Bool := false
  fc : Bool := false
  fv : Bool := false
  cl : Bool := false
  /-- call stack, top first -/
  stack : List Nat := []
  /-- micro-trap frame, top first -/
  frame : List SprFrame := []
  /-- address of the next word to be fetched -/
  next : Nat := 0
  /-- the word last fetched, and the control-store word that it came from -/
  word : BitVec 128 := 0
  /-- its ALU operation, and its micro-operation, have still to take effect -/
  aluDue : Bool := false
  opDue : Bool := false
  phys : Nat := 0
  hold : SprHold := .none
  /-- limit with which a WAIT resumed by TRAPRET starts (R402) -/
  residue : Nat := 0
  /-- the pair field of each slot, plus 1024 when VALID = 1 (R406) -/
  lp : SMap Nat := []
  /-- data bits of the last SRD word, and the value it delivered (R396) -/
  srdWord : BitVec 72 := 0
  srdVal : BitVec 36 := 0
  /-- WRAP_w, SAT_a and CLAMP_a condition bits -/
  wrap : Nat := 0
  sat : Nat := 0
  clamp : Nat := 0
  /-- an ATTN is held (R414); the gable whose snapshot it fills (R456) -/
  attn : Option Nat := Option.none
  /-- the words of the descriptors fetched ahead of the present stint, and whether one of them is POISON (R407) -/
  ahead : List (List Nat × Bool) := []
  /-- a run started by SPR_RUN, without a stint -/
  free : Bool := false
  /-- the stint list lies outside the plan's shingles (R405), or a link table error holds (R324): WHY of the halt at the first stint, 0 none -/
  doom : Nat := 0
  /-- CAPDROP, PMAXDROP and NV_ZERO of a stook spar -/
  capDrop : Bool := false
  pmaxDrop : Bool := false
  nvZero : Bool := false
  /-- region of a control-store march that runs, 0 none (R415) -/
  march : Nat := 0
deriving DecidableEq, Repr

structure LigSt where
  /-- POSTs issued and not yet applied, by pair (R333) -/
  posts : SMap Nat := []
  /-- buffers acquired and not yet posted, by pair (R326, R329) -/
  held : SMap Nat := []
  /-- beat pairs that a receiver holds, in SEQ order, by port: (receiver * 256 + issuer) * 8 + class -/
  ports : SMap (List BeatPair) := []
  /-- SEQ of the next beat pair that an issuer sends to a receiver in a class, by port (R334) -/
  seqs : SMap Nat := []
  /-- retry buffers, by issuer: port and SEQ of each beat pair not yet acknowledged whole (R335) -/
  retry : SMap (List (Nat × Nat)) := []
  /-- credits of the hop into a receiver: receiver * 8 + class (R340) -/
  credits : SMap Nat := []
  /-- the input that the valley of that hop serves first within a class, at the same keys (R341) -/
  robin : SMap Nat := []
deriving DecidableEq, Repr

/-! ## Gables -/

/-- A word of a gable's code store, with the state of its check bits (R448). -/
structure CodeWord where
  data : Word32 := 0
  err : StErr := .clean
deriving DecidableEq, Repr

/-- A word of a gable's data store (R448). -/
structure DataWord where
  data : Word64 := 0
  err : StErr := .clean
deriving DecidableEq, Repr

/-- What a micro-operation of a gable reads, kept from before its word. -/
structure GabPre where
  pc : Word64
  mar : Word64
  mdr : Word64
  /-- source A -/
  a : Word64
  /-- the CSR that the word names -/
  csr : Nat
deriving DecidableEq, Repr

/-- The micro-level of a gable: micro-temporaries and the outcome of the last accesses (R452, R454). -/
structure GabMicro where
  t0 : Word64 := 0
  t1 : Word64 := 0
  ir : Word32 := 0
  mar : Word64 := 0
  mdr : Word64 := 0
  /-- memory access done, refused; protection check passed -/
  acc : Bool := false
  refused : Bool := false
  prot : Bool := false
  /-- last read corrected, uncorrectable -/
  corr : Bool := false
  uncorr : Bool := false
  /-- last SSCHK matched; spill area check passed -/
  matched : Bool := false
  spillOk : Bool := false
  /-- last ALU operation overflowed -/
  ovf : Bool := false
  /-- sequencer: flags, latch, counters, stacks, next word (R384 to R403) -/
  q : SprSt := {}
  /-- address of the word last fetched -/
  upc : Nat := 0
  /-- causes of the micro-traps in the frame, top first -/
  causes : List Nat := []
  /-- what the present word's micro-operation reads, as it stood before the word's ALU operation (R387) -/
  pre : Option GabPre := none
  /-- an ATTN request of the debug port waits for the next micro-word boundary (R454, R650) -/
  attn : Bool := false
deriving DecidableEq, Repr

/-- A gable (R422, R423, R445, R446). The initial values are those of gable 0 after a reset, its PC aside. -/
structure GabSt where
  /-- g1 to g31 at their numbers; the shadow bank's g16 to g31 at 32 to 47 -/
  r : SMap Word64 := []
  pc : Word64 := 0
  lvl : Nat := 2
  ie : Bool := false
  fie : Bool := false
  bank : Bool := false
  enest : Bool := false
  dbl : Bool := false
  epc : Word64 := 0
  estat : Word64 := 0
  excBase : Word64 := 0x10000000
  dz : Bool := false
  ov : Bool := false
  scrM : Word64 := 0
  scrS : Word64 := 0
  /-- shadow stack entries in hardware, top first, and the number spilled -/
  ss : List Word64 := []
  spilled : Nat := 0
  ssBase : Word64 := 0x1003F800
  ssLimit : Word64 := 0x10040000
  wdLoad : Nat := 781250
  /-- the value last loaded into the watchdog, and the gable cycles since -/
  wdFrom : Nat := 781250
  wdCyc : Nat := 0
  /-- WDOG waits for the next instruction boundary -/
  wdPend : Bool := false
  protCode : Nat := 0xAAAAAAAA
  protData : Nat := 0xAAAAAAAAAAAAAAAA
  protReg : Nat := 0xA
  cycle : Nat := 0
  instret : Nat := 0
  halted : Bool := false
  stopped : Bool := false
  wfi : Bool := false
  /-- a FENCE waits -/
  fence : Bool := false
  stopReq : Bool := false
  /-- a RESET accepted behind that STOP -/
  resetReq : Bool := false
  /-- a march of a store: target, and whether it preserves -/
  march : Option (Nat × Bool) := none
  /-- items 0 to 17 of the spar snapshot (R456) -/
  snap : List Nat := []
  u : GabMicro := {}
deriving DecidableEq, Repr

/-! ## Yealms and stooks -/

/-- A key-switch descriptor in the pipeline, with the data that its stages have formed (R278 to R283). Residues are flat lists, N to a polynomial. -/
structure KsRec where
  idx : Nat
  level : Nat
  oper : Nat
  galois : Nat
  inH : Nat
  keyH : Nat
  outH : Nat
  /-- 1 input read, 2 pre-stages done, 3 key streamed, 4 post-stages done -/
  stage : Nat := 1
  /-- limb-major: component c of limb i is polynomial i * C + c -/
  input : List Nat := []
  /-- extended digits: digit d at target t is polynomial d * (level + K) + t -/
  ext : List Nat := []
  /-- inner products: component y at target t is polynomial y * (level + K) + t -/
  acc : List Nat := []
  /-- output: component c of limb i is polynomial i * 2 + c -/
  out : List Nat := []
deriving DecidableEq, Repr

/-- Yealm state beyond its page. -/
structure YlmSt where
  /-- index of the next descriptor to take -/
  next : Nat := 0
  /-- descriptors taken and not yet written out, in list order -/
  recs : List KsRec := []
  /-- the next descriptor waits for its sway dependence -/
  swayWait : Bool := false
  /-- that dependence has been met -/
  swayOk : Bool := false
  /-- the last descriptor passed its checks (DESC_OK) -/
  descOk : Bool := false
  /-- bytes moved with the stack -/
  bytes : Nat := 0
  /-- an enable without the known-answer test waits for its start to complete (R290) -/
  starting : Bool := false
deriving DecidableEq, Repr

/-- A record at a sorted position in stook memory (R312). -/
structure SortRec where
  ux : Nat
  uy : Nat
  uz : Nat
  key : Nat
  inten : Nat
  ring : Nat
  toff : Nat
deriving DecidableEq, Repr

/-- Stook state beyond its page. -/
structure StkSt where
  next : Nat := 0
  swayWait : Bool := false
  swayOk : Bool := false
  descOk : Bool := false
  /-- the sort that the latest SORT3 left: its IN, FIRST, NREC, X0, Y0, ZMIN, ZMAX, NX, NY, CELL, MSHIFT, and the sorted records (R303) -/
  sort : Option (List Nat × List SortRec) := none
deriving DecidableEq, Repr

/-! ## Stacked memory -/

/-- Retry states of a pseudo-channel (R359). -/
inductive RetrySt where
  | normal | check | lane
deriving DecidableEq, Repr

/-- A pseudo-channel in retry: its state, the attempts failed in a row, and the kind of error. -/
structure PcRetry where
  st : RetrySt := .normal
  fails : Nat := 0
  kind : Nat := 0
deriving DecidableEq, Repr

/-- Stacked memory state beyond its registers. -/
structure HbmSt where
  /-- pool bytes by address page * 2^21 + offset -/
  bytes : SMap Byte := []
  /-- symbol errors: XOR pattern at key (stack * 2^30 + beat pair) * 68 + symbol -/
  syms : SMap Nat := []
  /-- pseudo-channels in retry, at key stack * 64 + pc -/
  retry : SMap PcRetry := []
  /-- scrub queues by stack, oldest first (R356) -/
  scrub : SMap (List Nat) := []
  /-- invalid readings in a row by stack (R366) -/
  bad : SMap Nat := []
  /-- readings in a row at least HYST below a boundary, at key 2 * stack + boundary: 0 85 °C, 1 95 °C (R364) -/
  low : SMap Nat := []
  /-- check slots cached, at key stack * 64 + pc: code group and data slots written since it was cached, most recent first (R357) -/
  cache : SMap (List (Nat × Nat)) := []
  /-- stacks whose reserve holds zero data and the patterns, as phase 7 of training leaves it (R353, R371) -/
  reserve : SMap Bool := []
  /-- a tick has come at which the class of the stack may fall (R364) -/
  down : SMap Bool := []
  /-- the controller has stopped under R367 -/
  stop : SMap Bool := []
  /-- ABORT of training requested (R373) -/
  abort : SMap Bool := []
deriving DecidableEq, Repr

/-! ## Fuses and flash -/

/-- A BURN (word and data), ADV_RB (counter) or RAISE_DBG (level) in progress (R536). -/
inductive FlsCmd where
  | burn (word data : Nat)
  | advRb (n : Nat)
  | raiseDbg (level : Nat)
deriving DecidableEq, Repr

/-- The anti-fuse array (R523, R534), and what the fuse load keeps beyond the FLS page. -/
structure FlsSt where
  /-- words as a margin read and as a normal read find them -/
  margin : SMap Word32 := []
  normal : SMap Word32 := []
  cmd : Option FlsCmd := none
  /-- OCFG0.BOOT_PREF as loaded (R533) -/
  bootPref : Nat := 0
deriving DecidableEq, Repr

/-- A flash command in progress (R553); PROG holds its bytes. -/
inductive SfcCmd where
  | read (addr len : Nat)
  | prog (addr : Nat) (data : List Byte)
  | erase (sector : Nat)
  | readId
deriving DecidableEq, Repr

/-- The flash and its controller (R543, R553), and the boot ROM in recovery (R576). -/
structure SfcSt where
  /-- flash bytes by address -/
  flash : SMap Byte := []
  cmd : Option SfcCmd := none
  recovery : Bool := false
  /-- recovery: the page being staged, and its bytes so far -/
  stage : Option (Nat × List Byte) := none
deriving DecidableEq, Repr

/-! ## Lamps and connectors -/

/-- A pattern engine (R657): the parity of its step, and whether BREATHE falls. Its level and position are in FSC_PEe_POS; those of the pattern of R663 (engine 4) are here. -/
structure PeSt where
  odd : Bool := false
  falling : Bool := false
  level : Nat := 0
  pos : Nat := 0
deriving DecidableEq, Repr

/-- Fascia and connection-monitor state beyond the FSC page. -/
structure FscSt where
  pe : SMap PeSt := []
  /-- the string supplies are applied (R645) -/
  supply : Bool := false
  /-- a test must run before any lamp is lit (R659, R664) -/
  due : Bool := false
  /-- a sink that has left regulation asks for a test (R659) -/
  regDue : Bool := false
  /-- the STATUS sink is off under NSHORT (R660) -/
  sOff : Bool := false
  /-- fields of FSC_CONN that the monitor has read since the reset, by event bit (R653) -/
  seen : SMap Bool := []
deriving DecidableEq, Repr

/-- How the pins behind the boundary scan are driven: by the tray, from the boundary register, or not at all. -/
inductive Pins where
  | normal | scan | highZ
deriving DecidableEq, Repr

/-- The test access port (R648 to R650). [DEDUCED, assumption log 45] -/
structure TapSt where
  ir : Nat := 0x01
  /-- the boundary register's update stage -/
  bsr : List Bool := []
  pins : Pins := .normal
  /-- DBG_REG: data and status of the last access -/
  data : Nat := 0
  status : Nat := 0
  /-- gables in the debug service (R650) -/
  svc : SMap Bool := []
  /-- DBG_GINSN: g[rd] and vector of the last instruction -/
  gData : Word64 := 0
  gVec : Nat := 0
deriving DecidableEq, Repr

/-! ## Dormer -/

/-- Dormer state beyond the DMR page (R580, R583, R591). -/
structure DmrSt where
  /-- seconds since 2000-01-01 -/
  sec : Nat := 0
  /-- sub-second counter, as the last row that showed it left it (R583) -/
  sub : Nat := 0
  /-- the dormer has stopped -/
  stopped : Bool := false
  /-- the alarm whose wake request the sequencer has still to take -/
  wake : Option Nat := none
deriving DecidableEq, Repr

/-! ## Power -/

/-- A direct PMBus transaction (R617, R618). -/
structure Pmb where
  rd : Bool
  r : Nat
  len : Nat
  code : Nat
deriving DecidableEq, Repr

/-- Power sequencer state beyond the PWR and GLB pages. [DEDUCED, assumption log 1] -/
structure PwrSt where
  /-- the core rails are up (R598) -/
  core : Bool := true
  /-- the cold reset is held (R602) -/
  cold : Bool := true
  /-- the HBM rails are off under R609 -/
  hbmOff : Bool := false
  /-- 1: an IDLE request is being carried out, 2: a RUN request (R614) -/
  idle : Nat := 0
  /-- the fault of the J1 input, by its log code of R593; 0 none -/
  j1 : Nat := 0
  /-- source code of the ON request latched under R611 -/
  onSrc : Nat := 0
  /-- readings in a row above the trip, by batten (R608) -/
  hot : SMap Nat := []
  /-- package energy since aux power-on, µJ (PWR_E) -/
  energy : Nat := 0
  /-- latched high word of PWR_E -/
  energyLatch : Nat := 0
  pmb : Option Pmb := none
  /-- regulators that have lost power good since the last rise (R608) -/
  pgLost : SMap Bool := []
deriving DecidableEq, Repr

/-! ## Eave and gutter -/

/-- A report of R43 or R676 on its way to a completion ring (R679). -/
structure Report where
  id : Nat
  status : Nat
  cause : Nat
  course : Nat
deriving DecidableEq, Repr

/-- Eave state beyond its registers. -/
structure EavSt where
  /-- sealed domains bound to the PF; domain 0 always is (R260) -/
  pfDom : SMap Bool := []
  /-- VFs that SR-IOV has enabled: 1 to this number -/
  vfs : Nat := 0
  /-- functions whose MSI-X capability is enabled -/
  msix : SMap Bool := []
  /-- functions in D3hot (R667) -/
  d3 : SMap Bool := []
  /-- reports that wait for room in a function's ring, oldest first (R680) -/
  backlog : SMap (List Report) := []
  /-- functions whose next entry carries PHASE bit 0 = 0 (R679) -/
  flip : SMap Bool := []
  /-- gutter channels whose descriptor is in progress: 1 plus the bytes or words moved (R139) -/
  gut : SMap Nat := []
  /-- VFs whose function-level reset waits for the tick of their running plan (R623) -/
  flr : SMap Bool := []
deriving DecidableEq, Repr

/-! ## Batrix -/

/-- A consignment that is being received, or waits for its tick (R499). -/
structure RxCons where
  tag : Nat
  post : Nat
  handle : Nat
  size : Nat
  pages : List Nat
  /-- bytes of data and CRC received -/
  got : Nat := 0
  crc : Nat := 0xFFFFFFFF
  /-- the CRC bytes received, as a number, least significant byte first -/
  crcIn : Nat := 0
  broken : Bool := false
deriving DecidableEq, Repr

/-- What the receive engine does on a virtual channel: nothing, drop the frames of a discarded consignment, meet one whose header is lost, or take one. -/
inductive RxState where
  | idle
  | drop
  | lost
  | take (c : RxCons)
deriving DecidableEq, Repr

/-- A message (R502). -/
structure Msg where
  dest : Nat
  src : Nat
  hops : Nat
  data : List Byte
deriving DecidableEq, Repr

/-- Batrix state beyond its registers. -/
structure BtxSt where
  /-- the bring-up has begun, and the lasers have not been switched off since -/
  on : Bool := false
  /-- the lasers of the east segment may emit (R637) -/
  light : Bool := false
  /-- relay entries of other positions, from the latest CTRL frame (R487) -/
  relay : SMap RelayEnt := []
  own : RelayEnt := {}
  /-- freed credits last reported by the east neighbour, by VC (R490) -/
  credSeen : SMap Nat := []
  /-- the own relay entry has returned in time since link-up (R488) -/
  ringBack : Bool := false
  /-- frame slots of the present superframe that have gone by; 504 before the first one (R485) -/
  slot : Nat := 504
  /-- a superframe has begun since the link came up -/
  begun : Bool := false
  /-- every frame of the present superframe has gone out -/
  closed : Bool := true
  /-- the EOC frame waits for the slot after the next CTRL frame (R500) -/
  eocDue : Bool := false
  /-- next transmit SEQ, by VC -/
  seq : SMap Nat := []
  /-- next SEQ expected, by VC -/
  rxSeq : SMap Nat := []
  rx : SMap RxState := []
  /-- consignments of this course that passed checks 1 to 10 -/
  ready : List RxCons := []
  /-- the sender's EOC frame of this course, and its OVERRUN flag -/
  eoc : Option Bool := none
  eocSent : Bool := false
  /-- next descriptor of the transmit engine, and bytes of its consignment that have been sent -/
  txIdx : Nat := 0
  txSent : Nat := 0
  txCrc : Nat := 0xFFFFFFFF
  txStop : Bool := false
  swayWait : Bool := false
  swayOk : Bool := false
  /-- a gable's message that waits for a slot, by gable -/
  msgOut : SMap (List Msg) := []
  /-- messages to be forwarded, by gable -/
  fwd : SMap (List Msg) := []
  /-- receive FIFOs, by gable, oldest first -/
  fifo : SMap (List Msg) := []
  /-- ACCEPT for the present attempt has been read -/
  accept : Bool := false
  /-- a SERVICE lane of the east segment that its receiver reports DOWN -/
  down : Option Nat := none
  /-- lanes to be retired: east, west -/
  retTx : List Nat := []
  retRx : List Nat := []
  /-- the tick after step 8 has come (R508) -/
  shadowDue : Bool := false
  /-- SFN at which SHADOW began -/
  shadowAt : Nat := 0
  /-- the attempt on the out-of-service lane has ended; the lane re-enters CAL at the next tick guard (R511) -/
  recal : Bool := false
  /-- the latest frames of each west lane, latest first, up to 64: whether each was valid (R512) -/
  hist : SMap (List Bool) := []
  /-- west lanes that have gone DOWN in the superframe that is being received, and its number (R512) -/
  fell : List Nat := []
  rxSfn : Nat := 0
  /-- corrected symbols that the receiver counted in step 7 (R507) -/
  calCe : Nat := 0
  /-- the calibration slot of the present tick guard has been used -/
  calUsed : Bool := false
  /-- the receiver's verdict of step 8 -/
  rxPass : Bool := false
  /-- IDLE frames in a row that did not descramble to zeros (R638) -/
  mapBad : Nat := 0
deriving DecidableEq, Repr

structure State where
  /-- commands waiting, first in first out -/
  pending : List Instr := []
  regs : SMap Word32 := []
  out : List Output := []
  /-- the model's own counter of free values taken -/
  free : Nat := 0
  host : SMap Byte := []
  irq : IrqSt := {}
  crs : CrsSt := {}
  pur : PurSt := {}
  gov : GovSt := {}
  /-- store words at key batten * 2^19 + word address; spare rows at batten * 2^19 + 2^18 + (bank * 2 + spare) * 64 + column -/
  store : SMap StWord := []
  bst : SMap BstSt := []
  slt : SltSt := {}
  lig : LigSt := {}
  spr : SMap SprSt := []
  /-- control-store RAM words at key spar * 8192 + word (R381, R382) -/
  cs : SMap (BitVec 128) := []
  /-- gables, and their stores by gable: code words at g * 2^17, data words at g * 2^15, control-store RAM words at g * 2^14 -/
  gab : SMap GabSt := []
  gcode : SMap CodeWord := []
  gdata : SMap DataWord := []
  gcs : SMap (BitVec 128) := []
  /-- staged registers of a gable's control-store word, at gable * 4 + register (R101) -/
  gstage : SMap Word32 := []
  hbm : HbmSt := {}
  ylm : SMap YlmSt := []
  stk : SMap StkSt := []
  fls : FlsSt := {}
  sfc : SfcSt := {}
  fsc : FscSt := {}
  tap : TapSt := {}
  dmr : DmrSt := {}
  pwr : PwrSt := {}
  eav : EavSt := {}
  btx : BtxSt := {}
  /-- pages whose FREEZE has taken effect (R80), by page base -/
  frz : SMap Bool := []
  /-- draining pages whose tick has come since the drain began, by page base -/
  drainTick : SMap Bool := []
  /-- draining pages that were ready as their drain began, by page base -/
  drainReady : SMap Bool := []
deriving DecidableEq, Repr

/-- The tray as its cold reset ends (R602): every register at its Cold value, the step U6 of a rise completing, no store word written, no command waiting. [DEDUCED, assumption log 1] -/
def State.reset : State := {}

/-- Why a step stops with a fault. [DESIGN CHOICE, assumption log 75] -/
inductive Fault where
  /-- an access to a stacked-memory address outside the page pool (R353): raised by the memory operations; safe, the tray has no such access -/
  | outside
deriving DecidableEq, Repr

/-- Why a step stops with a refusal: no meaning gives one. -/
inductive Refusal where
  /-- a command that has no meaning yet -/
  | notModelled (mnemonic : String)
deriving DecidableEq, Repr

end Sys2Proof.Machine
end

