-- ==== Sys2Proof/Machine/Ops.lean ====
section
/-! DEFINITION. The named operations over sparse storage and over the register pages, shared by every meaning. -/

namespace Sys2Proof.Machine

/-! ## Sparse storage -/

/-- The value at a key; an unlisted key reads as `d k`. -/
def smGet {α : Type} (d : Nat → α) : SMap α → Nat → α
  | [], k => d k
  | (a, v) :: r, k => if a = k then v else smGet d r k

/-- Remove the entry of a key. -/
def smErase {α : Type} : SMap α → Nat → SMap α
  | [], _ => []
  | (a, v) :: r, k => if a = k then smErase r k else (a, v) :: smErase r k

/-- Put an entry in its place by key. -/
def smInsert {α : Type} (k : Nat) (v : α) : SMap α → SMap α
  | [] => [(k, v)]
  | (a, w) :: r => if k < a then (k, v) :: (a, w) :: r else (a, w) :: smInsert k v r

/-- Set the value at a key, keeping the canonical form: the value that an unlisted key reads as is not listed. -/
def smSet {α : Type} [DecidableEq α] (d : Nat → α) (m : SMap α) (k : Nat) (v : α) : SMap α :=
  if v = d k then smErase m k else smInsert k v (smErase m k)

/-- Set several keys, first to last. -/
def smSetMany {α : Type} [DecidableEq α] (d : Nat → α) (m : SMap α) : List (Nat × α) → SMap α
  | [] => m
  | (k, v) :: r => smSetMany d (smSet d m k v) r

/-- Return every key that satisfies `p` to what an unlisted key reads as. -/
def smDrop {α : Type} (p : Nat → Bool) (m : SMap α) : SMap α := m.filter (fun e => !p e.1)

/-- The canonical form: keys strictly rising, no entry equal to what an unlisted key reads as. -/
def smWf {α : Type} [DecidableEq α] (d : Nat → α) : SMap α → Bool
  | [] => true
  | (a, v) :: r => decide (v ≠ d a) && r.all (fun e => decide (a < e.1)) && smWf d r

/-! ## Small helpers -/

/-- Bit `i` of a number. -/
def bitOf (v i : Nat) : Bool := v.testBit i

/-- Bits [hi : lo] of a number. -/
def bits (v hi lo : Nat) : Nat := v / 2 ^ lo % 2 ^ (hi + 1 - lo)

/-- Set or clear bit `i` of a number. -/
def setBit (v i : Nat) (b : Bool) : Nat :=
  if v.testBit i then (if b then v else v - 2 ^ i) else (if b then v + 2 ^ i else v)

/-- The two's complement value of the low `w` bits. -/
def sext (w v : Nat) : Int := let x := v % 2 ^ w; if x < 2 ^ (w - 1) then x else (x : Int) - 2 ^ w

/-- The low `w` bits of an integer, two's complement. -/
def trunc (w : Nat) (i : Int) : Nat := (i % (2 ^ w : Int)).toNat

/-- Little-endian number of a byte list (R6). -/
def leNat : List Byte → Nat
  | [] => 0
  | b :: r => b.toNat + 256 * leNat r

/-- The `n` low bytes of a number, least significant first (R6). -/
def leBytes : Nat → Nat → List Byte
  | 0, _ => []
  | n + 1, v => BitVec.ofNat 8 v :: leBytes n (v / 256)

def bnat (b : Bool) : Nat := if b then 1 else 0

/-! ## Registers -/

/-- The register at a key, as a word. -/
def State.reg (s : State) (key : Nat) : Word32 := smGet regDefault s.regs key

/-- Write the register at a key, whole, with no check and no effect. -/
def State.setReg (s : State) (key : Nat) (v : Word32) : State :=
  { s with regs := smSet regDefault s.regs key v }

/-- Read instance `i` of a field on the page at `pg`. -/
def State.rf (s : State) (pg : Nat) (f : Fld) (i : Nat := 0) : Nat :=
  fieldGet (s.reg (pg + f.addr i)) (f.sh i) f.width

/-- Write instance `i` of a field on the page at `pg`; the register's other bits stay. -/
def State.wf (s : State) (pg : Nat) (f : Fld) (v : Nat) (i : Nat := 0) : State :=
  s.setReg (pg + f.addr i) (fieldSet (s.reg (pg + f.addr i)) (f.sh i) f.width v)

/-- Whether a one-bit field is set. -/
def State.bit (s : State) (pg : Nat) (f : Fld) (i : Nat := 0) : Bool := s.rf pg f i != 0

/-- Add to a counter that saturates at the largest value of its field. -/
def State.inc (s : State) (pg : Nat) (f : Fld) (k : Nat := 1) (i : Nat := 0) : State :=
  s.wf pg f (min (2 ^ f.width - 1) (s.rf pg f i + k)) i

/-- Raise an event: PG_EVT_RAW takes the bit, whether enabled or not (R81). -/
def State.raise (s : State) (pg b : Nat) : State :=
  s.wf pg PG_EVT_RAW (s.rf pg PG_EVT_RAW ||| 2 ^ b)

/-- Raise an event if a condition holds. -/
def State.raiseIf (s : State) (c : Bool) (pg b : Nat) : State := if c then s.raise pg b else s

/-- R652: a field of FSC_CONN takes a value; its event is raised when it changes. -/
def State.connSet (s : State) (f : Fld) (b v : Nat) : State := (s.wf pgFSC f v).raiseIf (s.rf pgFSC f != v) pgFSC b

/-- R614: in IDLE every batten, yealm and stook is clock-gated. -/
def State.gated (s : State) : Bool := s.rf pgGLB GLB_STATE_STATE == 3

/-- PG_EVT_PEND of a page (R81). -/
def State.pend (s : State) (pg : Nat) : Nat := s.rf pg PG_EVT_RAW &&& s.rf pg PG_EVT_EN

/-- The error record of a page (R85): the first error stays; a further one sets OVF. -/
def State.err (s : State) (pg code : Nat) (addr : Nat := 0) (src : Nat := 0) : State :=
  if s.bit pg PG_ERR_VALID then s.wf pg PG_ERR_OVF 1
  else
    ((((s.wf pg PG_ERR_VALID 1).wf pg PG_ERR_CODE code).wf pg PG_ERR_ADDR_LO addr).wf pg PG_ERR_ADDR_HI
      (addr / 2 ^ 32)).wf pg PG_ERR_SRC src

/-- Error codes of R88. -/
abbrev eRANGE : Nat := 1
abbrev eSTATE : Nat := 2
abbrev eLOCKED : Nat := 3
abbrev eUNMAPPED : Nat := 4
abbrev eWIDTH : Nat := 5
abbrev eWRITER : Nat := 6
abbrev eWINDOW_LOCKED : Nat := 7
abbrev eBUSY_SELF : Nat := 8
abbrev eREAD_ONLY : Nat := 9

/-- Event bits and header state of a block: enabled and ready (R77). -/
def State.ready (s : State) (pg : Nat) : Bool := s.bit pg PG_STAT_READY

/-- A tick has come since the drain of a page began. -/
def State.drainTicked (s : State) (pg : Nat) : Bool := smGet (fun _ => false) s.drainTick pg

/-- R290, R318: the block takes the next descriptor of the running course: it is ready, or it drains and was ready as the drain began in this course. -/
def State.blockTakes (s : State) (pg : Nat) : Bool :=
  s.ready pg || (s.bit pg PG_STAT_QUIESCING && smGet (fun _ => false) s.drainReady pg && !s.drainTicked pg)

/-- Drop every register of the pages that satisfy `p` (by kind and instance) to its Cold value. -/
def State.coldPages (s : State) (p : PgKind → Nat → Bool) : State :=
  { s with regs := smDrop (fun key => match pageOf key with | some (k, i) => p k i | none => false) s.regs }

/-- The warm-reset value of one register (R12): fields with a value in the Warm column take it, the others are kept; `keepRwl` keeps RWL fields (R79). -/
def warmReg (k : PgKind) (inst off : Nat) (keepRwl : Bool) (v : Word32) : Word32 :=
  (rowsOf k inst).foldl (fun acc r =>
    (r.at off).foldl (fun a j =>
      if r.warm && !(keepRwl && r.acc == .rwl) then fieldSet a (r.f.sh j) r.f.width (r.coldAt j) else a) acc) v

/-- What one listed register becomes when the pages that satisfy `p` return to their Warm column. Header registers return to 0; `keepRwl` keeps PG_LOCK. A register that is not listed holds its Cold value, which is its Warm value wherever the tables give one. -/
def warmEntry (p : PgKind → Nat → Bool) (keepRwl : Bool) (key : Nat) (v : Word32) : Word32 :=
  match pageOf key with
  | none => v
  | some (k, i) =>
    if p k i then
      let off := key % 0x1000
      if off < 0x40 then (if keepRwl && off == 0x2C then v else 0) else warmReg k i off keepRwl v
    else v

/-- Return the pages that satisfy `p` to their Warm column (R12, R79). -/
def State.warmPages (s : State) (p : PgKind → Nat → Bool) (keepRwl : Bool) : State :=
  { s with regs := smSetMany regDefault s.regs (s.regs.map fun e => (e.1, warmEntry p keepRwl e.1 e.2)) }

/-! ## Outputs and free values -/

/-- Record something the tray sends to the outside. [DESIGN CHOICE, assumption log 9, 100] -/
def State.emit (s : State) (o : Output) : State := { s with out := o :: s.out }

/-- Outputs in order of time. -/
def State.emits (s : State) (os : List Output) : State := { s with out := os.reverse ++ s.out }

/-- Take a fresh free value. [DESIGN CHOICE, assumption log 6] -/
def State.fresh (s : State) : Nat × State := (Config.freeValue s.free, { s with free := s.free + 1 })

/-- Append a sender's result of a read. [DESIGN CHOICE, assumption log 9] -/
def State.answer (s : State) (src : Src) (v : Nat) : State := s.emit (.data src v)

/-! ## Host memory -/

/-- A byte of host memory; a byte nothing has written reads 0 (assumption log 7). [DESIGN CHOICE, assumption log 7] -/
def State.hostByte (s : State) (a : Nat) : Byte := smGet (fun _ => 0) s.host a

/-- `n` bytes of host memory from `a`. -/
def State.hostBytes (s : State) (a n : Nat) : List Byte := (List.range n).map fun i => s.hostByte (a + i)

/-- Write bytes of host memory from `a`. -/
def State.hostWrite (s : State) (a : Nat) (bs : List Byte) : State :=
  { s with host := smSetMany (fun _ => 0) s.host ((List.range bs.length).map fun i => (a + i, bs.getD i 0)) }

end Sys2Proof.Machine
end

