-- ==== Sys2Proof/Machine/Irq.lean ====
section
/-! DEFINITION. The interrupt controller: events of sources, claim, completion, messages (R459 to R477). -/

namespace Sys2Proof.Machine

/-- The pages that feed shared source `n` (R463). -/
def irqFeeds (n : Nat) : List Nat :=
  if n < 32 then [] else if n < 39 then [(n - 32) * 0x1000] else if n = 39 then [pgIRQ]
  else if n < 45 then [(n - 32) * 0x1000]
  else if n < 47 then [pgGAB (n - 45)]
  else if n = 47 then [pgRDG]
  else if n < 52 then [pgHBM (n - 48)]
  else if n < 56 then [pgPHY (n - 52)]
  else if n < 60 then [pgYLM (n - 56)]
  else if n < 64 then [pgSPR (64 + (n - 60))]
  else if n < 68 then [pgSTK (n - 64)]
  else if n < 72 then [pgSPR (68 + (n - 68))]
  else if n < 88 then [pgLIG (n - 72)]
  else if n < 92 then [pgBTXC + (n - 88) * 0x1000]
  else if n < 156 then [pgBST (n - 92), pgSLT (n - 92), pgSPR (n - 92)]
  else if n < 164 then [pgVFC (n - 155), pgVDB (n - 155), pgVMB (n - 155)]
  else []

/-- The source that a page feeds (R463); 0 for a page without events. -/
def irqSourceOf (key : Nat) : Nat :=
  match pageOf key with
  | none => 0
  | some (k, i) =>
    match k with
    | .glb => 32 | .pwr => 33 | .sns => 34 | .dmr => 35 | .fsc => 36 | .fls => 37 | .sfc => 38
    | .irq => 39 | .eav => 40 | .gut => 41 | .crs => 42 | .pur => 43 | .pue => 44 | .gab => 45 + i
    | .rdg => 47 | .hbm => 48 + i | .phy => 52 + i | .ylm => 56 + i
    | .spr => if i < 64 then 92 + i else if i < 68 then 60 + (i - 64) else 68 + (i - 68)
    | .stk => 64 + i | .lig => 72 + i | .btxc => 88 | .btxt => 89 | .btxr => 90 | .btxl => 91
    | .btn => 0 | .bst => 92 + i | .slt => 92 + i | .vfc => 155 + i | .vdb => 155 + i | .vmb => 155 + i
    | .irqb => 0

/-- Whether a source number is one that can be pending (R462, R463). -/
def irqExists (n : Nat) : Bool := (1 ≤ n && n ≤ 8) || (32 ≤ n && n < 164)

/-- The register page that holds source `n` as gable `g` sees it: its own bank for 1-31, the shared page otherwise. -/
def irqPage (g n : Nat) : Nat := if n < 32 then pgIRQB g else pgIRQ

/-- Source states of R459. -/
abbrev srcIdle : Nat := 0
abbrev srcPending : Nat := 1
abbrev srcActive : Nat := 2

def irqServeDflt (_ : Nat) : IrqServe := {}

/-- The target and mode by which an ACTIVE shared source is served. -/
def State.irqServing (s : State) (n : Nat) : IrqServe := smGet irqServeDflt s.irq.serve n

/-- R473: a source becomes ACTIVE under its present target and mode. -/
def State.irqActivate (s : State) (g n : Nat) : State :=
  let pg := irqPage g n
  let t := (s.rf pg IRQ_SRC_STATE n, s.rf pg IRQ_SRC_TARGET n, s.rf pg IRQ_SRC_CMODE n)
  let s := s.wf pg IRQ_SRC_STATE srcActive n
  if n < 32 then s
  else { s with irq := { s.irq with serve := smSet irqServeDflt s.irq.serve n { target := t.2.1, cmode := t.2.2 } } }

/-- A source returns to IDLE at its completion. -/
def State.irqIdle (s : State) (g n : Nat) : State :=
  let s := s.wf (irqPage g n) IRQ_SRC_STATE srcIdle n
  if n < 32 then s else { s with irq := { s.irq with serve := smErase s.irq.serve n } }

/-- R469: a lost event of a source is recorded, and LOST is raised on the IRQ page. -/
def State.irqLose (s : State) (g n : Nat) : State :=
  let pg := irqPage g n
  ((s.wf pg IRQ_LOST_LOST 1 n).inc pg IRQ_LOST_COUNT 1 n).raise pgIRQ 0

/-- R460: an event of a source. -/
def State.irqEvent (s : State) (g n : Nat) : State :=
  let pg := irqPage g n
  let st := s.rf pg IRQ_SRC_STATE n
  if st = srcIdle then s.wf pg IRQ_SRC_STATE srcPending n
  else if st = srcActive then s.irqLose g n
  else s

/-- R461 and R472: the request of a page source has fallen. [DEDUCED, assumption log 25] -/
def State.irqFall (s : State) (n : Nat) : State :=
  let st := s.rf pgIRQ IRQ_SRC_STATE n
  if st = srcPending then s.wf pgIRQ IRQ_SRC_STATE srcIdle n
  else if st = srcActive ∧ (s.irqServing n).cmode = 1 then s.irqIdle 0 n
  else s

/-- Whether any page that feeds source `n` has a pending bit. -/
def State.irqRequest (s : State) (n : Nat) : Bool := (irqFeeds n).any fun p => s.pend p != 0

/-- Whether a pending bit of a page that feeds source `n` rose from `old` to `new`. -/
def irqRose (old new : State) (n : Nat) : Bool :=
  (irqFeeds n).any fun p => decide (new.pend p &&& (new.pend p ^^^ old.pend p) ≠ 0)

/-- One page source after a step: event, or fall of its request. -/
def irqSettleOne (old new : State) (n : Nat) (s : State) : State :=
  if irqRose old new n then s.irqEvent 0 n
  else if new.irqRequest n then s else s.irqFall n

/-- The page sources whose event registers, or whose own register, a register store lists. [DEDUCED, assumption log 25] -/
def irqTouched (m : SMap Word32) : List Nat :=
  m.filterMap fun e =>
    let off := e.1 % 0x1000
    if off = 0x10 ∨ off = 0x14 then some (irqSourceOf e.1)
    else if pgIRQ + 0x400 ≤ e.1 ∧ e.1 < pgIRQ + 0x800 then some ((e.1 - (pgIRQ + 0x400)) / 4)
    else none

/-- R460, R461, R469, R472: what the event registers' change from `old` to `new` does to the page sources. Source 39, the IRQ page's own, comes last and sees the losses of the others; a loss of its own may raise LOST anew, which is a further event. [DEDUCED, assumption log 25] -/
def irqSettle (old new : State) : State :=
  let t := irqTouched old.regs ++ irqTouched new.regs
  let ns := (List.range 164).filter fun n => decide (32 ≤ n) && n != 39 && t.contains n
  let s1 := ns.foldl (fun s n => irqSettleOne old new n s) new
  let s2 := irqSettleOne old s1 39 s1
  irqSettleOne s1 s2 39 s2

/-- The outcome of a meaning: its effect, and then the interrupt controller's (R460). The queue is the step's, and no meaning changes it. [DESIGN CHOICE, assumption log 4] -/
def done (old new : State) : Host.Outcome State Fault Refusal := .next { irqSettle old new with pending := old.pending }

/-- R465: source `n` is eligible at gable `g` on a line. -/
def State.irqEligible (s : State) (g line n : Nat) : Bool :=
  let pg := irqPage g n
  irqExists n && s.rf pg IRQ_SRC_STATE n == srcPending && s.bit pg IRQ_SRC_EN n
    && s.rf pg IRQ_SRC_LINE n == line
    && (decide (n < 32) || s.rf pg IRQ_SRC_TARGET n == g)
    && bitOf (s.rf (pgIRQB g) IRQ_LEVEL_LEVELS) (s.rf pg IRQ_SRC_PRIO n)

/-- R465: a gable's line is asserted. -/
def State.irqLine (s : State) (g line : Nat) : Bool :=
  (List.range 256).any fun n => s.irqEligible g line n

/-- R474: some source targets the gable, is PENDING and enabled, on either line. -/
def State.irqWake (s : State) (g : Nat) : Bool :=
  (List.range 256).any fun n =>
    let pg := irqPage g n
    irqExists n && s.rf pg IRQ_SRC_STATE n == srcPending && s.bit pg IRQ_SRC_EN n
      && (decide (n < 32) || s.rf pg IRQ_SRC_TARGET n == g)

/-- R466: the source a claim by gable `g` on a line returns, 0 if none. -/
def State.irqWinner (s : State) (g line : Nat) : Nat :=
  let el := (List.range 256).filter fun n => s.irqEligible g line n
  let prio n := s.rf (irqPage g n) IRQ_SRC_PRIO n
  let top := el.foldl (fun a n => max a (prio n)) 0
  let same := el.filter fun n => prio n == top
  let last := smGet (fun _ => 0) s.irq.rot ((2 * g + line) * 16 + top)
  match same.filter (fun n => decide (last < n)) with
  | n :: _ => n
  | [] => same.headD 0

/-- R466: a claim. If the request of a CMODE 1 source is already low, it completes in the next cycle (R472). -/
def State.irqClaim (s : State) (g line : Nat) : State × Nat :=
  let n := s.irqWinner g line
  if n = 0 then (s, 0)
  else
    let p := s.rf (irqPage g n) IRQ_SRC_PRIO n
    let s1 := { s with irq := { s.irq with rot := smSet (fun _ => 0) s.irq.rot ((2 * g + line) * 16 + p) n } }
    let s2 := s1.irqActivate g n
    (if 32 ≤ n ∧ (s2.irqServing n).cmode = 1 ∧ ¬ s2.irqRequest n then s2.irqIdle g n else s2, n)

/-- R467: the error of a refused completion: NOT_ACTIVE 0x0101, WRONG_SRC 0x0102, with BAD_COMPLETE raised (R475). -/
def State.irqBadComplete (s : State) (code addr src : Nat) : State :=
  (s.err pgIRQ code addr src).raise pgIRQ 1

/-- R467: a gable writes a number to IRQ_COMPLETE. -/
def State.irqComplete (s : State) (g n : Nat) : State :=
  let ok := irqExists n && s.rf (irqPage g n) IRQ_SRC_STATE n == srcActive
    && (decide (n < 32) || (s.irqServing n).target == g)
  if ok then s.irqIdle g n else s.irqBadComplete 0x101 (pgIRQ + 0x48) (2 + g)

/-- R467: the host or the debug port writes a number to IRQ_HCOMPLETE. -/
def State.irqHComplete (s : State) (code n : Nat) : State :=
  let ok := decide (32 ≤ n) && irqExists n && s.rf pgIRQ IRQ_SRC_STATE n == srcActive
    && (s.irqServing n).target == 2
  if ok then s.irqIdle 0 n else s.irqBadComplete 0x101 (pgIRQ + 0x58) code

end Sys2Proof.Machine
end

