-- ==== Sys2Proof/Machine/Access.lean ====
section
/-! DEFINITION. The rules every register write and read obeys, whatever the page: reserved offsets (R91, R92), writers (R96), ranges (R711), locked fields (R90), access types (R10, R11). -/

namespace Sys2Proof.Machine

/-- SRC of the error record (R85); a VF page records 1 (R106). -/
def srcCode : Src → Nat
  | .host => 1
  | .gable g => 2 + g.val
  | .debug => 4
  | .vf _ => 1

/-- The key that a source's BAR0 offset names: a VF reaches only its own pages (R104). -/
def srcKey (src : Src) (off : Nat) : Nat :=
  match src with
  | .vf v => vfBar (v.val + 1) + off % 0x10000
  | _ => off % 0x4000000

/-- ADDR of the error record: the BAR0 offset of the access, within the VF's BAR0 for a VF page (R86, R106). -/
def errAddr (key : Nat) : Nat := if key < 0x8000000 then key else key % 0x10000

/-- The page base of a key. -/
def pgBaseOf (key : Nat) : Nat := key / 0x1000 * 0x1000

/-- The page that records an error about an access at a key: the page itself, GLB for a reserved page (R92), the VFC page for a reserved range of a VF's BAR0 (R104). -/
def errPage (key : Nat) : Nat :=
  match pageOf key with
  | some _ => pgBaseOf key
  | none => if key < 0x8000000 then pgGLB else (key / 0x10000) * 0x10000

/-- Record an error about a register access. [DEDUCED, assumption log 10] -/
def State.accErr (s : State) (src : Src) (key code : Nat) : State :=
  s.err (errPage key) code (errAddr key) (srcCode src)

/-- R96, R99, R104: the source is a writer of the page. [DEDUCED, assumption log 10] -/
def isWriter (k : PgKind) (inst : Nat) : Src → Bool
  | .host => (pgWriters k inst).1
  | .gable g => if g.val = 0 then (pgWriters k inst).2.1 else (pgWriters k inst).2.2
  | .debug => true
  | .vf v => match k with
    | .vfc | .vdb | .vmb => inst == v.val + 1
    | _ => false

/-- The rows, with their instances, that share the register at an offset of a page. -/
def fieldsAt (k : PgKind) (inst off : Nat) : List (Row × Nat) :=
  (rowsOf k inst).flatMap fun r => (r.at off).map fun i => (r, i)

/-- Header registers of every page (R70): 0x000 to 0x02C. -/
def isHeader (off : Nat) : Bool := off < 0x30 && off % 4 == 0

/-- R92: the page has a register at this offset. -/
def regExists (k : PgKind) (inst off : Nat) : Bool :=
  isHeader off || !(fieldsAt k inst off).isEmpty
    || (k == .irq && ((0xC04 ≤ off && off < 0xC80) || (0xC84 ≤ off && off < 0xD00)
        || (0xD04 ≤ off && off < 0xD80) || (0xD84 ≤ off && off < 0xE00)) && off % 4 == 0)

/-- The part of a written value that falls on a field instance. -/
def partOf (r : Row) (i : Nat) (v : Word32) : Nat := fieldGet v (r.f.sh i) r.f.width

/-- R711: some writable field receives a value outside its stated range. [DEDUCED, assumption log 11] -/
def rangeBad (k : PgKind) (inst off : Nat) (v : Word32) : Bool :=
  (fieldsAt k inst off).any fun (r, i) =>
    match r.acc, r.rng with
    | .ro, _ => false
    | .rc, _ => false
    | _, some (lo, hi) => decide (partOf r i v < lo) || decide (hi < partOf r i v)
    | _, none => false

/-- PG_LOCK.LOCK of a page that has one (R89). -/
def State.locked (s : State) (pg : Nat) : Bool := s.bit pg PG_LOCK_LOCK

/-- R90: a locked RWL field receives a value that differs from its present one. [DEDUCED, assumption log 11] -/
def State.lockBad (s : State) (pg : Nat) (k : PgKind) (inst off : Nat) (v : Word32) : Bool :=
  s.locked pg && (fieldsAt k inst off).any fun (r, i) =>
    decide (r.acc = .rwl) && decide (partOf r i v ≠ s.rf pg r.f i)

/-- What one field takes from a write, by its access type (R10). -/
def fieldWrite (lock : Bool) (acc : Acc) (old v : Nat) : Nat :=
  match acc with
  | .rw => v
  | .rwl => if lock then old else v
  | .w1c => old &&& (old ^^^ v)
  | .w1s => old ||| v
  | .ro | .wo | .rc => old

/-- Apply a write to the fields of a register by their access types. -/
def State.writeFields (s : State) (pg : Nat) (k : PgKind) (inst off : Nat) (v : Word32) : State :=
  let lock := s.locked pg
  (fieldsAt k inst off).foldl (fun a (r, i) =>
    a.wf pg r.f (fieldWrite lock r.acc (a.rf pg r.f i) (partOf r i v)) i) s

/-- A write's common checks after the page has been found and the source is a writer: RANGE (R711), then LOCKED (R90), then the fields. `hook` is the page's own action of the write, on the state before and the state after the fields took their values. [DEDUCED, assumption log 11] -/
def State.regWrite (s : State) (src : Src) (key : Nat) (v : Word32)
    (hook : State → State → State) : State :=
  match pageOf key with
  | none => s.accErr src key eUNMAPPED
  | some (k, inst) =>
    let pg := pgBaseOf key
    let off := key % 0x1000
    if rangeBad k inst off v then s.accErr src key eRANGE
    else
      let s1 := if s.lockBad pg k inst off v then s.accErr src key eLOCKED else s
      hook s1 (s1.writeFields pg k inst off v)

/-- R598: the page of a key cannot be reached while the core rails are off. -/
def State.pageOff (s : State) (k : PgKind) : Bool := !s.pwr.core && !k.aux

/-- R99, R104: the source can reach the register: a VF its own pages, every other source the BAR0 of the PF. -/
def reaches (src : Src) (key : Nat) : Bool :=
  match src with
  | .vf v => key / 0x10000 == vfBar (v.val + 1) / 0x10000
  | _ => decide (key < 0x4000000)

/-- The source's accesses come through: none while the pages have no power; the host's and a VF's while the eave takes memory requests for their function (R574, R667, R689); the debug port's while the fuse lock permits it (R71, R648). -/
def State.admits (s : State) (src : Src) : Bool :=
  decide (2 ≤ s.rf pgGLB GLB_STATE_STATE) && match src with
    | .host => s.pwr.core && s.ready pgEAV && !smGet (fun _ => false) s.eav.d3 0
    | .vf v => s.pwr.core && s.ready pgEAV && decide (v.val < s.eav.vfs) && !smGet (fun _ => false) s.eav.d3 (v.val + 1)
    | .debug => decide (s.rf pgFLS FLS_SEC_DBG ≤ 1)
    | .gable _ => true

/-- R689: while the eave is disabled, a memory request is answered with Completer Abort. Before its first enable none arrives: the configuration requests have not been completed (R574). [DEDUCED, assumption log 12] -/
def State.turnedAway (s : State) (src : Src) : State :=
  match src with
  | .host | .vf _ => if s.pwr.core && !s.ready pgEAV then s.emit (.abort src) else s
  | _ => s

/-- R535: a write of the FLS page, other than of FLS_ARM, ends an arming. -/
def State.armEnds (s : State) (k : PgKind) (off : Nat) : State :=
  if k = .fls ∧ off ≠ 0x64 then s.wf pgFLS FLS_STAT_ARMED 0 else s

/-- The guard that comes before a write's own rules: a core-domain page takes no write while the core rails are off, and GLB records STATE (R598); a source that is not a writer of the page is refused with WRITER (R96). [DEDUCED, assumption log 10] -/
def State.ifWriter (s : State) (src : Src) (key : Nat) (f : State → State) : State :=
  if !reaches src key || !s.admits src then s
  else match pageOf key with
  | none => s.accErr src key eUNMAPPED
  | some (k, inst) =>
    if s.pageOff k then s.err pgGLB eSTATE (errAddr key) (srcCode src)
    else if isWriter k inst src then (f s).armEnds k (key % 0x1000) else s.accErr src key eWRITER

end Sys2Proof.Machine
end

