-- ==== Sys2Proof/Machine/IrqRows.lean ====
section
/-! DEFINITION. The commands of the interrupt controller (R464 to R477). -/

namespace Sys2Proof.Machine

/-- IRQ_CLAIM: a gable's read claims; any other source reads 0 (R466). -/
def execIrqClaim (src : Src) (s : State) : Host.Outcome State Fault Refusal :=
  done s (if !s.admits src then s else match src with
    | .gable g => let (s1, n) := s.irqClaim g 0; s1.answer src n
    | .host | .debug => s.answer src 0
    | .vf _ => s)

/-- IRQ_FCLAIM: the same for the fast line. -/
def execIrqFclaim (src : Src) (s : State) : Host.Outcome State Fault Refusal :=
  done s (if !s.admits src then s else match src with
    | .gable g => let (s1, n) := s.irqClaim g 1; s1.answer src n
    | .host | .debug => s.answer src 0
    | .vf _ => s)

/-- A write of IRQ_COMPLETE (R467). -/
def State.irqCompleteWrite (s : State) (src : Src) (n : Nat) : State :=
  s.ifWriter src (pgIRQ + 0x48) fun s => match src with
    | .gable g => s.irqComplete g n
    | _ => s.irqBadComplete 0x102 (pgIRQ + 0x48) (srcCode src)

/-- IRQ_COMPLETE. -/
def execIrqComplete (src : Src) (n : Fin 256) (s : State) : Host.Outcome State Fault Refusal :=
  done s (s.irqCompleteWrite src n)

/-- A write of IRQ_HCOMPLETE (R467). -/
def State.irqHCompleteWrite (s : State) (src : Src) (n : Nat) : State :=
  s.ifWriter src (pgIRQ + 0x58) fun s => match src with
    | .gable _ => s.irqBadComplete 0x102 (pgIRQ + 0x58) (srcCode src)
    | _ => s.irqHComplete (srcCode src) n

/-- IRQ_HCOMPLETE. -/
def execIrqHcomplete (src : Src) (n : Fin 256) (s : State) : Host.Outcome State Fault Refusal :=
  done s (s.irqHCompleteWrite src n)

/-- R470: an event of software source n of a gable. -/
def State.swi (s : State) (src : Src) (key g n : Nat) : State :=
  if 1 ≤ n ∧ n ≤ 8 then s.irqEvent g n else s.accErr src key eRANGE

/-- IRQ_SET (R470). -/
def State.irqSetWrite (s : State) (src : Src) (n : Nat) : State :=
  let key := pgIRQ + 0x50
  s.ifWriter src key fun s => match src with
    | .gable g => s.swi src key g n
    | _ => s.accErr src key eWRITER

/-- The command of the write above. -/
def execIrqSet (src : Src) (n : Fin 16) (s : State) : Host.Outcome State Fault Refusal :=
  done s (s.irqSetWrite src n)

/-- IRQ_XSET (R470). -/
def State.irqXsetWrite (s : State) (src : Src) (g : Nat) (n : Nat) : State :=
  s.ifWriter src (pgIRQ + 0x54) fun s => s.swi src (pgIRQ + 0x54) g n

/-- The command of the write above. -/
def execIrqXset (src : Src) (g : Fin 2) (n : Fin 16) (s : State) : Host.Outcome State Fault Refusal :=
  done s (s.irqXsetWrite src g n)

/-- R464: a value that IRQ_SRCn does not take. -/
def irqSrcBad (v : Word32) : Bool :=
  let fn := fieldGet v 8 4
  fieldGet v 4 2 == 3 || decide (8 < fn) || (fn != 0 && fieldGet v 7 1 == 0)

/-- IRQ_SRC_WRITE (R464, R473, R476). While a source is ACTIVE, the controller goes by the fields that R473 keeps for it. -/
def State.irqSrcWrite (s : State) (src : Src) (n : Nat) (v : Word32) : State :=
  let key := pgIRQ + 0x400 + 4 * n
  s.ifWriter src key fun s =>
    if n = 0 then s.accErr src key eUNMAPPED
    else if n < 32 then
      match src with
      | .gable g =>
        if n ≤ 8 then (s.wf (pgIRQB g) IRQ_SRC_EN (fieldGet v 12 1) n).wf (pgIRQB g) IRQ_SRC_PRIO (fieldGet v 0 4) n else s
      | _ => s.accErr src key eWRITER
    else if !irqExists n then s
    else if irqSrcBad v then s.accErr src key eRANGE
    else s.regWrite src key v fun _ s1 => s1

def execIrqSrcWrite (src : Src) (n : Fin 256) (v : Word32) (s : State) : Host.Outcome State Fault Refusal :=
  done s (s.irqSrcWrite src n v)

/-! ## Messages (R471, R683) -/

/-- The page and field of a function's MSI-X table. [DEDUCED, assumption log 20] -/
def State.msixEntry (s : State) (fn vec : Nat) : Nat × Nat × Bool :=
  if fn = 0 then
    (s.rf pgEAV EAV_MSIX_ADDR_LO vec + 2 ^ 32 * s.rf pgEAV EAV_MSIX_ADDR_HI vec, s.rf pgEAV EAV_MSIX_DATA vec,
      s.bit pgEAV EAV_MSIX_MASK vec)
  else
    (s.rf (pgVMB fn) VMB_MSIX_ADDR_LO vec + 2 ^ 32 * s.rf (pgVMB fn) VMB_MSIX_ADDR_HI vec, s.rf (pgVMB fn) VMB_MSIX_DATA vec,
      s.bit (pgVMB fn) VMB_MSIX_MASK vec)

/-- The function exists: the PF, or a VF that SR-IOV has enabled. -/
def State.fnOn (s : State) (fn : Nat) : Bool := fn == 0 || decide (fn ≤ s.eav.vfs)

/-- A message of this vector may be sent: MSI-X is enabled for the function and the vector is not masked. -/
def State.msixOpen (s : State) (fn vec : Nat) : Bool :=
  s.pwr.core && s.fnOn fn && smGet (fun _ => false) s.eav.msix fn && !(s.msixEntry fn vec).2.2

/-- R471: a host-target source that waits to send. -/
def State.irqSends (s : State) (n : Nat) : Bool :=
  irqExists n && decide (32 ≤ n) && s.rf pgIRQ IRQ_SRC_STATE n == srcPending && s.bit pgIRQ IRQ_SRC_EN n
    && s.rf pgIRQ IRQ_SRC_TARGET n == 2

/-- R471: the source that sends next: the highest PRIO, and then the lowest number. [DEDUCED, assumption log 20] -/
def State.msixNext (s : State) : Option Nat :=
  ((List.range 164).filter fun n => s.irqSends n && s.msixOpen (s.rf pgIRQ IRQ_SRC_FUNC n) (s.rf pgIRQ IRQ_SRC_VEC n)).foldl
    (fun a n => match a with
      | none => some n
      | some m => if s.rf pgIRQ IRQ_SRC_PRIO m < s.rf pgIRQ IRQ_SRC_PRIO n then some n else some m) none

/-- The message is sent and the source becomes ACTIVE; a CMODE 1 source whose request is low completes (R472). [DEDUCED, assumption log 20] -/
def State.msixSend (s : State) (n : Nat) : State :=
  let fn := s.rf pgIRQ IRQ_SRC_FUNC n
  let vec := s.rf pgIRQ IRQ_SRC_VEC n
  let (a, d, _) := s.msixEntry fn vec
  let s1 := (s.irqActivate 0 n).emit (.msix fn vec a d)
  if (s1.irqServing n).cmode = 1 ∧ ¬ s1.irqRequest n then s1.irqIdle 0 n else s1

/-- MSIX_SEND. -/
def execMsixSend (s : State) : Host.Outcome State Fault Refusal :=
  done s (match s.msixNext with
    | some n => s.msixSend n
    | none => s)

/-- R683: the pending bits of a function's vectors 32k to 32k + 31. -/
def State.msixPba (s : State) (fn k : Nat) : Nat :=
  (List.range 164).foldl (fun a n =>
    let vec := s.rf pgIRQ IRQ_SRC_VEC n
    if s.irqSends n && s.rf pgIRQ IRQ_SRC_FUNC n == fn && vec / 32 == k && !s.msixOpen fn vec then a ||| 2 ^ (vec % 32) else a) 0

end Sys2Proof.Machine
end

