-- ==== Sys2Proof/Machine/Code.lean ====
section
/-! DEFINITION. The symbol code of stacked memory: RS(68, 64) over GF(2^8) (R354, R355). A codeword's outcome depends only on the symbols in error. -/

namespace Sys2Proof.Machine

/-- Multiplication by α = 2 modulo x^8 + x^4 + x^3 + x^2 + 1. -/
def gfX (a : Nat) : Nat := (2 * (a % 256)) ^^^ (0x11D * (a % 256 / 128))

/-- Multiplication in GF(2^8). -/
def gfMul (a b : Nat) : Nat :=
  [7, 6, 5, 4, 3, 2, 1, 0].foldl (fun acc i => gfX acc ^^^ (b / 2 ^ i % 2 * a)) 0

/-- α^k. -/
def gfExp : Nat → Nat
  | 0 => 1
  | k + 1 => gfX (gfExp k)

/-- The inverse, a^254, the product of a^2, a^4, …, a^128. -/
def gfInv (a : Nat) : Nat := ((List.range 7).foldl (fun p _ => (gfMul p.1 p.1, gfMul p.2 (gfMul p.1 p.1))) (a, 1)).2

/-- Symbols in error: symbol number, 0 to 63 data bytes and 64 to 67 check bytes, and XOR pattern. -/
abbrev SymErrs := List (Nat × Nat)

/-- α to the place of a symbol in the codeword: symbol i is the coefficient of x^(67 - i). -/
def symPlace (i : Nat) : Nat := gfExp (67 - i)

/-- Syndrome j of an error pattern. -/
def syndrome (e : SymErrs) (j : Nat) : Nat :=
  e.foldl (fun acc p => acc ^^^ gfMul p.2 (gfExp (j * (67 - p.1) % 255))) 0

/-- Whether a pattern has these four syndromes. -/
def synIs (e : SymErrs) (ss : List Nat) : Bool := (List.range 4).all fun j => syndrome e j == ss.getD j 0

/-- A pattern of one symbol with these syndromes. -/
def fitOne (ss : List Nat) : Option SymErrs :=
  let s0 := ss.getD 0 0
  if s0 = 0 then none else ((List.range 68).map fun i => [(i, s0)]).find? (synIs · ss)

/-- A pattern of two symbols with these syndromes. Its first test, which the pattern's syndromes imply, spares the inversion of the pairs that fail it. -/
def fitTwo (ss : List Nat) : Option SymErrs :=
  let s0 := ss.getD 0 0
  let s1 := ss.getD 1 0
  (List.range 68).findSome? fun i => (List.range i).findSome? fun k =>
    let xi := symPlace i
    let xk := symPlace k
    let vi := gfMul (s1 ^^^ gfMul s0 xk) (gfInv (xi ^^^ xk))
    let vk := s0 ^^^ vi
    let e : SymErrs := [(k, vk), (i, vi)]
    if gfMul (s1 ^^^ gfMul s0 xk) xi = ss.getD 2 0 ^^^ gfMul s1 xk ∧ vi ≠ 0 ∧ vk ≠ 0 ∧ synIs e ss then some e else none

/-- What the decoder corrects; none: uncorrectable. -/
def decodeErr (e : SymErrs) : Option SymErrs :=
  let ss := (List.range 4).map (syndrome e)
  if ss.all (· == 0) then some []
  else match fitOne ss with
    | some f => some f
    | none => fitTwo ss

/-- R354: the generator's coefficients below x^4, from x^3 down. -/
def genPoly : List Nat := [15, 54, 120, 64]

/-- R354: the check bytes p0 to p3 of data bytes: the remainder of d(x), byte by byte. -/
def checkBytes (bs : List Nat) : List Nat :=
  bs.foldl (fun r d => let f := d ^^^ r.headD 0
    (List.range 4).map fun k => r.getD (k + 1) 0 ^^^ gfMul f (genPoly.getD k 0)) [0, 0, 0, 0]

/-- The pattern at one symbol. -/
def patAt (e : SymErrs) (i : Nat) : Nat := (e.filter (fun p => p.1 == i)).foldl (fun a p => a ^^^ p.2) 0

end Sys2Proof.Machine
end

