-- ==== Sys2Proof/Machine/Mem.lean ====
section
/-! DEFINITION. Pool pages, object bytes and the object table as every block reaches them (R109 to R116, R131, R141, R350). -/

namespace Sys2Proof.Machine

/-! ## Pool pages -/

/-- R113: pages of one stack. -/
abbrev stackPages : Nat := 17344
/-- R113: pages of the pool. -/
abbrev poolPages : Nat := 69376
/-- R110: bytes of a page. -/
abbrev pageBytes : Nat := 2097152

def stackOf (page : Nat) : Nat := page / stackPages

def pgUseDflt (_ : Nat) : PgUse := .free

def State.pageUse (s : State) (p : Nat) : PgUse := smGet pgUseDflt s.pur.pages p

def State.setPageUse (s : State) (p : Nat) (u : PgUse) : State :=
  { s with pur := { s.pur with pages := smSet pgUseDflt s.pur.pages p u } }

/-- Pages of a stack that are in use or retired, in rising order. -/
def State.takenPages (s : State) (n : Nat) : List Nat :=
  (s.pur.pages.filter fun e => stackOf e.1 == n).map (·.1)

/-- PUR_FREEn: free pages of stack n. -/
def State.freeCount (s : State) (n : Nat) : Nat := stackPages - (s.takenPages n).length

/-- R116: a table page of stack n that awaits a free page; copy c lies in stack c (R115). -/
def State.unrepCount (s : State) (n : Nat) : Nat := (s.pur.unrep.filter fun e => e.1 == n).length

/-- Free pages that uses other than the repair of a table page may take (R116). -/
def State.freeAvail (s : State) (n : Nat) : Nat := s.freeCount n - s.unrepCount n

/-- The k-th number from `p` on that a rising list does not hold. [DESIGN CHOICE, assumption log 50] -/
def kthFree : Nat → List Nat → Nat → Nat
  | p, [], k => p + k
  | p, u :: r, k => if k < u - p then p + k else kthFree (u + 1) r (k - (u - p))

/-- Take one free page of stack n; which one is open, and is a free value. [DESIGN CHOICE, assumption log 50] -/
def State.takePage (s : State) (n : Nat) : Nat × State :=
  let (v, s1) := s.fresh
  let p := kthFree (n * stackPages) (s1.takenPages n) (v % max 1 (s1.freeCount n))
  (p, s1.setPageUse p .used)

/-- Take pages, one from each stack listed. -/
def State.takePages (s : State) : List Nat → List Nat × State
  | [] => ([], s)
  | n :: r => let (p, s1) := s.takePage n; let (ps, s2) := s1.takePages r; (p :: ps, s2)

/-- Return pages to the free pages; a retired page stays retired until a cold reset (R116). -/
def State.releasePages (s : State) (ps : List Nat) : State :=
  ps.foldl (fun s p => if s.pageUse p = .retired then s else s.setPageUse p .free) s

/-! ## Bytes -/

/-- R350: stack and beat-pair index of a pool address. -/
def beatOf (a : Nat) : Nat × Nat :=
  let page := a / pageBytes
  let n := stackOf page
  (n, ((page - stackPages * n) * pageBytes + a % pageBytes) / 64)

/-- R350: the pool address of the first byte of a beat pair. -/
def beatAddr (n b : Nat) : Nat := stackPages * n * pageBytes + b * 64

/-- R712: the stack completes accesses without touching memory: lost, stopped under R367, or its rails off (R609). [DEDUCED, assumption log 74] -/
def State.stackStopped (s : State) (n : Nat) : Bool :=
  s.bit (pgHBM n) HBM_STAT_LOST || smGet (fun _ => false) s.hbm.stop n || s.pwr.hbmOff

/-! ## Pseudo-channels and code groups (R350, R351, R353) -/

/-- R350: the pseudo-channel of a beat pair. -/
def pcOf (b : Nat) : Nat := b % 64 ^^^ b / 64 % 64
/-- R350: its data slot within the pseudo-channel. -/
def slotOf (b : Nat) : Nat := b / 64
/-- R350: the code group of a data slot. -/
def groupOf (slot : Nat) : Nat := slot / 16
/-- R350: the raw slot of a data slot. -/
def rawSlot (slot : Nat) : Nat := 17 * groupOf slot + slot % 16
/-- R350: the check slot of a data slot. -/
def checkSlot (slot : Nat) : Nat := 17 * groupOf slot + 16
/-- The beat pair at a data slot of a pseudo-channel. -/
def beatAt (pc slot : Nat) : Nat := 64 * slot + (pc ^^^ slot % 64)

/-- R353: code groups of the page pool in a pseudo-channel. -/
abbrev poolGroups : Nat := 555008
/-- R353: code groups of a pseudo-channel, the stack reserve's included. -/
abbrev allGroups : Nat := 555128
/-- R353: raw slots of a pseudo-channel; the last 8 belong to no group. -/
abbrev rawSlots : Nat := 9437184

/-- R351, R354: the raw slot, and the byte in it, that hold symbol i of the codeword of a data slot. -/
def symCell (slot i : Nat) : Nat × Nat :=
  if i < 64 then (rawSlot slot, i) else (checkSlot slot, 4 * (slot % 16) + (i - 64))

/-- The data slot and the symbol that byte i of a raw slot is. -/
def cellSym (raw i : Nat) : Nat × Nat :=
  if raw % 17 < 16 then (16 * (raw / 17) + raw % 17, i) else (16 * (raw / 17) + i / 4, 64 + i % 4)

/-- Beat pairs of a stack's page pool. -/
abbrev poolBeats : Nat := 568328192

/-- The key of a codeword's first symbol. -/
def symBase (stack b : Nat) : Nat := (stack * 2 ^ 30 + b) * 68

/-- The symbols in error of a codeword. -/
def State.symErrs (s : State) (n b : Nat) : SymErrs :=
  (s.hbm.syms.filter fun e => e.1 / 68 == symBase n b / 68).map fun e => (e.1 % 68, e.2)

/-- A byte as a read delivers it: the stored byte, less what the decoder corrects of its symbol's error (R355). A byte nothing has written is 0 (assumption log 7). [DESIGN CHOICE, assumption log 7; DEDUCED, assumption log 76] -/
def State.hbmByte (s : State) (a : Nat) : Byte :=
  let v := smGet (fun _ => 0) s.hbm.bytes a
  let (n, b) := beatOf a
  match s.symErrs n b with
  | [] => v
  | e => v ^^^ BitVec.ofNat 8 (patAt e (a % 64) ^^^ patAt ((decodeErr e).getD []) (a % 64))

/-- A byte as a read delivers it: zero from a stack that completes no access (R712). -/
def State.readByte (s : State) (a : Nat) : Byte :=
  if s.stackStopped (stackOf (a / pageBytes)) then 0 else s.hbmByte a

/-- The data of a slot as it was last written, errors apart: of the page pool, or of the stack reserve, whose first 8 groups hold the patterns (R353). -/
def State.slotData (s : State) (n pc slot : Nat) : List Byte :=
  (List.range 64).map fun i =>
    if groupOf slot < poolGroups then smGet (fun _ => 0) s.hbm.bytes (beatAddr n (beatAt pc slot) + i)
    else if smGet (fun _ => false) s.hbm.reserve n && decide (groupOf slot < poolGroups + 8) then
      Config.reservePattern (64 * n + pc) (slot - 16 * poolGroups) i
    else 0

/-- R351, R354: byte i of a raw slot of a pseudo-channel: data, or in a check slot the check bytes of the group's data slots, with the symbol errors that have struck it. The slots outside any group are unused, and 0 here. [DESIGN CHOICE, assumption log 7] -/
def State.rawByte (s : State) (n pc raw i : Nat) : Byte :=
  let (slot, sym) := cellSym raw i
  if allGroups ≤ raw / 17 then 0
  else
    let d := s.slotData n pc slot
    let v := if sym < 64 then (d.getD sym 0).toNat else (checkBytes (d.map (·.toNat))).getD (sym - 64) 0
    BitVec.ofNat 8 (if groupOf slot < poolGroups then v ^^^ patAt (s.symErrs n (beatAt pc slot)) sym else v)

/-! ## Check slots (R357) -/

def State.checkCache (s : State) (n pc : Nat) : List (Nat × Nat) := smGet (fun _ => []) s.hbm.cache (64 * n + pc)

/-- Room for one more check slot in a cache of 4: one gives way, and is written back. Which one is open. [DESIGN CHOICE, assumption log 116] -/
def evictCheck (at' : Nat) (c : List (Nat × Nat)) : List (Nat × Nat) :=
  if c.length < 4 then c else c.eraseIdx (Config.checkVictim at' (c.map (·.1)) % 4)

/-- R357: an access to a beat pair finds its check slot in the cache of its pseudo-channel, or brings it there. A write merges its check bytes into it; once all 16 data slots of the group have been written since it was cached, it is written back. [DESIGN CHOICE, assumption log 116] -/
def State.checkTouch (s : State) (n b : Nat) (write : Bool) : State :=
  let at' := 64 * n + pcOf b
  let g := groupOf (slotOf b)
  let c := s.checkCache n (pcOf b)
  let old := ((c.find? fun e => e.1 == g).map (·.2)).getD 0
  let new := if write then old ||| 2 ^ (slotOf b % 16) else old
  let rest := c.filter fun e => e.1 != g
  let c1 := if new = 0xFFFF then rest else (g, new) :: (if rest.length = c.length then evictCheck at' rest else rest)
  { s with hbm := { s.hbm with cache := smSet (fun _ => []) s.hbm.cache at' c1 } }

/-! ## Writes -/

def State.hbmPut (s : State) (kvs : List (Nat × Byte)) : State :=
  { s with hbm := { s.hbm with bytes := smSetMany (fun _ => 0) s.hbm.bytes kvs } }

/-- Fresh check bytes for the codewords that hold these addresses. -/
def State.freshCheck (s : State) (addrs : List Nat) : State :=
  let cws := addrs.map fun a => let (n, b) := beatOf a; symBase n b / 68
  { s with hbm := { s.hbm with syms := smDrop (fun k => cws.contains (k / 68)) s.hbm.syms } }

/-- Clear a page to zero data with valid check bytes. -/
def State.zeroPage (s : State) (p : Nat) : State :=
  { s with hbm := { s.hbm with
      bytes := smDrop (fun a => a / pageBytes == p) s.hbm.bytes
      syms := smDrop (fun k => k / 68 / 2 ^ 30 == stackOf p &&
        (k / 68 % 2 ^ 30) / 32768 == p % stackPages) s.hbm.syms } }

/-- The listed bytes of a page, by offset. -/
def State.pageCells (s : State) (p : Nat) : List (Nat × Byte) :=
  (s.hbm.bytes.filter fun e => e.1 / pageBytes == p).map fun e => (e.1 % pageBytes, e.2)

/-- Copy the contents of one page into another. -/
def State.copyPage (s : State) (src dst : Nat) : State :=
  (s.zeroPage dst).hbmPut ((s.pageCells src).map fun e => (dst * pageBytes + e.1, e.2))

/-! ## Objects -/

def objDflt (_ : Nat) : Obj := {}

/-- The object-table entry of a handle. -/
def State.obj (s : State) (h : Nat) : Obj := smGet objDflt s.pur.objs h

def ObjState.code : ObjState → Nat
  | .free => 0 | .empty => 1 | .resident => 2 | .evicted => 3

/-- R111: the first word of an object-table entry. -/
def Obj.word0 (o : Obj) : Nat :=
  o.state.code + 4 * bnat o.pin + 8 * bnat o.poison + 16 * bnat o.moving + 2 ^ 5 * o.place + 2 ^ 8 * o.kind
    + 2 ^ 12 * o.owner + 2 ^ 16 * o.domain

/-- R111: the 32 bytes of an entry. PLIST is written 0 while the object is not RESIDENT, and HSLOT while it is not EVICTED. [DESIGN CHOICE, assumption log 112] -/
def Obj.entry (o : Obj) (plist : Nat) : BitVec 256 :=
  BitVec.ofNat 256 (o.word0 + 2 ^ 32 * o.size1 + 2 ^ 64 * o.last
    + 2 ^ 128 * (if o.state = .resident then plist else 0)
    + 2 ^ 160 * (if o.state = .evicted then o.slots.headD 0 else 0) + 2 ^ 192 * o.epoch)

/-! ## The page list (R114) -/

/-- The runs of numbers below `lim` that a rising list of numbers leaves free, from `p` on: first and length. -/
def freeRuns (lim : Nat) : Nat → List Nat → List (Nat × Nat)
  | p, [] => if p < lim then [(p, lim - p)] else []
  | p, k :: r => (if p < min k lim then [(p, min k lim - p)] else []) ++ freeRuns lim (max p (k + 1)) r

/-- The places in some runs where `n` numbers in a row fit. -/
def runPlaces (n : Nat) (rs : List (Nat × Nat)) : Nat := (rs.map fun r => r.2 + 1 - n).foldl (· + ·) 0

/-- Place number `v` among them. -/
def runPick (n : Nat) : List (Nat × Nat) → Nat → Option Nat
  | [], _ => none
  | (p, l) :: r, v => if v < l + 1 - n then some (p + v) else runPick n r (v - (l + 1 - n))

def plDflt (_ : Nat) : Option Nat := none

/-- Enter pages in the page list from an index on, as the pages of an object. -/
def State.plPut (s : State) (h at' : Nat) (ps : List Nat) : State :=
  let kvs := (List.range ps.length).map fun i => (at' + i, ps[i]?)
  { s with pur := { s.pur with plist := smSetMany plDflt s.pur.plist kvs, plAt := smInsert h at' (smErase s.pur.plAt h) } }

/-- The entries of an object leave the page list. -/
def State.plDrop (s : State) (h n : Nat) : State :=
  let a := smGet (fun _ => 0) s.pur.plAt h
  let plist := if s.pur.plAt.any (·.1 == h) then smDrop (fun k => decide (a ≤ k ∧ k < a + n)) s.pur.plist else s.pur.plist
  { s with pur := { s.pur with plist := plist, plAt := smErase s.pur.plAt h } }

/-- The page list has no run that is long enough: the objects' entries are moved together. [DESIGN CHOICE, assumption log 112] -/
def State.plCompact (s : State) : State :=
  let s0 := { s with pur := { s.pur with plist := [], plAt := [] } }
  ((s.pur.objs.filter fun e => s.pur.plAt.any (·.1 == e.1)).foldl (fun (s, a) e => (s.plPut e.1 a e.2.pages, a + e.2.pages.length))
    (s0, 0)).1

/-- R114: an object's pages take consecutive entries of the page list: the lowest that are free. [DESIGN CHOICE, assumption log 112] -/
def State.listPages (s : State) (h : Nat) (ps : List Nat) : State :=
  let s1 := s.plDrop h (smGet objDflt s.pur.objs h).pages.length
  if ps.isEmpty then s1
  else match runPick ps.length (freeRuns poolPages 0 (s1.pur.plist.map (·.1))) 0 with
    | some a => s1.plPut h a ps
    | none =>
      let s2 := s1.plCompact
      match runPick ps.length (freeRuns poolPages 0 (s2.pur.plist.map (·.1))) 0 with
      | some a => s2.plPut h a ps
      | none => s2

/-! ## The object table (R111, R115, R116) -/

/-- Entries in one page of the table. -/
abbrev pageEntries : Nat := 65536

def tabKey (copy h : Nat) : Nat := copy * 2 ^ 24 + h

/-- R115, R116: a page of a copy is there: it has not been retired without repair. -/
def State.tabHas (s : State) (copy h : Nat) : Bool := !s.pur.unrep.contains (copy, h / pageEntries)

/-- R115: an update writes both copies; a page that awaits its repair takes none (R116), nor does a stack that completes no access (R712). -/
def State.putEntry (s : State) (h : Nat) (w : BitVec 256) : State :=
  { s with pur := { s.pur with table := [0, 1].foldl (fun m c =>
      if s.tabHas c h && !s.stackStopped c then smSet (fun _ => 0) m (tabKey c h) w else m) s.pur.table } }

/-- R115, R116: an entry as Purlin reads it: from the primary copy, and from the mirror while the page of the primary copy awaits its repair; zero from a stack that completes no access (R712). -/
def State.tabEntry (s : State) (h : Nat) : BitVec 256 :=
  let c := if s.tabHas 0 h then 0 else 1
  if s.stackStopped c then 0 else smGet (fun _ => 0) s.pur.table (tabKey c h)

/-- The entry of a handle is updated: its pages in the page list, and its bytes in both copies (R114, R115). -/
def State.setObj (s : State) (h : Nat) (o : Obj) : State :=
  let s1 := if (s.obj h).pages = o.pages then s else s.listPages h o.pages
  let s2 := { s1 with pur := { s1.pur with objs := smSet objDflt s1.pur.objs h o } }
  s2.putEntry h (o.entry (smGet (fun _ => 0) s2.pur.plAt h))

/-- The entry of a handle becomes FREE. -/
def State.clearObj (s : State) (h : Nat) : State :=
  let s1 := s.plDrop h (s.obj h).pages.length
  { s1 with pur := { s1.pur with objs := smErase s1.pur.objs h } }.putEntry h 0

/-- R110: pages that an object's size requires. -/
def Obj.npages (o : Obj) : Nat := o.size1 / pageBytes + 1

/-- R110: the stack of page i of an object. -/
def Obj.stackAt (o : Obj) (i : Nat) : Nat := if o.place < 4 then o.place else i % 4

/-- The stacks of an object's pages, in order. -/
def Obj.stacks (o : Obj) : List Nat := (List.range o.npages).map o.stackAt

/-- Pages of an object in stack n. -/
def Obj.pagesIn (o : Obj) (n : Nat) : Nat := (o.stacks.filter (· == n)).length

/-- Enough free pages for an object in every stack of its placement. -/
def State.roomFor (s : State) (o : Obj) : Bool := (List.range 4).all fun n => decide (o.pagesIn n ≤ s.freeAvail n)

/-- R109: the handle is in range. -/
def State.handleOk (s : State) (h : Nat) : Bool := decide (1 ≤ h) && decide (h < 2 ^ s.rf pgPUR PUR_OT_CFG_LOG2)

/-- The address of byte i under a list of pages. -/
def pagedAddr (pages : List Nat) (i : Nat) : Nat := pages.getD (i / pageBytes) 0 * pageBytes + i % pageBytes

/-- Write bytes under a list of pages, with fresh check bytes; a stack that completes no access drops them (R712). -/
def State.pagedWrite (s : State) (pages : List Nat) (off : Nat) (bs : List Byte) : State :=
  let kvs := ((List.range bs.length).map fun i => (pagedAddr pages (off + i), bs.getD i 0)).filter fun e =>
    !s.stackStopped (stackOf (e.1 / pageBytes))
  (s.hbmPut kvs).freshCheck (kvs.map (·.1))

/-- R139: the first write into an EMPTY object takes pages, zero-filled, and makes it RESIDENT. -/
def State.objMaterialize (s : State) (h : Nat) : State :=
  let o := s.obj h
  if o.state = .empty then
    let (ps, s1) := s.takePages o.stacks
    let s2 := ps.foldl (fun s p => s.zeroPage p) s1
    s2.setObj h { o with state := .resident, pages := ps }
  else s

/-- R141: poison an object: counted, recorded and raised once. -/
def State.poisonObj (s : State) (h : Nat) : State :=
  let o := s.obj h
  if o.poison then s
  else
    (((s.setObj h { o with poison := true }).inc pgPUR PUR_POISON_CNT_COUNT).wf pgPUR
      PUR_POISON_LAST_HANDLE h).raise pgPUR 2

/-- R116: retire a page: counted and raised once. -/
def State.retirePage (s : State) (p : Nat) : State :=
  if s.pageUse p = .retired then s
  else ((s.setPageUse p .retired).inc pgPUR PUR_RETIRED_PAGES).raise pgPUR 3

/-- The object whose current pages hold a page. -/
def State.pageOwner (s : State) (p : Nat) : Option Nat :=
  (s.pur.objs.find? fun e => e.2.pages.contains p).map (·.1)

/-! ## Plans and objects -/

/-- R127, R677: the handles that a plan names, its image counted as an input. -/
def Plan.names (p : Plan) (h : Nat) : Bool := p.img == h || p.objs.any (fun u => u.handle == h)

/-- Every handle that a plan names, once each. -/
def Plan.handles (p : Plan) : List Nat := p.img :: (p.objs.map (·.handle)).filter (· != p.img)

/-- Output handles of a plan (R127). -/
def Plan.outputs (p : Plan) : List Nat := (p.objs.filter fun u => u.use == 1 || u.use == 2).map (·.handle)

def Plan.bat (p : Plan) (b : Nat) : BatEnt := p.bats.getD b {}
def Plan.eng (p : Plan) (e : Nat) : EngEnt := p.engs.getD e {}

/-- R269: the battens that yealm y of a plan drives. -/
def Plan.rowOf (p : Plan) (y : Nat) (b : Nat) : Bool :=
  let e := p.eng y
  e.present && (b / 8 == e.row || (e.paired && b / 8 == e.row + 1))

/-- Demand, stints or a named standing grant on a batten (R177, R178, R182). -/
def Plan.onBatten (p : Plan) (b : Nat) : Bool :=
  (p.bat b).demand != 0 || (p.bat b).stints || p.grants.any (fun g => g.batten == b)

/-- R714: the plan uses a batten. -/
def Plan.uses (p : Plan) (b : Nat) : Bool :=
  p.onBatten b || (List.range 4).any fun y => p.rowOf y b

/-- The pages under which a run reaches an object: an output's shadow pages, an input's current pages (R131). -/
def State.runPages (s : State) (r : Run) (h : Nat) : List Nat :=
  match r.shadows.find? (fun e => e.1 == h) with
  | some (_, ps) => ps
  | none => (s.obj h).pages

/-- A byte that an engine of a run reads. -/
def State.runByte (s : State) (r : Run) (h i : Nat) : Byte :=
  match s.runPages r h with
  | [] => 0
  | ps => s.readByte (pagedAddr ps i)

def State.runBytes (s : State) (r : Run) (h off n : Nat) : List Byte :=
  (List.range n).map fun i => s.runByte r h (off + i)

/-- An engine's write: into the shadow pages of an output, and nowhere else (R131). -/
def State.runWrite (s : State) (r : Run) (h off : Nat) (bs : List Byte) : State :=
  match r.shadows.find? (fun e => e.1 == h) with
  | some (_, ps) => s.pagedWrite ps off bs
  | none => s

/-- R49, R350: the run uses every channel of a stack in which a named object has a page. -/
def State.runUsesStack (s : State) (r : Run) (n : Nat) : Bool :=
  r.plan.handles.any (fun h => (s.obj h).pages.any fun p => stackOf p == n)
    || r.shadows.any fun e => e.2.any fun p => stackOf p == n

end Sys2Proof.Machine
end

