-- ==== Sys2Proof/Machine/CourseOps.lean ====
section
/-! DEFINITION. What every engine may do to the course in progress: overrun it, fail its plan, charge its RETRY allowance, fail the tray (R20, R21, R52 to R58, R108, R360). -/

namespace Sys2Proof.Machine

/-- CRS_STAT.PHASE (R68). -/
def State.phase (s : State) : Nat := s.rf pgCRS CRS_STAT_PHASE

/-- The course number (R40, R66). -/
def State.courseNum (s : State) : Nat := s.rf pgCRS CRS_NUM_LO_NUM + 2 ^ 32 * s.rf pgCRS CRS_NUM_HI_NUM

def State.setCourseNum (s : State) (n : Nat) : State :=
  (s.wf pgCRS CRS_NUM_LO_NUM (n % 2 ^ 32)).wf pgCRS CRS_NUM_HI_NUM (n / 2 ^ 32 % 2 ^ 32)

/-- The tray is in the failed state (R21). -/
def State.trayFailed (s : State) : Bool := s.bit pgGLB GLB_STATE_FAILED

/-- The plan of the present course while it may still work: in the arm window and the run phase, neither frozen nor done. -/
def State.live (s : State) : Option Run :=
  if s.crs.running && (s.phase == 1 || s.phase == 2) && !s.crs.frozen && !s.crs.trayFail then s.crs.run else none

/-- The plan of the present course until its tick, frozen or not. -/
def State.runningPlan (s : State) : Option Run := s.crs.run

/-- R52, R54: an overrun cause is detected, before the selection point has judged the course. The first one of the course is kept; LATE, RETRY and ENGINE freeze the plan's engines. -/
def State.overrun (s : State) (cause : Nat) (lig : Nat := 0) : State :=
  match s.crs.run with
  | none => s
  | some _ =>
    if s.crs.trayFail || s.crs.judged then s
    else
      let c := s.crs
      { s with crs := { c with
          cause := if c.cause = 0 then cause else c.cause
          lig := if c.cause = 0 then lig else c.lig
          late := c.late || cause == 2
          frozen := true } }

/-- R57: the plan fails while it runs: 1 a domain mismatch, 2 poison. Its engines freeze. A plan already requeued as overrun fails no more. -/
def State.planFail (s : State) (why : Nat) : State :=
  match s.crs.run with
  | none => s
  | some _ =>
    if s.crs.trayFail || (s.crs.judged && s.crs.cause != 0) then s
    else { s with crs := { s.crs with failWhy := if s.crs.failWhy = 0 then why else s.crs.failWhy, frozen := true } }

/-- R57, R116, R141: the plans that run, or are dispatched to the coming course, and satisfy `p` fail; one that is dispatched fails as its course opens. -/
def State.failRuns (s : State) (p : Run → Bool) (why : Nat) : State :=
  let mark (r : Run) : Run := if p r && r.fail == 0 then { r with fail := why } else r
  let s1 := { s with crs := { s.crs with next := s.crs.next.map fun (n : Selected) => { n with run := n.run.map mark } } }
  match s1.crs.run with
  | some r => if p r then s1.planFail why else s1
  | none => s1

/-- R20, R21, R107: the tray enters the failed state, or is already in it. The course in progress ends and its outputs are discarded at its tick. -/
def State.failTray (s : State) : State :=
  if s.trayFailed then s
  else
    let s := (s.wf pgGLB GLB_STATE_FAILED 1).raise pgGLB 0
    { s with crs := { s.crs with trayFail := s.crs.run.isSome, frozen := true } }

/-- R198, R108: a batten fails the tray; the first batten's number is kept. -/
def State.failBatten (s : State) (b : Nat) : State :=
  let s := if s.bit pgGLB GLB_FAIL_BATTEN_LOST then s else (s.wf pgGLB GLB_FAIL_BATTEN_LOST 1).wf pgGLB GLB_FAIL_BATTEN b
  s.failTray

/-- R375: a stack fails the tray. -/
def State.failStack (s : State) (n : Nat) : State :=
  ((s.wf pgGLB GLB_FAIL_STACKS (s.rf pgGLB GLB_FAIL_STACKS ||| 2 ^ n)).wf pgGLB GLB_FAIL_STACK_LOST 1).failTray

/-- Units charged on a channel in this course. -/
def State.charged (s : State) (n ch : Nat) : Nat := smGet (fun _ => 0) s.crs.charges (32 * n + ch)

/-- The running plan, if it uses stack n, and so channel ch of it (R350, R360). -/
def State.chargee (s : State) (n : Nat) : Option Run :=
  match s.live with
  | some r => if s.runUsesStack r n then some r else none
  | none => none

/-- R360: charge units on a channel; beyond the allowance the course overruns with cause RETRY. -/
def State.chargeRetry (s : State) (n ch units : Nat) : State :=
  match s.chargee n with
  | none => s
  | some r =>
    let u := s.charged n ch + units
    let s := { s with crs := { s.crs with charges := smSet (fun _ => 0) s.crs.charges (32 * n + ch) u } }
    if r.plan.retry < u then s.overrun 3 else s

/-- R141: the HBM code reports an uncorrectable error in a page that holds no object table; `planReads` says that an engine of the running plan is the reader. -/
def State.pageUe (s : State) (page : Nat) (planReads : Bool) : State :=
  let has (r : Run) := r.shadows.any fun e => e.2.contains page
  let runs := (s.crs.next.bind (·.run)).toList ++ s.crs.run.toList
  if runs.any has then (s.retirePage page).failRuns has 2
  else
    match s.pageOwner page with
    | some h =>
      let s := (s.retirePage page).poisonObj h
      match s.live with
      | some r => if planReads && r.plan.names h then s.planFail 2 else s
      | none => s
    | none => s.retirePage page

end Sys2Proof.Machine
end

