-- ==== Sys2Proof/Machine/PowerOps.lean ====
section
/-! DEFINITION. The tray state and the step in progress, as every block that ends a step sees them (R597, R601, R604, R606, R610). -/

namespace Sys2Proof.Machine

/-- States of R597. -/
abbrev tOFF : Nat := 0
abbrev tDORMANT : Nat := 1
abbrev tSTANDBY : Nat := 2
abbrev tIDLE : Nat := 3
abbrev tRUN : Nat := 4
abbrev tRISING : Nat := 5
abbrev tFALLING : Nat := 6

def State.tray (s : State) : Nat := s.rf pgGLB GLB_STATE_STATE
def State.trayStep (s : State) : Nat := s.rf pgGLB GLB_STATE_STEP

/-- The tray takes a state and a step; a change of STATE raises STATE_CHG (R625). WAIT_ADV shows whether the step waits for PWR_ADV. -/
def State.setTray (s : State) (st step : Nat) (wait : Bool) : State :=
  (((s.wf pgGLB GLB_STATE_STATE st).wf pgGLB GLB_STATE_STEP step).wf pgPWR PWR_STAT_WAIT_ADV (bnat wait)).raiseIf
    (s.tray != st) pgPWR 0

/-- R606: step Dk of a fall begins; D10 and D9 wait for PWR_ADV. -/
def State.fallAt (s : State) (k : Nat) : State :=
  (s.setTray tFALLING k (decide (9 ≤ k))).wf pgPWR PWR_STAT_OFF_PEND 0

/-- R601: step Uk of a rise begins; U7 to U10 wait for PWR_ADV. -/
def State.riseAt (s : State) (k : Nat) : State := s.setTray tRISING k (decide (7 ≤ k))

/-- R604, R610: U9 completes, and U10 begins, or the fall that an OFF request waits for. [DEDUCED, assumption log 91] -/
def State.u9Done (s : State) : State :=
  if s.tray = tRISING ∧ s.trayStep = 9 then
    if s.bit pgPWR PWR_STAT_OFF_PEND then s.fallAt 9 else s.riseAt 10
  else s

/-- R610: during U8, an OFF request waits for every stack to report DONE or ABORTED; the fall then begins at D8. [DEDUCED, assumption log 42] -/
def State.u8Check (s : State) : State :=
  if s.tray = tRISING ∧ s.trayStep = 8 ∧ s.bit pgPWR PWR_STAT_OFF_PEND ∧
      (List.range 4).all (fun n => s.bit (pgPHY n) PHY_TRAIN_STAT_DONE || s.bit (pgPHY n) PHY_TRAIN_STAT_ABORTED) then s.fallAt 8
  else s

end Sys2Proof.Machine
end

