-- ==== Sys2Proof/Machine/Hbm.lean ====
section
/-! DEFINITION. Stacked memory: reads and partial writes under the symbol code, parity retries, lane repair, temperature and refresh class, scrub, training and stack loss (R348 to R379, R712, R713). -/

namespace Sys2Proof.Machine


/-! ## Reads (R355, R356) -/

/-- Symbol errors strike a codeword. -/
def State.strike (s : State) (n b : Nat) (es : SymErrs) : State :=
  { s with hbm := { s.hbm with syms := es.foldl (fun m e =>
      let k := symBase n b + e.1 % 68
      smSet (fun _ => 0) m k (smGet (fun _ => 0) m k ^^^ e.2 % 256)) s.hbm.syms } }

/-- The codeword's errors are gone: it has been written afresh. -/
def State.clearSyms (s : State) (n b : Nat) : State :=
  { s with hbm := { s.hbm with syms := smDrop (fun k => k / 68 == symBase n b / 68) s.hbm.syms } }

/-- R356: queue a corrected beat pair for the scrub. -/
def State.queueScrub (s : State) (n b : Nat) : State :=
  let q := smGet (fun _ => []) s.hbm.scrub n
  if 16 ≤ q.length then s else { s with hbm := { s.hbm with scrub := smSet (fun _ => []) s.hbm.scrub n (q ++ [b]) } }

/-- A correction is counted, recorded and raised. -/
def State.countCe (s : State) (n b syms : Nat) : State :=
  let pg := pgHBM n
  (((s.inc pg HBM_CE_CNT_COUNT).wf pg HBM_CE_ADDR_SYMS syms).wf pg HBM_CE_ADDR_B b).raise pg 0

/-- An uncorrectable codeword is counted, recorded and raised. -/
def State.countUe (s : State) (n b : Nat) : State :=
  let pg := pgHBM n
  ((s.inc pg HBM_UE_CNT_COUNT).wf pg HBM_UE_ADDR_B b).raise pg 1

/-- The decoder's verdict on a codeword: clean, corrected with a number of symbols, or uncorrectable. -/
inductive Decoded where
  | clean
  | fixed (n : Nat)
  | bad
deriving DecidableEq, Repr

def State.decodeAt (s : State) (n b : Nat) : Decoded :=
  match s.symErrs n b with
  | [] => .clean
  | e => match decodeErr e with
    | some [] => .clean
    | some f => .fixed f.length
    | none => .bad

/-- The page that holds a beat pair. -/
def pageOfBeat (n b : Nat) : Nat := stackPages * n + b / 32768

/-- The pager owes nothing any more for a handle. -/
def State.forget (s : State) (h : Nat) : State :=
  { s with pur := { s.pur with
      asks := s.pur.asks.filter (·.handle != h), retry := s.pur.retry.filter (·.handle != h)
      tries := smDrop (fun k => k / 2 == h) s.pur.tries } }

/-- R116: the entries of handle h are lost in both copies. The pages and slots that the object held, or that a move of it had taken, stay in use, and the move is given up; every plan that names it fails. [DEDUCED, assumption log 112] -/
def State.otLost (s : State) (h : Nat) : State :=
  if s.pur.withheld.contains h || h == 0 || !s.handleOk h then s
  else
    let used := (s.obj h).state != .free
    let objs := smSet objDflt s.pur.objs h { poison := true }
    let move := s.pur.move.filter fun m => m.handle != h
    let s1 := { s with pur := { s.pur with
      withheld := s.pur.withheld ++ [h], lostUsed := s.pur.lostUsed + bnat used, objs := objs, move := move
      plAt := smErase s.pur.plAt h } }
    ((s1.forget h).err pgPUR 0x8002 h).failRuns (fun r => r.plan.names h) 2

/-- The two entries in a beat pair of table page idx, at byte offset o within the page, are lost. -/
def State.otLostPair (s : State) (idx o : Nat) : State :=
  let h := 65536 * idx + o / 64 * 2
  (s.otLost h).otLost (h + 1)

/-- R116: a page of table copy c is retired, and awaits its repair. -/
def State.tabRetire (s : State) (c idx page : Nat) : State :=
  if s.pur.unrep.contains (c, idx) then s
  else
    let s1 := (s.retirePage page)
    let s2 := { s1 with pur := { s1.pur with
      unrep := s1.pur.unrep ++ [(c, idx)]
      table := smDrop (fun k => k / 2 ^ 24 == c && k % 2 ^ 24 / pageEntries == idx) s1.pur.table } }
    if s2.freeCount (stackOf page) = 0 then s2.err pgPUR 0x8003 page else s2

/-- Where a page lies in a table copy. -/
def State.tabAt (s : State) (page : Nat) : Option (Nat × Nat) :=
  (List.range s.pur.tab.length).findSome? fun c =>
    let ps := s.pur.tab.getD c []
    if ps.contains page && !s.pur.unrep.contains (c, ps.idxOf page) then some (c, ps.idxOf page) else none

/-- R115, R116: an uncorrectable read of a table page turns to the other copy; when that is uncorrectable or awaits repair, the entries are lost. -/
def State.tabUe (s : State) (c idx page b : Nat) : State :=
  let s1 := s.tabRetire c idx page
  let o := b % 32768 * 64
  let c2 := 1 - c
  let other := (s1.pur.tab.getD c2 []).getD idx 0
  let (n2, b2) := beatOf (other * pageBytes + o)
  if s1.pur.unrep.contains (c2, idx) then s1.otLostPair idx o
  else if s1.decodeAt n2 b2 = .bad then ((s1.countUe n2 b2).tabRetire c2 idx other).otLostPair idx o
  else s1

/-- R355: an uncorrectable codeword. -/
def State.readUe (s : State) (n b : Nat) (planReads : Bool) : State :=
  let page := pageOfBeat n b
  let s1 := s.countUe n b
  match s1.tabAt page with
  | some (c, idx) => s1.tabUe c idx page b
  | none => s1.pageUe page planReads

/-- R355: a demand read of a beat pair. [DEDUCED, assumption log 76] -/
def State.demandRead (s : State) (n b : Nat) (planReads : Bool) : State :=
  match s.decodeAt n b with
  | .clean => s
  | .fixed k => (s.countCe n b k).queueScrub n b
  | .bad => s.readUe n b planReads

/-- Beat pairs of a stack with symbols in error, in rising order. -/
def State.struckBeats (s : State) (n : Nat) : List Nat :=
  ((s.hbm.syms.filter fun e => e.1 / 68 / 2 ^ 30 == n).map fun e => e.1 / 68 % 2 ^ 30).eraseDups

/-- The beat pairs of a page with symbols in error. -/
def State.struckIn (s : State) (p : Nat) : List Nat :=
  (s.struckBeats (stackOf p)).filter fun b => pageOfBeat (stackOf p) b == p

/-- Struck beat pairs under a list of pages between two offsets: the offset of the first byte, the stack and the beat pair, in rising order of offset. -/
def State.struckSpan (s : State) (pages : List Nat) (off n : Nat) : List (Nat × Nat × Nat) :=
  if n = 0 then [] else
  (List.range ((off + n - 1) / pageBytes - off / pageBytes + 1)).flatMap fun k =>
    let i := off / pageBytes + k
    let p := pages.getD i 0
    ((s.struckIn p).map fun b => (i * pageBytes + b % 32768 * 64, stackOf p, b)).filter fun e => decide (off < e.1 + 64 ∧ e.1 < off + n)

/-- Read a span through the decoder: corrections and uncorrectable errors are counted and reported (R355), but for stacks that complete no access (R712). -/
def State.spanDecode (s : State) (pages : List Nat) (off n : Nat) (planReads : Bool) : State :=
  (s.struckSpan pages off n).foldl (fun s e => if s.stackStopped e.2.1 then s else s.demandRead e.2.1 e.2.2 planReads) s

/-- R355: an engine of a run reads spans (offset and length) of an object. Whether the plan goes on. -/
def State.runReads (s : State) (r : Run) (h : Nat) (spans : List (Nat × Nat)) : State × Bool :=
  let s1 := spans.foldl (fun s e => s.spanDecode (s.runPages r h) e.1 e.2 true) s
  (s1, s1.live.isSome)

/-! ## The pseudo-channels that wait (R359, R362) -/

def retryDflt (_ : Nat) : PcRetry := {}
def State.pcRetry (s : State) (n pc : Nat) : PcRetry := smGet retryDflt s.hbm.retry (n * 64 + pc)
def State.setPcRetry (s : State) (n pc : Nat) (r : PcRetry) : State :=
  { s with hbm := { s.hbm with retry := smSet retryDflt s.hbm.retry (n * 64 + pc) r } }

/-- Field lane repair has stopped every command on a channel. -/
def State.laneHolds (s : State) (n ch : Nat) : Bool :=
  (s.pcRetry n (2 * ch)).st == .lane || (s.pcRetry n (2 * ch + 1)).st == .lane

/-- A command on a pseudo-channel waits: for its retry, or for the repair of a lane of its channel. -/
def State.pcWaits (s : State) (n pc : Nat) : Bool := (s.pcRetry n pc).st != .normal || s.laneHolds n (pc / 2)

/-- HBM_READ: `errs` are the symbol errors that strike the codeword before the read; `planReads` says that an engine of the running plan is the reader. On a pseudo-channel that waits the command changes nothing, and is given again. No access reaches an address outside the page pool (R353). [DESIGN CHOICE, assumption log 75] -/
def execHbmRead (n : Fin 4) (b : Nat) (errs : List (Fin 68 × Byte)) (planReads : Bool) (s : State) :
    Host.Outcome State Fault Refusal :=
  if poolBeats ≤ b then .fault .outside
  else done s (if s.stackStopped n || s.pcWaits n (pcOf b) then s
    else ((s.strike n b (errs.map fun e => (e.1.val, e.2.toNat))).checkTouch n b false).demandRead n b planReads)

/-! ## Partial writes (R713) -/

/-- Split a write of bytes at an address into the parts that fall in each beat pair. `fuel` bounds the parts. -/
def splitBeats : Nat → Nat → List Byte → List (Nat × List Byte)
  | 0, _, _ => []
  | _ + 1, _, [] => []
  | f + 1, a, bs => (a, bs.take (64 - a % 64)) :: splitBeats f (a + (64 - a % 64)) (bs.drop (64 - a % 64))

/-- A write within one beat pair: whole, or read, merged and written back; dropped where the read is uncorrectable. -/
def State.beatWrite (s : State) (a : Nat) (bs : List Byte) : State :=
  let (n, b) := beatOf a
  if s.stackStopped n then s
  else
    let kvs := (List.range bs.length).map fun i => (a + i, bs.getD i 0)
    let whole := (List.range 64).map fun i => (beatAddr n b + i, s.hbmByte (beatAddr n b + i))
    let put (s : State) (kvs : List (Nat × Byte)) := ((s.hbmPut kvs).clearSyms n b).checkTouch n b true
    if bs.length = 64 then put s kvs
    else match s.decodeAt n b with
      | .clean => put (s.hbmPut whole) kvs
      | .fixed k => put ((s.countCe n b k).hbmPut whole) kvs
      | .bad => (s.checkTouch n b false).readUe n b false

/-- A write of bytes at a pool address by the gutter, BAR2 or the Batrix link. [DEDUCED, assumption log 74] -/
def State.memWrite (s : State) (a : Nat) (bs : List Byte) : State :=
  (splitBeats (bs.length + 1) a bs).foldl (fun s p => s.beatWrite p.1 p.2) s

/-- The same under a list of pages: the parts that fall in each page. -/
def splitPages (pages : List Nat) : Nat → Nat → List Byte → List (Nat × List Byte)
  | 0, _, _ => []
  | _ + 1, _, [] => []
  | f + 1, off, bs =>
    let k := pageBytes - off % pageBytes
    (pagedAddr pages off, bs.take k) :: splitPages pages f (off + k) (bs.drop k)

def State.pagedMemWrite (s : State) (pages : List Nat) (off : Nat) (bs : List Byte) : State :=
  (splitPages pages (bs.length + 1) off bs).foldl (fun s p => s.memWrite p.1 p.2) s

/-- PARTIAL_WRITE: a write of bytes from byte `first` of a beat pair, whose codeword `errs` strike before the read. [DESIGN CHOICE, assumption log 75] -/
def execPartialWrite (n : Fin 4) (b : Nat) (first : Fin 64) (bs : List Byte) (errs : List (Fin 68 × Byte)) (s : State) :
    Host.Outcome State Fault Refusal :=
  if poolBeats ≤ b then .fault .outside
  else done s (if s.stackStopped n || s.pcWaits n (pcOf b) then s
    else (s.strike n b (errs.map fun e => (e.1.val, e.2.toNat))).beatWrite (beatAddr n b + first) (bs.take (64 - first)))

/-! ## Parity and retry (R359 to R362) -/

/-- HOLD and REISSUE: an attempt is counted, recorded, raised and charged. -/
def State.attempt (s : State) (n pc kind : Nat) : State :=
  let pg := pgHBM n
  (((((((s.inc pg HBM_PAR_CNT_COUNT).wf pg HBM_RETRY_LAST_VALID 1).wf pg HBM_RETRY_LAST_KIND kind).wf pg HBM_RETRY_LAST_PC
    (pc % 2)).wf pg HBM_RETRY_LAST_CHAN (pc / 2)).raise pg 2).chargeRetry n (pc / 2) 1)

/-- PARITY: a parity error of a kind (1 command/address, 2 write data, 3 read data) on a pseudo-channel on which commands issue. -/
def execParity (n : Fin 4) (pc : Fin 64) (kind : Fin 4) (s : State) : Host.Outcome State Fault Refusal :=
  done s (if s.stackStopped n || s.pcWaits n pc then s
    else (s.setPcRetry n pc { st := .check, kind := kind }).attempt n pc kind)

/-- RETRY_CHECK: the reissued command returns. -/
def execRetryCheck (n : Fin 4) (pc : Fin 64) (ok : Bool) (s : State) : Host.Outcome State Fault Refusal :=
  let r := s.pcRetry n pc
  done s (if r.st ≠ .check ∨ 3 ≤ r.fails then s
    else if ok then s.setPcRetry n pc {}
    else if r.fails + 1 < 3 then (s.setPcRetry n pc { r with fails := r.fails + 1 }).attempt n pc r.kind
    else s.setPcRetry n pc { r with fails := 3 })

/-- LANE: field lane repair starts after the third failure in a row; a repair during a run phase (R25: PHASE 2) exhausts the plan's allowance on the channel. -/
def execLane (n : Fin 4) (pc : Fin 64) (s : State) : Host.Outcome State Fault Refusal :=
  let r := s.pcRetry n pc
  done s (if r.st ≠ .check ∨ r.fails < 3 then s
    else
      let s1 := s.setPcRetry n pc { r with st := .lane }
      match s1.chargee n with
      | some run =>
        if s1.phase = 2 then s1.chargeRetry n (pc.val / 2) (run.plan.retry - s1.charged n (pc.val / 2) + 1) else s1
      | none => s1)

/-- R374: a stack declares STACK_LOST; the first cause is recorded. [DEDUCED, assumption log 73] -/
def State.declareLost (s : State) (n why : Nat) : State :=
  if s.rf (pgHBM n) HBM_LOST_WHY_WHY = 0 then s.wf (pgHBM n) HBM_LOST_WHY_WHY why else s

/-- A lane of a channel: a data lane of one of its pseudo-channels, or a command/address lane. -/
def State.laneSpare (s : State) (n ch : Nat) (lane : Lane) : Option State :=
  let pg := pgPHY n
  match lane with
  | .dq pc l =>
    let (u, f) := if pc.val = 0 then (PHY_SPARE_DQ0, PHY_SPARE_DQ0_LANE) else (PHY_SPARE_DQ1, PHY_SPARE_DQ1_LANE)
    if s.bit pg u ch then none else some (((s.wf pg u 1 ch).wf pg f l ch).raise pg 2)
  | .ca l => if s.bit pg PHY_SPARE_CA ch then none else some (((s.wf pg PHY_SPARE_CA 1 ch).wf pg PHY_SPARE_CA_LANE l ch).raise pg 2)

/-- REPAIR: a field lane repair of the failing lane ends; `ok` says that retraining passed. -/
def execRepair (n : Fin 4) (pc : Fin 64) (lane : Lane) (ok : Bool) (s : State) : Host.Outcome State Fault Refusal :=
  done s (if (s.pcRetry n pc).st ≠ .lane then s
    else match s.laneSpare n (pc.val / 2) lane with
      | none => s.declareLost n 2
      | some s1 =>
        if ok then ((s1.setPcRetry n pc {}).inc (pgHBM n) HBM_REPAIR_CNT_COUNT).raise (pgHBM n) 5
        else s1.declareLost n 3)

/-- STACK_LOST: a stack that has a cause of R374 is lost, and the tray fails (R375). [DEDUCED, assumption log 73] -/
def execStackLost (n : Fin 4) (s : State) : Host.Outcome State Fault Refusal :=
  let pg := pgHBM n
  done s (if s.rf pg HBM_LOST_WHY_WHY = 0 ∨ s.bit pg HBM_STAT_LOST then s
    else ((s.wf pg HBM_STAT_LOST 1).raise pg 6).failStack n)

/-! ## Temperature and refresh class (R363 to R367) -/

/-- R363: the class that a reading in 1/16 °C asks for. -/
def tempClass (t : Int) : Nat := if 95 * 16 < t then 2 else if 85 * 16 < t then 1 else 0

/-- R364: boundary i, °C: 0 below class 2×, 1 below class 4×. -/
def classBoundary (i : Nat) : Int := if i = 1 then 95 else 85

/-- The class rises at once. -/
def State.classUp (s : State) (n c : Nat) : State := (s.wf (pgHBM n) HBM_STAT_CLASS c).raise (pgHBM n) 3

/-- R364: valid readings in a row that have stood at least HYST below boundary i. -/
def State.lowRun (s : State) (n i : Nat) : Nat := smGet (fun _ => 0) s.hbm.low (2 * n + i)

/-- A reading goes on with the runs below the two boundaries that `p` says it stands below, and ends the others. -/
def State.countLow (s : State) (n : Nat) (p : Nat → Bool) : State :=
  { s with hbm := { s.hbm with low := [0, 1].foldl (fun m i =>
      smSet (fun _ => 0) m (2 * n + i) (if p i then s.lowRun n i + 1 else 0)) s.hbm.low } }

/-- A fall of the class that a tick has allowed is off. -/
def State.dropDown (s : State) (n : Nat) : State := { s with hbm := { s.hbm with down := smErase s.hbm.down n } }

/-- An invalid reading (R366). -/
def State.tempBad (s : State) (n : Nat) : State :=
  let pg := pgHBM n
  let k := smGet (fun _ => 0) s.hbm.bad n
  let s1 := ((s.wf pg HBM_TEMP_VALID 0).raiseIf (k == 0) pg 7).countLow n fun _ => false
  let s2 := if s1.rf pg HBM_STAT_CLASS < 2 then s1.classUp n 2 else s1
  let bad := smSet (fun _ => 0) s2.hbm.bad n (k + 1)
  let s3 := { s2 with hbm := { s2.hbm with bad := bad } }.dropDown n
  if k + 1 = 64 then s3.declareLost n 4 else s3

/-- R367: the emergency stop. -/
def State.emergency (s : State) (n : Nat) : State :=
  if smGet (fun _ => false) s.hbm.stop n then s
  else
    let s1 := { s with hbm := { s.hbm with stop := smSet (fun _ => false) s.hbm.stop n true } }
    ((s1.wf pgGLB GLB_FAIL_HBM_TEMP 1).raise (pgHBM n) 8).failTray

/-- A valid reading. -/
def State.tempGood (s : State) (n : Nat) (t : BitVec 16) : State :=
  let pg := pgHBM n
  let ti := t.toInt
  let s1 := (s.wf pg HBM_TEMP_VALID 1).wf pg HBM_TEMP_TEMP t.toNat
  let s2 := { s1 with hbm := { s1.hbm with bad := smErase s1.hbm.bad n } }.countLow n fun i =>
    decide (ti ≤ (classBoundary i - s1.rf pg HBM_REF_CFG_HYST) * 16)
  let s3 := if s2.rf pg HBM_STAT_CLASS < tempClass ti then (s2.classUp n (tempClass ti)).dropDown n else s2
  if 105 * 16 < ti then s3.emergency n else s3

/-- TEMP_READING: a controller's reading, valid or not, in 1/16 °C. -/
def execTempReading (n : Fin 4) (valid : Bool) (t : BitVec 16) (s : State) : Host.Outcome State Fault Refusal :=
  done s (if valid then s.tempGood n t else s.tempBad n)

/-- R364: at a tick, stacks whose class may fall one step. [DEDUCED, assumption log 26] -/
def State.tickClasses (s : State) : State :=
  (List.range 4).foldl (fun s n =>
    let c := s.rf (pgHBM n) HBM_STAT_CLASS
    let ok := c != 0 && decide (s.rf (pgHBM n) HBM_REF_CFG_HOLD ≤ s.lowRun n (c - 1))
    { s with hbm := { s.hbm with down := smSet (fun _ => false) s.hbm.down n ok } }) s

/-- CLASS_DOWN: the class of a stack falls one step at a tick. -/
def execClassDown (n : Fin 4) (s : State) : Host.Outcome State Fault Refusal :=
  let pg := pgHBM n
  done s (if smGet (fun _ => false) s.hbm.down n then
      ((s.wf pg HBM_STAT_CLASS (s.rf pg HBM_STAT_CLASS - 1)).dropDown n).raise pg 4
    else s)

/-! ## Scrub (R368) -/

/-- The scrub reads a beat pair and writes back what it corrects. -/
def State.scrubRead (s : State) (n b : Nat) : State :=
  match s.decodeAt n b with
  | .clean => s
  | .fixed k =>
    let whole := (List.range 64).map fun i => (beatAddr n b + i, s.hbmByte (beatAddr n b + i))
    (((s.countCe n b k).hbmPut whole).clearSyms n b).checkTouch n b true
  | .bad => s.readUe n b false

/-- SCRUB: the queue, and then BLOCKS blocks; `errs` are symbol errors found there: beat pair, symbol, pattern. -/
def execScrub (n : Fin 4) (errs : List (Nat × Fin 68 × Byte)) (s : State) : Host.Outcome State Fault Refusal :=
  let pg := pgHBM n
  done s (if !s.bit pg HBM_SCRUB_CFG_EN || s.stackStopped n || s.crs.run.isSome then s
    else
      let s0 := errs.foldl (fun s e => if e.1 < poolBeats then s.strike n e.1 [(e.2.1.val, e.2.2.toNat)] else s) s
      let q := smGet (fun _ => []) s0.hbm.scrub n
      let s1 := q.foldl (fun s b => s.scrubRead n b) { s0 with hbm := { s0.hbm with scrub := smErase s0.hbm.scrub n } }
      let pos := s1.rf pg HBM_SCRUB_POS_BLOCK
      let cnt := s1.rf pg HBM_SCRUB_CFG_BLOCKS
      let upto := pos + cnt
      let bs := s1.struckBeats n
      let s2 := (bs.filter fun b => decide (pos ≤ b / 1024 ∧ b / 1024 < upto)).foldl (fun s b => s.scrubRead n b) s1
      let s3 := (bs.filter fun b => decide (b / 1024 + 555008 < upto)).foldl (fun s b => s.scrubRead n b) s2
      (s3.wf pg HBM_SCRUB_POS_BLOCK (upto % 555008)).raiseIf (decide (555008 ≤ upto)) pg 9)

/-! ## Training (R371 to R373) -/

/-- TRAIN_START: a write of PHY_TRAIN with GO = 1. [DEDUCED, assumption log 73] -/
def State.trainStart (s : State) (n : Nat) : State :=
  let pg := pgPHY n
  if s.bit pg PHY_TRAIN_STAT_RUN then s
  else
    let s1 := (((((s.wf pg PHY_TRAIN_STAT_RUN 1).wf pg PHY_TRAIN_STAT_PASS 0).wf pg PHY_TRAIN_STAT_DONE 0).wf pg
      PHY_TRAIN_STAT_ABORTED 0).wf pg PHY_TRAIN_STAT_PHASE 1).wf pg PHY_TRAIN_FAIL_CHAN 0
    let s2 := s1.wf (pgHBM n) HBM_STAT_TRAINED 0
    { s2 with hbm := { s2.hbm with abort := smErase s2.hbm.abort n } }

def execTrainStart (src : Src) (n : Fin 4) (s : State) : Host.Outcome State Fault Refusal :=
  done s (s.ifWriter src (pgPHY n + 0x44) fun s => s.trainStart n)

/-- ABORT: a write of PHY_TRAIN with ABORT = 1. -/
def State.trainAbort (s : State) (n : Nat) : State :=
  if s.bit (pgPHY n) PHY_TRAIN_STAT_RUN then
    { s with hbm := { s.hbm with abort := smSet (fun _ => false) s.hbm.abort n true } }
  else s

def execAbort (src : Src) (n : Fin 4) (s : State) : Host.Outcome State Fault Refusal :=
  done s (s.ifWriter src (pgPHY n + 0x44) fun s => s.trainAbort n)

/-- Training ends. [DEDUCED, assumption log 73] -/
def State.trainEnd (s : State) (n : Nat) : State :=
  ((s.wf (pgPHY n) PHY_TRAIN_STAT_RUN 0).wf (pgPHY n) PHY_TRAIN_STAT_DONE 1)

/-- Phase 6: lanes found faulty are repaired where a spare is free; the others' channels fail. -/
def State.laneCheck (s : State) (n : Nat) : List (Fin 32 × Lane) → State × Nat
  | [] => (s, 0)
  | (ch, l) :: r =>
    match s.laneSpare n ch l with
    | some s1 => s1.laneCheck n r
    | none => let (s2, m) := s.laneCheck n r; (s2, m ||| 2 ^ ch.val)

/-- Phase 7: every code group of the pool and the reserve holds zero data with valid check bytes, and the reserve its patterns. -/
def State.clearStack (s : State) (n : Nat) : State :=
  { s with hbm := { s.hbm with
      bytes := smDrop (fun a => a / pageBytes / stackPages == n) s.hbm.bytes
      syms := smDrop (fun k => k / 68 / 2 ^ 30 == n) s.hbm.syms
      scrub := smErase s.hbm.scrub n
      cache := smDrop (fun k => k / 64 == n) s.hbm.cache
      reserve := smSet (fun _ => false) s.hbm.reserve n true } }

/-- A phase of training ends. -/
def State.trainPhase (s : State) (n : Nat) (fail : BitVec 32) (lanes : List (Fin 32 × Lane)) : State :=
  let pg := pgPHY n
  let p := s.rf pg PHY_TRAIN_STAT_PHASE
  let (s1, m) := if p = 6 then s.laneCheck n lanes
    else if p = 7 ∧ !smGet (fun _ => false) s.hbm.stop n then (s.clearStack n, 0)
    else (s, if 2 ≤ p ∧ p ≤ 5 then fail.toNat else 0)
  if smGet (fun _ => false) s1.hbm.stop n then s1.trainEnd n
  else if m ≠ 0 then (((s1.trainEnd n).wf pg PHY_TRAIN_FAIL_CHAN m).raise pg 1).declareLost n 1
  else if smGet (fun _ => false) s1.hbm.abort n then (s1.trainEnd n).wf pg PHY_TRAIN_STAT_ABORTED 1
  else if p = 7 then (((s1.trainEnd n).wf pg PHY_TRAIN_STAT_PASS 1).wf (pgHBM n) HBM_STAT_TRAINED 1).raise pg 0
  else s1.wf pg PHY_TRAIN_STAT_PHASE (p + 1)

/-- TRAIN_PHASE_DONE: a phase ends; bit c of `fail` says that channel c fails a phase from 2 to 5, and `lanes` are the faulty lanes that phase 6 finds. -/
def execTrainPhaseDone (n : Fin 4) (fail : BitVec 32) (lanes : List (Fin 32 × Lane)) (s : State) :
    Host.Outcome State Fault Refusal :=
  done s (if s.bit (pgPHY n) PHY_TRAIN_STAT_RUN then (s.trainPhase n fail lanes).u8Check else s)

end Sys2Proof.Machine
end

