-- ==== Sys2Proof/Machine/SparOps.lean ====
section
/-! DEFINITION. Spar state shared by every engine: which spar drives which engine, halts and micro-traps (R321, R388, R400 to R404). -/

namespace Sys2Proof.Machine

def sprDflt (_ : Nat) : SprSt := {}

/-- The state of spar i. -/
def State.sp (s : State) (i : Nat) : SprSt := smGet sprDflt s.spr i

def State.setSp (s : State) (i : Nat) (p : SprSt) : State := { s with spr := smSet sprDflt s.spr i p }

/-- R321: the engine identifier of the engine that spar i drives. [DEDUCED, assumption log 68] -/
def engOfSpar (i : Nat) : Nat := if i < 64 then i else if i < 68 then 0x80 + (i - 64) else 0x84 + (i - 68)

/-- R321, R328: the spar of an engine; the ridge DMA of a batten has that batten's. -/
def sparOfEng (e : Nat) : Option Nat :=
  if e < 0x40 then some e
  else if e < 0x80 then some (e - 0x40)
  else if e < 0x84 then some (64 + (e - 0x80))
  else if e < 0x88 then some (68 + (e - 0x84))
  else none

/-- The plan gives spar i a stint list (R673, R674). -/
def Plan.stintsOn (p : Plan) (i : Nat) : Bool :=
  if i < 64 then (p.bat i).stints
  else if i < 68 then (p.eng (i - 64)).present
  else (p.eng (4 + (i - 68))).present

/-- Spar i drives a stint of the running plan: the plan gives it a list, which has not ended. -/
def State.drives (s : State) (i : Nat) : Bool :=
  match s.crs.run with
  | some r => r.plan.stintsOn i && !s.bit (pgSPR i) SPR_STAT_ENDED
  | none => false

/-- Nothing of the word last fetched remains to take effect. -/
def SprSt.drop (p : SprSt) : SprSt := { p with aluDue := false, opDue := false }

/-- The ALU operation or the micro-operation of the word last fetched has still to take effect. -/
def SprSt.busy (p : SprSt) : Bool := p.aluDue || p.opDue

/-- R404: spar i halts; the first halt is recorded. A halt that ends a stint of the running plan before its list has ended overruns the course with cause ENGINE. [DEDUCED, assumption log 63] -/
def State.haltSpar (s : State) (i why : Nat) : State :=
  let pg := pgSPR i
  if s.bit pg SPR_STAT_HALTED then s
  else
    let drv := s.drives i
    let s1 := ((s.wf pg SPR_STAT_HALTED 1).wf pg SPR_STAT_RUNNING 0).wf pg SPR_STAT_WAITING 0
    let s2 := if s1.bit pg SPR_HALT_VALID then s1
      else ((s1.wf pg SPR_HALT_VALID 1).wf pg SPR_HALT_UPC (s1.rf pg SPR_STAT_UPC)).wf pg SPR_HALT_WHY why
    let s3 := (s2.setSp i { (s2.sp i).drop with hold := .none }).raise pg 0
    if drv then s3.overrun 4 else s3

/-- R328: the spar of an engine halts, and the course overruns with cause ENGINE. -/
def State.haltEng (s : State) (e why : Nat) : State :=
  match sparOfEng e with
  | some i => s.haltSpar i why
  | none => s.overrun 4

/-- Show the frame in SPR_STAT. [DEDUCED, assumption log 63] -/
def State.showFrame (s : State) (i : Nat) : State :=
  let n := (s.sp i).frame.length
  (s.wf (pgSPR i) SPR_STAT_FRAME n).wf (pgSPR i) SPR_STAT_IN_TRAP (min n 1)

/-- R401: a micro-trap: push a frame entry and jump to word 8 * cause, or halt with WHY 3 if the frame is full. Of the word that traps nothing takes effect any more, but for a TRAP word, whose sequencing the trap is (R385, R397, R400). [DEDUCED, assumption log 62] -/
def State.microTrap (s : State) (i cause saved : Nat) (residue : Nat := 0) : State :=
  let p := s.sp i
  let pg := pgSPR i
  if 4 ≤ p.frame.length then s.haltSpar i 3
  else
    let f : SprFrame := { saved := saved, cl := p.cl, lc0 := p.lc0, lc1 := p.lc1, residue := residue }
    let q := if cause = 6 then p else p.drop
    let s1 := (s.setSp i { q with frame := f :: p.frame, next := 8 * cause, hold := .none }).showFrame i
    let s2 := if s1.bit pg SPR_TRAP_VALID then s1
      else ((s1.wf pg SPR_TRAP_VALID 1).wf pg SPR_TRAP_UPC saved).wf pg SPR_TRAP_CAUSE cause
    ((s2.inc pg SPR_TRAP_CNT_COUNT).wf pg SPR_STAT_WAITING 0).raise pg 1

/-- Spar i fetches: running, and not frozen with the running plan (R54). -/
def State.sparGoes (s : State) (i : Nat) : Bool :=
  s.bit (pgSPR i) SPR_STAT_RUNNING && !s.gated && !(s.drives i && (s.crs.frozen || !(s.phase == 2)))

/-- The next word may be fetched: no WAIT, ACQUIRE or sway wait holds the spar, and the word before it has taken effect whole; a micro-operation that stalls holds the spar until it has issued (R391). -/
def State.sparFetch (s : State) (i : Nat) : Bool := s.sparGoes i && (s.sp i).hold == .none && !(s.sp i).busy

/-- The datapath of the present word may take effect. -/
def State.sparFree (s : State) (i : Nat) : Bool := s.sparGoes i && ((s.sp i).hold == .none || (s.sp i).hold == .ending)

/-- The ALU operation of the word last fetched is next to take effect: its datapath fields are `d`, and its ALU field is `code` (R387, R389). -/
def SprSt.aluTurn (p : SprSt) (d : BitVec 96) (code : Nat) : Bool :=
  p.aluDue && p.word.truncate 96 == d && bits d.toNat 79 76 == code

/-- The micro-operation of the word last fetched is next to take effect: its datapath fields are `d`, and its OP field is `code` (R387, R390). -/
def SprSt.opTurn (p : SprSt) (d : BitVec 96) (code : Nat) : Bool :=
  p.opDue && !p.aluDue && p.word.truncate 96 == d && bits d.toNat 95 88 == code

/-- A register as the present word's operations read it: as it stood before the word (R387). v0 reads 0 (R388). -/
def SprSt.rdPre (p : SprSt) (r : Nat) : BitVec 36 :=
  if r = 0 then 0 else smGet (fun _ => 0) (p.pre.getD p.v) r

/-- A register as it stands. -/
def SprSt.rd (p : SprSt) (r : Nat) : BitVec 36 := if r = 0 then 0 else smGet (fun _ => 0) p.v r

/-- Write a register; v0 ignores writes (R388). -/
def SprSt.wr (p : SprSt) (r : Nat) (x : BitVec 36) : SprSt :=
  if r = 0 then p else { p with v := smSet (fun _ => 0) p.v r x }

/-! ## Mask ROM -/

/-- R384, R398, R400, R451: the word at a micro-trap vector: a HALT, but a TRAPRET at those of SWTRAP and ATTN. [DEDUCED, assumption log 13] -/
def vectorWord (a : Nat) : Option (BitVec 128) :=
  if a < 128 ∧ a % 8 = 0 then some (if a = 48 ∨ a = 56 then BitVec.ofNat 128 (14 * 2 ^ 110) else 0) else none

/-- A mask ROM word of sequencer i: spar i, or gable i - 72. [DESIGN CHOICE, assumption log 13] -/
def romAt (i a : Nat) : BitVec 128 := (vectorWord a).getD (Config.romWord i a)

end Sys2Proof.Machine
end

