-- ==== Sys2Proof/Machine/Store.lean ====
section
/-! DEFINITION. Batten stores: ownership, bounds, windows, the check code, fencing, marches and repair (R169 to R210). -/

namespace Sys2Proof.Machine

def bstDflt (_ : Nat) : BstSt := {}
def State.batten (s : State) (b : Nat) : BstSt := smGet bstDflt s.bst b
def State.setBatten (s : State) (b : Nat) (x : BstSt) : State := { s with bst := smSet bstDflt s.bst b x }

/-! ## Words -/

/-- R169: bank, column and row of a word address. -/
def bankOf (a : Nat) : Nat := a % 32
def colOf (a : Nat) : Nat := a / 32 % 64
def rowOf (a : Nat) : Nat := a / 2048 % 128

def stDflt (_ : Nat) : StWord := {}

def spareKey (b bank spare col : Nat) : Nat := b * 2 ^ 19 + 2 ^ 18 + (bank * 2 + spare) * 64 + col

/-- R205: the storage of a word: its own cells, or the spare row that a valid entry maps its row onto. -/
def State.stKey (s : State) (b a : Nat) : Nat :=
  let pg := pgBST b
  let k := bankOf a
  if s.bit pg BST_REPAIR_VALID0 k && s.rf pg BST_REPAIR_ROW0 k == rowOf a then spareKey b k 0 (colOf a)
  else if s.bit pg BST_REPAIR_VALID1 k && s.rf pg BST_REPAIR_ROW1 k == rowOf a then spareKey b k 1 (colOf a)
  else b * 2 ^ 19 + a % 2 ^ 18

/-- The stored word at an address. -/
def State.stWord (s : State) (b a : Nat) : StWord := smGet stDflt s.store (s.stKey b a)

def State.setStWord (s : State) (b a : Nat) (w : StWord) : State :=
  { s with store := smSet stDflt s.store (s.stKey b a) w }

/-- A whole word with fresh check bits (R170); it drops a write-back that waits for the same word (R190). -/
def State.stPut (s : State) (b a : Nat) (v : BitVec 72) : State :=
  let x := s.batten b
  (s.setStWord b a { data := v }).setBatten b { x with writeBack := x.writeBack.filter (· != a) }

/-- Bit flips that strike a word beside those it has. -/
def stJoin : StErr → StErr → StErr
  | .poison, _ => .poison
  | e, .clean => e
  | .clean, e => e
  | _, .poison => .poison
  | _, _ => .multi

/-! ## Fencing causes -/

/-- R194: a fence cause occurs; the first one is recorded, and takes effect at the tick that ends the course. [DEDUCED, assumption log 60] -/
def State.fenceCause (s : State) (b cause : Nat) : State :=
  let x := s.batten b
  if s.bit (pgBST b) BST_FENCE_FENCED || x.fenceDue || x.fenceTick then s
  else (s.wf (pgBST b) BST_FENCE_CAUSE cause).setBatten b { x with fenceDue := true }

/-! ## Reads and the check code -/

/-- R190 to R192: what a read of a word delivers, and the counts, records and events that go with it. `upset` is what strikes the word before the read. The Bool marks POISON. -/
def State.stRead (s : State) (b a : Nat) (upset : StErr) : State × BitVec 72 × Bool :=
  let pg := pgBST b
  let w := s.stWord b a
  let e := stJoin w.err upset
  let s1 := s.setStWord b a { w with err := e }
  match e with
  | .clean => (s1, w.data, false)
  | .single =>
    let x := s1.batten b
    let s2 := s1.setBatten b { x with
      ceCourse := x.ceCourse + 1
      writeBack := if x.writeBack.contains a then x.writeBack else x.writeBack ++ [a] }
    (((s2.inc pg BST_CE_CNT_COUNT).wf pg BST_CE_ADDR_ADDR a).raise pg 0, w.data, false)
  | .multi =>
    ((((s1.inc pg BST_UE_CNT_COUNT).wf pg BST_UE_ADDR_ADDR a).raise pg 1).fenceCause b 1, w.data, true)
  | .poison => ((s1.inc pg BST_POISON_CNT_COUNT).raise pg 2, 0, true)

/-! ## Rights -/

/-- Owner bytes compare without their reserved bits (R172). -/
def ownByte (o : Nat) : Nat := o % 8 + 16 * (o / 16 % 4)

/-- R172: a valid owner byte, reserved bits aside. -/
def ownValid (o : Nat) : Bool :=
  decide (o % 8 ≤ 4) && (o / 16 % 4 == 0 || o % 8 == 1 || o % 8 == 3)

abbrev ownSpar : Nat := 0
def ownYealm (n : Nat) : Nat := 1 + 16 * n
abbrev ownRidge : Nat := 2
def ownStook (n : Nat) : Nat := 3 + 16 * n
abbrev ownGutter : Nat := 4

/-- R181: an address lies in the running plan's shingles or in a standing grant that it names. -/
def State.inBounds (s : State) (b a : Nat) : Bool :=
  decide (a / 256 < s.rf (pgBST b) BST_BOUND_D)
    || (s.batten b).grants.any fun g => decide (g.1 ≤ a / 256 ∧ a / 256 < g.1 + g.2)

/-- R124: the address lies in some standing grant of the batten. -/
def State.inGrant (s : State) (b a : Nat) : Bool :=
  s.pur.grants.any fun e => e.2.batten == b && decide (0 < e.2.len ∧ e.2.first ≤ a / 256 ∧ a / 256 < e.2.first + e.2.len)

/-- R173 to R175, R181 to R185: why an access is refused: 0 ownership, 1 bounds, 3 former owner. `plan` says that the master is an engine of the running plan. -/
def State.stDenied (s : State) (b a master : Nat) (write plan : Bool) : Option Nat :=
  let own := ownByte (s.rf (pgBST b) BST_OWNER_BANK (bankOf a))
  let m := ownByte master
  if !(m == own || (m == ownSpar && !write)) then
    some (if smGet (fun _ => 256) (s.batten b).former (bankOf a) = m then 3 else 0)
  else if m = ownGutter then (if s.inGrant b a then none else some 1)
  else if plan && !s.inBounds b a then some 1
  else none

/-- R179, R203: a march tests the bank. -/
def State.bankTested (s : State) (b bank : Nat) : Bool :=
  match (s.batten b).march with
  | some m => !m.waiting && bitOf m.banks bank
  | none => false

/-- No request to the batten's store waits: no march is there, and no handover is pending. -/
def State.storeQuiet (s : State) (b : Nat) : Bool := (s.batten b).march.isNone && s.rf (pgBST b) BST_OWNER_PEND_PEND == 0

/-- A request waits: a march tests its bank (R179, R203), or it is the new owner's and the bank's handover is pending (R175). The processor reads every bank whatever its owner, so its reads wait for no handover (R174). -/
def State.stWaits (s : State) (b a master : Nat) (write : Bool) : Bool :=
  let pg := pgBST b
  s.bankTested b (bankOf a)
    || (bitOf (s.rf pg BST_OWNER_PEND_PEND) (bankOf a) && ownByte master == ownByte (s.rf pg BST_OWNER_BANK (bankOf a))
        && (write || ownByte master != ownSpar))

/-- R183: record and raise a refusal. -/
def State.stRefuse (s : State) (b master why addr : Nat) : State :=
  let pg := pgBST b
  let s1 := if s.bit pg BST_REFUSE_VALID then s
    else (((s.wf pg BST_REFUSE_VALID 1).wf pg BST_REFUSE_MASTER (ownByte master)).wf pg BST_REFUSE_WHY why).wf pg
      BST_REFUSE_ADDR addr
  s1.raise pg 3

/-! ## Windows (R186 to R189) -/

/-- R187: the address of offset k through window w. -/
def State.winAddr (s : State) (b w k : Nat) : Nat :=
  let pg := pgBST b
  let wd := s.rf pg BST_CW_GROUP_W w
  let l := (s.rf pg BST_CW_PTR_P w + k) % max 1 (s.rf pg BST_CW_LEN_LEN w)
  (32 * s.rf pg BST_CW_BASE_BASE w + 32 * (l / 2 ^ wd) + s.rf pg BST_CW_GROUP_F w + l % 2 ^ wd) % 2 ^ 18

/-- R187: advance a window. -/
def State.winAdvance (s : State) (b w : Nat) : State :=
  let pg := pgBST b
  s.wf pg BST_CW_PTR_P ((s.rf pg BST_CW_PTR_P w + s.rf pg BST_CW_STRIDE_STRIDE w) % max 1 (s.rf pg BST_CW_LEN_LEN w)) w

/-- R188: the window's one master. -/
def State.winUser (s : State) (b w master : Nat) : Bool :=
  ownByte (s.rf (pgBST b) BST_CW_GROUP_USER w) == ownByte master

/-- R189: a window whose definition is written returns its P to 0. -/
def State.winReset (s : State) (b w : Nat) : State := s.wf (pgBST b) BST_CW_PTR_P 0 w

/-- R209, R210: a legal GROUP value. -/
def groupOk (v : Nat) : Bool :=
  let w := bits v 2 0
  decide (w ≤ 5) && bits v 7 3 % 2 ^ w == 0 && ownValid (bits v 15 8)

/-! ## Marches (R199 to R207) -/

/-- A march starts: the result of the one before is gone. [DEDUCED, assumption log 61] -/
def State.marchBegin (s : State) (b mode banks : Nat) : State :=
  let pg := pgBST b
  let f := s.bit pg BST_FENCE_FENCED
  let s1 := (((s.wf pg BST_MARCH_STAT_RUN 1).wf pg BST_MARCH_STAT_PASS 0).wf pg BST_MARCH_STAT_DONE 0).wf pg
    BST_FENCE_MARCHING (bnat f)
  s1.setBatten b { s1.batten b with march := some { mode := mode, banks := banks, waiting := false, fenced := f } }

/-- R202: a selected bank holds a word of the loaded stint list. -/
def State.listInBanks (s : State) (b banks : Nat) : Bool :=
  let x := s.batten b
  (List.range (min 32 x.stWords)).any fun i => bitOf banks (bankOf (x.stFirst + i))

def allBanks : Nat := 2 ^ 32 - 1

/-- R202: the status of a march request. [DEDUCED, assumption log 61] -/
def State.marchStatus (s : State) (b mode banks : Nat) (spar : Bool) : Nat :=
  let x := s.batten b
  if spar && s.listInBanks b banks then 0x8
  else if x.march.isSome then 0x101
  else if mode = 0 ∧ s.pur.grants.any (fun e => e.2.batten == b && decide (0 < e.2.len)) then 0x102
  else if banks = 0 then 0x103
  else if 2 ≤ mode then 0x104
  else 0

/-- R201, R202: a march is requested. [DEDUCED, assumption log 61] -/
def State.marchRequest (s : State) (b mode banks : Nat) (spar : Bool) : State :=
  let pg := pgBST b
  let st := s.marchStatus b mode banks spar
  let s1 := s.wf pg BST_MARCH_STAT_STATUS st
  if st = 0x8 then s1.err pg eBUSY_SELF (s.batten b).stFirst
  else if st ≠ 0 then s1
  else if !s.crs.running || s.bit pg BST_FENCE_FENCED then s1.marchBegin b mode banks
  else
    let s2 := ((s1.fenceCause b 4).wf pg BST_MARCH_STAT_RUN 1)
    s2.setBatten b { s2.batten b with march := some { mode := mode, banks := banks, waiting := true, fenced := true } }

/-- What a march finds in one bank: the faulty rows, 128 and 129 being the spare rows. -/
abbrev MarchFault := Nat × Nat

/-- The rows of a bank in a fault list, once each. -/
def faultRows (fs : List MarchFault) (bank : Nat) : List Nat :=
  ((fs.filter fun f => f.1 == bank).map (·.2)).eraseDups

/-- R207: the free spares of a bank that are themselves sound. -/
def State.freeSpares (s : State) (b bank : Nat) (rows : List Nat) : List Nat :=
  let pg := pgBST b
  (if s.bit pg BST_REPAIR_VALID0 bank || rows.contains 128 then [] else [0])
    ++ (if s.bit pg BST_REPAIR_VALID1 bank || rows.contains 129 then [] else [1])

/-- R207: a spare row in use is faulty. -/
def State.spareBad (s : State) (b bank : Nat) (rows : List Nat) : Bool :=
  let pg := pgBST b
  (s.bit pg BST_REPAIR_VALID0 bank && rows.contains 128) || (s.bit pg BST_REPAIR_VALID1 bank && rows.contains 129)

/-- R207: map a row onto a spare as a soft repair. [DEDUCED, assumption log 60] -/
def State.mapSpare (s : State) (b bank row spare : Nat) : State :=
  let pg := pgBST b
  if spare = 0 then
    ((s.wf pg BST_REPAIR_VALID0 1 bank).wf pg BST_REPAIR_SOFT0 1 bank).wf pg BST_REPAIR_ROW0 row bank
  else
    ((s.wf pg BST_REPAIR_VALID1 1 bank).wf pg BST_REPAIR_SOFT1 1 bank).wf pg BST_REPAIR_ROW1 row bank

/-- R207: copy a row's words to the spare before it is mapped: single-bit errors corrected, others written as the poison codeword. Whether one of these lies in a standing grant. -/
def State.copyRow (s : State) (b bank row spare : Nat) : State :=
  (List.range 64).foldl (fun s col =>
    let a := row * 2048 + col * 32 + bank
    let w := s.stWord b a
    let lost := w.err = .multi ∨ w.err = .poison
    let w' : StWord := if lost then { data := 0, err := .poison } else { data := w.data }
    let s1 := { s with store := smSet stDflt s.store (spareKey b bank spare col) w' }
    s1.raiseIf (decide lost && s.inGrant b a) (pgBST b) 8) s

/-- R207: repair rows of a bank in order on the free spares. -/
def State.repairRows (s : State) (b bank : Nat) (pres : Bool) : List Nat → List Nat → State
  | row :: rs, sp :: ss =>
    let s1 := if pres then s.copyRow b bank row sp else s
    ((s1.mapSpare b bank row sp).raise (pgBST b) 7).repairRows b bank pres rs ss
  | _, _ => s

/-- R200: after a destructive march every word of a passing bank holds zero data with valid check bits. -/
def State.zeroBank (s : State) (b bank : Nat) : State :=
  { s with store := smDrop (fun k => k / 2 ^ 19 == b &&
      (if k % 2 ^ 19 < 2 ^ 18 then k % 32 == bank else (k % 2 ^ 18) / 128 == bank)) s.store }

/-- One bank of a march: whether it passed or failed beyond repair, and whether a row was repaired (R207). -/
def State.marchBank (s : State) (b mode : Nat) (fs : List MarchFault) (bank : Nat) : State × Bool × Bool :=
  let rows := faultRows fs bank
  let plain := rows.filter (· < 128)
  let free := s.freeSpares b bank rows
  if s.spareBad b bank rows || decide (free.length < plain.length) then
    (s.wf (pgBST b) BST_MARCH_FAIL_BANKS (s.rf (pgBST b) BST_MARCH_FAIL_BANKS ||| 2 ^ bank), false, false)
  else
    let s1 := s.repairRows b bank (mode == 1) plain free
    (if mode = 0 then s1.zeroBank b bank else s1, true, !plain.isEmpty)

/-- The banks of a march, lowest first; whether all passed, and whether a row was repaired. -/
def State.marchBanks (s : State) (b mode : Nat) (fs : List MarchFault) : List Nat → State × Bool × Bool
  | [] => (s, true, false)
  | k :: r =>
    let (s1, p1, r1) := s.marchBank b mode fs k
    let (s2, p2, r2) := s1.marchBanks b mode fs r
    (s2, p1 && p2, r1 || r2)

/-- R198, R200, R204, R207: a march ends having found these faults. [DEDUCED, assumption log 61] -/
def State.marchEnd (s : State) (b : Nat) (m : March) (fs : List MarchFault) : State :=
  let pg := pgBST b
  let (s1, pass, repaired) := s.marchBanks b m.mode fs ((List.range 32).filter (bitOf m.banks))
  let s2 := (((((s1.wf pg BST_MARCH_STAT_RUN 0).wf pg BST_MARCH_STAT_PASS (bnat pass)).wf pg
    BST_MARCH_STAT_DONE 1).wf pg BST_FENCE_MARCHING 0).raise pg 6)
  let whole := m.mode == 1 && m.banks == allBanks && pass
  let s3 := s2.setBatten b { s2.batten b with march := none, passed := (s2.batten b).passed || (whole && m.fenced) }
  let s4 := if repaired then s3.fenceCause b 3 else s3
  let s5 := if pass then s4 else (s4.wf pg BST_FENCE_LOST 1).failBatten b
  if s5.bit pg BST_FENCE_FENCED && !whole && s5.bit pg BST_CFG_AUTO_MARCH then s5.marchBegin b 1 allBanks
  else s5

/-- R206: contents of a newly mapped spare row are open: free values. -/
def State.openRow (s : State) (b bank spare : Nat) : State :=
  (List.range 64).foldl (fun s col =>
    let (v, s1) := s.fresh
    let e : StErr := if v % 4 = 0 then .clean else if v % 4 = 1 then .single else if v % 4 = 2 then .multi else .poison
    { s1 with store := smSet stDflt s1.store (spareKey b bank spare col) { data := BitVec.ofNat 72 (v / 4), err := e } }) s

/-- R206: a write to one repair entry: a hard one ignores it; any other takes VALID and ROW, and SOFT = 1. The contents of a spare row that is newly mapped are open. [DEDUCED, assumption log 60] -/
def State.repairEntry (s : State) (b bank spare valid row : Nat) : State :=
  let pg := pgBST b
  let v0 := s.rf pg (if spare = 0 then BST_REPAIR_VALID0 else BST_REPAIR_VALID1) bank
  let soft := s.rf pg (if spare = 0 then BST_REPAIR_SOFT0 else BST_REPAIR_SOFT1) bank
  let r0 := s.rf pg (if spare = 0 then BST_REPAIR_ROW0 else BST_REPAIR_ROW1) bank
  if v0 = 1 ∧ soft = 0 then s
  else
    let s1 := if valid = 1 ∧ ¬ (v0 = 1 ∧ row = r0) then s.openRow b bank spare else s
    let s2 := s1.mapSpare b bank row spare
    s2.wf pg (if spare = 0 then BST_REPAIR_VALID0 else BST_REPAIR_VALID1) valid bank

/-- R206: the entry may be written: no plan that runs uses the batten. -/
def State.planUses (s : State) (b : Nat) : Bool :=
  match s.crs.run with
  | some r => r.plan.uses b
  | none => false

/-- R178, R182: the running plan has store demand or stints on a batten, or names a standing grant there. -/
def State.planOn (s : State) (b : Nat) : Bool :=
  match s.crs.run with
  | some r => r.plan.onBatten b
  | none => false

/-- R175: one bank's owner byte is written; a changed byte starts a handover. -/
def State.handOver (s : State) (b bank o : Nat) : State :=
  let pg := pgBST b
  let o0 := s.rf pg BST_OWNER_BANK bank
  if ownByte o0 = ownByte o then s
  else
    let pend := s.rf pg BST_OWNER_PEND_PEND
    let x := s.batten b
    let fm := if bitOf pend bank then x.former else smSet (fun _ => 256) x.former bank (ownByte o0)
    ((s.wf pg BST_OWNER_BANK (ownByte o) bank).wf pg BST_OWNER_PEND_PEND (pend ||| 2 ^ bank)).setBatten b
      { x with former := fm }

/-! ## The commands of the family -/

/-- OWNER_WRITE: a write of BST_OWNERj. -/
def State.ownerWrite (s : State) (src : Src) (b : Nat) (j : Nat) (v : Word32) : State :=
  let key := pgBST b + 0x40 + 4 * j
  let byte i := bits v.toNat (8 * i + 7) (8 * i)
  s.ifWriter src key fun s =>
    if (List.range 4).any (fun i => !ownValid (byte i)) then s.accErr src key eRANGE
    else if s.planOn b then s.accErr src key eSTATE
    else (List.range 4).foldl (fun s i => s.handOver b (4 * j + i) (byte i)) s

/-- The command of the write above. -/
def execOwnerWrite (src : Src) (b : Fin 64) (j : Fin 8) (v : Word32) (s : State) : Host.Outcome State Fault Refusal :=
  done s (s.ownerWrite src b j v)

/-- HANDOVER_COMPLETE: the old owner has no access outstanding. -/
def execHandoverComplete (b : Fin 64) (bank : Fin 32) (s : State) : Host.Outcome State Fault Refusal :=
  done s (s.wf (pgBST b) BST_OWNER_PEND_PEND (setBit (s.rf (pgBST b) BST_OWNER_PEND_PEND) bank false))

/-- CORRECTION_WRITE_BACK: the oldest corrected word is written back, once no march tests its bank (R179). -/
def execCorrectionWriteBack (b : Fin 64) (s : State) : Host.Outcome State Fault Refusal :=
  done s (match (s.batten b).writeBack with
    | [] => s
    | a :: _ => if s.bankTested b (bankOf a) then s else s.stPut b a (s.stWord b a).data)

/-- CE_FENCE: the corrected errors of the course have reached BST_CFG.CE_FENCE (R194). -/
def execCeFence (b : Fin 64) (s : State) : Host.Outcome State Fault Refusal :=
  let lim := s.rf (pgBST b) BST_CFG_CE_FENCE
  done s (if lim ≠ 0 ∧ lim ≤ (s.batten b).ceCourse then s.fenceCause b 2 else s)

/-- FENCE_REQUEST: a write of 1 to BST_FENCE.REQ. While the batten is FENCED already, the write is ignored and REQ stays 0. [DESIGN CHOICE, assumption log 60] -/
def State.fenceWrite (s : State) (src : Src) (b : Nat) : State :=
  s.ifWriter src (pgBST b + 0x68) fun s =>
    if s.bit (pgBST b) BST_FENCE_FENCED then s
    else (s.wf (pgBST b) BST_FENCE_REQ 1).fenceCause b 4

/-- The command of the write above. -/
def execFenceRequest (src : Src) (b : Fin 64) (s : State) : Host.Outcome State Fault Refusal :=
  done s (s.fenceWrite src b)

/-- FENCED: the tick that ends the course of the cause has come (R195, R196). -/
def execFenced (b : Fin 64) (s : State) : Host.Outcome State Fault Refusal :=
  let pg := pgBST b
  let x := s.batten b
  done s (if !x.fenceTick then s
    else
      let s1 := ((s.wf pg BST_FENCE_FENCED 1).wf pg BST_FENCE_REQ 0).raise pg 4
      let s2 := s1.setBatten b { x with fenceTick := false, passed := false, backTick := false }
      if s2.bit pg BST_CFG_AUTO_MARCH && x.march.isNone then s2.marchBegin b 1 allBanks else s2)

/-- UNFENCED: the first tick after a passing preserving march of all banks (R197). -/
def execUnfenced (b : Fin 64) (s : State) : Host.Outcome State Fault Refusal :=
  let x := s.batten b
  done s (if s.bit (pgBST b) BST_FENCE_FENCED && x.backTick then
      ((s.wf (pgBST b) BST_FENCE_FENCED 0).setBatten b { x with passed := false, backTick := false }).raise (pgBST b) 5
    else s)

/-- MARCH_REQUEST: a write of BST_MARCH.GO. -/
def State.marchWrite (s : State) (src : Src) (b : Nat) (mode : Nat) : State :=
  s.ifWriter src (pgBST b + 0x70) fun s =>
    s.marchRequest b mode (s.rf (pgBST b) BST_MARCH_BANKS_BANKS) false

/-- The command of the write above. -/
def execMarchRequest (src : Src) (b : Fin 64) (mode : Fin 4) (s : State) : Host.Outcome State Fault Refusal :=
  done s (s.marchWrite src b mode)

/-- MARCH_START: a march that waited for its fence starts (R201). -/
def execMarchStart (b : Fin 64) (s : State) : Host.Outcome State Fault Refusal :=
  done s (match (s.batten b).march with
    | some m => if m.waiting && !s.gated && s.bit (pgBST b) BST_FENCE_FENCED then s.marchBegin b m.mode m.banks else s
    | none => s)

/-- MARCH_DONE: a march ends; `faults` are the faulty rows it found, by bank. -/
def execMarchDone (b : Fin 64) (faults : List (Nat × Nat)) (s : State) : Host.Outcome State Fault Refusal :=
  done s (match (s.batten b).march with
    | some m => if m.waiting || s.gated then s else s.marchEnd b m faults
    | none => s)

/-- REPAIR_WRITE: a write of BST_REPAIRb. -/
def State.repairWrite (s : State) (src : Src) (b : Nat) (bank : Nat) (v : Word32) : State :=
  let key := pgBST b + 0x200 + 4 * bank
  let n := v.toNat
  s.ifWriter src key fun s =>
    if s.planUses b then s.accErr src key eSTATE
    else (s.repairEntry b bank 0 (bits n 7 7) (bits n 6 0)).repairEntry b bank 1 (bits n 23 23) (bits n 22 16)

/-- The command of the write above. -/
def execRepairWrite (src : Src) (b : Fin 64) (bank : Fin 32) (v : Word32) (s : State) : Host.Outcome State Fault Refusal :=
  done s (s.repairWrite src b bank v)

end Sys2Proof.Machine
end

