-- ==== Sys2Proof/Machine/Purlin.lean ====
section
/-! DEFINITION. Purlin: the object commands, standing grants, readiness, the pager and the object table (R109 to R146, R714, R715). -/

namespace Sys2Proof.Machine

/-! ## Who names what -/

/-- The plans that are queued, dispatched to the coming course, or running. -/
def State.livePlans (s : State) : List Plan :=
  s.pur.queue ++ ((s.crs.next.bind (·.run)).toList ++ s.crs.run.toList).map (·.plan)

/-- R121, R677: a queued, ready or running plan names the object. -/
def State.inPlan (s : State) (h : Nat) : Bool := s.livePlans.any fun p => p.names h

/-- The running plan, which a plan is from its dispatch to its tick, names the object (R134, R139). [DEDUCED, assumption log 52] -/
def State.runNames (s : State) (h : Nat) : Bool :=
  ((s.crs.next.bind (·.run)).toList ++ s.crs.run.toList).any fun r => r.plan.names h

/-- R105: a domain is bound to VF v. -/
def State.vfBound (s : State) (v d : Nat) : Bool :=
  if d < 32 then bitOf (s.rf (pgVFC v) VF_DOMAIN_LO_D) d else bitOf (s.rf (pgVFC v) VF_DOMAIN_HI_D) (d - 32)

/-! ## Host slots (R137) -/

def State.slotsTotal (s : State) : Nat := s.rf pgPUR PUR_HB_SLOTS_SLOTS

/-- PUR_HB_FREE: the free host slots. -/
def State.slotsFree (s : State) : Nat := s.slotsTotal - (s.pur.slots.filter fun e => decide (e.1 < s.slotsTotal)).length

/-- Take `n` free host slots: a run of consecutive ones, since an entry records the first slot alone (R111); which run is open, and is a free value. Where no run is long enough, the lowest free slots. [DESIGN CHOICE, assumption log 50] -/
def State.takeSlots (s : State) (n : Nat) : List Nat × State :=
  let (v, s1) := s.fresh
  let used := s1.pur.slots.map (·.1)
  let rs := freeRuns s1.slotsTotal 0 used
  let ks := match runPick n rs (v % max 1 (runPlaces n rs)) with
    | some k => (List.range n).map (k + ·)
    | none => (List.range n).map (kthFree 0 used)
  (ks, { s1 with pur := { s1.pur with slots := smSetMany (fun _ => false) s1.pur.slots (ks.map fun k => (k, true)) } })

def State.releaseSlots (s : State) (ks : List Nat) : State :=
  { s with pur := { s.pur with slots := ks.foldl (fun m k => smErase m k) s.pur.slots } }

/-- Host address of a slot. -/
def State.slotAddr (s : State) (k : Nat) : Nat :=
  2 ^ 32 * s.rf pgPUR PUR_HB_BASE_HI_BASE + 2 ^ 21 * s.rf pgPUR PUR_HB_BASE_LO_BASE + k * pageBytes

/-! ## Views of the PUR page -/

/-- R146: pages held or claimed by pinned objects. -/
def State.pinnedPages (s : State) : Nat :=
  ((s.pur.objs.filter fun e => e.2.pin).map fun e => e.2.npages).foldl (· + ·) 0

/-- PUR_OBJ_COUNT: objects not FREE, withheld handles that held one included (R116). -/
def State.objCount (s : State) : Nat :=
  (s.pur.objs.filter fun e => e.2.state != .free).length + s.pur.lostUsed

/-! ## Commands (R117 to R122) -/

/-- A command completes: its status and results stand, and its event is raised. A command that names one result leaves 0 in RES1; where a command gives no result, or is refused, RES0 and RES1 keep what they held. [DESIGN CHOICE, assumption log 113] -/
def State.cmdDone (s : State) (slot st : Nat) (res : Option (Nat × Nat)) : State :=
  let s1 := (s.wf pgPUR PUR_CMD_STAT_BUSY 0 slot).wf pgPUR PUR_CMD_STAT_STATUS st slot
  let s2 := match res with
    | some (a, b) => (s1.wf pgPUR PUR_CMD_RES0_RES a slot).wf pgPUR PUR_CMD_RES1_RES b slot
    | none => s1
  s2.raise pgPUR slot

/-- R117, R163, R676: slot 0 belongs to the host through the PF, slot 1 to gable 1; the debug port owns both. -/
def slotOwner (slot : Nat) : Src → Bool
  | .host => slot == 0
  | .gable g => slot == 1 && g.val == 1
  | .debug => true
  | .vf _ => false

/-- A write to a register of a command slot. -/
def State.ifSlot (s : State) (src : Src) (slot key : Nat) (f : State → State) : State :=
  s.ifWriter src key fun s => if slotOwner slot src then f s else s.accErr src key eWRITER

/-- The function a command acts for (R119). -/
def State.cmdFunc (s : State) (slot : Nat) : Nat := if slot = 0 then 0 else s.rf pgPUR PUR_CMD_ARG3_ARG slot

/-- The status of a command before the checks of its kind (R122): DISABLED, then RANGE. -/
def State.cmdGate (s : State) (slot : Nat) (bad : Bool) : Nat :=
  if !s.ready pgPUR then 0xD
  else if bad || (slot != 0 && decide (8 < s.rf pgPUR PUR_CMD_ARG3_ARG slot)) then 0x8
  else 0

/-- A command that completes at once: `bad` says that an argument is out of range; `body` gives the effect, the status and the results. -/
def State.purCmd (s : State) (src : Src) (slot : Nat) (bad : State → Bool)
    (body : State → State × Nat × Option (Nat × Nat)) : State :=
  let key := pgPUR + 0xD0 + 0x20 * slot
  s.ifSlot src slot key fun s =>
    if s.bit pgPUR PUR_CMD_STAT_BUSY slot then s.accErr src key eSTATE
    else
      let g := s.cmdGate slot (bad s)
      if g ≠ 0 then s.cmdDone slot g none
      else let (s1, st, res) := body s; s1.cmdDone slot st res

def State.arg0 (s : State) (slot : Nat) : Nat := s.rf pgPUR PUR_CMD_ARG0_ARG slot
def State.arg1 (s : State) (slot : Nat) : Nat := s.rf pgPUR PUR_CMD_ARG1_ARG slot
def State.arg2 (s : State) (slot : Nat) : Nat := s.rf pgPUR PUR_CMD_ARG2_ARG slot

/-- A command that names a handle: BAD_HANDLE, then OWNER, then its own condition. -/
def State.handleCmd (s : State) (src : Src) (slot : Nat)
    (body : State → Nat → State × Nat × Option (Nat × Nat)) : State :=
  s.purCmd src slot (fun s => decide (2 ^ 24 ≤ s.arg0 slot)) fun s =>
    let h := s.arg0 slot
    if !s.handleOk h || (s.obj h).state == .free then (s, 0x2, none)
    else if s.cmdFunc slot != 0 && (s.obj h).owner != s.cmdFunc slot then (s, 0x4, none)
    else body s h

/-- The lowest handle that CREATE may return: FREE, not withheld, and not waiting for a move to end (R119, R121). -/
def State.lowestFree (s : State) : Nat :=
  let used := s.pur.objs.map (·.1) ++ s.pur.dying.map (·.1)
  ((List.range (used.length + 1)).find? fun i => !used.contains (i + 1)).getD used.length + 1

/-- R120: the domain may not be used. -/
def State.domainBad (s : State) (fn d : Nat) : Bool :=
  decide (s.rf pgFLS FLS_SEC_D ≤ d) || (fn != 0 && !s.vfBound fn d)

/-- CREATE. -/
def State.create (s : State) (slot : Nat) : State × Nat × Option (Nat × Nat) :=
  let a := s.arg1 slot
  let d := bits a 5 0
  let fn := s.cmdFunc slot
  let h := s.lowestFree
  if s.domainBad fn d then (s, 0x3, none)
  else if !s.handleOk h then (s, 0x1, none)
  else (s.setObj h { state := .empty, place := bits a 14 12, kind := bits a 11 8, owner := fn, domain := d,
                     size1 := s.arg0 slot, last := s.courseNum }, 0, some (h, 0))

def State.createCmd (s : State) (src : Src) (slot : Nat) : State :=
  s.purCmd src slot (fun s =>
    let a := s.arg1 slot
    decide (2 ^ 31 ≤ s.arg0 slot) || decide (2 ^ 15 ≤ a) || bits a 7 6 != 0 || decide (4 < bits a 11 8)
      || decide (4 < bits a 14 12)) fun s => s.create slot

/-- The command of the write above. -/
def execCreate (src : Src) (slot : Fin 2) (s : State) : Host.Outcome State Fault Refusal :=
  done s (s.createCmd src slot)

/-- R670: clear every BAR2 window that maps an object. -/
def State.unmap (s : State) (h : Nat) : State :=
  (List.range 8).foldl (fun s w =>
    if s.bit pgEAV EAV_WIN_VALID w && s.rf pgEAV EAV_WIN_HANDLE w == h then s.wf pgEAV EAV_WIN_VALID 0 w else s) s


/-- R121: an object leaves the table. A move in progress completes first, and then the pages and slots are released. -/
def State.freeObj (s : State) (h : Nat) : State :=
  let o := s.obj h
  let s1 := ((s.clearObj h).unmap h).forget h
  if o.moving then { s1 with pur := { s1.pur with dying := smSet objDflt s1.pur.dying h o } }
  else (s1.releasePages o.pages).releaseSlots o.slots

/-- FREE. -/
def State.freeCmd (s : State) (src : Src) (slot : Nat) : State :=
  s.handleCmd src slot fun s h => if s.inPlan h then (s, 0x5, none) else (s.freeObj h, 0, none)

/-- The command of the write above. -/
def execFree (src : Src) (slot : Fin 2) (s : State) : Host.Outcome State Fault Refusal :=
  done s (s.freeCmd src slot)

/-- R119: ask the pager to page an object in, if it is EVICTED or a page-out of it is in progress. -/
def State.askFetch (s : State) (h : Nat) : State :=
  let o := s.obj h
  let a : Ask := { out := false, handle := h }
  if ((o.state == .evicted && !o.moving) || (o.state == .resident && o.moving)) && !s.pur.asks.contains a then
    { s with pur := { s.pur with asks := s.pur.asks ++ [a] } }
  else s

/-- PIN. -/
def State.pinCmd (s : State) (src : Src) (slot : Nat) : State :=
  s.handleCmd src slot fun s h =>
    let o := s.obj h
    if !o.pin && decide (s.rf pgPUR PUR_PIN_MAX_PAGES < s.pinnedPages + o.npages) then (s, 0x6, none)
    else ((s.setObj h { o with pin := true }).askFetch h, 0, none)

/-- The command of the write above. -/
def execPin (src : Src) (slot : Fin 2) (s : State) : Host.Outcome State Fault Refusal :=
  done s (s.pinCmd src slot)

/-- UNPIN. -/
def State.unpinCmd (s : State) (src : Src) (slot : Nat) : State :=
  s.handleCmd src slot fun s h => ((s.setObj h { s.obj h with pin := false }).unmap h, 0, none)

/-- The command of the write above. -/
def execUnpin (src : Src) (slot : Fin 2) (s : State) : Host.Outcome State Fault Refusal :=
  done s (s.unpinCmd src slot)

/-- R134: an eviction candidate. -/
def State.candidate (s : State) (h : Nat) : Bool :=
  let o := s.obj h
  o.state == .resident && !o.pin && !o.moving && !s.runNames h

/-- EVICT. -/
def State.evictCmd (s : State) (src : Src) (slot : Nat) : State :=
  s.handleCmd src slot fun s h =>
    let a : Ask := { out := true, handle := h }
    if !s.candidate h then (s, 0x9, none)
    else if s.slotsFree < (s.obj h).npages then (s, 0x7, none)
    else (if s.pur.asks.contains a then s else { s with pur := { s.pur with asks := s.pur.asks ++ [a] } }, 0, none)

/-- The command of the write above. -/
def execEvict (src : Src) (slot : Fin 2) (s : State) : Host.Outcome State Fault Refusal :=
  done s (s.evictCmd src slot)

/-- FETCH. -/
def State.fetchCmd (s : State) (src : Src) (slot : Nat) : State :=
  s.handleCmd src slot fun s h => (s.askFetch h, 0, none)

/-- The command of the write above. -/
def execFetch (src : Src) (slot : Fin 2) (s : State) : Host.Outcome State Fault Refusal :=
  done s (s.fetchCmd src slot)

/-- QUERY: bytes 0x00 to 0x03 of the entry, and bits [31:0] of its EPOCH. -/
def State.queryCmd (s : State) (src : Src) (slot : Nat) : State :=
  s.handleCmd src slot fun s h =>
    let w := (s.tabEntry h).toNat
    (s, 0, some (bits w 31 0, bits w 223 192))

/-- The command of the write above. -/
def execQuery (src : Src) (slot : Fin 2) (s : State) : Host.Outcome State Fault Refusal :=
  done s (s.queryCmd src slot)

/-! ## Standing grants (R124, R125) -/

def grantDflt (_ : Nat) : Grant := {}
def State.grant (s : State) (n : Nat) : Grant := smGet grantDflt s.pur.grants n

/-- A command that waits for a selection point. Its arguments are taken as they stand at the write of OP, and its checks are made with them when it completes (R118). [DESIGN CHOICE, assumption log 113] -/
def State.stWait (s : State) (src : Src) (slot : Nat) (c : State → StCmd) : State :=
  let key := pgPUR + 0xD0 + 0x20 * slot
  s.ifSlot src slot key fun s =>
    if s.bit pgPUR PUR_CMD_STAT_BUSY slot then s.accErr src key eSTATE
    else
      let bad := slot != 0 && decide (8 < s.rf pgPUR PUR_CMD_ARG3_ARG slot)
      let e := c s
      { s with pur := { s.pur with stWait := s.pur.stWait ++ [(slot, { e with bad := e.bad || bad })] } }.wf pgPUR
        PUR_CMD_STAT_BUSY 1 slot

/-- ST_GRANT. -/
def State.stGrantCmd (s : State) (src : Src) (slot : Nat) : State :=
  s.stWait src slot fun s =>
    { free := false, batten := s.arg0 slot, len := s.arg1 slot, num := s.arg2 slot
      bad := decide (63 < s.arg0 slot) || decide (s.arg1 slot < 1) || decide (1024 < s.arg1 slot)
        || decide (255 < s.arg2 slot) }

/-- The command of the write above. -/
def execStGrant (src : Src) (slot : Fin 2) (s : State) : Host.Outcome State Fault Refusal :=
  done s (s.stGrantCmd src slot)

/-- ST_FREE. -/
def State.stFreeCmd (s : State) (src : Src) (slot : Nat) : State :=
  s.stWait src slot fun s =>
    { free := true, batten := 0, len := 0, num := s.arg2 slot, bad := decide (255 < s.arg2 slot) }

/-- The command of the write above. -/
def execStFree (src : Src) (slot : Fin 2) (s : State) : Host.Outcome State Fault Refusal :=
  done s (s.stFreeCmd src slot)

/-- The standing grants on a batten. -/
def State.grantsOn (s : State) (b : Nat) : List Grant :=
  (s.pur.grants.map (·.2)).filter fun g => g.batten == b && g.len != 0

/-- R124: the highest-addressed free run of a length on a batten. A run is free when no standing grant lies in it; the shingles that the running plan holds under R123 do not count. [DESIGN CHOICE, assumption log 113] -/
def State.grantRun (s : State) (b len : Nat) : Option Nat :=
  let gs := s.grantsOn b
  (List.range (1025 - len)).reverse.find? fun f => gs.all fun g => decide (f + len ≤ g.first) || decide (g.first + g.len ≤ f)

/-- R125: the floor of a batten. -/
def State.floor (s : State) (b : Nat) : Nat := (s.grantsOn b).foldl (fun a g => min a g.first) 1024

def State.setGrant (s : State) (n : Nat) (g : Grant) : State :=
  { s with pur := { s.pur with grants := smSet grantDflt s.pur.grants n g } }

/-- R124: the contents of a new standing grant are unpredictable: every word of it takes a free value. [DEDUCED, assumption log 52] -/
def State.openGrant (s : State) (g : Grant) : State :=
  let n := 256 * g.len
  let kvs := (List.range n).map fun i =>
    (s.stKey g.batten (256 * g.first + i), ({ data := BitVec.ofNat 72 (Config.freeValue (s.free + i)) } : StWord))
  { s with store := smSetMany stDflt s.store kvs, free := s.free + n }

/-- One waiting command is applied and completes. [DEDUCED, assumption log 52] -/
def State.stApply (s : State) (slot : Nat) (c : StCmd) : State :=
  let g := s.grant c.num
  if !s.ready pgPUR then s.cmdDone slot 0xD none
  else if c.bad then s.cmdDone slot 0x8 none
  else if c.free then
    if g.len = 0 then s.cmdDone slot 0xC none else (s.setGrant c.num {}).cmdDone slot 0 none
  else if g.len ≠ 0 then s.cmdDone slot 0xC none
  else if s.bit (pgBST c.batten) BST_FENCE_FENCED then s.cmdDone slot 0xA none
  else match s.grantRun c.batten c.len with
    | none => s.cmdDone slot 0xB none
    | some f =>
      let g : Grant := { batten := c.batten, first := f, len := c.len }
      ((s.openGrant g).setGrant c.num g).cmdDone slot 0 (some (f, 0))

/-- A page's FREEZE has taken effect (R80). -/
def State.frozenPage (s : State) (pg : Nat) : Bool := smGet (fun _ => false) s.frz pg

/-- R124: at a selection point, the waiting commands, slot 0 first; none while Purlin is frozen (R143). -/
def State.stApplyAll (s : State) : State :=
  if s.frozenPage pgPUR then s
  else
    let w := s.pur.stWait
    let s1 := { s with pur := { s.pur with stWait := [] } }
    ((w.filter (·.1 == 0)) ++ w.filter (·.1 != 0)).foldl (fun s e => s.stApply e.1 e.2) s1

/-- The timer runs and has yet to reach the selection point of the present course, which begins its tick guard: from the run phase on, or before the first tick (R25, R29). -/
def State.selPoint (s : State) : Bool := s.crs.running && !s.crs.judged && (s.crs.first || decide (2 ≤ s.rf pgCRS CRS_STAT_PHASE))

/-- The tick guard begins; before the first tick no course is open, and PHASE stays 0 (R68). [DESIGN CHOICE, assumption log 24] -/
def State.guardBegin (s : State) : State := if s.crs.first then s else s.wf pgCRS CRS_STAT_PHASE 3

/-- STANDING_GRANT_APPLY: the first act of a selection point (R124); it begins the tick guard, whose SELECTION_POINT is to follow. -/
def execStandingGrantApply (s : State) : Host.Outcome State Fault Refusal :=
  done s (if s.selPoint then s.guardBegin.stApplyAll else s)

/-! ## Readiness (R129, R130) -/

/-- Pages that a plan's outputs need in stack n. [DEDUCED, assumption log 52] -/
def State.shadowNeed (s : State) (p : Plan) (n : Nat) : Nat :=
  (p.outputs.map fun h => (s.obj h).pagesIn n).foldl (· + ·) 0

/-- R129. -/
def State.planReady (s : State) (p : Plan) : Bool :=
  let ins := p.handles.filter fun h => !p.outputs.contains h
  ins.all (fun h => (s.obj h).state == .resident && !(s.obj h).moving)
    && p.outputs.all (fun h => ((s.obj h).state == .resident || (s.obj h).state == .empty) && !(s.obj h).moving)
    && (List.range 4).all (fun n => decide (s.shadowNeed p n ≤ s.freeAvail n))
    && (List.range 64).all (fun b => decide ((p.bat b).demand ≤ s.floor b))
    && p.grants.all (fun g => (s.grant g.num).len != 0 && (s.grant g.num).batten == g.batten && (s.grant g.num).len == g.len)
    && (List.range 64).all (fun b => !(p.uses b && s.bit (pgBST b) BST_FENCE_FENCED))
    && p.handles.all (fun h => !(s.obj h).poison)
    && p.handles.all (fun h => !s.pur.writing.any (·.2 == h))

/-- R153: the queue in rank order. -/
def rankInsert (p : Plan) : List Plan → List Plan
  | [] => [p]
  | q :: r => if q.prio < p.prio ∨ (q.prio = p.prio ∧ p.seq < q.seq) then p :: q :: r else q :: rankInsert p r

def State.ranked (s : State) : List Plan := s.pur.queue.foldl (fun a p => rankInsert p a) []

/-- Plans return to the queue in order of their queue sequence number. -/
def seqInsert (p : Plan) : List Plan → List Plan
  | [] => [p]
  | q :: r => if p.seq < q.seq then p :: q :: r else q :: seqInsert p r

/-- R130: queued plans that name a POISON object fail and leave the queue. -/
def State.poisonFails (s : State) : State :=
  let bad := s.ranked.filter fun p => p.handles.any fun h => (s.obj h).poison
  { s with
    pur := { s.pur with queue := s.pur.queue.filter fun p => !(p.handles.any fun h => (s.obj h).poison) }
    crs := { s.crs with pendFail := s.crs.pendFail ++ bad } }

/-! ## The pager (R134 to R140, R715) -/

/-- R136: the queue as the pager ranks it: the latest ranking, then plans queued since. -/
def State.pagerRank (s : State) : List Plan :=
  (s.pur.rank.filterMap fun q => s.pur.queue.find? (·.seq == q)) ++ s.pur.queue.filter fun p => !s.pur.rank.contains p.seq

/-- Whether an object has a page in one of some stacks. -/
def Obj.touches (o : Obj) (ns : List Nat) : Bool := o.stacks.any fun n => ns.contains n

/-- The object with the lowest LAST, and then the lowest handle. -/
def State.oldest (s : State) : List Nat → Option Nat
  | [] => none
  | h :: r => match s.oldest r with
    | none => some h
    | some k => if (s.obj k).last < (s.obj h).last then some k else some h

/-- R135: the object that the pager evicts next for some stacks: first-tier candidates, and then, where `second` says that the eviction is for the served plan, second-tier candidates that only plans ranked behind it name. What the served plan names is in neither case a candidate. Nothing is evicted while there are no host slots. -/
def State.victim (s : State) (ns : List Nat) (served : Option Plan) (second : Bool) : Option Nat :=
  if s.slotsTotal = 0 then none
  else
    let cs := (s.pur.objs.map (·.1)).filter fun h => s.candidate h && (s.obj h).touches ns
      && !(match served with | some p => p.names h | none => false)
      && !s.pur.retry.contains { out := true, handle := h }
    let ready h := s.pur.queue.any fun p => p.ready && p.names h
    match s.oldest (cs.filter fun h => !ready h) with
    | some h => some h
    | none => match second, served with
      | false, _ | _, none => none
      | true, some p =>
        let behind := ((s.pagerRank.map (·.seq)).dropWhile (· != p.seq)).drop 1
        s.oldest (cs.filter fun h => s.pur.queue.all fun q => !q.names h || behind.contains q.seq)

/-- What the served plan needs next: a fetch, or pages in some stacks. -/
def State.planNeed (s : State) (p : Plan) : Option (Option Nat × List Nat) :=
  if p.ready || p.handles.any (fun h => (s.obj h).state == .free || (s.obj h).moving) then none
  else
    let out := (p.handles.filter fun h => (s.obj h).state == .evicted).mergeSort (· ≤ ·)
    let go := out.filter fun h => !s.pur.retry.contains { out := false, handle := h }
    match go with
    | h :: _ => some (some h, (List.range 4).filter fun n => decide (s.freeAvail n < (s.obj h).pagesIn n))
    | [] =>
      if !out.isEmpty then none
      else
        let short := (List.range 4).filter fun n => decide (s.freeAvail n < s.shadowNeed p n)
        if short.isEmpty then none else some (none, short)

/-- R136: the plan that the pager serves, and what it needs. -/
def State.served (s : State) : Option (Plan × Option Nat × List Nat) :=
  s.pagerRank.findSome? fun p => (s.planNeed p).map fun n => (p, n)

/-- R116, R135: stacks whose free pages are below the low-water mark, or that owe the object table a page. -/
def State.lowStacks (s : State) : List Nat :=
  (List.range 4).filter fun n => decide (s.freeCount n < s.rf pgPUR PUR_FREE_LOW_PAGES) || decide (0 < s.unrepCount n)

/-- The moves that are wanted, in the precedence of R715. -/
def State.wanted (s : State) : List Ask :=
  let sv := s.served
  let cmds := s.pur.asks.filter fun a => !s.pur.retry.contains a
    && (if a.out then s.candidate a.handle else (s.obj a.handle).state == .evicted && !(s.obj a.handle).moving)
  let low := s.lowStacks.filterMap fun n => (s.victim [n] (sv.map (·.1)) false).map fun h => ({ out := true, handle := h } : Ask)
  let srv := match sv with
    | none => []
    | some (_, some h, []) => [{ out := false, handle := h }]
    | some (p, _, ns) => ((s.victim ns (some p) true).map fun h => ({ out := true, handle := h } : Ask)).toList
  cmds ++ low ++ srv

/-- R137: a wanted move can start. -/
def State.canStart (s : State) (a : Ask) : Bool :=
  if a.out then decide ((s.obj a.handle).npages ≤ s.slotsFree) else s.roomFor (s.obj a.handle)

/-- The move that the pager takes next. -/
def State.pagerPick (s : State) : Option Ask := s.wanted.find? fun a => s.canStart a

/-- R137: HB_FULL for the page-outs that are wanted ahead of the move taken and cannot start, once each in an interval. -/
def State.hbFulls (s : State) : State :=
  let hs := ((s.wanted.takeWhile fun a => !s.canStart a).filter (·.out)).map (·.handle)
  let new := hs.filter fun h => !s.pur.hbFull.contains h
  { s with pur := { s.pur with hbFull := s.pur.hbFull ++ new.eraseDups } }.raiseIf (!new.isEmpty) pgPUR 4

/-- The pager may start work: Purlin is READY and not frozen, and no move is in progress. [DEDUCED, assumption log 51] -/
def State.pagerFree (s : State) : Bool := s.ready pgPUR && !s.frozenPage pgPUR && s.pur.move.isNone

/-- Asks that have nothing left to ask for are dropped. -/
def State.dropAsk (s : State) (a : Ask) : State := { s with pur := { s.pur with asks := s.pur.asks.filter (· != a) } }

/-- R137: a move starts, takes its destination and sets MOVING. [DEDUCED, assumption log 51] -/
def State.moveStart (s : State) (a : Ask) : State :=
  let o := s.obj a.handle
  let s0 := s.dropAsk a
  if a.out then
    let (ks, s1) := s0.takeSlots o.npages
    { s1 with pur := { s1.pur with move := some { out := true, handle := a.handle, pages := o.pages, slots := ks } } }.setObj
      a.handle { o with moving := true }
  else
    let (ps, s1) := s0.takePages o.stacks
    { s1 with pur := { s1.pur with move := some { out := false, handle := a.handle, pages := ps, slots := o.slots } } }.setObj
      a.handle { o with moving := true }

/-- PAGE_OUT. -/
def execPageOut (s : State) : Host.Outcome State Fault Refusal :=
  done s (if !s.pagerFree then s
    else match s.pagerPick with
      | some a => if a.out then s.hbFulls.moveStart a else s.hbFulls
      | none => s.hbFulls)

/-- PAGE_IN. -/
def execPageIn (s : State) : Host.Outcome State Fault Refusal :=
  done s (if !s.pagerFree then s
    else match s.pagerPick with
      | some a => if a.out then s else s.hbFulls.moveStart a
      | none => s.hbFulls)


/-- Read a page through the decoder: corrections and uncorrectable errors are counted and reported. -/
def State.pageRead (s : State) (p : Nat) : State := (s.struckIn p).foldl (fun s b => s.demandRead (stackOf p) b false) s

/-- Copy a page to host memory. -/
def State.pageToHost (s : State) (p addr : Nat) : State :=
  let struck := (s.struckIn p).flatMap fun b => (List.range 64).map fun i => b % 32768 * 64 + i
  let kvs := ((s.pageCells p).map (·.1) ++ struck).map fun o => (addr + o, s.hbmByte (p * pageBytes + o))
  { s with host := smSetMany (fun _ => 0) (smDrop (fun k => decide (addr ≤ k ∧ k < addr + pageBytes)) s.host) kvs }

/-- Copy a page from host memory, with fresh check bytes. -/
def State.pageFromHost (s : State) (p addr : Nat) : State :=
  (s.zeroPage p).hbmPut ((s.host.filter fun e => decide (addr ≤ e.1 ∧ e.1 < addr + pageBytes)).map fun e =>
    (p * pageBytes + (e.1 - addr), e.2))

def tryKey (out : Bool) (h : Nat) : Nat := 2 * h + bnat out

/-- The entry that a move works on: the object's, or that of an object freed meanwhile. -/
def State.moving (s : State) (h : Nat) : Obj :=
  if s.pur.dying.any (·.1 == h) then smGet objDflt s.pur.dying h else s.obj h

def State.setMoving (s : State) (h : Nat) (o : Obj) : State :=
  if s.pur.dying.any (·.1 == h) then
    -- R121: the move of a freed object has ended: its pages and slots are released
    let s1 := { s with pur := { s.pur with dying := smErase s.pur.dying h } }
    (s1.releasePages o.pages).releaseSlots o.slots
  else s.setObj h o

/-- R137: the last page move ends the object move. [DEDUCED, assumption log 51] -/
def State.moveEnd (s : State) (m : Move) : State :=
  let o := s.moving m.handle
  let s1 := { s with pur := { s.pur with move := none, tries := smErase s.pur.tries (tryKey m.out m.handle) } }
  if m.out then
    (s1.releasePages m.pages).setMoving m.handle { o with state := .evicted, moving := false, pages := [], slots := m.slots }
  else
    (s1.releaseSlots m.slots).setMoving m.handle { o with state := .resident, moving := false, pages := m.pages, slots := [] }

/-- R140: a host-memory error undoes the move. -/
def State.moveFail (s : State) (m : Move) : State :=
  let o := s.moving m.handle
  let freed := s.pur.dying.any (·.1 == m.handle)
  let k := tryKey m.out m.handle
  let s1 := { s with pur := { s.pur with move := none } }
  let s2 := if m.out then s1.releaseSlots m.slots else s1.releasePages m.pages
  let s3 := (s2.setMoving m.handle { o with moving := false }).raise pgPUR 6
  let s4 := s3.err pgPUR 0x8004 m.handle
  if freed then s4
  else { s4 with pur := { s4.pur with
      tries := smSet (fun _ => 0) s4.pur.tries k (smGet (fun _ => 0) s4.pur.tries k + 1)
      retry := s4.pur.retry ++ [{ out := m.out, handle := m.handle }] } }

/-- One page move completes. A stack that is stopped or lost takes no write, and reads of it return 0 (R712). -/
def State.pageMoved (s : State) (m : Move) : State :=
  let p := m.pages.getD m.next 0
  let addr := s.slotAddr (m.slots.getD m.next 0)
  let off := s.stackStopped (stackOf p)
  let s1 := if m.out then
      (if off then { s with host := smDrop (fun k => decide (addr ≤ k ∧ k < addr + pageBytes)) s.host }
       else (s.pageRead p).pageToHost p addr).inc pgPUR PUR_EVICT_CNT_COUNT
    else (if off then s else s.pageFromHost p addr).inc pgPUR PUR_FETCH_CNT_COUNT
  let m1 := { m with next := m.next + 1 }
  if m.pages.length ≤ m.next + 1 then s1.moveEnd m1 else { s1 with pur := { s1.pur with move := some m1 } }

/-- PAGE_MOVE: `ok` says that the host memory answered without error. While the tray is IDLE the stacks are in self-refresh, and no page moves (R615). -/
def execPageMove (ok : Bool) (s : State) : Host.Outcome State Fault Refusal :=
  done s (if s.frozenPage pgPUR || s.rf pgGLB GLB_STATE_STATE == 3 then s
    else match s.pur.move with
      | none => s
      | some m => if ok then s.pageMoved m else s.moveFail m)

/-- PAGER_POISON: the object of a move that has failed three times is poisoned. A move whose third attempt is in progress fails first. -/
def execPagerPoison (h : Fin (2 ^ 24)) (out : Bool) (s : State) : Host.Outcome State Fault Refusal :=
  let k := tryKey out h
  let s1 := match s.pur.move with
    | some m => if m.handle = h ∧ m.out = out ∧ smGet (fun _ => 0) s.pur.tries k = 2 then s.moveFail m else s
    | none => s
  done s (if smGet (fun _ => 0) s1.pur.tries k < 3 then s
    else
      let retry := s1.pur.retry.filter fun a => a != ({ out := out, handle := h.val } : Ask)
      { s1 with pur := { s1.pur with tries := smErase s1.pur.tries k, retry := retry } }.poisonObj h)

/-- R116: a page of a table copy is refilled from the other copy. -/
def State.tabRefill (s : State) (c idx : Nat) : State :=
  let src := s.pur.table.filter fun e => e.1 / 2 ^ 24 == 1 - c && e.1 % 2 ^ 24 / pageEntries == idx
  { s with pur := { s.pur with table := smSetMany (fun _ => 0) s.pur.table (src.map fun e => (tabKey c (e.1 % 2 ^ 24), e.2)) } }

/-- OT_REPAIRED: a retired table page is replaced from a free page of its stack, and refilled from the other copy. -/
def execOtRepaired (s : State) : Host.Outcome State Fault Refusal :=
  done s (match s.pur.unrep.find? fun e => decide (0 < s.freeCount e.1) with
    | none => s
    | some (c, idx) =>
      let old := (s.pur.tab.getD c []).getD idx 0
      let (p, s1) := s.takePage c
      let tab := s1.pur.tab.set c ((s1.pur.tab.getD c []).set idx p)
      let c2 := 1 - c
      let s2 := { s1 with pur := { s1.pur with tab := tab, unrep := s1.pur.unrep.filter (· != (c, idx)) } }
      let s3 := (if s2.stackStopped c then s2 else if s2.stackStopped c2 then s2.zeroPage p else (s2.zeroPage p).tabRefill c idx).err
        pgPUR 0x8001 old
      let other := (s3.pur.tab.getD c2 []).getD idx 0
      if s3.stackStopped (stackOf other) then s3
      else (s3.struckIn other).foldl (fun s b =>
        match s.decodeAt (stackOf other) b with
        | .clean => s
        | .fixed k => (s.countCe (stackOf other) b k).queueScrub (stackOf other) b
        | .bad => ((s.countUe (stackOf other) b).tabRetire c2 idx other).otLostPair idx (b % 32768 * 64)) s3)

/-! ## Enable, drain, soft reset (R115, R143) -/

/-- R115: the lowest pages of a stack that are not retired: a page that R116 has taken out of the pool is passed over. [DESIGN CHOICE, assumption log 112] -/
def State.lowPages (s : State) (n k : Nat) : List Nat :=
  let ret := ((s.pur.pages.filter fun e => e.2 == .retired && stackOf e.1 == n).map (·.1))
  ((List.range (k + ret.length)).map fun i => n * stackPages + i).filter (fun p => !ret.contains p) |>.take k

/-- R115: format the object table: every entry FREE, both copies on the lowest pages of stacks 0 and 1. -/
def State.otFormat (s : State) : State :=
  let k := 2 ^ (s.rf pgPUR PUR_OT_CFG_LOG2 - 16)
  let pages := s.pur.pages.filter fun e => e.2 == PgUse.retired
  let s1 : State := { s with pur := { s.pur with
      formatted := true, objs := [], table := [], plist := [], plAt := [], dying := [], withheld := [], lostUsed := 0, unrep := [], slots := [], pages := pages } }
  let t0 := s1.lowPages 0 k
  let t1 := s1.lowPages 1 k
  let s2 := (t0 ++ t1).foldl (fun s p => (s.setPageUse p .used).zeroPage p) s1
  { s2 with pur := { s2.pur with tab := [t0, t1] } }.wf pgPUR PUR_OT_PAGE_PAGES k

/-- R143: a soft reset returns every object to FREE, releases every standing grant and marks the table unformatted. -/
def State.purReset (s : State) : State :=
  let pages := s.pur.pages.filter fun e => e.2 == PgUse.retired
  { s with pur := { s.pur with
      formatted := false, objs := [], table := [], plist := [], plAt := [], dying := [], withheld := [], lostUsed := 0, unrep := [], tab := [], slots := [],
      grants := [], stWait := [], asks := [], move := none, tries := [], retry := [], writing := [], hbFull := [],
      pages := pages } }

end Sys2Proof.Machine
end

