-- ==== Sys2Proof/Machine/Governor.lean ====
section
/-! DEFINITION. The energy governor: zones, the energy bucket, ranking and fit, reservations and priority changes (R46 to R48, R147 to R168, R716). -/

namespace Sys2Proof.Machine

/-! ## Run-time bound (R46) -/

/-- R46, in units of 1/72 ns: with C2 the weights of P0, P1, P2 and P3 are 0, 3/8, 1 and 9/4. -/
def Plan.bound (p : Plan) (op : Nat) : Int :=
  let c0 : Int := p.c0
  let c2 : Int := p.c2
  if p.c2 = 0 then
    match op with | 0 => 48 * c0 | 1 => 60 * c0 | 2 => 80 * c0 | _ => 120 * c0
  else
    match op with | 0 => 48 * c0 | 1 => 30 * c0 + 30 * c2 | 2 => 80 * c2 | _ => 180 * c2 - 60 * c0

/-- R69: the bound in units of 0.1 µs, rounded up. -/
def Plan.budget (p : Plan) (op : Nat) : Nat := ((p.bound op + 7199) / 7200).toNat

/-! ## Zones (R148, R149) -/

/-- A sensor: VALID and the signed temperature, 1/16 °C. -/
def State.sensor (s : State) (pg : Nat) (v t : Fld) (i : Nat) : Bool × Int := (s.bit pg v i, sext 16 (s.rf pg t i))

/-- The sensors of a zone. -/
def State.zoneSensors (s : State) (z : Nat) : List (Bool × Int) :=
  let vr r := s.sensor pgSNS SNS_VR_VALID SNS_VR_TEMP r
  if z < 8 then (List.range 8).map fun i => s.sensor pgSNS SNS_BAT_VALID SNS_BAT_TEMP (8 * z + i)
  else if z < 12 then [s.sensor (pgHBM (z - 8)) HBM_TEMP_VALID HBM_TEMP_TEMP 0]
  else if z = 12 then [vr 0]
  else if z = 13 then (List.range 5).map fun i => vr (i + 1)
  else if z = 14 then [s.sensor pgSNS SNS_INPUT_VALID SNS_INPUT_TEMP 0, vr 6]
  else [s.sensor pgSNS SNS_OPT_VALID SNS_OPT_TEMP 0]

def maxTemp : List (Bool × Int) → Int
  | [] => 0
  | [x] => x.2
  | x :: r => max x.2 (maxTemp r)

/-- R149: a zone's temperature, and whether it is BAD. -/
def State.zone (s : State) (z : Nat) : Int × Bool :=
  let xs := s.zoneSensors z
  if xs.all (·.1) then (maxTemp xs, false) else (16 * (s.rf pgPUE PUE_ZLIM_LIMIT z : Int), true)

/-- R149: sample every zone. -/
def State.sampleZones (s : State) : State :=
  let zs := (List.range 16).map fun z => s.zone z
  let s1 := (List.range 16).foldl (fun a z =>
    let (t, b) := zs.getD z (0, false)
    (a.wf pgPUE PUE_ZTEMP_BAD (bnat b) z).wf pgPUE PUE_ZTEMP_TEMP (trunc 16 t) z) s
  s1.raiseIf (zs.any (·.2)) pgPUE 6

/-- The temperature that the selection uses. -/
def State.zoneTemp (s : State) (z : Nat) : Int := sext 16 (s.rf pgPUE PUE_ZTEMP_TEMP z)

/-- R154: an HBM zone is above 95 °C. -/
def State.hbmHot (s : State) : Bool := (List.range 4).any fun n => decide (95 * 16 < s.zoneTemp (8 + n))

/-- THROTTLE and THROTTLE_END, at the first selection point of each. -/
def State.throttle (s : State) : State :=
  let h := s.hbmHot
  let s1 := if h == s.gov.throttled then s else s.raise pgPUE (if h then 4 else 5)
  { s1 with gov := { s1.gov with throttled := h } }

/-! ## The bucket (R150 to R152, R716) -/

def State.level (s : State) : Int := sext 32 (s.rf pgPUE PUE_LEVEL_UJ)
def State.setLevel (s : State) (x : Int) : State := s.wf pgPUE PUE_LEVEL_UJ (trunc 32 x)
/-- The depth in µJ. -/
def State.depth (s : State) : Int := 1000 * (s.rf pgPUE PUE_DEPTH_MJ : Int)

def upDiv (a b : Nat) : Nat := (a + (b - 1)) / b

/-- R150: refill for a course of `len` µs, reconcile, floor. [DEDUCED, assumption log 49] -/
def State.bucket (s : State) (len : Nat) : State :=
  let l0 := min (s.level + ((s.rf pgPUE PUE_FILL_MW * len / 1000 : Nat) : Int)) s.depth
  let (l1, bad) := match s.crs.recon with
    | some (c, m, ok) =>
      if s.bit pgPUE PUE_CFG_MEAS then (if ok then (l0 + (c : Int) - (m : Int), false) else (l0, true)) else (l0, false)
    | none => (l0, false)
  { (s.setLevel (max l1 (-s.depth))).raiseIf bad pgPUE 7 with crs := { s.crs with recon := none } }

/-- R152: the charge of a plan course. -/
def State.planCharge (s : State) (p : Plan) (k len : Nat) : Nat :=
  upDiv (p.energy * 1000 * s.rf pgPUE PUE_SCALE_SCALE k) 1024 + upDiv (s.rf pgPUE PUE_BASE_P_MW k * len) 1000

/-- R152: the charge of a wadding course. -/
def State.wadCharge (s : State) (len : Nat) : Nat := upDiv (s.rf pgPUE PUE_WAD_P_MW * len) 1000

/-! ## Eligibility and fit (R48, R154, R155) -/

/-- R365: the present refresh class. -/
def State.refClass (s : State) : Nat := (List.range 4).foldl (fun a n => max a (s.rf (pgHBM n) HBM_STAT_CLASS)) 0

/-- R497: some Batrix posting is VALID. -/
def State.posted (s : State) : Bool := (List.range 64).any fun q => s.bit pgBTXC BTX_PST_OBJ_VALID q

/-- R48 and R154. -/
def State.eligible (s : State) (p : Plan) (k len : Nat) : Bool :=
  decide (s.rf pgPUE PUE_CFG_OP_MAX ≤ k) && (!s.hbmHot || decide (s.rf pgPUE PUE_CFG_THROT_OP ≤ k))
    && decide (k ≤ p.minOp) && decide (p.bound k ≤ 72000 * ((len : Int) - 6))
    && decide (min 2 (s.refClass + 1) ≤ p.refClass)
    && (!(p.eng 8).present || s.bit pgCRS CRS_STAT_SYNC_OK)
    && (!s.posted || p.postbw)

/-- R155: energy. -/
def State.fitsEnergy (s : State) (p : Plan) (k len : Nat) : Bool := decide ((s.planCharge p k len : Int) ≤ s.level)

/-- R155: the rise of a zone, 1/16 °C. -/
def State.rise (s : State) (p : Plan) (k len z : Nat) : Nat :=
  upDiv (p.heat.getD z 0 * s.rf pgPUE PUE_SCALE_SCALE k * s.rf pgPUE PUE_ZLIM_K z * len * 16) (4 * 1024 * 65536 * 1000)

/-- R155: heat. -/
def State.fitsHeat (s : State) (p : Plan) (k len : Nat) : Bool :=
  (List.range 16).all fun z => p.heat.getD z 0 == 0
    || decide (s.zoneTemp z + (s.rise p k len z : Int) ≤ 16 * (s.rf pgPUE PUE_ZLIM_LIMIT z : Int))

/-- The operating points at which a plan is eligible, fastest first. -/
def State.eligibleOps (s : State) (p : Plan) (len : Nat) : List Nat := (List.range 4).filter fun k => s.eligible p k len

/-- R156: the fastest operating point at which the plan is eligible and fits. -/
def State.bestOp (s : State) (p : Plan) (len : Nat) : Option Nat :=
  (s.eligibleOps p len).find? fun k => s.fitsEnergy p k len && s.fitsHeat p k len

/-! ## Reservations (R158 to R160) -/

def State.queued (s : State) (q : Nat) : Option Plan := s.pur.queue.find? (·.seq == q)

def State.mapPlan (s : State) (q : Nat) (f : Plan → Plan) : State :=
  { s with pur := { s.pur with queue := s.pur.queue.map fun p => if p.seq == q then f p else p } }

def State.resvClear (s : State) : State :=
  let s1 := ((s.wf pgPUE PUE_RESV_ACTIVE 0).wf pgPUE PUE_RESV_FUNC 0).wf pgPUE PUE_RESV_COUNT 0
  { s1.wf pgPUE PUE_RESV_ID_ID 0 with gov := { s1.gov with resv := none, count := 0 } }

/-- R160: the reservation ends when its plan is no longer queued and ready, or STARVE is 0. -/
def State.resvCheck (s : State) : State :=
  match s.gov.resv with
  | none => s
  | some q =>
    match s.queued q with
    | some p => if p.ready && s.rf pgPUE PUE_CFG_STARVE != 0 then s else s.resvClear
    | none => s.resvClear

/-- R160: a lapse after 4 × STARVE selection points. -/
def State.resvLapse (s : State) : State :=
  match s.gov.resv with
  | none => s
  | some q =>
    if 4 * s.rf pgPUE PUE_CFG_STARVE ≤ s.gov.count then
      (s.resvClear.mapPlan q fun p => { p with passed := 0 }).raise pgPUE 3
    else s

/-- R159: a reservation that is due begins; one that falls due while another plan's is active waits until that one has ended. [DEDUCED, assumption log 49; DESIGN CHOICE, assumption log 110] -/
def State.resvStart (s : State) : State :=
  match s.gov.due, s.gov.resv with
  | some q, none =>
    let s0 := { s with gov := { s.gov with due := none } }
    match s.queued q with
    | some p =>
      if p.ready && s.rf pgPUE PUE_CFG_STARVE != 0 then
        let s1 := ((s0.wf pgPUE PUE_RESV_ACTIVE 1).wf pgPUE PUE_RESV_FUNC p.fn).wf pgPUE PUE_RESV_ID_ID p.id
        ({ s1 with gov := { s1.gov with resv := some q, count := 0 } }.inc pgPUE PUE_RESV_CNT_COUNT).raise pgPUE 2
      else s0
    | none => s0
  | _, _ => s

/-- RESV_START: at a selection point, the reservation that is due begins. -/
def execResvStart (s : State) : Host.Outcome State Fault Refusal := done s (if s.crs.running then s.resvStart else s)

/-- RESV_LAPSE: at a selection point, a reservation lapses. -/
def execResvLapse (s : State) : Host.Outcome State Fault Refusal := done s (if s.crs.running then s.resvLapse else s)

/-! ## Selection (R156 to R162) -/

/-- What the governor chose: a plan with its operating point, or wadding with its reason. -/
inductive Choice where
  | plan (p : Plan) (op : Nat)
  | wad (reason : Nat)
deriving DecidableEq, Repr

/-- R156: go through the ready plans in rank order; under a reservation, stop below the reserved plan. -/
def State.pick (s : State) (len : Nat) : List Plan → Option (Plan × Nat)
  | [] => none
  | p :: r =>
    match s.bestOp p len with
    | some k => some (p, k)
    | none => if s.gov.resv = some p.seq then none else s.pick len r

/-- R162: why no plan is selected. -/
def State.wadReason (s : State) (len : Nat) (ps : List Plan) : Nat :=
  match ps.find? fun p => !(s.eligibleOps p len).isEmpty with
  | none => 1
  | some p =>
    if s.gov.resv.isSome then 5
    else if s.fitsEnergy p ((s.eligibleOps p len).getLastD 0) len then 3 else 2

def State.choose (s : State) (hold : Bool) (len : Nat) : Choice :=
  if hold then .wad 4
  else
    let ps := s.ranked.filter (·.ready)
    match s.pick len ps with
    | some (p, k) => .plan p k
    | none => .wad (s.wadReason len ps)

/-- R158: the plan that a choice passes over. [DEDUCED, assumption log 49] -/
def State.passedOver (s : State) (c : Choice) (len : Nat) : Option Nat :=
  match c, (s.ranked.filter (·.ready)).head? with
  | .plan p _, some t =>
    if t.seq != p.seq && !(s.eligibleOps t len).isEmpty && (s.bestOp t len).isNone then some t.seq else none
  | _, _ => none

/-- A plan's count: one more if it was passed over, else 0. -/
def Plan.countPass (passed : Option Nat) (p : Plan) : Plan :=
  { p with passed := if passed = some p.seq then p.passed + 1 else 0 }

/-- R158, R159: passed-over counts; at STARVE a reservation is due. -/
def State.passOver (s : State) (c : Choice) (len : Nat) : State :=
  let passed := s.passedOver c len
  let s1 := { s with pur := { s.pur with queue := s.pur.queue.map (Plan.countPass passed) } }
  match passed.bind s1.queued with
  | some p =>
    if s.rf pgPUE PUE_CFG_STARVE ≠ 0 ∧ s.rf pgPUE PUE_CFG_STARVE ≤ p.passed ∧ s.gov.resv ≠ some p.seq then
      { s1 with gov := { s1.gov with due := some p.seq } }
    else s1
  | none => s1

/-- R157, R161, R162, R716: record the choice and subtract its charge; `on` says that the page is READY. -/
def State.recordChoice (s : State) (c : Choice) (len : Nat) (on : Bool) : State × Option Nat :=
  let rec' (s : State) (wad reason op ch : Nat) : State :=
    (((s.wf pgPUE PUE_LAST_SEL_WAD wad).wf pgPUE PUE_LAST_SEL_REASON reason).wf pgPUE PUE_LAST_SEL_OP op).wf
      pgPUE PUE_LAST_SEL_CHARGE (min 65535 (upDiv ch 1000))
  match c with
  | .plan p k =>
    let ch := s.planCharge p k len
    let down := decide ((s.eligibleOps p len).headD k < k)
    let s1 := (rec' s 0 0 k ch).setLevel (s.level - (ch : Int))
    (if down then s1.inc pgPUE PUE_DOWN_CNT_COUNT else s1, some ch)
  | .wad r =>
    let op := s.rf pgPUE PUE_CFG_WAD_OP
    let ch := if on then s.wadCharge len else 0
    let s1 := (rec' s 1 r op ch).inc pgPUE PUE_WAD_CNT_COUNT
    let s2 := (s1.raiseIf (r == 2) pgPUE 0).raiseIf (r == 3) pgPUE 1
    (if on then s2.setLevel (s2.level - (ch : Int)) else s2, if on then some ch else none)

/-- R131, R157: the plan leaves the queue, and takes its shadow pages; LAST of its objects takes the course number. -/
def State.dispatch (s : State) (p : Plan) : State × Run :=
  let s1 := { s with pur := { s.pur with queue := s.pur.queue.filter (·.seq != p.seq) } }
  let s2 := p.handles.foldl (fun s h => s.setObj h { s.obj h with last := s.courseNum }) s1
  p.outputs.foldl (fun (s, r) h =>
    let (ps, s') := s.takePages (s.obj h).stacks
    (s', { r with shadows := r.shadows ++ [(h, ps)] })) (s2, { plan := { p with ready := false, passed := 0 } })

/-! ## The priority command (R163 to R165) -/

/-- R165: the plan of a function with an identifier and the lowest queue sequence number: queued (true) or running. -/
def State.findPlan (s : State) (fn id : Nat) : Option (Nat × Bool) :=
  let hit (p : Plan) := p.fn == fn && p.id == id
  let q := (s.pur.queue.filter hit).map fun p => (p.seq, true)
  let r := (((s.crs.next.bind (·.run)).toList ++ s.crs.run.toList).filter fun r => hit r.plan).map fun r => (r.plan.seq, false)
  (q ++ r).foldl (fun a x => match a with
    | none => some x
    | some y => if x.1 < y.1 then some x else some y) none

def Run.withPrio (r : Run) (seq prio : Nat) : Run := if r.plan.seq == seq then { r with plan := { r.plan with prio := prio } } else r

/-- R163: the priority commands in progress end. [DESIGN CHOICE, assumption log 110] -/
def State.priDone (s : State) : State := (s.wf pgPUE PUE_PRI_STAT_BUSY 0 0).wf pgPUE PUE_PRI_STAT_BUSY 0 1

/-- PRIORITY_CHANGE: a write of FUNC and PRIO to PUE_PRIs. The command acts at the write, and BUSY stands until it has ended. [DESIGN CHOICE, assumption log 110] -/
def State.priWrite (s : State) (src : Src) (slot : Nat) (fn prio : Nat) : State :=
  let key := pgPUE + 0x114 + 0x10 * slot
  s.ifSlot src slot key fun s =>
    let st (s : State) (n : Nat) := (s.wf pgPUE PUE_PRI_STAT_STATUS n slot).wf pgPUE PUE_PRI_STAT_BUSY 1 slot
    if s.bit pgPUE PUE_PRI_STAT_BUSY slot then s.accErr src key eSTATE
    else if 8 < fn then st s 4
    else match s.findPlan fn (s.rf pgPUE PUE_PRI_ID_ID slot) with
      | none => st s 3
      | some (q, true) => st (s.mapPlan q fun p => { p with prio := prio }) 1
      | some (q, false) =>
        let c := s.crs
        st { s with crs := { c with
          run := c.run.map (·.withPrio q prio)
          next := c.next.map fun n => { n with run := n.run.map (·.withPrio q prio) } } } 2

/-- The command of the write above. -/
def execPriorityChange (src : Src) (slot : Fin 2) (fn prio : Fin 16) (s : State) : Host.Outcome State Fault Refusal :=
  done s (s.priWrite src slot fn prio)

end Sys2Proof.Machine
end

