-- ==== Sys2Proof/Machine/Report.lean ====
section
/-! DEFINITION. Completion rings: reports to the functions (R678 to R680). -/

namespace Sys2Proof.Machine

/-- A completion ring: its page, and the fields of its registers. -/
structure Ring where
  pg : Nat
  lo : Fld
  hi : Fld
  en : Fld
  log2 : Fld
  tail : Fld
  head : Fld
  lost : Fld
deriving DecidableEq, Repr

/-- R678: the PF's ring is set in the GUT page, VF v's in its VDB page. -/
def ringOf (fn : Nat) : Ring :=
  if fn = 0 then
    { pg := pgGUT, lo := GUT_PCQ_BASE_LO_BASE, hi := GUT_PCQ_BASE_HI_BASE, en := GUT_PCQ_CFG_EN, log2 := GUT_PCQ_CFG_LOG2,
      tail := GUT_PCQ_TAIL_TAIL, head := GUT_PCQ_HEAD_HEAD, lost := GUT_PCQ_LOST_COUNT }
  else
    { pg := pgVDB fn, lo := VDB_CQ_BASE_LO_BASE, hi := VDB_CQ_BASE_HI_BASE, en := VDB_CQ_CFG_EN, log2 := VDB_CQ_CFG_LOG2,
      tail := VDB_CQ_TAIL_TAIL, head := VDB_CQ_HEAD_HEAD, lost := VDB_CQ_LOST_COUNT }

def State.ringSize (s : State) (r : Ring) : Nat := 2 ^ s.rf r.pg r.log2

/-- R678: the ring has room for an entry. -/
def State.ringRoom (s : State) (r : Ring) : Bool :=
  (s.rf r.pg r.tail + 1) % s.ringSize r != s.rf r.pg r.head % s.ringSize r

def State.backlog (s : State) (fn : Nat) : List Report := smGet (fun _ => []) s.eav.backlog fn

def State.setBacklog (s : State) (fn : Nat) (l : List Report) : State :=
  { s with eav := { s.eav with backlog := smSet (fun _ => []) s.eav.backlog fn l } }

/-- R679: the 16 bytes of an entry. -/
def Report.bytes (r : Report) (phase : Bool) : List Byte :=
  leBytes 4 r.id ++ leBytes 1 r.status ++ leBytes 1 r.cause ++ leBytes 1 (bnat phase) ++ leBytes 1 0 ++ leBytes 8 r.course

/-- R679, R680: an entry is written at TAIL, TAIL advances, and CQ is raised. [DEDUCED, assumption log 54] -/
def State.cqWrite (s : State) (fn : Nat) (r : Report) : State :=
  let q := ringOf fn
  let t := s.rf q.pg q.tail % s.ringSize q
  let base := 2 ^ 32 * s.rf q.pg q.hi + 2 ^ 12 * s.rf q.pg q.lo
  let flip := smGet (fun _ => false) s.eav.flip fn
  let t1 := (t + 1) % s.ringSize q
  let s1 := (s.hostWrite (base + 16 * t) (r.bytes (!flip))).wf q.pg q.tail t1
  let s2 := if t1 = 0 then { s1 with eav := { s1.eav with flip := smSet (fun _ => false) s1.eav.flip fn (!flip) } } else s1
  s2.raise q.pg 0

/-- R680: a report is lost. [DEDUCED, assumption log 54] -/
def State.cqLose (s : State) (fn : Nat) : State := ((s.inc (ringOf fn).pg (ringOf fn).lost).raise (ringOf fn).pg 1)

/-- R679, R680: a report to a function. [DEDUCED, assumption log 54] -/
def State.report (s : State) (fn id status cause course : Nat) : State :=
  let q := ringOf fn
  let r : Report := { id := id, status := status, cause := cause, course := course }
  if 8 < fn then s
  else if !s.bit q.pg q.en then s.cqLose fn
  else if (s.backlog fn).isEmpty && s.ringRoom q then s.cqWrite fn r
  else if 16 ≤ (s.backlog fn).length then s.cqLose fn
  else s.setBacklog fn (s.backlog fn ++ [r])

/-- CQ_BACKLOG_WRITE: the oldest waiting report of a function is written when there is room, or lost if the ring is disabled. -/
def execCqBacklogWrite (fn : Fin 9) (s : State) : Host.Outcome State Fault Refusal :=
  let q := ringOf fn
  done s (match s.backlog fn with
    | [] => s
    | r :: l =>
      if !s.bit q.pg q.en then (s.setBacklog fn l).cqLose fn
      else if s.ringRoom q then (s.setBacklog fn l).cqWrite fn r
      else s)

end Sys2Proof.Machine
end

