-- ==== Sys2Proof/Machine/Submit.lean ====
section
/-! DEFINITION. Plan images and their submission (R127, R128, R672 to R677). -/

namespace Sys2Proof.Machine

/-! ## Reading an image -/

/-- A byte of an object's committed contents, which stand in host slots while the object is EVICTED. -/
def State.imgByte (s : State) (h i : Nat) : Nat :=
  let o := s.obj h
  match o.state with
  | .resident => (s.hbmByte (pagedAddr o.pages i)).toNat
  | .evicted => (s.hostByte (s.slotAddr (o.slots.getD (i / pageBytes) 0) + i % pageBytes)).toNat
  | _ => 0

/-- A little-endian number of an image's bytes (R6). -/
def State.img (s : State) (h off n : Nat) : Nat :=
  (List.range n).foldr (fun i acc => s.imgByte h (off + i) + 256 * acc) 0

/-- Bytes of an image are all 0. -/
def State.imgZero (s : State) (h off n : Nat) : Bool := (List.range n).all fun i => s.imgByte h (off + i) == 0

/-- A region of an image: its first byte and its length. -/
abbrev Region := Nat × Nat

/-- R675: a region starts at a multiple of 8 and lies within image bytes 256 to LEN - 1. -/
def regionIn (len : Nat) (r : Region) : Bool := r.1 % 8 == 0 && decide (256 ≤ r.1) && decide (r.1 + r.2 ≤ len)

/-- R675: regions overlap. -/
def overlap (a b : Region) : Bool := decide (a.1 < b.1 + b.2 ∧ b.1 < a.1 + a.2)

/-- R675: no two regions of a list overlap. -/
def apart : List Region → Bool
  | [] => true
  | r :: l => l.all (fun q => !overlap r q) && apart l

/-- R675: a valid OWNER byte. [DEDUCED, assumption log 53] -/
def ownerOk (o : Nat) : Bool :=
  o == 0xFF || (bits o 7 6 == 0 && bits o 3 3 == 0 && decide (bits o 2 0 ≤ 4)
    && (bits o 5 4 == 0 || bits o 2 0 == 1 || bits o 2 0 == 3))

/-! ## Parsing -/

/-- R672: GRANT[g]. -/
def State.imgGrant (s : State) (h g : Nat) : GrantRef :=
  let w := s.img h (0x60 + 8 * g) 8
  { num := bits w 7 0, batten := bits w 13 8, len := bits w 26 16 }

/-- R673: entry b of the batten table at `off`. -/
def State.imgBat (s : State) (h off b : Nat) : BatEnt :=
  let a := off + 48 * b
  { demand := s.img h a 2, stints := (s.img h (a + 2) 1).testBit 0, stlist := s.img h (a + 4) 4, nst := s.img h (a + 8) 2
    slOff := s.img h (a + 12) 4, owner := (List.range 32).map fun i => s.imgByte h (a + 16 + i) }

/-- R674: entry e of the engine table at `off`. -/
def State.imgEng (s : State) (h off e : Nat) : EngEnt :=
  let a := off + 16 * e
  { present := (s.img h a 1).testBit 0, paired := (s.img h a 1).testBit 1, row := s.img h (a + 1) 1
    count := s.img h (a + 4) 4, descOff := s.img h (a + 8) 4 }

/-- R127: entry i of the object list at `off`. -/
def State.imgObj (s : State) (h off i : Nat) : ObjUse :=
  let w := s.img h (off + 4 * i) 4
  { handle := bits w 23 0, use := bits w 25 24 }

/-- The plan of an image, submitted by a function (R672 to R674). -/
def State.imgPlan (s : State) (fn h : Nat) : Plan :=
  { fn := fn, img := h, id := s.img h 8 4, domain := s.imgByte h 0x0C, c0 := s.img h 0x10 4, c2 := s.img h 0x14 4
    minOp := s.imgByte h 0x18, refClass := s.imgByte h 0x19, retry := s.imgByte h 0x1A, prio := s.imgByte h 0x1B
    energy := s.img h 0x1C 2, postbw := (s.imgByte h 0x1E).testBit 0
    heat := (List.range 16).map fun z => s.imgByte h (0x20 + z)
    sealedBlk := (List.range 16).map fun i => BitVec.ofNat 8 (s.imgByte h (0x30 + i))
    objs := (List.range (s.img h 0x40 2)).map fun i => s.imgObj h (s.img h 0x48 4) i
    nlink := s.img h 0x42 2, linkOff := s.img h 0x4C 4
    grants := (List.range (s.imgByte h 0x44)).map fun g => s.imgGrant h g
    bats := (List.range 64).map fun b => s.imgBat h (s.img h 0x50 4) b
    engs := (List.range 9).map fun e => s.imgEng h (s.img h 0x54 4) e }

/-! ## Well-formed images (R675) -/

/-- The header: magic, version, ranges and zero bytes (R672). -/
def State.headerOk (s : State) (h : Nat) : Bool :=
  let size := (s.obj h).size1 + 1
  let len := s.img h 0x58 4
  s.img h 0 4 == 0x044091A4 && s.img h 4 2 == 1 && decide (256 ≤ len) && decide (len ≤ size)
    && decide (s.imgByte h 0x0C < 64) && decide (s.imgByte h 0x18 < 4) && decide (s.imgByte h 0x19 ≤ 2)
    && decide (s.imgByte h 0x1B < 16) && decide (s.imgByte h 0x1E < 2)
    && decide (1 ≤ s.img h 0x40 2) && decide (s.img h 0x40 2 ≤ 256) && decide (s.img h 0x42 2 ≤ 256)
    && decide (s.imgByte h 0x44 ≤ 8) && (s.img h 0x42 2 != 0 || s.img h 0x4C 4 == 0)
    && [(0x06, 2), (0x0D, 3), (0x1F, 1), (0x45, 3), (0x5C, 4), (0xA0, 96)].all (fun r => s.imgZero h r.1 r.2)

/-- The GRANT entries (R672). -/
def State.grantsOk (s : State) (h : Nat) : Bool :=
  (List.range 8).all fun g =>
    let w := s.img h (0x60 + 8 * g) 8
    if g < s.imgByte h 0x44 then
      bits w 15 14 == 0 && bits w 63 27 == 0 && decide (1 ≤ bits w 26 16) && decide (bits w 26 16 ≤ 1024)
    else w == 0

/-- R673, R675: one batten-table entry. -/
def State.batOk (s : State) (h off : Nat) (p : Plan) (b : Nat) : Bool :=
  let a := off + 48 * b
  let e := p.bat b
  decide (e.demand ≤ 1024) && decide (s.imgByte h (a + 2) < 2) && s.imgZero h (a + 3) 1 && s.imgZero h (a + 10) 2
    && e.stlist % 8 == 0 && decide (e.stlist + 8 * e.nst ≤ 262144)
    && (if e.stints then decide (1 ≤ e.nst) && decide (e.nst ≤ 512)
        else e.stlist == 0 && e.nst == 0 && e.slOff == 0)
    && e.owner.all ownerOk
    && (p.onBatten b || e.owner.all (· == 0xFF))

/-- R674: one engine-table entry. -/
def State.engOk (s : State) (h off : Nat) (p : Plan) (e : Nat) : Bool :=
  let a := off + 16 * e
  let x := p.eng e
  decide (s.imgByte h a < 4) && s.imgZero h (a + 2) 2 && s.imgZero h (a + 12) 4
    && (!x.paired || (x.present && decide (e < 4)))
    && (if x.present && decide (e < 4) then decide (x.row ≤ 7) && (!x.paired || x.row % 2 == 0) else x.row == 0)
    && (x.present == decide (1 ≤ x.count))

/-- The regions of an image (R675). -/
def State.regions (s : State) (h : Nat) (p : Plan) : List Region :=
  [(s.img h 0x48 4, 4 * p.objs.length), (s.img h 0x50 4, 3072), (s.img h 0x54 4, 144)]
    ++ (if p.nlink = 0 then [] else [(p.linkOff, 8 * p.nlink)])
    ++ (p.bats.filter (·.stints)).map (fun e => (e.slOff, 64 * e.nst))
    ++ ((List.range 9).filter fun e => (p.eng e).present).map fun e =>
        ((p.eng e).descOff, (if 4 ≤ e ∧ e < 8 then 64 else 32) * (p.eng e).count)

/-- R675: the image is well formed. -/
def State.imageOk (s : State) (h : Nat) (p : Plan) : Bool :=
  let len := s.img h 0x58 4
  let bo := s.img h 0x50 4
  let eo := s.img h 0x54 4
  let rs := s.regions h p
  s.headerOk h && s.grantsOk h && rs.all (regionIn len) && apart rs
    && (List.range 64).all (s.batOk h bo p) && (List.range 9).all (s.engOk h eo p)

/-- The beat pairs of an image's header and tables (R676), once its header can be read. -/
def State.tableBeats (s : State) (h : Nat) : List (Nat × Nat) :=
  let o := s.obj h
  let rs := (0, 256) :: [(s.img h 0x48 4, 4 * s.img h 0x40 2), (s.img h 0x50 4, 3072), (s.img h 0x54 4, 144)]
  let struck := (List.range 4).flatMap fun n => (s.struckBeats n).map fun b => (n, b)
  struck.filter fun (n, b) => rs.any fun r =>
    (List.range (r.2 / 64 + 2)).any fun k => decide (r.1 / 64 * 64 + 64 * k < r.1 + r.2)
      && beatOf (pagedAddr o.pages (r.1 / 64 * 64 + 64 * k)) == (n, b)

/-! ## The refusals of R128 -/

/-- R260: a domain is bound to a function. -/
def State.bound (s : State) (fn d : Nat) : Bool :=
  if fn = 0 then d == 0 || smGet (fun _ => false) s.eav.pfDom d else s.vfBound fn d

/-- A handle of an object list names an object. -/
def State.isObj (s : State) (h : Nat) : Bool := s.handleOk h && (s.obj h).state != .free

/-- Pages of a stack that a plan could ever have: the pool less the table's, the retired and the pinned pages that the plan does not name. -/
def State.stackRoom (s : State) (p : Plan) (n : Nat) : Nat :=
  let tabs := (s.pur.tab.getD n []).length
  let ret := (s.pur.pages.filter fun e => e.2 == .retired && stackOf e.1 == n).length
  let pins := ((s.pur.objs.filter fun e => e.2.pin && !p.names e.1).map fun e => e.2.pagesIn n).foldl (· + ·) 0
  stackPages - tabs - ret - pins

/-- Pages that a plan needs in a stack: those of every named object, and the shadow pages. -/
def State.stackNeed (s : State) (p : Plan) (n : Nat) : Nat :=
  ((p.handles.map fun h => (s.obj h).pagesIn n).foldl (· + ·) 0) + s.shadowNeed p n

/-- R128: the first refusal that applies, in that table's order; 0 none. [DEDUCED, assumption log 53] -/
def State.planRefusal (s : State) (p : Plan) : Nat :=
  let hs := p.objs.map (·.handle)
  let live := hs.filter s.isObj
  if !s.bound p.fn p.domain || live.any (fun h => (s.obj h).domain != p.domain) then 1
  else if p.fn != 0 && live.any (fun h => (s.obj h).owner != p.fn) then 2
  else if hs.any (fun h => !s.isObj h) || hs.eraseDups.length != hs.length then 3
  else if p.outputs.contains p.img then 4
  else if (List.range 4).any (fun n => decide (s.stackRoom p n < s.stackNeed p n)) then 5
  else if p.objs.any (fun u => u.use == 3) then 6
  else 0

/-! ## Submission (R676) -/

/-- R676: plans that count against the limits, until their final report or withdrawal. -/
def State.countedPlans (s : State) : List Plan :=
  let out := ((s.crs.next.bind (·.run)).toList ++ s.crs.run.toList).filterMap fun r => if r.silent then none else some r.plan
  s.pur.queue ++ out.filter (fun p => s.pur.queue.all fun q => q.seq != p.seq) ++ s.crs.pendFail

/-- The image's own checks: IMAGE or a plan. An uncorrectable read of its header or tables poisons it. -/
def State.readImage (s : State) (fn h : Nat) : State × Option Plan :=
  let o := s.obj h
  if !s.isObj h || o.kind != 0 || o.owner != fn || o.poison || o.pages.any (fun p => s.stackStopped (stackOf p)) then (s, none)
  else
    let bs := if o.state = .resident then s.tableBeats h else []
    let s1 := bs.foldl (fun s b => s.demandRead b.1 b.2 false) s
    let p := s.imgPlan fn h
    if (s1.obj h).poison || (s1.obj h).state == .free then (s1, none)
    else if o.domain != p.domain || !s.imageOk h p then (s1, none)
    else (s1, some p)

/-- The status of a submission, and the plan. [DEDUCED, assumption log 53] -/
def State.submitStatus (s : State) (fn h : Nat) : State × Nat × Plan :=
  if !s.ready pgPUR then (s, 0x12, {})
  else match s.readImage fn h with
    | (s1, none) => (s1, 0x10, {})
    | (s1, some p) =>
      let r := s1.planRefusal p
      if r ≠ 0 then (s1, r, p)
      else if 64 ≤ (s1.countedPlans.filter fun q => q.fn == fn).length ∨ 256 ≤ s1.countedPlans.length then (s1, 0x11, p)
      else (s1, 0, p)

/-- The identifier in a refusal's report: the image header's; where there is no image to read, no value is stated, and a free value stands. [DEDUCED, assumption log 53] -/
def State.imgId (s : State) (h : Nat) : Nat × State :=
  if s.isObj h && decide (11 ≤ (s.obj h).size1) then (s.img h 8 4, s)
  else let (v, s1) := s.fresh; (v % 2 ^ 32, s1)

/-- R128, R153: the plan enters the queue. -/
def State.enqueue (s : State) (p : Plan) : State :=
  let s1 := p.handles.foldl (fun s h => s.setObj h { s.obj h with last := s.courseNum }) s
  { s1 with pur := { s1.pur with queue := s1.pur.queue ++ [{ p with seq := s1.pur.nextSeq }], nextSeq := s1.pur.nextSeq + 1 } }

/-- SUBMIT: a write of EAV_SUBs with GO = 1; FUNC counts in slot 1 only. -/
def State.submitWrite (s : State) (src : Src) (slot : Nat) (fn : Nat) : State :=
  let f := if slot = 0 then 0 else fn
  s.ifSlot src slot (pgEAV + 0x64 + 0x10 * slot) fun s =>
    let h := s.rf pgEAV EAV_SUB_HANDLE_HANDLE slot
    let (s1, st, p) := s.submitStatus f h
    let s2 := s1.wf pgEAV EAV_SUB_STAT_STATUS st slot
    if st = 0 then (s2.enqueue p).wf pgEAV EAV_SUB_ID_ID p.id slot
    else let (id, s3) := s2.imgId h; s3.report f id 4 (st % 256) s3.courseNum

/-- The command of the write above. -/
def execSubmit (src : Src) (slot : Fin 2) (fn : Fin 16) (s : State) : Host.Outcome State Fault Refusal :=
  done s (s.submitWrite src slot fn)

end Sys2Proof.Machine
end

