-- ==== Sys2Proof/Machine/Eave.lean ====
section
/-! DEFINITION. The eave and the gutter: binding, BAR2 windows, mailboxes, gutter descriptors, the PCIe link (R139, R182, R574, R667 to R693). -/

namespace Sys2Proof.Machine

/-! ## Domain binding (R260, R671) -/

def State.setBound (s : State) (fn d : Nat) (b : Bool) : State :=
  if fn = 0 then
    if d = 0 then s else { s with eav := { s.eav with pfDom := smSet (fun _ => false) s.eav.pfDom d b } }
  else
    let f := if d < 32 then VF_DOMAIN_LO_D else VF_DOMAIN_HI_D
    s.wf (pgVFC fn) f (setBit (s.rf (pgVFC fn) f) (d % 32) b)

/-- R671: the function is out of range, or not enabled; the domain is out of range. -/
def State.bindGate (s : State) (fn d : Nat) : Nat :=
  if 8 < fn then 0x24 else if !s.fnOn fn then 0x23 else if s.rf pgFLS FLS_SEC_D ≤ d then 0x20 else 0

/-- The status of a bind. [DEDUCED, assumption log 55] -/
def State.bindStatus (s : State) (fn d : Nat) : Nat :=
  let g := s.bindGate fn d
  if g ≠ 0 then g
  else if d ≠ 0 ∧ (List.range 9).any (fun f => f != fn && s.bound f d) then 0x21
  else 0

/-- The status of an unbind. [DEDUCED, assumption log 55] -/
def State.unbindStatus (s : State) (fn d : Nat) : Nat :=
  let g := s.bindGate fn d
  if g ≠ 0 then g
  else if fn = 0 ∧ d = 0 then 0x20
  else if s.bound fn d && s.livePlans.any (fun p => p.domain == d) then 0x22
  else 0

/-- A write that only the host may make (R96, R690). [DEDUCED, assumption log 14] -/
def State.ifHost (s : State) (src : Src) (key : Nat) (f : State → State) : State :=
  s.ifWriter src key fun s => if src = .host then f s else s.accErr src key eWRITER

/-- BIND. -/
def State.bindWrite (s : State) (src : Src) (fn : Nat) (d : Nat) : State :=
  s.ifHost src (pgEAV + 0x50) fun s =>
    let st := s.bindStatus fn d
    (if st = 0 then s.setBound fn d true else s).wf pgEAV EAV_BIND_STAT_STATUS st

/-- The command of the write above. -/
def execBind (src : Src) (fn : Fin 16) (d : Fin 64) (s : State) : Host.Outcome State Fault Refusal :=
  done s (s.bindWrite src fn d)

/-- UNBIND. -/
def State.unbindWrite (s : State) (src : Src) (fn : Nat) (d : Nat) : State :=
  s.ifHost src (pgEAV + 0x50) fun s =>
    let st := s.unbindStatus fn d
    (if st = 0 then s.setBound fn d false else s).wf pgEAV EAV_BIND_STAT_STATUS st

/-- The command of the write above. -/
def execUnbind (src : Src) (fn : Fin 16) (d : Fin 64) (s : State) : Host.Outcome State Fault Refusal :=
  done s (s.unbindWrite src fn d)

/-! ## Object data under a page list -/


/-- The first offset of a span at which a read meets data marked POISON: an uncorrectable beat pair, or a stack that completes no access (R712). -/
def State.firstPoison (s : State) (o : Obj) (off n : Nat) : Option Nat :=
  let ue := ((s.struckSpan o.pages off n).filter fun e => s.decodeAt e.2.1 e.2.2 == .bad).map fun e => max off e.1
  let dead := if n = 0 then [] else
    ((List.range ((off + n - 1) / pageBytes - off / pageBytes + 1)).filter fun k =>
      s.stackStopped (stackOf (o.pages.getD (off / pageBytes + k) 0))).map fun k => max off ((off / pageBytes + k) * pageBytes)
  (ue ++ dead).foldl (fun a x => match a with | none => some x | some y => some (min x y)) none

/-- The gutter or BAR2 reads a span through the decoder (R355). -/
def State.spanRead (s : State) (o : Obj) (off n : Nat) : State := s.spanDecode o.pages off n false

/-- A byte of a span as it is delivered. -/
def State.spanByte (s : State) (o : Obj) (i : Nat) : Byte :=
  if o.state ≠ .resident then 0 else s.readByte (pagedAddr o.pages i)

def State.spanBytes (s : State) (o : Obj) (off n : Nat) : List Byte := (List.range n).map fun i => s.spanByte o (off + i)

/-- The tray is in IDLE (R597). -/
def State.trayIdle (s : State) : Bool := s.rf pgGLB GLB_STATE_STATE == 3

/-- R139: the plan of the present course names the object. -/
def State.courseNames (s : State) (h : Nat) : Bool :=
  match s.crs.run with
  | some r => r.plan.names h
  | none => false

/-! ## BAR2 (R669) -/

/-- An access that reaches an object. A write that covers every byte of a POISON object clears POISON, as a gutter write does (R139). [DEDUCED, assumption log 56; DESIGN CHOICE, assumption log 113] -/
def State.bar2Object (s : State) (h off len : Nat) (wr : Option (List Byte)) : State :=
  match wr with
  | some bs =>
    let s1 := if (s.obj h).state = .empty then s.objMaterialize h else s
    let s2 := s1.pagedMemWrite (s1.obj h).pages off bs
    if off = 0 ∧ (s.obj h).size1 < bs.length then s2.setObj h { s2.obj h with poison := false } else s2
  | none =>
    let o := s.obj h
    if o.state = .resident then
      (s.spanRead o off len).emit (.bytes .host (s.spanBytes o off len) (s.firstPoison o off len).isSome)
    else s.emit (.bytes .host (List.replicate len 0) false)

/-- A BAR2 access that does not reach the object: a read returns 0. [DEDUCED, assumption log 12] -/
def State.bar2Miss (s : State) (code addr len : Nat) (wr : Option (List Byte)) : State :=
  let s1 := s.err pgEAV code addr
  if wr.isSome then s1 else s1.emit (.bytes .host (List.replicate len 0) false)

/-- BAR2_ACCESS: a read of `len` bytes, or a write of the bytes given. -/
def execBar2Access (addr : Fin (2 ^ 34)) (len : Nat) (wr : Option (List Byte)) (s : State) :
    Host.Outcome State Fault Refusal :=
  let w := addr.val / 2 ^ 31
  let off := addr.val % 2 ^ 31
  let n := match wr with | some bs => bs.length | none => len
  let h := s.rf pgEAV EAV_WIN_HANDLE w
  let o := s.obj h
  done s (if !s.pwr.core || smGet (fun _ => false) s.eav.d3 0 then s
    else if !s.ready pgEAV || s.trayIdle then s.emit (.abort .host)
    else if !s.bit pgEAV EAV_WIN_VALID w || decide (o.size1 + 1 < off + n) then s.bar2Miss 0x101 addr n wr
    else if o.moving || o.state == .evicted || (wr.isSome && s.courseNames h) then s.bar2Miss 0x102 addr n wr
    else if wr.isSome && o.state == .empty && !s.roomFor o then s
    else s.bar2Object h off n wr)

/-- WINDOW_MAP: a write of EAV_WINw (R670). [DEDUCED, assumption log 56] -/
def State.winWrite (s : State) (src : Src) (w : Nat) (valid : Bool) (h : Nat) : State :=
  let key := pgEAV + 0xC0 + 4 * w
  s.ifWriter src key fun s =>
    if valid && !(s.isObj h && (s.obj h).pin) then s.accErr src key eRANGE
    else (s.wf pgEAV EAV_WIN_VALID (bnat valid) w).wf pgEAV EAV_WIN_HANDLE h w

/-- The command of the write above. -/
def execWindowMap (src : Src) (w : Fin 8) (valid : Bool) (h : Fin (2 ^ 24)) (s : State) : Host.Outcome State Fault Refusal :=
  done s (s.winWrite src w valid h)

/-! ## The VF mailbox (R681) -/

/-- VMB_DOOR: VF v + 1 writes its request code. -/
def State.vmbDoorWrite (s : State) (v : Fin 8) (code : Nat) : State :=
  let n := v.val + 1
  s.ifWriter (.vf v) (pgVMB n + 0x80) fun s =>
    if s.bit (pgVMB n) VMB_STAT_BUSY then s.accErr (.vf v) (pgVMB n + 0x80) eSTATE
    else (((s.wf (pgVMB n) VMB_STAT_BUSY 1).wf pgEAV EAV_MB_PEND_PEND (setBit (s.rf pgEAV EAV_MB_PEND_PEND) v true)).wf pgEAV
      EAV_MB_CODE_CODE code v).raise pgEAV 0

/-- The command of the write above. -/
def execVmbDoor (v : Fin 8) (code : Fin 256) (s : State) : Host.Outcome State Fault Refusal :=
  done s (s.vmbDoorWrite v code)

/-- The responses of VF v + 1, as gable 1 left them. -/
def State.mbCopy (s : State) (v : Nat) : State :=
  (List.range 16).foldl (fun s k => s.wf (pgVMB (v + 1)) VMB_RSP_DATA (s.rf pgEAV EAV_MB_RSP_DATA (16 * v + k)) k) s

/-- MB_DONE: a write of EAV_MBv_DONE with GO = 1, by gable 1. A request that an FLR has discarded has no response (R684). -/
def State.mbDoneWrite (s : State) (src : Src) (v : Nat) (status : Nat) : State :=
  let n := v + 1
  let key := pgEAV + 0x1C0 + 0x100 * v
  s.ifWriter src key fun s =>
    if src ≠ .gable 1 then s.accErr src key eWRITER
    else if !s.bit (pgVMB n) VMB_STAT_BUSY then s
    else ((((s.mbCopy v).wf (pgVMB n) VMB_STAT_STATUS status).wf (pgVMB n) VMB_STAT_BUSY 0).wf pgEAV EAV_MB_PEND_PEND
      (setBit (s.rf pgEAV EAV_MB_PEND_PEND) v false)).raise (pgVMB n) 0

/-- The command of the write above. -/
def execMbDone (src : Src) (v : Fin 8) (status : Fin 65536) (s : State) : Host.Outcome State Fault Refusal :=
  done s (s.mbDoneWrite src v status)

/-! ## Gutter channels (R686 to R688) -/

/-- The channel of a VF. -/
def State.vfChan (s : State) (v : Nat) : Option Nat := (List.range 8).find? fun c => s.rf pgGUT GUT_CH_CFG_FUNC c == v

/-- R686: gable 1 writes the registers of a VF's channel only; `vf` says that this write concerns one. -/
def State.ifChannel (s : State) (src : Src) (key : Nat) (vf : Bool) (f : State → State) : State :=
  s.ifWriter src key fun s => if src = .gable 1 ∧ !vf then s.accErr src key eWRITER else f s

/-- GUTTER_DOORBELL: a write of a channel's TAIL, through GUT_CHc_TAIL, or by a VF through VDB_G_TAIL to its own channel. -/
def State.gutTailWrite (s : State) (src : Src) (c : Nat) (tail : Nat) : State :=
  match src with
    | .vf v => s.ifWriter src (pgVDB (v.val + 1) + 0x58) fun s =>
        match s.vfChan (v.val + 1) with
        | some k => s.wf pgGUT GUT_CH_TAIL_TAIL tail k
        | none => s
    | _ => s.ifChannel src (pgGUT + 0x10C + 0x20 * c) (s.rf pgGUT GUT_CH_CFG_FUNC c != 0) fun s =>
        s.wf pgGUT GUT_CH_TAIL_TAIL tail c

/-- The command of the write above. -/
def execGutterDoorbell (src : Src) (c : Fin 8) (tail : Fin 4096) (s : State) : Host.Outcome State Fault Refusal :=
  done s (s.gutTailWrite src c tail)

/-- A gutter descriptor (R687). -/
structure GutDesc where
  haddr : Nat
  target : Nat
  offset : Nat
  op : Nat
  flags : Nat
  zero12 : Nat
  len : Nat
  zero18 : Nat
deriving DecidableEq, Repr

/-- Host address of a channel's descriptor at HEAD. -/
def State.descAddr (s : State) (c : Nat) : Nat :=
  2 ^ 32 * s.rf pgGUT GUT_CH_BASE_HI_BASE c + 2 ^ 12 * s.rf pgGUT GUT_CH_BASE_LO_BASE c
    + 32 * (s.rf pgGUT GUT_CH_HEAD_HEAD c % 2 ^ s.rf pgGUT GUT_CH_CFG_LOG2 c)

def State.gutDesc (s : State) (c : Nat) : GutDesc :=
  let a := s.descAddr c
  let f off n := leNat (s.hostBytes (a + off) n)
  { haddr := f 0 8, target := f 8 4, offset := f 12 4, op := f 16 1, flags := f 17 1, zero12 := f 18 2, len := f 20 4
    zero18 := f 24 4 }

/-- R687: every field lies in its range. -/
def GutDesc.ok (d : GutDesc) : Bool :=
  d.haddr % 4 == 0 && decide (d.op ≤ 3) && decide (d.flags ≤ 1) && d.zero12 == 0 && d.zero18 == 0
    && (if d.op ≤ 1 then decide (d.target < 2 ^ 24) && d.offset % 4 == 0 && d.len % 4 == 0 && decide (4 ≤ d.len)
          && decide (d.len ≤ 2 ^ 31)
        else decide (d.target < 64) && decide (d.offset < 2 ^ 18) && decide (1 ≤ d.len) && decide (d.len ≤ 262144))

/-- R688: the status of a descriptor before any data moves, 0 none. -/
def State.gutGate (s : State) (fn : Nat) (d : GutDesc) : Nat :=
  if !d.ok then 2
  else if d.op ≤ 1 then
    let o := s.obj d.target
    if !s.isObj d.target || (fn != 0 && o.owner != fn) then 3
    else if o.size1 + 1 < d.offset + d.len then 2
    else 0
  else if 262144 < d.offset + d.len then 2
  else 0

/-- A descriptor must wait before it moves data (R139, R182, R615). [DEDUCED, assumption log 57] -/
def State.gutWaits (s : State) (d : GutDesc) : Bool :=
  if d.op ≤ 1 then
    let o := s.obj d.target
    s.trayIdle || o.moving || o.state == .evicted
      || (d.op == 0 && (s.courseNames d.target || (o.state == .empty && !s.roomFor o)))
  else s.planOn d.target

/-- What a transfer came to: how far it moved, and its status if it has ended. -/
structure GutRes where
  st : State
  moved : Nat
  status : Option Nat

/-- The end of a transfer from offset `a` of `len`: where it stops, and the status that it ends with there. -/
def gutStop (len a : Nat) : GutEnd → Nat × Option Nat
  | .whole => (len, some 0)
  | .hostErr n => (min len (max a n), some 1)
  | .part n => if max a n < len then (max a n, none) else (len, some 0)

/-- Host to object. -/
def State.gutToObject (s : State) (d : GutDesc) (a : Nat) (e : GutEnd) : GutRes :=
  let (z, st) := gutStop d.len a e
  let s1 := if (s.obj d.target).state = .empty then s.objMaterialize d.target else s
  let s2 := s1.pagedMemWrite (s1.obj d.target).pages (d.offset + a) (s1.hostBytes (d.haddr + a) (z - a))
  let o := s2.obj d.target
  let s3 := if st = some 0 ∧ d.offset = 0 ∧ o.size1 < d.len then s2.setObj d.target { o with poison := false } else s2
  { st := s3, moved := z, status := st }

/-- Object to host. -/
def State.gutFromObject (s : State) (d : GutDesc) (a : Nat) (e : GutEnd) : GutRes :=
  let o := s.obj d.target
  let (z, st) := gutStop d.len a e
  if o.state ≠ .resident then
    { st := s.hostWrite (d.haddr + a) (List.replicate (z - a) 0), moved := z, status := st }
  else
    let (z', st') := match s.firstPoison o (d.offset + a) (z - a) with
      | some p => (p - d.offset, some 4)
      | none => (z, st)
    let n := z' - a
    let s1 := (s.spanRead o (d.offset + a) (if z' = z then n else n + 1)).hostWrite (d.haddr + a) (s.spanBytes o (d.offset + a) n)
    { st := s1, moved := z', status := st' }

/-- Words of host memory into a batten store, word by word. -/
def State.gutToStore (s : State) (d : GutDesc) (e : GutEnd) : Nat → Nat → GutRes
  | 0, a => { st := s, moved := a, status := (gutStop d.len a e).2 }
  | k + 1, a =>
    let w := d.offset + a
    let b := d.target
    if s.stWaits b w ownGutter true then { st := s, moved := a, status := none }
    else match s.stDenied b w ownGutter true false with
      | some why => { st := s.stRefuse b ownGutter why w, moved := a, status := some 5 }
      | none => (s.stPut b w (BitVec.ofNat 72 (leNat (s.hostBytes (d.haddr + 16 * a) 9)))).gutToStore d e k (a + 1)

/-- Words of a batten store into host memory; `ups` are the upsets that strike words before they are read. -/
def State.gutFromStore (s : State) (d : GutDesc) (e : GutEnd) (ups : List (Fin 262144 × StErr)) : Nat → Nat → GutRes
  | 0, a => { st := s, moved := a, status := (gutStop d.len a e).2 }
  | k + 1, a =>
    let w := d.offset + a
    let b := d.target
    if s.stWaits b w ownGutter false then { st := s, moved := a, status := none }
    else match s.stDenied b w ownGutter false false with
      | some why => { st := s.stRefuse b ownGutter why w, moved := a, status := some 5 }
      | none =>
        let u := match ups.find? (fun x => x.1.val == w) with | some x => x.2 | none => .clean
        let (s1, v, bad) := s.stRead b w u
        if bad then { st := s1, moved := a, status := some 4 }
        else (s1.hostWrite (d.haddr + 16 * a) (leBytes 9 v.toNat ++ List.replicate 7 0)).gutFromStore d e ups k (a + 1)

/-- A transfer of words: those that the end allows. -/
def State.gutStore (s : State) (d : GutDesc) (a : Nat) (e : GutEnd) (ups : List (Fin 262144 × StErr)) : GutRes :=
  let z := (gutStop d.len a e).1
  if d.op = 2 then s.gutToStore d e (z - a) a else s.gutFromStore d e ups (z - a) a

/-- A descriptor's data move. -/
def State.gutMove (s : State) (d : GutDesc) (a : Nat) (e : GutEnd) (ups : List (Fin 262144 × StErr)) : GutRes :=
  if d.op = 0 then s.gutToObject d a e
  else if d.op = 1 then s.gutFromObject d a e
  else s.gutStore d a e ups

def State.setGut (s : State) (c k : Nat) : State := { s with eav := { s.eav with gut := smSet (fun _ => 0) s.eav.gut c k } }

/-- R139: the write of a gutter channel into an object has begun and not completed, or it is over. -/
def State.setWriting (s : State) (c h : Nat) (on : Bool) : State :=
  let l := s.pur.writing.filter (·.1 != c)
  { s with pur := { s.pur with writing := if on then (c, h) :: l else l } }

/-- R688: a descriptor ends: STATUS, HEAD, the channel's error record and its events. [DEDUCED, assumption log 57] -/
def State.gutEnd (s : State) (c : Nat) (d : GutDesc) (st : Nat) : State :=
  let fn := s.rf pgGUT GUT_CH_CFG_FUNC c
  let pg := if fn = 0 then pgGUT else pgVDB fn
  let size := 2 ^ s.rf pgGUT GUT_CH_CFG_LOG2 c
  let head := s.rf pgGUT GUT_CH_HEAD_HEAD c % size
  let s1 := s.hostWrite (s.descAddr c + 0x1C) (leBytes 4 st)
  let s2 := if st ≠ 0 ∧ !s1.bit pgGUT GUT_CH_ERR_VALID c then
      ((s1.wf pgGUT GUT_CH_ERR_VALID 1 c).wf pgGUT GUT_CH_ERR_INDEX head c).wf pgGUT GUT_CH_ERR_STATUS st c
    else s1
  let s3 := ((s2.wf pgGUT GUT_CH_HEAD_HEAD ((head + 1) % size) c).setGut c 0).setWriting c d.target false
  (s3.raiseIf (d.flags % 2 == 1) pg 2).raiseIf (st != 0) pg 3

/-- A descriptor runs from `a` on: it ends, or waits, or stops in part. [DEDUCED, assumption log 57] -/
def State.gutRun (s : State) (c : Nat) (d : GutDesc) (a : Nat) (e : GutEnd) (ups : List (Fin 262144 × StErr)) : State :=
  let g := s.gutGate (s.rf pgGUT GUT_CH_CFG_FUNC c) d
  if g ≠ 0 then s.gutEnd c d g
  else if s.gutWaits d then (if d.op ≤ 1 then s.askFetch d.target else s).setGut c (a + 1)
  else
    let r := s.gutMove d a e ups
    match r.status with
    | some st => r.st.gutEnd c d st
    | none => (r.st.setGut c (r.moved + 1)).setWriting c d.target (decide (d.op = 0) && decide (0 < r.moved))

/-- The channel has a descriptor to start (R686). -/
def State.gutStarts (s : State) (c : Nat) : Bool :=
  let size := 2 ^ s.rf pgGUT GUT_CH_CFG_LOG2 c
  s.ready pgGUT && s.bit pgGUT GUT_CH_CFG_EN c && s.fnOn (s.rf pgGUT GUT_CH_CFG_FUNC c)
    && s.rf pgGUT GUT_CH_HEAD_HEAD c % size != s.rf pgGUT GUT_CH_TAIL_TAIL c % size
    && smGet (fun _ => 0) s.eav.gut c == 0

/-- A channel takes its next descriptor, if its operation is the row's. [DEDUCED, assumption log 57] -/
def State.gutStart (s : State) (c : Nat) (mine : GutDesc → Bool) (e : GutEnd) (ups : List (Fin 262144 × StErr)) : State :=
  let d := s.gutDesc c
  if s.gutStarts c && mine d then s.gutRun c d 0 e ups else s

/-- HOST_TO_OBJECT. It also takes the descriptor whose OP is none of the four, which ends with RANGE. -/
def execHostToObject (c : Fin 8) (e : GutEnd) (s : State) : Host.Outcome State Fault Refusal :=
  done s (s.gutStart c (fun d => d.op == 0 || decide (3 < d.op)) e [])

/-- OBJECT_TO_HOST. -/
def execObjectToHost (c : Fin 8) (e : GutEnd) (s : State) : Host.Outcome State Fault Refusal :=
  done s (s.gutStart c (fun d => d.op == 1) e [])

/-- HOST_TO_STORE. -/
def execHostToStore (c : Fin 8) (e : GutEnd) (s : State) : Host.Outcome State Fault Refusal :=
  done s (s.gutStart c (fun d => d.op == 2) e [])

/-- STORE_TO_HOST: `ups` are the upsets that strike words before they are read. -/
def execStoreToHost (c : Fin 8) (e : GutEnd) (ups : List (Fin 262144 × StErr)) (s : State) :
    Host.Outcome State Fault Refusal :=
  done s (s.gutStart c (fun d => d.op == 3) e ups)

/-- GUTTER_RESUME: a descriptor in progress goes on, or waits on. -/
def execGutterResume (c : Fin 8) (e : GutEnd) (s : State) : Host.Outcome State Fault Refusal :=
  let k := smGet (fun _ => 0) s.eav.gut c
  done s (if k = 0 then s else s.gutRun c (s.gutDesc c) (k - 1) e [])

/-! ## PCIe (R574, R667, R689) -/

/-- R668, R708: a word of a function's configuration space: Vendor ID with Device ID, the PF's class code, and Subsystem Vendor ID with Subsystem ID. The other words, and what these leave open, are free values. [DESIGN CHOICE, assumption log 120] -/
def cfgWord (fn dw free : Nat) : Nat :=
  if dw = 0 then 0x2C4D + 65536 * (if fn = 0 then 0x0440 else 0x0441)
  else if dw = 2 ∧ fn = 0 then free % 256 + 256 * 0x120000
  else if dw = 11 then 0x2C4D + 65536 * 1
  else free % 2 ^ 32

/-- CONFIG_REQUEST: completed with retry status until the eave is READY. -/
def execConfigRequest (op : CfgOp) (s : State) : Host.Outcome State Fault Refusal :=
  done s (if !s.pwr.core then s
    else if !s.ready pgEAV then s.emit .crs
    else match op with
      | .read fn dw => if s.fnOn fn then (let (v, s1) := s.fresh; s1.answer (if h : fn.val = 0 then .host else .vf ⟨fn.val - 1, by omega⟩) (cfgWord fn dw v)) else s
      | .numVfs n => { s with eav := { s.eav with vfs := n } }
      | .msix fn en => { s with eav := { s.eav with msix := smSet (fun _ => false) s.eav.msix fn en } }
      | .d3hot fn on => { s with eav := { s.eav with d3 := smSet (fun _ => false) s.eav.d3 fn on } })

/-- LINK_CHG: the link comes up at a width (4, 8 or 16 lanes), rate and mode, or goes down; a narrower width leaves it down (R667). -/
def execLinkChg (up : Bool) (width : Fin 17) (gen : Fin 7) (flit : Bool) (s : State) : Host.Outcome State Fault Refusal :=
  let ok := up && (width.val == 4 || width.val == 8 || width.val == 16) && gen.val != 0
  done s (if !s.pwr.core then s
    else ((((s.wf pgEAV EAV_LINK_UP (bnat ok)).wf pgEAV EAV_LINK_WIDTH (if ok then width.val else 0)).wf pgEAV EAV_LINK_GEN
      (if ok then gen.val else 0)).wf pgEAV EAV_LINK_FLIT (bnat (ok && flit))).raise pgEAV 1)

end Sys2Proof.Machine
end

