-- ==== Sys2Proof/Machine/LigOps.lean ====
section
/-! DEFINITION. Ligger pairs and beat pairs: the four moves, protocol errors, LATE faults, the link table, splits and replays (R322 to R338). -/

namespace Sys2Proof.Machine

/-- The LIG page of a pair, and its index there (R322, R346). -/
def ligPg (p : Nat) : Nat := pgLIG (p / 64)
def ligIx (p : Nat) : Nat := p % 64

def State.ligActive (s : State) (p : Nat) : Bool := s.bit (ligPg p) LIG_STAT_ACTIVE (ligIx p)
def State.ligFree (s : State) (p : Nat) : Nat := s.rf (ligPg p) LIG_STAT_FREE (ligIx p)
def State.ligFull (s : State) (p : Nat) : Nat := s.rf (ligPg p) LIG_STAT_FULL (ligIx p)

/-- R328: a protocol error of a kind: recorded and raised; the spar of the engine halts with WHY 8. -/
def State.ligProto (s : State) (e p kind : Nat) : State :=
  let s1 := if s.bit pgRDG RDG_PROTO_VALID then s
    else ((s.wf pgRDG RDG_PROTO_VALID 1).wf pgRDG RDG_PROTO_PAIR p).wf pgRDG RDG_PROTO_KIND kind
  (((s1.raise pgRDG 3).raise (ligPg p) 1).haltEng e 8).overrun 4

/-- R328: the protocol check of a move: inactive pair, or an engine not named in the role. -/
def State.ligCheck (s : State) (e p : Nat) (prod : Bool) : Option Nat :=
  if !s.ligActive p then some 3
  else if s.rf (ligPg p) (if prod then LIG_ENDS_PROD else LIG_ENDS_CONS) (ligIx p) ≠ e then some 2
  else none

/-- The buffers of a pair that its producer has acquired and not yet posted. -/
def State.ligHeld (s : State) (p : Nat) : Nat := smGet (fun _ => 0) s.lig.held p

/-- Whether an ACQUIRE must wait (R326). -/
def State.ligMustWait (s : State) (e p : Nat) : Bool :=
  (s.ligCheck e p true).isNone && s.ligFree p == 0

/-- R326: ACQUIRE with FREE > 0. -/
def State.ligAcquire (s : State) (e p : Nat) : State :=
  match s.ligCheck e p true with
  | some k => s.ligProto e p k
  | none =>
    if s.ligFree p = 0 then s
    else { s.wf (ligPg p) LIG_STAT_FREE (s.ligFree p - 1) (ligIx p) with
      lig := { s.lig with held := smSet (fun _ => 0) s.lig.held p (s.ligHeld p + 1) } }

/-- R326, R393: POST is issued; it applies when every write has been acknowledged whole. -/
def State.ligPost (s : State) (e p : Nat) : State :=
  match s.ligCheck e p true with
  | some k => s.ligProto e p k
  | none => { s with lig := { s.lig with
      posts := smSet (fun _ => 0) s.lig.posts p (smGet (fun _ => 0) s.lig.posts p + 1)
      held := smSet (fun _ => 0) s.lig.held p (s.ligHeld p - 1) } }

/-- R333: an issued POST applies, once every beat pair of the pair's buffers has been delivered whole. -/
def State.ligPostApply (s : State) (p : Nat) : State :=
  let n := smGet (fun _ => 0) s.lig.posts p
  let held := s.lig.ports.any fun e => e.2.any fun b => b.pair == some p
  if n = 0 ∨ held ∨ !s.ligActive p then s
  else
    let s1 := { s with lig := { s.lig with posts := smSet (fun _ => 0) s.lig.posts p (n - 1) } }
    s1.wf (ligPg p) LIG_STAT_FULL (s1.ligFull p + 1) (ligIx p)

/-- R332: a LATE fault on a pair. -/
def State.ligLate (s : State) (p : Nat) : State :=
  let i := ligIx p
  let f := if i < 32 then LIG_LATE_LO_LATE else LIG_LATE_HI_LATE
  ((s.wf (ligPg p) f (s.rf (ligPg p) f ||| 2 ^ (i % 32))).raise (ligPg p) 0).overrun 2 p

/-- Whether a TAKE must wait: that of a sway link, with FULL = 0 (R330). -/
def State.ligTakeWaits (s : State) (e p : Nat) : Bool :=
  (s.ligCheck e p false).isNone && s.bit (ligPg p) LIG_STAT_SW (ligIx p) && s.ligFull p == 0

/-- R326: TAKE; with FULL = 0 a LATE fault (R332), but that of a sway link waits. -/
def State.ligTake (s : State) (e p : Nat) : State :=
  match s.ligCheck e p false with
  | some k => s.ligProto e p k
  | none =>
    if s.ligFull p = 0 then (if s.bit (ligPg p) LIG_STAT_SW (ligIx p) then s else s.ligLate p)
    else s.wf (ligPg p) LIG_STAT_FULL (s.ligFull p - 1) (ligIx p)

/-- R326, R328: RELEASE; one above NB is a protocol error. -/
def State.ligRelease (s : State) (e p : Nat) : State :=
  match s.ligCheck e p false with
  | some k => s.ligProto e p k
  | none =>
    if s.rf (ligPg p) LIG_STAT_NB (ligIx p) ≤ s.ligFree p then s.ligProto e p 1
    else s.wf (ligPg p) LIG_STAT_FREE (s.ligFree p + 1) (ligIx p)

/-! ## The link table (R322 to R325) -/

/-- R321: the identifier names an engine. -/
def engNamed (e : Nat) : Bool := decide (e ≤ 0x89)

/-- R322: the pair is allowed for the producer and consumer. -/
def ligAllowed (p prod cons : Nat) : Bool :=
  let b := p / 16
  let hi := decide (12 ≤ p % 16)
  if prod = 0x88 ∨ cons = 0x88 then hi && decide (48 ≤ b)
  else if 0x80 ≤ cons ∧ cons < 0x84 then hi && b / 4 == cons - 0x80
  else if 0x84 ≤ cons ∧ cons < 0x88 then hi && b / 4 == 4 + (cons - 0x84)
  else if cons < 0x40 then
    (b == cons && !hi) || (decide (0x40 ≤ prod ∧ prod < 0x80) && prod != cons + 0x40 && hi && decide (32 ≤ b ∧ b < 48))
  else b == cons - 0x40 && !hi

/-- The fields of a link-table entry of 8 bytes (R323). -/
structure LinkEnt where
  pair : Nat
  prod : Nat
  cons : Nat
  nb : Nat
  sw : Bool
  /-- a reserved field is not 0 -/
  bad : Bool
deriving DecidableEq, Repr

def linkEnt (w : Nat) : LinkEnt :=
  { pair := bits w 9 0, prod := bits w 23 16, cons := bits w 31 24, nb := bits w 35 32, sw := w.testBit 40
    bad := bits w 15 10 != 0 || bits w 39 36 != 0 || bits w 47 41 != 0 || bits w 63 48 != 0 }

/-- R324, R345: the error code of an entry after the earlier ones, 0 none. -/
def linkCode (before : List LinkEnt) (e : LinkEnt) : Nat :=
  if !engNamed e.prod || !engNamed e.cons || e.prod == 0x89 || e.cons == 0x89 || e.prod == e.cons then 4
  else if !ligAllowed e.pair e.prod e.cons then 1
  else if before.any (fun x => x.pair == e.pair) then 2
  else if e.nb < (if e.sw then 1 else 2) ∨ 8 < e.nb then 3
  else if e.sw && before.any (fun x => x.sw && x.cons == e.cons) then 5
  else if e.bad then 6
  else 0

/-- R324: the first failing entry and its code. -/
def linkCheck : List LinkEnt → List LinkEnt → Nat → Option (Nat × Nat)
  | _, [], _ => none
  | before, e :: r, i =>
    if linkCode before e = 0 then linkCheck (e :: before) r (i + 1) else some (i, linkCode before e)

/-- R325: clear every pair. -/
def State.ligClear (s : State) : State :=
  let isLig (key : Nat) : Bool :=
    match pageOf key with
    | some (.lig, _) => decide (0x100 ≤ key % 0x1000)
    | _ => false
  { s with regs := smDrop isLig s.regs, lig := { s.lig with posts := [], held := [] } }

/-- R27: arm one pair: FULL = 0 and FREE = NB. -/
def State.ligArmOne (s : State) (e : LinkEnt) : State :=
  let pg := ligPg e.pair
  let i := ligIx e.pair
  ((((((s.wf pg LIG_STAT_ACTIVE 1 i).wf pg LIG_STAT_SW (bnat e.sw) i).wf pg LIG_STAT_NB e.nb i).wf pg
    LIG_STAT_FREE e.nb i).wf pg LIG_STAT_FULL 0 i).wf pg LIG_ENDS_CONS e.cons i).wf pg LIG_ENDS_PROD e.prod i

/-- The link table of a run, read from its image (R323). -/
def State.linkTable (s : State) (r : Run) : List LinkEnt :=
  (List.range r.plan.nlink).map fun i => linkEnt (leNat (s.runBytes r r.plan.img (r.plan.linkOff + 8 * i) 8))

/-- R324: arm the pairs of a link table, or record its first error. Whether it is in error. -/
def State.ligArm (s : State) (tab : List LinkEnt) : State × Bool :=
  let s := s.ligClear
  match linkCheck [] tab 0 with
  | none => (tab.foldl State.ligArmOne s, false)
  | some (i, c) =>
    let s1 := if s.bit pgRDG RDG_LINKERR_VALID then s
      else ((s.wf pgRDG RDG_LINKERR_VALID 1).wf pgRDG RDG_LINKERR_ENTRY i).wf pgRDG RDG_LINKERR_CODE c
    (s1.raise pgRDG 2, true)

/-- R330: the sway link of a consumer, if the link table gave it one: the active pair with SW = 1 and this consumer. [DEDUCED, assumption log 69] -/
def State.swayPair (s : State) (e : Nat) : Option Nat :=
  (List.range 1024).find? fun p => s.ligActive p && s.bit (ligPg p) LIG_STAT_SW (ligIx p)
    && s.rf (ligPg p) LIG_ENDS_CONS (ligIx p) == e

/-- R330: a sway dependence of an engine with a sway link takes one token; whether it was there. -/
def State.swayTake (s : State) (e : Nat) : State × Bool :=
  match s.swayPair e with
  | none => (s, true)
  | some p =>
    if s.ligFull p = 0 then (s, false)
    else (s.wf (ligPg p) LIG_STAT_FULL (s.ligFull p - 1) (ligIx p), true)

/-! ## Ports, retry buffers and credits (R334, R335, R340) -/

def noBeats (_ : Nat) : List BeatPair := []

def portKey (recv issuer cls : Nat) : Nat := (recv * 256 + issuer) * 8 + cls

/-- The receiver, issuer and class of a port. -/
def portRecv (k : Nat) : Nat := k / 2048
def portIssuer (k : Nat) : Nat := k / 8 % 256
def portCls (k : Nat) : Nat := k % 8

/-- The key of the last hop into a receiver for a class. -/
def hopKey (recv cls : Nat) : Nat := recv * 8 + cls

def State.port (s : State) (k : Nat) : List BeatPair := smGet noBeats s.lig.ports k
def State.setPort (s : State) (k : Nat) (p : List BeatPair) : State :=
  { s with lig := { s.lig with ports := smSet noBeats s.lig.ports k p } }

/-- SEQ of the next beat pair of a port. -/
def State.seqNext (s : State) (k : Nat) : Nat := smGet (fun _ => 0) s.lig.seqs k

/-- The retry buffer of an issuing port. -/
def State.retryBuf (s : State) (issuer : Nat) : List (Nat × Nat) := smGet (fun _ => []) s.lig.retry issuer
def State.setRetry (s : State) (issuer : Nat) (l : List (Nat × Nat)) : State :=
  { s with lig := { s.lig with retry := smSet (fun _ => []) s.lig.retry issuer l } }

/-- R340: the credits that the last hop into a receiver has for a class. -/
def State.credit (s : State) (recv cls : Nat) : Nat := smGet (fun _ => 4) s.lig.credits (hopKey recv cls)
def State.setCredit (s : State) (recv cls n : Nat) : State :=
  { s with lig := { s.lig with credits := smSet (fun _ => 4) s.lig.credits (hopKey recv cls) n } }

/-- A credit returns. -/
def State.creditBack (s : State) (recv cls : Nat) : State := s.setCredit recv cls (min 4 (s.credit recv cls + 1))

/-- R334, R335: the issuer of a port may issue a beat pair with SEQ q: it is the next one, fewer than four are in flight between the two, and the retry buffer has room. -/
def State.mayIssue (s : State) (k q : Nat) : Bool :=
  let l := s.retryBuf (portIssuer k)
  q == s.seqNext k && decide ((l.filter fun e => e.1 == k).length < 4) && decide (l.length < 32)

/-- A beat pair is issued: it is numbered, and held in the retry buffer. -/
def State.issue (s : State) (k q : Nat) : State :=
  let s1 := { s with lig := { s.lig with seqs := smSet (fun _ => 0) s.lig.seqs k ((q + 1) % 4) } }
  s1.setRetry (portIssuer k) (s.retryBuf (portIssuer k) ++ [(k, q)])

/-- A beat pair leaves the retry buffer, acknowledged or given up, and its credit returns. -/
def State.retired (s : State) (k q : Nat) : State :=
  (s.setRetry (portIssuer k) ((s.retryBuf (portIssuer k)).filter (· != (k, q)))).creditBack (portRecv k) (portCls k)

/-! ## Valleys (R341 to R343) -/

/-- R341: class c comes before class d. -/
def State.classAhead (s : State) (c d : Nat) : Bool :=
  let pc := s.rf pgRDG RDG_PRI_PRIO c
  let pd := s.rf pgRDG RDG_PRI_PRIO d
  decide (pd < pc) || (pc == pd && decide (c < d))

/-- How many inputs the round robin of a hop and class passes before input x. -/
def State.robinTurn (s : State) (recv cls x : Nat) : Nat := (x + 256 - smGet (fun _ => 0) s.lig.robin (hopKey recv cls)) % 256

/-- R340, R341: the valley before a receiver takes the request of an input in a class, among the other requests (input and class) that it has: the class has a credit, no class with a request and a credit comes before it, and no other input of the class comes earlier in round-robin order. -/
def State.valleyTakes (s : State) (recv issuer cls : Nat) (rivals : List (Nat × Nat)) : Bool :=
  decide (0 < s.credit recv cls)
    && rivals.all fun r => s.credit recv r.2 == 0 || !(s.classAhead r.2 cls
        || (r.2 == cls && decide (s.robinTurn recv cls r.1 < s.robinTurn recv cls issuer)))

/-- R340, R341: the grant of a beat pair takes a credit, and moves the round robin past its input. -/
def State.ridgeGrant (s : State) (recv issuer cls : Nat) : State :=
  let s1 := s.setCredit recv cls (s.credit recv cls - 1)
  { s1 with lig := { s1.lig with robin := smSet (fun _ => 0) s1.lig.robin (hopKey recv cls) ((issuer + 1) % 256) } }

/-! ## Beat pairs (R334 to R339) -/

def BeatPair.whole (b : BeatPair) : Bool := b.lo && b.hi && !b.replay

/-- A half waits for its partner, and no split has been found. -/
def BeatPair.lone (b : BeatPair) : Bool := !b.replay && b.lo != b.hi

def BeatPair.take (b : BeatPair) (h : Nat) : BeatPair := if h = 0 then { b with lo := true } else { b with hi := true }

/-- Replace the beat pair with the same SEQ. -/
def putBeat (l : List BeatPair) (b : BeatPair) : List BeatPair := l.map fun x => if x.seq = b.seq then b else x

/-- R337, R338: a split of beat pair b is detected at a port, on a path over channel ch of stack n: its surviving half is held, and a replay requested. The allowance of a plan that uses the channel pays for the replay, or is exhausted, and the half is discarded. [DEDUCED, assumption log 70] -/
def State.splitAt (s : State) (k : Nat) (b : BeatPair) (n ch : Nat) : State :=
  let s1 := (s.inc pgRDG RDG_SPLIT_CNT_COUNT).raise pgRDG 0
  let s2 := s1.setPort k (putBeat (s1.port k) { b with replay := true, fresh := none })
  match s1.chargee n with
  | none => s2
  | some r =>
    if r.plan.retry ≤ s1.charged n ch then
      (((s1.setPort k ((s1.port k).filter fun x => x.seq != b.seq)).retired k b.seq).raise pgRDG 1).overrun 3
    else s2.chargeRetry n ch 1

/-- R334, R337, R339: the whole beat pairs that no split one precedes are delivered, in SEQ order. -/
def State.deliver (s : State) (k : Nat) : State :=
  let l := s.port k
  (l.takeWhile BeatPair.whole).foldl (fun s b => s.retired k b.seq) (s.setPort k (l.dropWhile BeatPair.whole))

/-- R337: a replay has completed. One with no engine of a plan at its end is counted only. [DEDUCED, assumption log 70] -/
def State.replayDone (s : State) (k : Nat) (b : BeatPair) (n ch : Nat) : State :=
  let s1 := s.setPort k (putBeat (s.port k) { b with lo := true, hi := true, replay := false, fresh := none })
  let s2 := (s1.creditBack (portRecv k) 1).inc pgRDG RDG_REPLAY_CNT_COUNT
  let s3 := match b.eng with
    | none => s2
    | some e => (((s2.wf pgRDG RDG_REPLAY_LAST_VALID 1).wf pgRDG RDG_REPLAY_LAST_STACK n).wf pgRDG RDG_REPLAY_LAST_CHAN ch).wf
        pgRDG RDG_REPLAY_LAST_ENGINE e
  s3.deliver k

/-- R334, R337: a half with SEQ q and HALF h arrives at port k over channel ch of stack n. The first half to arrive of a beat pair, or of its replay, has won its valley against `rivals`. [DEDUCED, assumption log 70] -/
def State.halfArrives (s : State) (k q h n ch : Nat) (eng pair : Option Nat) (rivals : List (Nat × Nat)) : State :=
  match (s.port k).find? (fun b => b.seq == q) with
  | some b =>
    if b.replay then
      match b.fresh with
      | none =>
        if s.valleyTakes (portRecv k) (portIssuer k) 1 rivals then
          (s.ridgeGrant (portRecv k) (portIssuer k) 1).setPort k (putBeat (s.port k) { b with fresh := some h })
        else s
      | some h0 => if h0 = h then s else s.replayDone k b n ch
    else if (b.take h) = b then s
    else (s.setPort k (putBeat (s.port k) (b.take h))).deliver k
  | none =>
    if !s.mayIssue k q || !s.valleyTakes (portRecv k) (portIssuer k) (portCls k) rivals then s
    else
      let s1 := (s.issue k q).ridgeGrant (portRecv k) (portIssuer k) (portCls k)
      let s2 := match (s1.port k).find? BeatPair.lone with
        | some b => s1.splitAt k b n ch
        | none => s1
      (s2.setPort k (s2.port k ++ [({ seq := q, pair := pair, eng := eng } : BeatPair).take h])).deliver k

/-- R336: a beat pair on a path without an HBM controller arrives whole, with its half 0, and is delivered at once. -/
def State.wholeArrives (s : State) (k q h : Nat) (rivals : List (Nat × Nat)) : State :=
  if h ≠ 0 ∨ !s.mayIssue k q ∨ !s.valleyTakes (portRecv k) (portIssuer k) (portCls k) rivals then s
  else ((s.issue k q).ridgeGrant (portRecv k) (portIssuer k) (portCls k)).retired k q

/-- R330: every write of an engine has been acknowledged whole: no POST of it is still to apply, and no beat pair that it writes is still to be delivered. -/
def State.acked (s : State) (e : Nat) : Bool :=
  s.lig.posts.all (fun x => s.rf (ligPg x.1) LIG_ENDS_PROD (ligIx x.1) != e)
    && s.lig.ports.all fun x => !(portCls x.1 == 3 || portCls x.1 == 5) || x.2.all fun b => b.eng != some e

/-- R329: the engine holds an acquired buffer on each data link of which it is the producer. -/
def State.holdsBuffers (s : State) (e : Nat) : Bool :=
  (List.range 1024).all fun p => !s.ligActive p || s.bit (ligPg p) LIG_STAT_SW (ligIx p)
    || s.rf (ligPg p) LIG_ENDS_PROD (ligIx p) != e || decide (0 < s.ligHeld p)

end Sys2Proof.Machine
end

