-- ==== Sys2Proof/Machine/Flags.lean ====
section
/-! DEFINITION. Arithmetic that more than one engine uses: exact modular powers and products (R224, R227, R231), and the flags of the spar ALU (R389). -/

namespace Sys2Proof.Machine

/-- b ^ e mod q by squaring, on the low `k` bits of e. -/
def powModAux (q : Nat) : Nat → Nat → Nat → Nat → Nat
  | 0, acc, _, _ => acc
  | k + 1, acc, b, e => powModAux q k (if e % 2 = 1 then acc * b % q else acc) (b * b % q) (e / 2)

/-- b ^ e mod q, for exponents below 2^40. -/
def powMod (q b e : Nat) : Nat := powModAux q 40 (1 % q) (b % q) e

/-- The inverse of 2^36 modulo an odd q. -/
def inv36 (q : Nat) : Nat := powMod q ((q + 1) / 2) 36

/-- R224: the Montgomery product. -/
def mont (q x y : Nat) : Nat := x * y % q * inv36 q % q

/-- R233: M-scale a value. -/
def toM (q x : Nat) : Nat := x * 2 ^ 36 % q

/-- R227: the inverse of a root ψ with ψ^N ≡ -1 mod q: ψ^(2N - 1). -/
def psiInv (q psi n : Nat) : Nat := powMod q psi (2 ^ (n + 1) - 1)

/-- R227: N^-1 = q - (q - 1) / N. -/
def nInv (q n : Nat) : Nat := q - (q - 1) / 2 ^ n

/-- Reverse the low n bits of a number (R231). -/
def brv : Nat → Nat → Nat
  | 0, _ => 0
  | n + 1, k => k % 2 * 2 ^ n + brv n (k / 2)

/-- R231: the forward transform at position k of coefficients `a`. -/
def nttAt (q psi n : Nat) (a : Nat → Nat) (k : Nat) : Nat :=
  (List.range (2 ^ n)).foldl (fun acc j =>
    (acc + a j % q * powMod q psi ((2 * brv n k + 1) * j % 2 ^ (n + 1))) % q) 0

/-- R231: the inverse transform at position j of values `h` in bit-reversed order. -/
def inttAt (q psi n : Nat) (h : Nat → Nat) (j : Nat) : Nat :=
  let w := psiInv q psi n
  (List.range (2 ^ n)).foldl (fun acc k =>
    (acc + h k % q * powMod q w ((2 * brv n k + 1) * j % 2 ^ (n + 1))) % q) 0 * nInv q n % q

/-- R227: why a modulus entry is BAD; 0 when it is VALID. -/
def modWhy (q psi logn : Nat) : Nat :=
  if logn < 14 ∨ 17 < logn then 5
  else if q ≤ 2 ^ 20 ∨ 2 ^ 36 ≤ q then 1
  else if q % 2 ^ (logn + 1) ≠ 1 then 2
  else if q ≤ psi then 3
  else if powMod q psi (2 ^ logn) ≠ q - 1 then 4
  else 0

/-- Flags of the spar ALU. -/
structure AluFlags where
  z : Bool
  n : Bool
  c : Bool
  v : Bool
deriving DecidableEq, Repr

/-- R389: Z and N from a 36-bit result, with a given carry and overflow. -/
def aluFlags (r : BitVec 36) (c v : Bool) : AluFlags := { z := r == 0, n := r.msb, c := c, v := v }

/-- R389: the flags of x + y. -/
def addFlags (x y : BitVec 36) : AluFlags :=
  aluFlags (x + y) (decide (2 ^ 36 ≤ x.toNat + y.toNat)) (x.msb == y.msb && (x + y).msb != x.msb)

/-- R389: the flags of x - y; C is the borrow. -/
def subFlags (x y : BitVec 36) : AluFlags :=
  aluFlags (x - y) (decide (x.toNat < y.toNat)) (x.msb != y.msb && (x - y).msb != x.msb)

end Sys2Proof.Machine
end

