-- ==== Sys2Proof/Machine/Operands.lean ====
section
/-! DEFINITION. The operand forms of micro-operations: the datapath fields of a micro-word (R387) and store operands through the windows of the spar's batten (R187, R390). -/

namespace Sys2Proof.Machine

/-! ## Datapath fields (R387), of bits [95:0] of a micro-word -/

def dpOP (d : BitVec 96) : Nat := bits d.toNat 95 88
def dpAM (d : BitVec 96) : Nat := bits d.toNat 87 84
def dpOPT (d : BitVec 96) : Nat := bits d.toNat 83 80
def dpALU (d : BitVec 96) : Nat := bits d.toNat 79 76
def dpRD (d : BitVec 96) : Nat := bits d.toNat 75 72
def dpRA (d : BitVec 96) : Nat := bits d.toNat 71 68
def dpRB (d : BitVec 96) : Nat := bits d.toNat 67 64
def dpWA (d : BitVec 96) : Nat := bits d.toNat 63 61
def dpAA (d : BitVec 96) : Bool := d.toNat.testBit 60
def dpWB (d : BitVec 96) : Nat := bits d.toNat 59 57
def dpAB (d : BitVec 96) : Bool := d.toNat.testBit 56
def dpWD (d : BitVec 96) : Nat := bits d.toNat 55 53
def dpAD (d : BitVec 96) : Bool := d.toNat.testBit 52
def dpRS (d : BitVec 96) : Nat := bits d.toNat 51 48
def dpP16 (d : BitVec 96) : Nat := bits d.toNat 47 32
def dpIMM (d : BitVec 96) : Nat := bits d.toNat 31 0

/-- Arrays that AM names, lowest first. -/
def arraysOf (am : Nat) : List Nat := (List.range 4).filter (bitOf am)

/-- R396: WRAP_w after an advance of window w of batten b: its P has returned to 0. -/
def State.noteWrap (s : State) (b w : Nat) : State :=
  let p := s.sp b
  s.setSp b { p with wrap := setBit p.wrap w (s.rf (pgBST b) BST_CW_PTR_P w == 0) }

/-- Advance a window after an operand, if its flag asks for it. -/
def State.operandAdvance (s : State) (b w : Nat) (adv : Bool) : State :=
  if adv then (s.winAdvance b w).noteWrap b w else s

/-- Read words at consecutive offsets through a window as the processor. A refused read halts the spar with WHY 7 (R184), POISON data with WHY 6 (R193); then there are no words. -/
def State.readWords (s : State) (b w k : Nat) (ups : List StErr) : Nat → State × Option (List (BitVec 72))
  | 0 => (s, some [])
  | n + 1 =>
    match s.readWords b w k ups n with
    | (s1, none) => (s1, none)
    | (s1, some ws) =>
      if !s1.winUser b w ownSpar then ((s1.stRefuse b ownSpar 2 (k + n)).haltSpar b 7, none)
      else
        let a := s1.winAddr b w (k + n)
        match s1.stDenied b a ownSpar false (s1.drives b) with
        | some why => ((s1.stRefuse b ownSpar why a).haltSpar b 7, none)
        | none =>
          let (s2, v, poison) := s1.stRead b a (ups.getD n .clean)
          if poison then (s2.haltSpar b 6, none) else (s2, some (ws ++ [v]))

/-- An operand of n words through (a) or (b): the words, then the advance. -/
def State.operandWords (s : State) (b w : Nat) (adv : Bool) (k n : Nat) (ups : List StErr) :
    State × Option (List (BitVec 72)) :=
  match s.readWords b w k ups n with
  | (s1, none) => (s1, none)
  | (s1, some ws) => (s1.operandAdvance b w adv, some ws)

/-- Write words at consecutive offsets through a window as the processor; a refusal halts the spar with WHY 7 (R184) and changes nothing further. [DEDUCED, assumption log 60] -/
def State.writeWords (s : State) (b w k : Nat) : List (BitVec 72) → State × Bool
  | [] => (s, true)
  | v :: r =>
    if !s.winUser b w ownSpar then ((s.stRefuse b ownSpar 2 k).haltSpar b 7, false)
    else
      let a := s.winAddr b w k
      match s.stDenied b a ownSpar true (s.drives b) with
      | some why => ((s.stRefuse b ownSpar why a).haltSpar b 7, false)
      | none => (s.stPut b a v).writeWords b w (k + 1) r

/-- A destination of several words through (d): the words, then the advance. -/
def State.storeOperand (s : State) (b w : Nat) (adv : Bool) (k : Nat) (vs : List (BitVec 72)) : State :=
  match s.writeWords b w k vs with
  | (s1, true) => s1.operandAdvance b w adv
  | (s1, false) => s1

/-- The window offset that register RS supplies. -/
def State.dpOffset (s : State) (i : Nat) (d : BitVec 96) : Nat := ((s.sp i).rdPre (dpRS d)).toNat

/-! ## Packing (R170, R213) -/

/-- Bits [w - 1 : 0] of value v of a list of words that hold `per` values of w bits each. -/
def packedAt (ws : List (BitVec 72)) (per w v : Nat) : Nat :=
  (ws.getD (v / per) 0).toNat / 2 ^ (v % per * w) % 2 ^ w

/-- One word of `per` values of w bits each. -/
def packWord (w : Nat) (vs : List Nat) : BitVec 72 :=
  BitVec.ofNat 72 ((vs.foldr (fun x acc => x % 2 ^ w + 2 ^ w * acc) 0))

/-- Pack a list of values, `per` to a word. -/
def packAll (per w : Nat) (vs : List Nat) : List (BitVec 72) :=
  (List.range ((vs.length + per - 1) / per)).map fun i => packWord w ((vs.drop (i * per)).take per)

end Sys2Proof.Machine
end

