-- ==== Sys2Proof/Machine/SlateOps.lean ====
section
/-! DEFINITION. Slate arrays: modes, accumulators, residues, the modulus table, and the array operations (R211 to R240, R390, R391). -/

namespace Sys2Proof.Machine

/-! ## Access -/

def arrDflt (_ : Nat) : ArrSt := {}
def z36 (_ : Nat) : BitVec 36 := 0
def z72 (_ : Nat) : BitVec 72 := 0
def zInt (_ : Nat) : Int := 0

/-- Array a of batten b, as a number. -/
def arrNo (b a : Nat) : Nat := 4 * b + a

def State.arr (s : State) (x : Nat) : ArrSt := smGet arrDflt s.slt.arrs x
def State.setArr (s : State) (x : Nat) (v : ArrSt) : State :=
  { s with slt := { s.slt with arrs := smSet arrDflt s.slt.arrs x v } }

/-- SLT_MODE of an array (R212). -/
def State.arrMode (s : State) (x : Nat) : Nat := s.rf (pgSLT (x / 4)) SLT_MODE_MODE (x % 4)

def pockKey (x r i j : Nat) : Nat := (x * 32 + r) * 1024 + 32 * i + j
def State.pock (s : State) (x r i j : Nat) : Nat := (smGet z36 s.slt.pock (pockKey x r i j)).toNat
def accKey (x m n : Nat) : Nat := (x * 256 + m) * 256 + n
def State.accu (s : State) (x m n : Nat) : Int := smGet zInt s.slt.acc (accKey x m n)
def ledgeKey (x slot w : Nat) : Nat := (x * 1024 + slot % 1024) * 16 + w
def State.ledgeVec (s : State) (x slot n : Nat) : List (BitVec 72) :=
  (List.range n).map fun w => smGet z72 s.slt.ledge (ledgeKey x slot w)

/-- Set a register plane of an array from a function of row and column. -/
def State.setPlane (s : State) (x r : Nat) (f : Nat → Nat → Nat) : State :=
  let kvs := (List.range 1024).map fun p => (pockKey x r (p / 32) (p % 32), BitVec.ofNat 36 (f (p / 32) (p % 32)))
  { s with slt := { s.slt with pock := smSetMany z36 s.slt.pock kvs } }

/-- Every pocket register of an array is 0. -/
def State.clearPockets (s : State) (x : Nat) : State :=
  { s with slt := { s.slt with
      pock := smDrop (fun k => k / 1024 / 32 == x) s.slt.pock
      acc := smDrop (fun k => k / 65536 == x) s.slt.acc } }

/-- R217: the arm window clears pockets, ledge slots and requant entries of an array. -/
def State.armClear (s : State) (x : Nat) : State :=
  let s1 := s.clearPockets x
  { s1 with slt := { s1.slt with
      ledge := smDrop (fun k => k / 16 / 1024 == x) s1.slt.ledge
      requant := smDrop (fun k => k / 256 == x) s1.slt.requant } }

/-- R212: vector length and store words per vector. -/
def vecLen (mode : Nat) : Nat := if mode = 0 then 32 else if mode = 1 then 128 else 256
def vecWords (mode : Nat) : Nat := if mode = 0 then 16 else 15

/-- Values in a word, and words in a row, of a DRAIN of vectors of length e in a format; a format that R390 does not name takes 15 words a row. -/
def drainShape (fmt e : Nat) : Nat × Nat :=
  let per := if fmt ≤ 1 then 9 else if fmt ≤ 3 then 18 else if fmt = 4 then 2 else (e + 14) / 15
  (per, (e + per - 1) / per)

/-! ## The modulus table (R226 to R229) -/

def State.modQ (s : State) (b e : Nat) : Nat := s.rf (pgSLT b) SLT_Q_LO_Q e + 2 ^ 32 * s.rf (pgSLT b) SLT_Q_HI_Q e
def State.modPsi (s : State) (b e : Nat) : Nat :=
  s.rf (pgSLT b) SLT_PSI_LO_PSI e + 2 ^ 32 * s.rf (pgSLT b) SLT_PSI_HI_PSI e
def State.modValid (s : State) (b e : Nat) : Bool := decide (e < 96) && s.rf (pgSLT b) SLT_MCTL_STATE e == 2
/-- R229: the entry of a column. -/
def State.colEntry (s : State) (b j : Nat) : Nat := s.rf (pgSLT b) SLT_COLMOD_ENTRY j

/-- R227: the check of an entry starts. -/
def State.modCheck (s : State) (b e logn : Nat) : State :=
  ((s.wf (pgSLT b) SLT_MCTL_LOGN logn e).wf (pgSLT b) SLT_MCTL_STATE 1 e).wf (pgSLT b) SLT_MCTL_WHY 0 e

/-- R227, R239: the check of an entry ends. -/
def State.modChecked (s : State) (b e : Nat) : State :=
  let why := modWhy (s.modQ b e) (s.modPsi b e) (s.rf (pgSLT b) SLT_MCTL_LOGN e)
  if why = 0 then (s.wf (pgSLT b) SLT_MCTL_STATE 2 e).raise (pgSLT b) 3
  else ((s.wf (pgSLT b) SLT_MCTL_STATE 3 e).wf (pgSLT b) SLT_MCTL_WHY why e).raise (pgSLT b) 4

/-! ## Faults and saturation -/

/-- R236, R240: a fault of an array operation is recorded and raised. -/
def State.arrRecord (s : State) (b a kind entry : Nat) : State :=
  let pg := pgSLT b
  let s1 := if s.bit pg SLT_FAULT_VALID then s
    else (((s.wf pg SLT_FAULT_VALID 1).wf pg SLT_FAULT_ARRAY a).wf pg SLT_FAULT_KIND kind).wf pg SLT_FAULT_ENTRY entry
  if kind ≤ 2 then (s1.inc pg SLT_PAR_CNT_COUNT).raise pg 1 else s1.raise pg 2

/-- R236: the batten's spar halts. -/
def State.arrFault (s : State) (b a kind entry : Nat) : State := (s.arrRecord b a kind entry).haltSpar b 5

/-- R221, R239: an integer accumulator of an array has clamped. Only a clear-lane plan records it. -/
def State.noteSat (s : State) (b a : Nat) : State :=
  if s.bit (pgSPR b) SPR_STAT_SEALED then s
  else
    let pg := pgSLT b
    let p := s.sp b
    let s1 := (s.setSp b { p with sat := setBit p.sat a true }).wf pg SLT_SAT_SAT (s.rf pg SLT_SAT_SAT ||| 2 ^ a)
    if smGet (fun _ => false) s1.slt.satCourse b then s1
    else
      let s2 := { s1 with slt := { s1.slt with satCourse := smSet (fun _ => false) s1.slt.satCourse b true } }
      (s2.inc pg SLT_SAT_CNT_COUNT).raise pg 0

/-! ## Issue (R391) -/

/-- Issuing to one of these arrays stalls: a full queue, or a mode change. -/
def State.arrStall (s : State) (b : Nat) (as : List Nat) : Bool :=
  as.any fun a => decide (4 ≤ (s.arr (arrNo b a)).queue) || (s.arr (arrNo b a)).changing || !(s.arr (arrNo b a)).want.isEmpty

/-- An operation with these modulus entries enters the queues of its arrays, which are no longer clock-gated (R218). [DEDUCED, assumption log 28] -/
def State.arrQueue (s : State) (b : Nat) (as : List Nat) (es : List Nat) : State :=
  as.foldl (fun s a =>
    let x := s.arr (arrNo b a)
    let waits := if x.queue = 0 then x.waits else x.waits ++ [es]
    (s.setArr (arrNo b a) { x with queue := x.queue + 1, waits := waits }).wf (pgBTN b) BTN_USE_GATED
      (setBit (s.rf (pgBTN b) BTN_USE_GATED) a false)) s

/-- The modes of an operation in R233: all of them, the integer modes, MOD36, or the one mode of a gang of arrays (R234). -/
inductive ArrModes where
  | all | int | mod36 | gang
deriving DecidableEq, Repr

/-- The fault checks of R236 in order: mode, entry, LOGN, base, parity. -/
structure ArrCheck where
  modes : ArrModes
  entries : List Nat := []
  /-- transform size and base register -/
  ntt : Option (Nat × Nat) := none
  /-- the array of which a pocket register (false) or a ledge word (true) fails parity -/
  par : Option (Fin 4 × Bool) := none
deriving DecidableEq, Repr

/-- An array of an operation is in a mode that the operation has not. -/
def State.modeBad (s : State) (b : Nat) (as : List Nat) (m : ArrModes) (a : Nat) : Bool :=
  match m with
  | .all => false
  | .int => s.arrMode (arrNo b a) == 0
  | .mod36 => s.arrMode (arrNo b a) != 0
  | .gang => s.arrMode (arrNo b a) != s.arrMode (arrNo b (as.headD 0))

/-- The first fault of an operation on arrays `as`, as it is issued: array, kind and entry. Its modulus entries are judged when it starts: at once, if no operation is ahead of it (R236). -/
def State.arrBad (s : State) (b : Nat) (as : List Nat) (c : ArrCheck) : Option (Nat × Nat × Nat) :=
  let a0 := as.headD 0
  let starts := as.all fun a => (s.arr (arrNo b a)).queue == 0
  let parity : Option (Nat × Nat × Nat) := match c.par with
    | some (a, l) => if as.contains a.val then some (a.val, if l then 2 else 1, 0) else none
    | none => none
  match as.find? (s.modeBad b as c.modes) with
  | some a => some (a, 3, 0)
  | none =>
    match c.entries.find? (fun e => starts && !s.modValid b e) with
    | some e => some (a0, 4, e)
    | none =>
      match c.ntt with
      | some (n, base) =>
        if s.rf (pgSLT b) SLT_MCTL_LOGN (c.entries.headD 0) ≠ n then some (a0, 5, c.entries.headD 0)
        else if base % 2 ^ (n - 12) ≠ 0 then some (a0, 6, 0)
        else parity
      | none => parity

/-- R236: the next operation of an array starts; an entry of it that is not VALID then is a fault. [DEDUCED, assumption log 67] -/
def State.arrNext (s : State) (b a : Nat) : State :=
  let x := s.arr (arrNo b a)
  match x.waits with
  | [] => s
  | es :: r =>
    let s1 := s.setArr (arrNo b a) { x with waits := r }
    match es.find? (fun e => !s.modValid b e) with
    | some e => s1.arrFault b a 4 e
    | none => s1

/-! ## Modes -/

/-- R216: a mode change that waits may start: every operation of the earlier stint on the array has completed. -/
def State.modeStart (s : State) (x : Nat) : State :=
  let a := s.arr x
  if !a.want.isEmpty && a.queue == 0 && !a.changing then s.setArr x { a with changing := true } else s

/-- R215, R407: a stint boundary names a mode for an array; 3 keeps it. A mode that differs from the one before it, which may itself be still to come, is a change. -/
def State.modeWant (s : State) (x mode : Nat) : State :=
  if mode = 3 ∨ mode = (s.arr x).want.getLastD (s.arrMode x) then s
  else s.setArr x { s.arr x with want := (s.arr x).want ++ [mode] }

end Sys2Proof.Machine
end

