-- ==== Sys2Proof/Machine/Engine.lean ====
section
/-! DEFINITION. What the fixed engines of yealms and stooks share: when they work, the access check of R142, sway dependences, and the end of a descriptor list. -/

namespace Sys2Proof.Machine

/-- The run for which engine e of the engine table works (R674): in the run phase, its spar neither halted nor at the end of its list. -/
def State.engRun (s : State) (e : Nat) : Option Run :=
  match s.live with
  | some r =>
    if s.phase == 2 && (r.plan.eng e).present && !s.bit (pgSPR (64 + e)) SPR_STAT_HALTED
        && !s.bit (pgSPR (64 + e)) SPR_STAT_ENDED then some r else none
  | none => none

/-- R142: an access to a handle that the plan does not list, or of another domain; the plan fails. -/
def State.accessBad (s : State) (r : Run) (h : Nat) : Bool :=
  !r.plan.objs.any (fun u => u.handle == h) || (s.obj h).domain != r.plan.domain

/-- R330: the dependence of a marked descriptor: a token of the engine's sway link, or the completion of its earlier descriptors. -/
def State.swayMet (s : State) (e : Nat) (earlier : Bool) : State × Bool :=
  match s.swayPair e with
  | none => (s, earlier && s.acked e)
  | some _ => s.swayTake e

/-- R28, R408: the end of an engine's list. -/
def State.engEnded (s : State) (e : Nat) : State :=
  (s.wf (pgSPR (64 + e)) SPR_STAT_ENDED 1).wf (pgSPR (64 + e)) SPR_STAT_RUNNING 0

/-- One of the next `n` words that a fixed engine writes through a window goes to a bank that must wait (R175, R179, R203). -/
def State.engWaits (s : State) (b w master n : Nat) : Bool :=
  !s.storeQuiet b && (List.range n).any fun j => s.stWaits b (s.winAddr b w j) master true

/-- A fixed engine writes one word through a window at the pointer, and advances it (R187, R309). A refusal halts its spar with WHY 7 (R184). [DEDUCED, assumption log 71] -/
def State.engPut (s : State) (b w master spar : Nat) (v : BitVec 72) : State × Bool :=
  if !s.winUser b w master then ((s.stRefuse b master 2 0).haltSpar spar 7, false)
  else
    let a := s.winAddr b w 0
    match s.stDenied b a master true true with
    | some why => ((s.stRefuse b master why a).haltSpar spar 7, false)
    | none => ((s.stPut b a v).winAdvance b w, true)

/-- Words through a window, first to last, until one is refused. -/
def State.engPutAll (s : State) (b w master spar : Nat) : List (BitVec 72) → State × Bool
  | [] => (s, true)
  | v :: vs =>
    match s.engPut b w master spar v with
    | (s1, true) => s1.engPutAll b w master spar vs
    | (s1, false) => (s1, false)

end Sys2Proof.Machine
end

