-- ==== Sys2Proof/Machine/Frame.lean ====
section
/-! DEFINITION. The Batrix frame: header, scrambler, frame code and CRC-32 (R481 to R484, R495). -/

namespace Sys2Proof.Machine

/-- A frame before it is coded (R482). -/
structure Frame where
  typ : Nat
  vc : Nat := 0
  first : Bool := false
  last : Bool := false
  index : Nat
  len : Nat
  seq : Nat := 0
  payload : List Byte
deriving DecidableEq, Repr

/-- R482: the header as a number of 48 bits. -/
def Frame.header (f : Frame) : Nat :=
  (if f.index = 0 then 0x4A else 0xB5) * 2 ^ 40 + f.typ % 16 * 2 ^ 36 + f.vc % 4 * 2 ^ 34 + bnat f.first * 2 ^ 33
    + bnat f.last * 2 ^ 32 + f.index % 64 * 2 ^ 26 + f.len % 1024 * 2 ^ 16 + f.seq % 65536

/-- R481: byte 0 holds header bits [47:40]. -/
def Frame.headerBytes (f : Frame) : List Byte := (leBytes 6 f.header).reverse

/-- R483: the register at the start of a frame. -/
def scramSeed (lane index : Nat) : Nat := 0x40000000 ||| (lane * 64) ||| index

/-- R483: one payload bit: the bit that goes out, and the new register. -/
def scramBit (s : Nat) (b : Bool) : Bool × Nat :=
  let o := s.testBit 30 != s.testBit 27
  (b != o, (s * 2 + bnat o) % 2 ^ 31)

/-- R481: a byte goes most significant bit first. -/
def scramByte (s v : Nat) : Nat × Nat :=
  [7, 6, 5, 4, 3, 2, 1, 0].foldl (fun (a : Nat × Nat) i =>
    let (b, s1) := scramBit a.2 (v.testBit i)
    (2 * a.1 + bnat b, s1)) (0, s)

def scramble : Nat → List Byte → List Byte
  | _, [] => []
  | s, b :: r => let (v, s1) := scramByte s b.toNat; BitVec.ofNat 8 v :: scramble s1 r

/-- R484: the generator (x - α^0) ... (x - α^7), lowest coefficient first. -/
def frameGen : List Nat :=
  (List.range 8).foldl (fun g j =>
    let a := gfExp j
    (List.range (g.length + 1)).map fun i =>
      (if i = 0 then 0 else g.getD (i - 1) 0) ^^^ gfMul a (g.getD i 0)) [1]

/-- One step of the division by the generator: the remainder, highest coefficient first. -/
def rsStep (rem : List Nat) (v : Nat) : List Nat :=
  let f := v ^^^ rem.headD 0
  (List.range 8).map fun i => rem.getD (i + 1) 0 ^^^ gfMul f (frameGen.getD (7 - i) 0)

/-- R484: the eight check symbols of a codeword's 120 symbols. -/
def rsCheck (d : List Nat) : List Nat := d.foldl rsStep (List.replicate 8 0)

/-- The 480 bytes that the code covers. -/
def Frame.plain (f : Frame) (lane : Nat) : List Byte :=
  f.headerBytes ++ scramble (scramSeed lane f.index) ((f.payload ++ List.replicate 474 0).take 474)

/-- R481, R484: the 512 bytes of a frame on a logical lane. -/
def Frame.code (f : Frame) (lane : Nat) : List Byte :=
  let p := f.plain lane
  let chk := (List.range 4).map fun w => rsCheck ((List.range 120).map fun i => (p.getD (4 * i + w) 0).toNat)
  p ++ (List.range 32).map fun k => BitVec.ofNat 8 ((chk.getD (k % 4) []).getD (k / 4) 0)

/-- R495: CRC-32, reflected, one byte. -/
def crc32Byte (c : Nat) (b : Byte) : Nat :=
  (List.range 8).foldl (fun c _ => if c.testBit 0 then (c / 2) ^^^ 0xEDB88320 else c / 2) (c ^^^ b.toNat)

def crc32Run (c : Nat) (bs : List Byte) : Nat := bs.foldl crc32Byte c

/-- R495: the CRC-32 of data bytes. -/
def crc32 (bs : List Byte) : Nat := crc32Run 0xFFFFFFFF bs ^^^ 0xFFFFFFFF

end Sys2Proof.Machine
end

