-- ==== Sys2Proof/Machine/Batrix.lean ====
section
/-! DEFINITION. The Batrix link: frames, relay, credits, messages, consignments, calibration, failover and retirement (R478 to R522). -/

namespace Sys2Proof.Machine

/-! ## Lane states (R480) -/

abbrev lnDOWN : Nat := 0
abbrev lnSERVICE : Nat := 1
abbrev lnCAL : Nat := 2
abbrev lnSHADOW : Nat := 3
abbrev lnIDLE : Nat := 4
abbrev lnRETIRED : Nat := 5

/-- A side: 0 the east segment's transmitter, 1 the west segment's receiver. -/
def State.lane (s : State) (side p : Nat) : Nat :=
  if side = 0 then s.rf pgBTXT BTX_TX_STAT_STATE p else s.rf pgBTXR BTX_RX_STAT_STATE p

def State.laneLogical (s : State) (side p : Nat) : Nat :=
  if side = 0 then s.rf pgBTXT BTX_TX_STAT_LOGICAL p else s.rf pgBTXR BTX_RX_STAT_LOGICAL p

def State.setLane (s : State) (side p st logical : Nat) : State :=
  if side = 0 then (s.wf pgBTXT BTX_TX_STAT_STATE st p).wf pgBTXT BTX_TX_STAT_LOGICAL logical p
  else (s.wf pgBTXR BTX_RX_STAT_STATE st p).wf pgBTXR BTX_RX_STAT_LOGICAL logical p

/-- The lane out of service on a side; 0xF none. -/
def State.outLane (s : State) (side : Nat) : Nat := s.rf pgBTXL BTX_CAL_STAT_OUT side
def State.calPhase (s : State) (side : Nat) : Nat := s.rf pgBTXL BTX_CAL_STAT_PHASE side
def State.calSeq (s : State) (side : Nat) : Nat := s.rf pgBTXL BTX_CAL_STAT_CALSEQ side

def State.ringPos (s : State) : Nat := s.rf pgBTXC BTX_CFG_POS
def State.ringSize16 (s : State) : Nat := max 1 (s.rf pgBTXC BTX_CFG_NRING)
def State.linkUp (s : State) : Bool := s.bit pgBTXC BTX_STAT_LINK_UP
def State.ringOk (s : State) : Bool := s.bit pgBTXC BTX_STAT_RING_OK

/-- The lane is retired (R514). -/
def State.laneRetired (s : State) (side p : Nat) : Bool :=
  bitOf (s.rf pgBTXL (if side = 0 then BTX_RETIRED_TX else BTX_RETIRED_RX)) p

/-- R506: a lane becomes the lane out of service, and begins an attempt, or rests in IDLE. -/
def State.outOfService (s : State) (side p : Nat) : State :=
  let on := s.bit pgBTXC BTX_CFG_CAL_EN
  let s1 := s.setLane side p (if on then lnCAL else lnIDLE) 8
  let s2 := ((s1.wf pgBTXL BTX_CAL_STAT_OUT p side).wf pgBTXL BTX_CAL_STAT_PHASE (if on then 1 else 3) side).wf pgBTXL
    BTX_CAL_STAT_STEP 0 side
  let s2 := if side = 0 then { s2 with btx := { s2.btx with accept := false, shadowDue := false, recal := false } } else s2
  if on then s2.wf pgBTXL BTX_CAL_STAT_CALSEQ (s2.calSeq side + 1) side else s2

/-! ## Sending frames (R480, R485) -/

/-- R506: the lane whose logical lane X takes over, and which it copies in SHADOW: the next one that carries one. -/
def State.nextLane (s : State) (x : Nat) : Option Nat :=
  ((List.range 8).map fun i => (x + 1 + i) % 9).find? fun y => s.lane 0 y == lnSERVICE

/-- What a physical lane carries. -/
inductive Carries where
  | nothing
  | logical (l : Nat)
  | pattern
  | idle
deriving DecidableEq, Repr

/-- R480, R507, R508: what lane p of the east segment carries, by its state. Unmodulated light, from step 1 on, is no frame. Before any lane is in SERVICE the transmitter sends under the map that R515 gives the link. [DEDUCED, assumption log 117] -/
def State.carries (s : State) (p : Nat) : Carries :=
  if s.laneRetired 0 p then .nothing
  else if (List.range 9).all fun q => s.lane 0 q != lnSERVICE then
    let l := ((List.range p).filter fun q => !s.laneRetired 0 q).length
    if l < 8 then .logical l else .pattern
  else if s.lane 0 p = lnSERVICE then .logical (s.laneLogical 0 p)
  else if s.lane 0 p = lnSHADOW then
    match s.nextLane p with
    | some y => .logical (s.laneLogical 0 y)
    | none => .nothing
  else if s.lane 0 p = lnCAL then (if s.rf pgBTXL BTX_CAL_STAT_STEP 0 = 1 then .nothing else .pattern)
  else if s.lane 0 p = lnIDLE then .idle
  else .nothing

def State.eastLanes (s : State) : List (Nat × Carries) := (List.range 9).map fun p => (p, s.carries p)

/-- A frame of a logical lane, as the physical lanes carry it: the lane in SERVICE, and the SHADOW copy (R483). -/
def onLanes (cs : List (Nat × Carries)) (f : Frame) (l : Nat) : List Output :=
  cs.filterMap fun c => if c.2 = .logical l then some (.frame c.1 (f.code l)) else none

def idleFrame (index : Nat) : Frame := { typ := 0, index := index, len := 0, payload := [] }

def patternFrame (index : Nat) : Frame :=
  let p := (Config.patternPayload index).take 474
  { typ := 4, index := index, len := p.length, payload := p }

/-- Frame `index` of the lanes that carry no logical lane. -/
def sideFrames (cs : List (Nat × Carries)) (index : Nat) : List Output :=
  cs.filterMap fun c => match c.2 with
    | .pattern => some (.frame c.1 ((patternFrame index).code 0))
    | .idle => some (.frame c.1 ((idleFrame index).code Config.idleSeed))
    | _ => none

/-- Frames go out, if the lasers emit. [DEDUCED, assumption log 90] -/
def State.shine (s : State) (os : List Output) : State := if s.btx.on && s.btx.light then s.emits os else s

/-- A frame on a logical lane. -/
def State.sendFrame (s : State) (f : Frame) (l : Nat) : State := s.shine (onLanes s.eastLanes f l)

/-- A frame on every logical lane. -/
def State.sendAll (s : State) (f : Frame) : State := s.shine ((List.range 8).flatMap fun l => onLanes s.eastLanes f l)

/-- Slots up to number k have nothing to carry: IDLE frames (R485). -/
def State.idleSlots (s : State) (k : Nat) : State :=
  let cs := s.eastLanes
  let n := s.btx.slot
  let s1 := s.shine ((List.range (k - n)).flatMap fun i => onLanes cs (idleFrame (1 + (n + i) / 8)) ((n + i) % 8))
  { s1 with btx := { s1.btx with slot := max n k } }

/-- A superframe boundary: every frame of the present superframe has gone out. -/
def State.closeSuper (s : State) : State :=
  if s.btx.closed then s
  else
    let s1 := (s.idleSlots 504).shine ((List.range 63).flatMap fun i => sideFrames s.eastLanes (1 + i))
    { s1 with btx := { s1.btx with closed := true } }

/-- R485: the number of the superframe that begins next. -/
def State.nextSfn (s : State) : Nat :=
  if s.btx.begun then (s.rf pgBTXC BTX_SFN_SFN + 1) % 2 ^ 32 else s.rf pgBTXC BTX_SFN_SFN

/-- R487: a relay entry's 12 bytes. -/
def relayBytes (e : RelayEnt) : List Byte :=
  ((List.range 4).flatMap fun v => leBytes 2 (e.cred.getD v 0)) ++ leBytes 1 e.stamp ++ leBytes 1 e.verdict ++ leBytes 1 e.down
    ++ leBytes 1 e.calseq

/-- R487: the own relay entry, as written into every CTRL frame. -/
def State.ownRelay (s : State) : RelayEnt := { s.btx.own with stamp := 128 + s.ringPos }

def State.relayAt (s : State) (e : Nat) : RelayEnt :=
  if e = s.ringPos then s.ownRelay else smGet (fun _ => {}) s.btx.relay e

/-- R486: LANEMAP of the east segment. -/
def State.laneMap (s : State) : Nat := (List.range 9).foldl (fun a p => a + s.laneLogical 0 p * 2 ^ (4 * p)) 0

/-- R486: the payload of a CTRL frame. -/
def State.ctrlPayload (s : State) : List Byte :=
  let ph := if s.calPhase 0 = 3 then 0 else s.calPhase 0
  leBytes 4 (s.rf pgBTXC BTX_SFN_SFN) ++ leBytes 1 s.ringPos ++ leBytes 1 s.ringSize16 ++ leBytes 1 (s.calSeq 0)
    ++ leBytes 1 (s.outLane 0 + 16 * ph) ++ leBytes 8 s.laneMap
    ++ leBytes 1 (if s.phase = 3 ∧ s.btx.calUsed ∧ s.calPhase 0 = 1 then s.rf pgBTXL BTX_CAL_STAT_STEP 0 else 0)
    ++ List.replicate 15 0 ++ (List.range 16).flatMap fun e => relayBytes (s.relayAt e)

/-- R29, R500: the decision that the selection point has taken on the course: it is overrun. -/
def State.courseOver (s : State) : Bool := s.crs.cause != 0

/-- R500: the EOC frame goes out on every logical lane in the first slot in which all of them are free: in this superframe, or in the slot after the next CTRL frame. -/
def State.eocOut (s : State) : State :=
  let k := (s.btx.slot + 7) / 8
  if 63 ≤ k then { s with btx := { s.btx with eocDue := true } }
  else
    let f : Frame := { typ := 3, index := 1 + k, len := 9, payload := leBytes 8 s.courseNum ++ leBytes 1 (bnat s.courseOver) }
    let s1 := (s.idleSlots (8 * k)).sendAll f
    { s1 with btx := { s1.btx with eocDue := false, slot := 8 * (k + 1) } }

/-- SUPERFRAME: the next superframe begins with a CTRL frame on every lane in SERVICE or SHADOW. -/
def execSuperframe (s : State) : Host.Outcome State Fault Refusal :=
  done s (if !s.btx.on then s
    else
      let s0 := s.closeSuper
      let sfn := s0.nextSfn
      let s1 := s0.wf pgBTXC BTX_SFN_SFN sfn
      let s2 := { s1 with btx := { s1.btx with slot := 0, begun := true, closed := false } }
      let s3 := (s2.sendAll { typ := 2, index := 0, len := 224, seq := sfn % 65536, payload := s2.ctrlPayload }).shine
        (sideFrames s2.eastLanes 0)
      if s3.btx.eocDue then s3.eocOut else s3)

/-! ## Link up and down -/

/-- The eight lowest lanes of a side that are not retired, with their logical lanes, and the lane that is left. -/
def State.assignLanes (s : State) (side : Nat) : State :=
  let ps := (List.range 9).filter fun p => !s.laneRetired side p
  let s1 := (List.range (min 8 ps.length)).foldl (fun s l => s.setLane side (ps.getD l 0) lnSERVICE l) s
  match ps[8]? with
  | some x => s1.outOfService side x
  | none => (s1.wf pgBTXL BTX_CAL_STAT_OUT 0xF side).wf pgBTXL BTX_CAL_STAT_PHASE 0 side

/-- R489: every virtual channel holds its full count of credits. -/
def vcCredits (v : Nat) : Nat := if v < 2 then 12288 else 16

/-- R485, R490, R512, R515, R638: the link comes up. [DEDUCED, assumption log 91] -/
def State.linkComesUp (s : State) : State :=
  let s1 := ((s.assignLanes 0).assignLanes 1).wf pgBTXC BTX_STAT_LINK_UP 1
  let s2 := ((s1.wf pgBTXC BTX_STAT_RING_OK 0).wf pgBTXC BTX_SFN_SFN 0).connSet FSC_CONN_J3_MAP 22 0
  let s3 := (List.range 4).foldl (fun s v => s.wf pgBTXC BTX_CRED_CRED (vcCredits v) v) s2
  { s3 with btx := { s3.btx with
      ringBack := false, slot := 504, begun := false, closed := true, eocDue := false, relay := [], credSeen := [], seq := []
      rxSeq := [], own := {}, accept := false, down := none, mapBad := 0, hist := [], fell := [] } }.raise pgBTXC 0

/-- R499: consignments in progress are broken. -/
def BtxSt.breakAll (x : BtxSt) : BtxSt :=
  { x with rx := x.rx.map fun e => match e.2 with
      | .take c => (e.1, .take { c with broken := true })
      | r => (e.1, r) }

/-- R512: a west lane is out of lock. -/
def State.laneDark (s : State) (p : Nat) : State :=
  if s.laneRetired 1 p then s else (s.wf pgBTXR BTX_RX_STAT_LOCK 0 p).setLane 1 p lnDOWN (s.laneLogical 1 p)

/-- R512: the link is lost, and every lane of the west segment must take lock again; nothing is retired. -/
def State.linkLost (s : State) : State :=
  if !s.linkUp then s
  else
    let s1 := (List.range 9).foldl State.laneDark (s.wf pgBTXC BTX_STAT_LINK_UP 0)
    { s1 with btx := { s1.btx.breakAll with hist := [], fell := [] } }.raise pgBTXC 1

/-- R512: lanes of the west segment that are locked and not retired. -/
def State.lockedLanes (s : State) : Nat :=
  ((List.range 9).filter fun p => s.bit pgBTXR BTX_RX_STAT_LOCK p && !s.laneRetired 1 p).length

/-- A lane takes lock. -/
def State.laneLocks (s : State) (p : Nat) : State :=
  if s.bit pgBTXR BTX_RX_STAT_LOCK p then s else (s.wf pgBTXR BTX_RX_STAT_LOCK 1 p).raise pgBTXR 1

/-- LINK_UP: a lane takes lock; with eight lanes locked the west segment comes up. -/
def execLinkUp (p : Fin 9) (s : State) : Host.Outcome State Fault Refusal :=
  done s (if !s.btx.on || s.laneRetired 1 p then s
    else
      let s1 := s.laneLocks p
      if !s1.linkUp && decide (8 ≤ s1.lockedLanes) then s1.linkComesUp else s1)

/-- R514: a lane is retired; a second one in the same direction fails the tray. -/
def State.retireLane (s : State) (side p : Nat) : State :=
  if s.laneRetired side p then s
  else
    let f := if side = 0 then BTX_RETIRED_TX else BTX_RETIRED_RX
    let before := s.rf pgBTXL f
    let s1 := (s.wf pgBTXL f (before ||| 2 ^ p)).setLane side p lnRETIRED 0xF
    let s2 := (s1.raise pgBTXL 2).raise (if side = 0 then pgBTXT else pgBTXR) (if side = 0 then 1 else 2)
    let s3 := if side = 1 then s2.wf pgBTXR BTX_RX_STAT_LOCK 0 p else s2
    let s4 := if s3.outLane side = p ∨ s3.outLane side = 0xF then
        ((s3.wf pgBTXL BTX_CAL_STAT_OUT 0xF side).wf pgBTXL BTX_CAL_STAT_PHASE 0 side).raise pgBTXL 4
      else s3
    if before = 0 then s4
    else ((s4.wf pgGLB GLB_FAIL_LANES 1).wf pgGLB GLB_FAIL_DIR (if s4.bit pgGLB GLB_FAIL_LANES then s4.rf pgGLB GLB_FAIL_DIR
      else side)).failTray

/-- RETIRED: a lane of a side that is due is retired. -/
def execRetired (side : Fin 2) (s : State) : Host.Outcome State Fault Refusal :=
  done s (match (if side.val = 0 then s.btx.retTx else s.btx.retRx) with
    | [] => s
    | p :: r =>
      let b := if side.val = 0 then { s.btx with retTx := r } else { s.btx with retRx := r }
      { s with btx := b }.retireLane side p)

/-- R512: the latest frames of a west lane. -/
def State.laneHist (s : State) (p : Nat) : List Bool := smGet (fun _ => []) s.btx.hist p

/-- A frame arrives on a west lane: valid, or not. -/
def State.laneFrame (s : State) (p : Nat) (ok : Bool) : State :=
  { s with btx := { s.btx with hist := smSet (fun _ => []) s.btx.hist p ((ok :: s.laneHist p).take 64) } }

/-- R512: four invalid frames in a row, or 16 among 64. -/
def histDown (h : List Bool) : Bool := (decide (4 ≤ h.length) && (h.take 4).all (!·)) || decide (16 ≤ (h.filter (!·)).length)

/-- R487, R512: the relay entry reports one lane found DOWN in service; the next one follows once the transmitter has moved it out of service. [DEDUCED, assumption log 117] -/
def State.reportDown (s : State) : State :=
  if s.btx.own.down ≠ 0xF then s
  else match (List.range 9).find? fun p => s.lane 1 p == lnDOWN && decide (s.laneLogical 1 p < 8) with
    | some p => { s with btx := { s.btx with own := { s.btx.own with down := p } } }
    | none => s

/-- LANE_DOWN: the SERVICE lanes of the west segment whose frames R512 finds bad. With three lanes down in one superframe the link is lost. -/
def execLaneDown (s : State) : Host.Outcome State Fault Refusal :=
  let ls := (List.range 9).filter fun p => s.lane 1 p == lnSERVICE && histDown (s.laneHist p)
  done s (if ls.isEmpty || !s.linkUp then s
    else
      let s1 := ls.foldl State.laneDark s
      let hist := ls.foldl (fun m p => smErase m p) s1.btx.hist
      let s2 := { s1 with btx := { s1.btx with hist := hist, fell := s1.btx.fell ++ ls } }
      if 3 ≤ s2.btx.fell.length then s2.linkLost else s2.reportDown.raise pgBTXR 0)

/-- R515: one attempt of the bring-up on a lane: what the eight steps of R507 leave, and their verdict. -/
def State.bringupRun (s : State) (side p : Nat) (c : CalStep) : State × Bool :=
  let s1 := if side = 0 then
      ((s.wf pgBTXT BTX_TX_TRIM_BIAS c.bias.toNat p).wf pgBTXT BTX_TX_TRIM_MOD c.mod.toNat p).wf pgBTXT BTX_TX_MON_PWR
        (8 * s.rf pgBTXL BTX_CAL_CFG_MON_TGT) p
    else (((s.wf pgBTXR BTX_RX_TRIM_OFFSET c.offset.toNat p).wf pgBTXR BTX_RX_TRIM_TINT c.tint p).wf pgBTXR BTX_RX_TRIM_THRESH
      c.thresh.toNat p).inc pgBTXR BTX_RX_CE_COUNT c.ce p
  (s1, c.lock && decide (c.ce.val ≤ s.rf pgBTXL BTX_CAL_CFG_CE_MAX))

/-- The attempts on a lane, until one passes. -/
def State.bringupLane (s : State) (side p : Nat) : List CalStep → State × Bool
  | [] => (s, false)
  | c :: r => match s.bringupRun side p c with
    | (s1, true) => (s1, true)
    | (s1, false) => s1.bringupLane side p r

/-- BRINGUP_LOCK: 5 ms after the enable; bit p of `lock` says that lane p of a side has locked, and `runs` are the attempts on the others, in order, with what each finds; up to TRIES of a lane count. -/
def execBringupLock (side : Fin 2) (lock : BitVec 9) (runs : List (Fin 9 × CalStep)) (s : State) : Host.Outcome State Fault Refusal :=
  let ls := (List.range 9).filter fun p => !s.laneRetired side p
  let up := ls.filter fun p => lock.getLsbD p
  done s (if !s.btx.on || s.linkUp then s
    else
      let s1 := if side.val = 1 then up.foldl State.laneLocks s else s
      if up.length < 6 then s1
      else
        let s2 := (ls.filter fun p => !lock.getLsbD p).foldl (fun s p =>
          match s.bringupLane side p (((runs.filter (·.1.val == p)).map (·.2)).take (s.rf pgBTXL BTX_CAL_CFG_TRIES)) with
          | (s3, true) => if side.val = 1 then s3.laneLocks p else s3
          | (s3, false) => s3.retireLane side p) s1
        if side.val = 1 && decide (8 ≤ s2.lockedLanes) then s2.linkComesUp else s2)

/-- J3_MAP: 16 IDLE frames in a row have failed to descramble to zeros (R638). -/
def execJ3Map (s : State) : Host.Outcome State Fault Refusal :=
  done s (if s.btx.mapBad < 16 then s
    else { s.connSet FSC_CONN_J3_MAP 22 1 with btx := { s.btx with mapBad := 0 } }.linkLost)

/-! ## Receiving -/

/-- The lane carries frames that the receiver reads. -/
def State.laneReads (s : State) (p : Nat) : Bool := s.linkUp && (s.lane 1 p == lnSERVICE || s.lane 1 p == lnSHADOW)

/-- R484: a valid frame; its corrected symbols are counted. -/
def State.laneCe (s : State) (p ce : Nat) : State := (s.inc pgBTXR BTX_RX_CE_COUNT ce p).laneFrame p true

/-- R490: a credit of a virtual channel is freed. -/
def State.freeCredit (s : State) (v : Nat) : State :=
  let o := s.btx.own
  { s with btx := { s.btx with own := { o with cred := o.cred.set v ((o.cred.getD v 0 + 1) % 65536) } } }

/-- IDLE_FRAME: `zeros` says that the payload descrambles to zeros under the lane's logical lane. -/
def execIdleFrame (p : Fin 9) (ce : Fin 17) (zeros : Bool) (s : State) : Host.Outcome State Fault Refusal :=
  done s (if !s.laneReads p then s
    else
      let s1 := s.laneCe p ce
      if s.lane 1 p != lnSERVICE then s1
      else { s1 with btx := { s1.btx with mapBad := if zeros then 0 else s1.btx.mapBad + 1 } })

/-! ### Control frames (R486 to R488, R509 to R513) -/

/-- R511: an attempt of the transmitter ends without a rejoin; a further one begins at the next tick guard, and the lane stays as it is until then. [DEDUCED, assumption log 117] -/
def State.attemptFails (s : State) : State :=
  let n := s.rf pgBTXL BTX_CAL_STAT_TRY 0 + 1
  let x := s.outLane 0
  let s1 := (((s.wf pgBTXL BTX_CAL_STAT_TRY n 0).inc pgBTXL BTX_REJECT_CNT_COUNT).raise pgBTXL 1)
  let s2 := { s1 with btx := { s1.btx with accept := false, shadowDue := false } }
  if n < s2.rf pgBTXL BTX_CAL_CFG_TRIES then { s2 with btx := { s2.btx with recal := true } }
  else { s2.wf pgBTXL BTX_CAL_STAT_PHASE 0 0 with btx := { s2.btx with retTx := s2.btx.retTx ++ [x] } }

/-- R488: the ring checks of a CTRL frame. [DEDUCED, assumption log 91] -/
def State.ringCheck (s : State) (f : CtrlFrame) : State :=
  let n := s.ringSize16
  let agree := f.nring == s.rf pgBTXC BTX_CFG_NRING && f.pos == (s.ringPos + n - 1) % n
  if !agree then (s.wf pgBTXC BTX_STAT_RING_OK 0).raise pgBTXC 2
  else
    let back := s.btx.ringBack || (decide (s.rf pgBTXC BTX_SFN_SFN < 64) && (f.relay.getD s.ringPos {}).stamp.testBit 7)
    { s.wf pgBTXC BTX_STAT_RING_OK (bnat back) with btx := { s.btx with ringBack := back } }

/-- R487: the other positions' entries. -/
def State.copyRelay (s : State) (f : CtrlFrame) : State :=
  let others := ((List.range 16).filter (· != s.ringPos)).map fun e => (e, f.relay.getD e {})
  { s with btx := { s.btx with relay := smSetMany (fun _ => {}) s.btx.relay others } }

/-- R490: credits that the east neighbour reports freed. -/
def State.takeCredits (s : State) (e : RelayEnt) : State :=
  if !s.ringOk then s
  else (List.range 4).foldl (fun s v =>
    let seen := smGet (fun _ => 0) s.btx.credSeen v
    let now := e.cred.getD v 0 % 65536
    let s1 := s.wf pgBTXC BTX_CRED_CRED (min (vcCredits v) (s.rf pgBTXC BTX_CRED_CRED v + (now + 65536 - seen) % 65536)) v
    { s1 with btx := { s1.btx with credSeen := smSet (fun _ => 0) s1.btx.credSeen v now } }) s

/-- R510, R511: the verdict on the present attempt. -/
def State.readVerdict (s : State) (e : RelayEnt) : State :=
  if s.calPhase 0 ≠ 2 ∨ s.btx.recal ∨ e.calseq ≠ s.calSeq 0 then s
  else if e.verdict = 1 then { s with btx := { s.btx with accept := true } }
  else if e.verdict = 2 then s.attemptFails
  else s

/-- R513, R514: a SERVICE lane that its receiver reports DOWN. -/
def State.readDown (s : State) (e : RelayEnt) : State :=
  if 9 ≤ e.down ∨ s.lane 0 e.down ≠ lnSERVICE then s
  else if s.outLane 0 < 9 then { s with btx := { s.btx with down := some e.down } }
  else if s.btx.retTx.contains e.down then s
  else { s with btx := { s.btx with retTx := s.btx.retTx ++ [e.down] } }

/-- R479, R510: one lane of the map that the west neighbour sends. -/
def State.mapLane (s : State) (f : CtrlFrame) (p : Nat) : State :=
  let m := f.map.getD p 8
  if s.laneRetired 1 p then s
  else if m < 8 then
    let s1 := s.setLane 1 p (if s.lane 1 p = lnDOWN ∧ s.laneLogical 1 p = m then lnDOWN else lnSERVICE) m
    if s1.outLane 1 = p then s1.wf pgBTXL BTX_CAL_STAT_OUT 0xF 1 else s1
  else if m = 8 then
    let st := if f.phase = 2 then lnSHADOW else if f.phase = 1 then lnCAL else lnIDLE
    let s1 := (s.setLane 1 p st 8).wf pgBTXL BTX_CAL_STAT_OUT p 1
    let s2 := s1.wf pgBTXL BTX_CAL_STAT_PHASE (if f.phase = 0 then 3 else f.phase) 1
    if s2.btx.own.down = p then { s2 with btx := { s2.btx with own := { s2.btx.own with down := 0xF } } } else s2
  else if s.btx.retRx.contains p then s
  else { s with btx := { s.btx with retRx := s.btx.retRx ++ [p] } }

/-- R506: a new attempt of the west neighbour. -/
def State.newAttempt (s : State) (f : CtrlFrame) : State :=
  if f.calseq % 256 = s.calSeq 1 then s
  else
    let s1 := (s.wf pgBTXL BTX_CAL_STAT_CALSEQ f.calseq 1).wf pgBTXL BTX_CAL_STAT_STEP 0 1
    { s1 with btx := { s1.btx with rxPass := false, own := { s1.btx.own with verdict := 0 } } }

/-- R510: the lane map of the west segment, and the rejoin that it shows. -/
def State.applyMap (s : State) (f : CtrlFrame) : State :=
  let x := s.outLane 1
  let rejoin := decide (x < 9) && s.calPhase 1 == 2 && s.btx.own.verdict == 1 && decide (f.map.getD x 8 < 8)
  let s1 := ((List.range 9).filter fun p => decide (f.map.getD p 8 < 8)).foldl (fun s p => s.mapLane f p) s
  let s2 := ((List.range 9).filter fun p => decide (8 ≤ f.map.getD p 8)).foldl (fun s p => s.mapLane f p) s1
  let s3 := (s2.newAttempt f).reportDown
  if rejoin then (s3.inc pgBTXL BTX_REJOIN_CNT_COUNT).raise pgBTXL 0 else s3

/-- R512: the superframe that is being received. -/
def State.seeSfn (s : State) (n : Nat) : State :=
  if n = s.btx.rxSfn then s else { s with btx := { s.btx with rxSfn := n, fell := [] } }

/-- CTRL_FRAME. With LINK_UP and RING_OK both 1, U9 completes (R604). -/
def execCtrlFrame (p : Fin 9) (ce : Fin 17) (f : CtrlFrame) (s : State) : Host.Outcome State Fault Refusal :=
  done s (if !s.laneReads p then s
    else
      let e := f.relay.getD ((s.ringPos + 1) % s.ringSize16) {}
      let s1 := ((((s.laneCe p ce).seeSfn f.sfn).ringCheck f).copyRelay f).takeCredits e
      let s2 := ((s1.readVerdict e).readDown e).applyMap f
      if s2.ringOk then s2.u9Done else s2)

/-- RING_TIMEOUT: the own relay entry has not returned within 64 superframes of link-up. -/
def execRingTimeout (s : State) : Host.Outcome State Fault Refusal :=
  done s (if s.linkUp && !s.btx.ringBack && decide (64 ≤ s.rf pgBTXC BTX_SFN_SFN) then s.raise pgBTXC 2 else s)

/-! ### Consignments (R497 to R501) -/

/-- R499: a consignment is discarded: recorded, counted and raised; its pages return. -/
def State.discardCons (s : State) (why tag : Nat) (post : Option Nat) (pages : List Nat) : State :=
  let s1 := s.releasePages pages
  let s2 := (((s1.wf pgBTXC BTX_DISC_LAST_VALID 1).wf pgBTXC BTX_DISC_LAST_WHY why).wf pgBTXC BTX_DISC_LAST_POST
    (post.getD 0)).wf pgBTXC BTX_DISC_TAG_TAG tag
  let s3 := match post with
    | some q => s2.wf pgBTXC BTX_PST_STAT_WHY why q
    | none => s2
  (s3.inc pgBTXC BTX_DISC_CNT_COUNT).raise pgBTXC 4

def State.discard (s : State) (c : RxCons) (why : Nat) : State := s.discardCons why c.tag (some c.post) c.pages

/-- R499: a consignment whose header was lost is BROKEN. No rule states its TAG: a free value. [DESIGN CHOICE, assumption log 118] -/
def State.discardLost (s : State) : State := let (v, s1) := s.fresh; s1.discardCons 9 (v % 2 ^ 32) none []

/-- R497: the lowest-numbered VALID posting with a tag. -/
def State.posting (s : State) (tag : Nat) : Option Nat :=
  (List.range 64).find? fun q => s.bit pgBTXC BTX_PST_OBJ_VALID q && s.rf pgBTXC BTX_PST_TAG_TAG q == tag

def State.rxOf (s : State) (v : Nat) : RxState := smGet (fun _ => .idle) s.btx.rx v
def State.setRx (s : State) (v : Nat) (r : RxState) : State :=
  { s with btx := { s.btx with rx := smSet (fun _ => .idle) s.btx.rx v r } }

/-- A consignment for a posting is in progress: it is being received, or waits for its tick. [DEDUCED, assumption log 92] -/
def State.postBusy (s : State) (q : Nat) : Bool :=
  s.btx.ready.any (fun c => c.post == q) || s.btx.rx.any fun e => match e.2 with
    | .take c => c.post == q
    | _ => false

/-- R499: checks 1 to 8 on a consignment header: a failing check, or the posting. A target that is FREE holds no posting. [DEDUCED, assumption log 92] -/
def State.headCheck (s : State) (h : List Byte) : Nat × Option Nat :=
  let f off n := leNat ((h.drop off).take n)
  if f 0 4 ≠ 0x0440B7C5 then (1, none)
  else if f 0x10 8 ≠ s.courseNum then (2, none)
  else match s.posting (f 4 4) with
    | none => (3, none)
    | some q =>
      let t := s.rf pgBTXC BTX_PST_OBJ_HANDLE q
      let o := s.obj t
      if o.state = .free then (3, none)
      else if s.postBusy q then (4, some q)
      else if s.inPlan t then (5, some q)
      else if f 0x0C 1 ≠ o.domain then (6, some q)
      else if f 8 4 ≠ o.size1 + 1 then (7, some q)
      else if !s.roomFor o then (8, some q)
      else (0, some q)

/-- The first frame of a consignment. -/
def State.consFirst (s : State) (v : Nat) (h : List Byte) : State :=
  let tag := leNat ((h.drop 4).take 4)
  match s.headCheck h with
  | (0, some q) =>
    let t := s.rf pgBTXC BTX_PST_OBJ_HANDLE q
    let (ps, s1) := s.takePages (s.obj t).stacks
    s1.setRx v (.take { tag := tag, post := q, handle := t, size := (s.obj t).size1 + 1, pages := ps })
  | (w, q) => (s.discardCons w tag q []).setRx v .drop

/-- Bytes of the stream after the header: data into the fresh pages, and then the CRC. -/
def State.consBytes (s : State) (c : RxCons) (bs : List Byte) : State × RxCons :=
  let d := bs.take (c.size - c.got)
  let k := bs.drop (c.size - c.got)
  let at' := c.got - c.size
  (s.pagedMemWrite c.pages c.got d,
    { c with got := c.got + bs.length, crc := crc32Run c.crc d
             crcIn := c.crcIn + leNat k * 256 ^ at', broken := c.broken || decide (c.size + 4 < c.got + bs.length) })

/-- R499: checks 9 and 10 when LAST arrives. -/
def State.consLast (s : State) (v : Nat) (c : RxCons) : State :=
  let s1 := s.setRx v .idle
  if c.broken ∨ c.got ≠ c.size + 4 then s1.discard c 9
  else if c.crcIn ≠ c.crc ^^^ 0xFFFFFFFF then s1.discard c 10
  else if s1.btx.eoc = some true then s1.discard c 11
  else { s1 with btx := { s1.btx with ready := s1.btx.ready ++ [c] } }

/-- R499: a consignment whose last frames never came is broken. -/
def State.consAbandon (s : State) (v : Nat) : State :=
  match s.rxOf v with
  | .take c => (s.setRx v .idle).discard c 9
  | .drop => s.setRx v .idle
  | .lost => (s.setRx v .idle).discardLost
  | .idle => s

/-- The data of a frame. -/
def State.consData (s : State) (v : Nat) (bs : List Byte) (last : Bool) : State :=
  match s.rxOf v with
  | .idle | .lost => if last then (s.setRx v .idle).discardLost else s.setRx v .lost
  | .drop => if last then s.setRx v .idle else s
  | .take c =>
    let (s1, c1) := s.consBytes c bs
    if last then s1.consLast v c1 else s1.setRx v (.take c1)

/-- R499: the SEQ of a frame: a gap breaks the consignment of its virtual channel. -/
def State.seqCheck (s : State) (v q : Nat) : State :=
  let gap := decide (smGet (fun _ => 0) s.btx.rxSeq v ≠ q)
  let s1 := { s with btx := { s.btx with rxSeq := smSet (fun _ => 0) s.btx.rxSeq v ((q + 1) % 65536) } }
  if !gap then s1
  else match s1.rxOf v with
    | .take c => s1.setRx v (.take { c with broken := true })
    | _ => s1

/-- DATA_FRAME on VC 0 or 1: its valid payload bytes. -/
def execDataFrame (p : Fin 9) (ce : Fin 17) (v : Fin 2) (first last : Bool) (seq : Fin 65536) (bs : List Byte) (s : State) :
    Host.Outcome State Fault Refusal :=
  done s (if !s.laneReads p || s.lane 1 p != lnSERVICE then s
    else
      let s1 := ((s.laneCe p ce).seqCheck v seq).freeCredit v
      if first then (((s1.consAbandon v).consFirst v (bs.take 64)).consData v (bs.drop 64) last)
      else s1.consData v bs last)

/-- UNCORRECTABLE_FRAME: `vc` is the virtual channel of the DATA or MSG frame that it was, if it was one. -/
def execUncorrectableFrame (p : Fin 9) (vc : Option (Fin 4)) (s : State) : Host.Outcome State Fault Refusal :=
  done s (if !s.linkUp || s.laneRetired 1 p then s
    else
      let s1 := (s.inc pgBTXR BTX_RX_UE_COUNT 1 p).laneFrame p false
      match vc with
      | none => s1
      | some v =>
        if s.lane 1 p != lnSERVICE then s1
        else
          let s2 := s1.freeCredit v
          if 2 ≤ v.val then s2
          else match s2.rxOf v with
            | .take c => s2.setRx v (.take { c with broken := true })
            | .idle => s2.setRx v .lost
            | _ => s2)

/-- EOC_FRAME: the sender's end-of-course frame. The first copy for the course counts, in the tick guard (R44, R500). -/
def execEocFrame (p : Fin 9) (ce : Fin 17) (course : Word64) (ovr : Bool) (s : State) : Host.Outcome State Fault Refusal :=
  done s (if !s.laneReads p then s
    else
      let s1 := s.laneCe p ce
      if !s1.crs.running || s1.phase != 3 || course.toNat != s1.courseNum || s1.btx.eoc.isSome then s1
      else
        let s2 := { s1 with btx := { s1.btx with eoc := some ovr } }
        if ovr then { s2.btx.ready.foldl (fun s c => s.discard c 11) s2 with btx := { s2.btx with ready := [] } } else s2)

/-- R137, R501: a move of a committed target that is still under way is given up. -/
def State.dropMove (s : State) (h : Nat) : State :=
  match s.pur.move with
  | some m =>
    if m.handle ≠ h then s
    else
      let s1 := { s with pur := { s.pur with move := none } }
      if m.out then s1.releaseSlots m.slots else s1.releasePages m.pages
  | none => s

/-- R501: one consignment at the tick that ends its course. [DEDUCED, assumption log 92] -/
def State.consCommit (s : State) (eoc : Option Bool) (c : RxCons) : State :=
  let o := s.obj c.handle
  match eoc with
  | none => s.discard c 12
  | some true => s.discard c 11
  | some false =>
    if o.state = .free then s.discard c 3
    else if s.inPlan c.handle then s.discard c 5
    else
      let s1 := ((s.dropMove c.handle).releasePages o.pages).releaseSlots o.slots
      let s2 := s1.setObj c.handle { o with state := .resident, moving := false, epoch := s.courseNum, pages := c.pages, slots := [] }
      (((s2.wf pgBTXC BTX_PST_OBJ_VALID 0 c.post).wf pgBTXC BTX_RX_LAST_POST c.post).inc pgBTXC BTX_RX_CNT_COUNT).raise pgBTXC 3

/-- R499, R501: the consignments of the course that ends. -/
def State.consTick (s : State) : State :=
  let eoc := s.btx.eoc
  let cs := s.btx.ready
  let s0 := { s with btx := { s.btx with ready := [], rx := [], eoc := none } }
  let s1 := cs.foldl (fun s c => s.consCommit eoc c) s0
  s.btx.rx.foldl (fun s e => match e.2 with
    | .take c => s.discard c 9
    | .lost => s.discardLost
    | _ => s) s1

/-- POSTING_WRITE: a write of BTX_PSTq_OBJ (R497). -/
def State.postWrite (s : State) (src : Src) (q : Nat) (valid : Bool) (h : Nat) : State :=
  let key := pgBTXC + 0x404 + 0x10 * q
  let o := s.obj h
  s.ifWriter src key fun s =>
    if s.postBusy q then s.accErr src key eSTATE
    else if valid && !(s.isObj h && o.pin && o.place == 4 && decide (o.size1 < 268435456) && !s.inPlan h) then
      s.accErr src key 0x110
    else (s.wf pgBTXC BTX_PST_OBJ_VALID (bnat valid) q).wf pgBTXC BTX_PST_OBJ_HANDLE h q

/-- The command of the write above. -/
def execPostingWrite (src : Src) (q : Fin 64) (valid : Bool) (h : Fin (2 ^ 24)) (s : State) : Host.Outcome State Fault Refusal :=
  done s (s.postWrite src q valid h)

/-! ## The transmit engine (R492 to R496) -/

/-- A transmit descriptor. -/
structure TxDesc where
  src : Nat
  off : Nat
  size : Nat
  tag : Nat
  vc : Nat
  sway : Bool
  /-- a reserved field is not 0 -/
  bad : Bool
deriving DecidableEq, Repr

def State.txDesc (s : State) (r : Run) (i : Nat) : TxDesc :=
  let a := (r.plan.eng 8).descOff + 32 * i
  let f off n := leNat (s.runBytes r r.plan.img (a + off) n)
  { src := f 0 3, off := f 4 4, size := f 8 4, tag := f 12 4, vc := f 16 1 % 2, sway := (f 16 1).testBit 1
    bad := f 3 1 != 0 || decide (4 ≤ f 16 1) || f 17 15 != 0 }

/-- R494: the failing check, 0 none. [DEDUCED, assumption log 92] -/
def State.txCheck (s : State) (r : Run) (d : TxDesc) : Nat :=
  if !r.plan.objs.any (fun u => u.handle == d.src && u.use == 0) then 1
  else if d.size < 1 ∨ 268435456 < d.size ∨ (s.obj d.src).size1 + 1 < d.off + d.size then 2
  else if d.bad then 3
  else 0

/-- R494: a refusal; the engine stops, so that the plan is not done. The check precedes every access, so that R142 finds none to refuse. -/
def State.txRefuse (s : State) (code : Nat) : State :=
  let s1 := ((s.wf pgBTXC BTX_TX_REFUSE_VALID 1).wf pgBTXC BTX_TX_REFUSE_DESC s.btx.txIdx).wf pgBTXC BTX_TX_REFUSE_CODE code
  { s1 with btx := { s1.btx with txStop := true } }.raise pgBTXC 5

/-- R495: the consignment header. -/
def State.consHeader (s : State) (r : Run) (d : TxDesc) : List Byte :=
  leBytes 4 0x0440B7C5 ++ leBytes 4 d.tag ++ leBytes 4 d.size ++ leBytes 1 r.plan.domain ++ leBytes 1 s.ringPos
    ++ leBytes 2 0 ++ leBytes 8 s.courseNum ++ List.replicate 40 0

/-- The payload of the frame that starts at byte `a` of a consignment's stream, and the CRC of the data up to its end. -/
def State.consPayload (s : State) (r : Run) (d : TxDesc) (a : Nat) : List Byte × Nat :=
  let n := min 474 (d.size + 68 - a)
  let data := (List.range n).filterMap fun i =>
    if 64 ≤ a + i ∧ a + i < 64 + d.size then some (s.runByte r d.src (d.off + (a + i - 64))) else none
  let crc := crc32Run s.btx.txCrc data
  let tail := (leBytes 4 (crc ^^^ 0xFFFFFFFF)).drop (a - (64 + d.size))
  ((if a = 0 then s.consHeader r d else []) ++ data ++ (if 64 + d.size < a + n then tail.take (n - ((if a = 0 then 64 else 0)
    + data.length)) else []), crc)

/-- Reads of the source through the decoder by an engine of the running plan. -/
def State.consRead (s : State) (r : Run) (d : TxDesc) (a n : Nat) : State :=
  let lo := max a 64
  let hi := min (a + n) (64 + d.size)
  if hi ≤ lo then s else (s.runReads r d.src [(d.off + lo - 64, hi - lo)]).1

/-- One frame of a consignment leaves: it takes a slot and a credit. -/
def State.consFrame (s : State) (r : Run) (d : TxDesc) : State :=
  let a := s.btx.txSent
  let total := d.size + 68
  let (pl, crc) := s.consPayload r d a
  let s0 := s.consRead r d a 474
  if s0.crs.failWhy ≠ 0 then s0
  else
    let k := s0.btx.slot
    let q := smGet (fun _ => 0) s0.btx.seq d.vc
    let last := decide (total ≤ a + 474)
    let f : Frame := { typ := 1, vc := d.vc, first := a == 0, last := last, index := 1 + k / 8, len := pl.length, seq := q, payload := pl }
    let s1 := (s0.sendFrame f (k % 8)).wf pgBTXC BTX_CRED_CRED (s0.rf pgBTXC BTX_CRED_CRED d.vc - 1) d.vc
    let x := s1.btx
    let x1 := { x with slot := k + 1, seq := smSet (fun _ => 0) x.seq d.vc ((q + 1) % 65536) }
    if last then
      { s1 with btx := { x1 with txIdx := x.txIdx + 1, txSent := 0, txCrc := 0xFFFFFFFF, swayOk := false } }.inc pgBTXC
        BTX_TX_CNT_COUNT
    else { s1 with btx := { x1 with txSent := a + 474, txCrc := crc } }

/-- Frames of descriptor `idx` leave while slots of the superframe and credits last. [DEDUCED, assumption log 92] -/
def State.consFrames (s : State) (r : Run) (d : TxDesc) (idx : Nat) : Nat → State
  | 0 => s
  | n + 1 =>
    if s.btx.txIdx ≠ idx ∨ 504 ≤ s.btx.slot ∨ s.rf pgBTXC BTX_CRED_CRED d.vc = 0 ∨ s.crs.failWhy ≠ 0 then s
    else (s.consFrame r d).consFrames r d idx n

/-- A descriptor whose sway dependence is met is checked and sent. -/
def State.consStart (s : State) (r : Run) (d : TxDesc) : State :=
  let s1 := { s with btx := { s.btx with swayWait := false, swayOk := true } }
  let c := s1.txCheck r d
  if c ≠ 0 then s1.txRefuse c else s1.consFrames r d s1.btx.txIdx 504

/-- R493, R494, R517: the transmit engine has a descriptor to work on: the next one, while no drain keeps it, or one that it is sending. -/
def State.consRun (s : State) : Option Run :=
  match s.live with
  | none => none
  | some r =>
    let e := r.plan.eng 8
    let mayStart := s.bit pgBTXC PG_CTRL_EN && !s.bit pgBTXC PG_STAT_QUIESCING
    if s.phase == 2 && e.present && !s.btx.txStop && decide (s.btx.txIdx < e.count) && s.linkUp && s.ringOk
        && (s.btx.txSent != 0 || mayStart) then some r else none

/-- R491: a consignment fills the next slot: the engine has a credit for the descriptor that it works on, or may take. -/
def State.consFills (s : State) : Bool :=
  match s.consRun with
  | none => false
  | some r =>
    let d := s.txDesc r s.btx.txIdx
    (s.btx.txSent != 0 || !d.sway || s.btx.swayOk) && decide (0 < s.rf pgBTXC BTX_CRED_CRED d.vc)

/-- CONSIGNMENT_SEND: the transmit engine takes its next descriptor, or goes on with the present one, and sends the frames for which the superframe has slots and the virtual channel credits. -/
def execConsignmentSend (s : State) : Host.Outcome State Fault Refusal :=
  done s (match s.consRun with
    | none => s
    | some r =>
      let x := s.btx
      let d := s.txDesc r x.txIdx
      if x.txSent ≠ 0 then s.consFrames r d x.txIdx 504
      else match s.runReads r r.plan.img (if x.swayWait || x.swayOk then [] else [((r.plan.eng 8).descOff + 32 * x.txIdx, 32)]) with
        | (s0, false) => s0
        | (s0, true) =>
          if !d.sway || x.swayOk then s0.consStart r d
          else match s0.swayMet 0x88 true with
            | (s1, true) => s1.consStart r d
            | (s1, false) => { s1 with btx := { s1.btx with swayWait := true } })

/-- R28, R494: the transmit engine has reached the end of its list. -/
def State.txDone (s : State) (r : Run) : Bool :=
  let e := r.plan.eng 8
  !e.present || (decide (e.count ≤ s.btx.txIdx) && !s.btx.txStop)

/-- EOC_SEND: once in a tick guard, after the decision of R29. -/
def execEocSend (s : State) : Host.Outcome State Fault Refusal :=
  done s (if !s.btx.on || !s.crs.running || s.phase != 3 || !s.crs.judged || s.btx.eocSent then s
    else { s with btx := { s.btx with eocSent := true } }.eocOut)

/-! ## Messages (R502) -/

def State.msgQ (m : SMap (List Msg)) (g : Nat) : List Msg := smGet (fun _ => []) m g
def msgSet (m : SMap (List Msg)) (g : Nat) (l : List Msg) : SMap (List Msg) := smSet (fun _ => []) m g l

/-- The head of a receive FIFO, as its registers show it. -/
def State.showRx (s : State) (g : Nat) : State :=
  let l := State.msgQ s.btx.fifo g
  let h : Msg := l.headD { dest := 0, src := 0, hops := 0, data := [] }
  let s1 := (s.wf pgBTXC BTX_MSG_RXSTAT_COUNT l.length g).wf pgBTXC BTX_MSG_RXSTAT_SRC h.src g
  (List.range 8).foldl (fun s k => s.wf pgBTXC BTX_MSG_RXD_DATA (leNat ((h.data.drop (4 * k)).take 4)) (8 * g + k)) s1

/-- A write to a register of message block g, which belongs to gable g (R519). -/
def State.ifBlock (s : State) (src : Src) (g key : Nat) (f : State → State) : State :=
  s.ifWriter src key fun s => match src with
    | .gable k => if k.val = g then f s else s.accErr src key eWRITER
    | _ => s.accErr src key eWRITER

/-- MSG_SEND: a write of BTX_MSGg_TXCTL with GO = 1. A message that still waits for its slot stays as it is. [DEDUCED, assumption log 93] -/
def State.msgSendWrite (s : State) (src : Src) (g : Nat) (dest : Nat) : State :=
  let key := pgBTXC + 0x120 + 0x80 * g
  s.ifBlock src g key fun s =>
    if s.bit pgBTXC BTX_MSG_TXSTAT_BUSY g then s.accErr src key eSTATE
    else
      let d := (List.range 8).flatMap fun k => leBytes 4 (s.rf pgBTXC BTX_MSG_TXD_DATA (8 * g + k))
      let m : Msg := { dest := dest, src := s.ringPos, hops := 0, data := d }
      { s with btx := { s.btx with msgOut := msgSet s.btx.msgOut g [m] } }.wf pgBTXC BTX_MSG_TXSTAT_BUSY 1 g

/-- The command of the write above. -/
def execMsgSend (src : Src) (g : Fin 2) (dest : Fin 16) (s : State) : Host.Outcome State Fault Refusal :=
  done s (s.msgSendWrite src g dest)

/-- A message leaves in a free slot. [DEDUCED, assumption log 93] -/
def State.msgFrame (s : State) (g : Nat) (m : Msg) : State :=
  let v := 2 + g
  let q := smGet (fun _ => 0) s.btx.seq v
  let k := s.btx.slot
  let f : Frame := { typ := 5, vc := v, index := 1 + k / 8, len := 36, seq := q
                     payload := leBytes 1 m.dest ++ leBytes 1 m.src ++ leBytes 1 m.hops ++ leBytes 1 0 ++ m.data }
  let s1 := (s.sendFrame f (k % 8)).wf pgBTXC BTX_CRED_CRED (s.rf pgBTXC BTX_CRED_CRED v - 1) v
  { s1 with btx := { s1.btx with slot := k + 1, seq := smSet (fun _ => 0) s1.btx.seq v ((q + 1) % 65536) } }

/-- MSG_TRANSMIT: the oldest message to be forwarded, or the gable's own, in a slot that no consignment fills (R491). -/
def execMsgTransmit (g : Fin 2) (s : State) : Host.Outcome State Fault Refusal :=
  done s (if !s.btx.on || s.rf pgBTXC BTX_CRED_CRED (2 + g) == 0 || decide (504 ≤ s.btx.slot) || s.consFills then s
    else match State.msgQ s.btx.fwd g, State.msgQ s.btx.msgOut g with
      | m :: r, _ => { s with btx := { s.btx with fwd := msgSet s.btx.fwd g r } }.msgFrame g m
      | [], m :: _ => ({ s with btx := { s.btx with msgOut := msgSet s.btx.msgOut g [] } }.wf pgBTXC BTX_MSG_TXSTAT_BUSY 0 g).msgFrame g m
      | [], [] => s)

/-- MSG_FRAME: a message on VC 2 + g. It is delivered, forwarded, or dropped after NRING hops. The credit of a delivered one is freed at its RXPOP (R519). -/
def execMsgFrame (p : Fin 9) (ce : Fin 17) (g : Fin 2) (seq : Fin 65536) (dest src hops : Byte) (data : BitVec 256) (s : State) :
    Host.Outcome State Fault Refusal :=
  done s (if !s.laneReads p || s.lane 1 p != lnSERVICE then s
    else
      let v := 2 + g.val
      let s1 := (s.laneCe p ce).seqCheck v seq
      let m : Msg := { dest := dest.toNat, src := src.toNat, hops := hops.toNat, data := leBytes 32 data.toNat }
      let q := State.msgQ s1.btx.fifo g
      if m.dest = s1.ringPos then
        if 16 ≤ q.length then s1.freeCredit v
        else ({ s1 with btx := { s1.btx with fifo := msgSet s1.btx.fifo g (q ++ [m]) } }.showRx g).raise pgBTXC (6 + g)
      else if s1.ringSize16 ≤ m.hops + 1 then (s1.inc pgBTXC BTX_MSG_DROP_COUNT).freeCredit v
      else { s1 with btx := { s1.btx with fwd := msgSet s1.btx.fwd g (State.msgQ s1.btx.fwd g ++ [{ m with hops := m.hops + 1 }]) } }.freeCredit v)

/-- RXPOP: a write of BTX_MSGg_RXPOP with POP = 1. [DEDUCED, assumption log 93] -/
def State.rxPopWrite (s : State) (src : Src) (g : Nat) : State :=
  s.ifBlock src g (pgBTXC + 0x164 + 0x80 * g) fun s =>
    match State.msgQ s.btx.fifo g with
    | [] => s
    | _ :: r => ({ s with btx := { s.btx with fifo := msgSet s.btx.fifo g r } }.freeCredit (2 + g)).showRx g

/-- The command of the write above. -/
def execRxpop (src : Src) (g : Fin 2) (s : State) : Host.Outcome State Fault Refusal :=
  done s (s.rxPopWrite src g)

/-! ## Calibration (R506 to R513) -/

/-- R506: CAL_EN has been written: the out-of-service lane rests in IDLE, or begins an attempt. -/
def State.calEnable (s : State) (was : Bool) : State :=
  let x := s.outLane 0
  let on := s.bit pgBTXC BTX_CFG_CAL_EN
  if 9 ≤ x ∨ on = was then s else s.outOfService 0 x

/-- The transmitter's part of step k; or, after an attempt that has ended, the lane's return to CAL, whose first step then falls in the next tick guard. [DEDUCED, assumption log 117] -/
def State.calTx (s : State) (c : CalStep) : State :=
  let x := s.outLane 0
  if 9 ≤ x then s
  else if s.btx.recal then s.outOfService 0 x
  else if s.calPhase 0 ≠ 1 ∨ 8 ≤ s.rf pgBTXL BTX_CAL_STAT_STEP 0 then s
  else
    let k := s.rf pgBTXL BTX_CAL_STAT_STEP 0 + 1
    let s1 := s.wf pgBTXL BTX_CAL_STAT_STEP k 0
    if k = 1 then (s1.wf pgBTXT BTX_TX_TRIM_BIAS c.bias.toNat x).wf pgBTXT BTX_TX_MON_PWR (8 * s1.rf pgBTXL BTX_CAL_CFG_MON_TGT) x
    else if k = 2 then s1.wf pgBTXT BTX_TX_TRIM_MOD c.mod.toNat x
    else s1

/-- The receiver's part of step k. -/
def State.calRx (s : State) (c : CalStep) : State :=
  let x := s.outLane 1
  if 9 ≤ x ∨ s.calPhase 1 ≠ 1 ∨ 8 ≤ s.rf pgBTXL BTX_CAL_STAT_STEP 1 then s
  else
    let k := s.rf pgBTXL BTX_CAL_STAT_STEP 1 + 1
    let s1 := s.wf pgBTXL BTX_CAL_STAT_STEP k 1
    if k = 1 ∨ k = 6 then s1.wf pgBTXR BTX_RX_TRIM_OFFSET c.offset.toNat x
    else if k = 2 ∨ k = 3 then s1.wf pgBTXR BTX_RX_TRIM_TINT c.tint x
    else if k = 4 ∨ k = 5 then s1.wf pgBTXR BTX_RX_TRIM_THRESH c.thresh.toNat x
    else if k = 7 then
      let s2 := (s1.wf pgBTXR BTX_RX_STAT_LOCK (bnat c.lock) x).inc pgBTXR BTX_RX_CE_COUNT c.ce x
      { s2 with btx := { s2.btx with calCe := c.ce } }.raiseIf (c.lock && !s1.bit pgBTXR BTX_RX_STAT_LOCK x) pgBTXR 1
    else
      let held := c.lock && s1.bit pgBTXR BTX_RX_STAT_LOCK x
      let s2 := s1.wf pgBTXR BTX_RX_STAT_LOCK (bnat held) x
      { s2 with btx := { s2.btx with rxPass := held && decide (s2.btx.calCe ≤ s2.rf pgBTXL BTX_CAL_CFG_CE_MAX) } }

/-- CALIBRATION_STEP: once in a tick guard. -/
def execCalibrationStep (c : CalStep) (s : State) : Host.Outcome State Fault Refusal :=
  done s (if !s.crs.running || s.phase != 3 || s.btx.calUsed || !s.linkUp then s
    else
      let s1 := (s.calTx c).calRx c
      { s1 with btx := { s1.btx with calUsed := true } })

/-- SHADOW_START: the first superframe boundary after the tick that ends the guard of step 8. -/
def execShadowStart (s : State) : Host.Outcome State Fault Refusal :=
  done s (if !s.btx.shadowDue || s.calPhase 0 != 1 || s.outLane 0 == 0xF then s
    else
      let s1 := (s.closeSuper.setLane 0 (s.outLane 0) lnSHADOW 8).wf pgBTXL BTX_CAL_STAT_PHASE 2 0
      { s1 with btx := { s1.btx with shadowDue := false, accept := false, shadowAt := s1.nextSfn } })

/-- VERDICT: the receiver's check of 4096 SHADOW frames: whether every copy decoded and agreed, the corrected symbols, and the skew in ps. -/
def execVerdict (same : Bool) (ce : Fin 65536) (skew : BitVec 16) (s : State) : Host.Outcome State Fault Refusal :=
  let x := s.outLane 1
  done s (if s.calPhase 1 != 2 || decide (9 ≤ x) || s.btx.own.verdict != 0 then s
    else
      let ok := s.btx.rxPass && same && decide (ce.val ≤ s.rf pgBTXL BTX_CAL_CFG_CE_MAX)
        && decide (skew.toInt.natAbs ≤ 100 * s.rf pgBTXL BTX_CAL_CFG_SKEW_MAX)
      let s1 := (s.wf pgBTXR BTX_RX_SKEW_PS skew.toNat x).inc pgBTXR BTX_RX_CE_COUNT ce x
      let s2 := (((s1.wf pgBTXL BTX_CAL_LAST_VALID 1).wf pgBTXL BTX_CAL_LAST_ACCEPT (bnat ok)).wf pgBTXL BTX_CAL_LAST_CE
        (min 0x3FFF ce)).wf pgBTXL BTX_CAL_LAST_SKEW skew.toNat
      { s2 with btx := { s2.btx with own := { s2.btx.own with verdict := if ok then 1 else 2, calseq := s2.calSeq 1 } } })

/-- REJOIN: at a superframe boundary the logical lane moves to X, and its former lane enters CAL. -/
def execRejoin (s : State) : Host.Outcome State Fault Refusal :=
  let x := s.outLane 0
  done s (if !s.btx.accept || s.calPhase 0 != 2 || decide (9 ≤ x) then s
    else match s.nextLane x with
      | none => s
      | some y =>
        let s1 := (s.closeSuper.setLane 0 x lnSERVICE (s.laneLogical 0 y)).outOfService 0 y
        ((s1.wf pgBTXL BTX_CAL_STAT_TRY 0 0).inc pgBTXL BTX_REJOIN_CNT_COUNT).raise pgBTXL 0)

/-- CAL_TIMEOUT: no verdict within 256 superframes of SHADOW. -/
def execCalTimeout (s : State) : Host.Outcome State Fault Refusal :=
  let n := (s.rf pgBTXC BTX_SFN_SFN + 2 ^ 32 - s.btx.shadowAt) % 2 ^ 32
  done s (if s.calPhase 0 = 2 ∧ !s.btx.accept ∧ !s.btx.recal ∧ 256 ≤ n ∧ n < 2 ^ 31 then s.attemptFails else s)

/-- FAILOVER: at a superframe boundary the failed lane's logical lane moves onto the out-of-service lane, whatever its phase. -/
def execFailover (s : State) : Host.Outcome State Fault Refusal :=
  let x := s.outLane 0
  done s (match s.btx.down with
    | none => s
    | some p =>
      let s0 := { s with btx := { s.btx with down := none } }
      if 9 ≤ x ∨ s.lane 0 p ≠ lnSERVICE then s0
      else (((s0.closeSuper.setLane 0 x lnSERVICE (s0.laneLogical 0 p)).outOfService 0 p).wf pgBTXL BTX_CAL_STAT_TRY 0 0).raise
        pgBTXL 3)

/-- MON_FAULT: a lane's monitored power leaves its range (R518). -/
def execMonFault (p : Fin 9) (pwr : Fin 4096) (s : State) : Host.Outcome State Fault Refusal :=
  done s (if !s.pwr.core then s else (s.wf pgBTXT BTX_TX_MON_PWR pwr p).raise pgBTXT 0)

/-! ## The tick, resets, power -/

/-- What the link does at a tick, after the plan's outputs. -/
def State.btxTick (s : State) : State :=
  let s1 := s.consTick
  { s1 with btx := { s1.btx with
      eocSent := false, eocDue := false, calUsed := false
      shadowDue := s1.btx.shadowDue || (s1.calPhase 0 == 1 && s1.rf pgBTXL BTX_CAL_STAT_STEP 0 == 8) } }

/-- The transmit engine at the start of a course. -/
def BtxSt.arm (x : BtxSt) : BtxSt :=
  { x with txIdx := 0, txSent := 0, txCrc := 0xFFFFFFFF, txStop := false, swayWait := false, swayOk := false }

/-- The lane's laser emits, and its monitor photodiode measures it (R503). -/
def State.laserOn (s : State) (p : Nat) : Bool := s.btx.on && s.btx.light && !s.laneRetired 0 p

/-- R606: the lasers are off: no lane of the east segment carries anything, and the link is lost. -/
def State.lasersOff (s : State) : State :=
  let s1 := { s with btx := { s.btx with on := false } }.linkLost
  (List.range 9).foldl (fun s p => if s.laneRetired 0 p then s else s.setLane 0 p lnDOWN (s.laneLogical 0 p)) s1

/-- R79, R517: a soft reset clears every posting and every consignment in progress, and what the link holds beside its registers; the lasers are off until the next enable. The postings' registers go with their page. -/
def State.btxReset (s : State) : State :=
  let ps := s.btx.ready.flatMap (·.pages) ++ s.btx.rx.flatMap fun e => match e.2 with
    | .take c => c.pages
    | _ => []
  let s1 := (s.releasePages ps).lasersOff
  { s1 with btx := { light := s1.btx.light, retTx := s1.btx.retTx, retRx := s1.btx.retRx } }

/-- R515, R517: an enable of the control page starts the bring-up. -/
def State.btxStart (s : State) : State := { s with btx := { s.btx with on := true } }


end Sys2Proof.Machine
end

