-- ==== Sys2Proof/Machine/Crypto.lean ====
section
/-! DEFINITION. The standard functions that the spec names without restating: SHAKE128 of FIPS 202 (R280) and SHA-384 of FIPS 180-4 (R541 ff.). PRESUMED: their definitions are those standards' (assumption log 40). -/

namespace Sys2Proof.Machine

/-! ## Keccak-f[1600] -/

def keccakRC : List (BitVec 64) :=
  [0x1, 0x8082, 0x800000000000808A, 0x8000000080008000,
   0x808B, 0x80000001, 0x8000000080008081, 0x8000000000008009,
   0x8A, 0x88, 0x80008009, 0x8000000A,
   0x8000808B, 0x800000000000008B, 0x8000000000008089, 0x8000000000008003,
   0x8000000000008002, 0x8000000000000080, 0x800A, 0x800000008000000A,
   0x8000000080008081, 0x8000000000008080, 0x80000001, 0x8000000080008008]

def keccakRot : List Nat :=
  [0, 1, 62, 28, 27, 36, 44, 6, 55, 20, 3, 10, 43, 25, 39, 41, 45, 15, 21, 8, 18, 2, 61, 56, 14]

/-- Lane x + 5 y of a state. -/
def kLane (a : List (BitVec 64)) (i : Nat) : BitVec 64 := a.getD i 0

/-- One round: θ, ρ and π, χ, ι. -/
def keccakRound (a : List (BitVec 64)) (rc : BitVec 64) : List (BitVec 64) :=
  let c := (List.range 5).map fun x => (List.range 5).foldl (fun acc y => acc ^^^ kLane a (x + 5 * y)) 0
  let d := (List.range 5).map fun x => kLane c ((x + 4) % 5) ^^^ (kLane c ((x + 1) % 5)).rotateLeft 1
  let t := (List.range 25).map fun i => (kLane a i ^^^ kLane d (i % 5)).rotateLeft (keccakRot.getD i 0)
  -- lane (x, y) takes the lane (x', y') with y = 2x' + 3y' mod 5 and x = y'
  let b := (List.range 25).map fun i => kLane t ((i % 5 + 3 * (i / 5)) % 5 + 5 * (i % 5))
  (List.range 25).map fun i =>
    let v := kLane b i ^^^ (~~~ kLane b ((i + 1) % 5 + i / 5 * 5) &&& kLane b ((i + 2) % 5 + i / 5 * 5))
    if i = 0 then v ^^^ rc else v

def keccakF (a : List (BitVec 64)) : List (BitVec 64) := keccakRC.foldl keccakRound a

/-- Absorb one block of 168 bytes. -/
def shakeAbsorb (a : List (BitVec 64)) (blk : List Byte) : List (BitVec 64) :=
  keccakF ((List.range 25).map fun i => kLane a i ^^^ BitVec.ofNat 64 (leNat ((blk.drop (8 * i)).take 8)))

/-- The padding of SHAKE to a multiple of 168 bytes. -/
def shakePad (m : List Byte) : List Byte :=
  let z := 167 - m.length % 168
  if z = 0 then m ++ [0x9F] else m ++ [0x1F] ++ List.replicate (z - 1) 0 ++ [0x80]

/-- Squeeze n blocks of 168 bytes. -/
def shakeSqueeze : Nat → List (BitVec 64) → List Byte
  | 0, _ => []
  | n + 1, a => (a.take 21).flatMap (fun v => leBytes 8 v.toNat) ++ shakeSqueeze n (keccakF a)

/-- Absorb every block of a padded message. -/
def shakeBlocks : Nat → List (BitVec 64) → List Byte → List (BitVec 64)
  | 0, a, _ => a
  | n + 1, a, m => shakeBlocks n (shakeAbsorb a (m.take 168)) (m.drop 168)

/-- SHAKE128 with n output bytes. [PRESUMED, assumption log 40] -/
def shake128 (m : List Byte) (n : Nat) : List Byte :=
  let p := shakePad m
  (shakeSqueeze ((n + 167) / 168) (shakeBlocks (p.length / 168) (List.replicate 25 0) p)).take n

/-! ## SHA-384 -/

def sha512K : List (BitVec 64) :=
  [0x428A2F98D728AE22, 0x7137449123EF65CD, 0xB5C0FBCFEC4D3B2F, 0xE9B5DBA58189DBBC,
   0x3956C25BF348B538, 0x59F111F1B605D019, 0x923F82A4AF194F9B, 0xAB1C5ED5DA6D8118,
   0xD807AA98A3030242, 0x12835B0145706FBE, 0x243185BE4EE4B28C, 0x550C7DC3D5FFB4E2,
   0x72BE5D74F27B896F, 0x80DEB1FE3B1696B1, 0x9BDC06A725C71235, 0xC19BF174CF692694,
   0xE49B69C19EF14AD2, 0xEFBE4786384F25E3, 0xFC19DC68B8CD5B5, 0x240CA1CC77AC9C65,
   0x2DE92C6F592B0275, 0x4A7484AA6EA6E483, 0x5CB0A9DCBD41FBD4, 0x76F988DA831153B5,
   0x983E5152EE66DFAB, 0xA831C66D2DB43210, 0xB00327C898FB213F, 0xBF597FC7BEEF0EE4,
   0xC6E00BF33DA88FC2, 0xD5A79147930AA725, 0x6CA6351E003826F, 0x142929670A0E6E70,
   0x27B70A8546D22FFC, 0x2E1B21385C26C926, 0x4D2C6DFC5AC42AED, 0x53380D139D95B3DF,
   0x650A73548BAF63DE, 0x766A0ABB3C77B2A8, 0x81C2C92E47EDAEE6, 0x92722C851482353B] ++
  [0xA2BFE8A14CF10364, 0xA81A664BBC423001, 0xC24B8B70D0F89791, 0xC76C51A30654BE30,
   0xD192E819D6EF5218, 0xD69906245565A910, 0xF40E35855771202A, 0x106AA07032BBD1B8,
   0x19A4C116B8D2D0C8, 0x1E376C085141AB53, 0x2748774CDF8EEB99, 0x34B0BCB5E19B48A8,
   0x391C0CB3C5C95A63, 0x4ED8AA4AE3418ACB, 0x5B9CCA4F7763E373, 0x682E6FF3D6B2B8A3,
   0x748F82EE5DEFB2FC, 0x78A5636F43172F60, 0x84C87814A1F0AB72, 0x8CC702081A6439EC,
   0x90BEFFFA23631E28, 0xA4506CEBDE82BDE9, 0xBEF9A3F7B2C67915, 0xC67178F2E372532B,
   0xCA273ECEEA26619C, 0xD186B8C721C0C207, 0xEADA7DD6CDE0EB1E, 0xF57D4F7FEE6ED178,
   0x6F067AA72176FBA, 0xA637DC5A2C898A6, 0x113F9804BEF90DAE, 0x1B710B35131C471B,
   0x28DB77F523047D84, 0x32CAAB7B40C72493, 0x3C9EBE0A15C9BEBC, 0x431D67C49C100D4C,
   0x4CC5D4BECB3E42B6, 0x597F299CFC657E2A, 0x5FCB6FAB3AD6FAEC, 0x6C44198C4A475817]

def sha384H : List (BitVec 64) :=
  [0xCBBB9D5DC1059ED8, 0x629A292A367CD507, 0x9159015A3070DD17, 0x152FECD8F70E5939,
   0x67332667FFC00B31, 0x8EB44A8768581511, 0xDB0C2E0D64F98FA7, 0x47B5481DBEFA4FA4]

/-- Big-endian number of a byte list. -/
def beNat (bs : List Byte) : Nat := bs.foldl (fun a b => 256 * a + b.toNat) 0

/-- The n bytes of a number, most significant first. -/
def beBytes (n v : Nat) : List Byte := (leBytes n v).reverse

/-- The message schedule of one block of 128 bytes. -/
def shaSchedule (blk : List Byte) : List (BitVec 64) :=
  (List.range 64).foldl (fun w t =>
    let g := fun i => w.getD i (0 : BitVec 64)
    let s1 := (g (t + 14)).rotateRight 19 ^^^ (g (t + 14)).rotateRight 61 ^^^ (g (t + 14)) >>> 6
    let s0 := (g (t + 1)).rotateRight 1 ^^^ (g (t + 1)).rotateRight 8 ^^^ (g (t + 1)) >>> 7
    w ++ [s1 + g (t + 9) + s0 + g t]) ((List.range 16).map fun i => BitVec.ofNat 64 (beNat ((blk.drop (8 * i)).take 8)))

/-- One round on the working variables a to h. -/
def shaRound (v : List (BitVec 64)) (wk : BitVec 64) : List (BitVec 64) :=
  let g := fun i => v.getD i (0 : BitVec 64)
  let e := g 4
  let a := g 0
  let t1 := g 7 + (e.rotateRight 14 ^^^ e.rotateRight 18 ^^^ e.rotateRight 41) + ((e &&& g 5) ^^^ (~~~ e &&& g 6)) + wk
  let t2 := (a.rotateRight 28 ^^^ a.rotateRight 34 ^^^ a.rotateRight 39) + ((a &&& g 1) ^^^ (a &&& g 2) ^^^ (g 1 &&& g 2))
  [t1 + t2, g 0, g 1, g 2, g 3 + t1, g 4, g 5, g 6]

def shaBlock (h : List (BitVec 64)) (blk : List Byte) : List (BitVec 64) :=
  let v := ((shaSchedule blk).zipWith (· + ·) sha512K).foldl shaRound h
  h.zipWith (· + ·) v

def shaBlocks : Nat → List (BitVec 64) → List Byte → List (BitVec 64)
  | 0, h, _ => h
  | n + 1, h, m => shaBlocks n (shaBlock h (m.take 128)) (m.drop 128)

/-- The SHA-384 digest of a message, 48 bytes. [PRESUMED, assumption log 40] -/
def sha384 (m : List Byte) : List Byte :=
  let z := (239 - m.length % 128) % 128
  let p := m ++ [0x80] ++ List.replicate z 0 ++ beBytes 16 (8 * m.length)
  ((shaBlocks (p.length / 128) sha384H p).take 6).flatMap fun v => beBytes 8 v.toNat

end Sys2Proof.Machine
end

