-- ==== Sys2Proof/Machine/Ecdsa.lean ====
section
/-! DEFINITION. ECDSA P-384 verification (R557). PRESUMED: the curve and the scheme are those of FIPS 186 (assumption log 40). -/

namespace Sys2Proof.Machine

/-- The field prime, the group order and the coefficient b of P-384; the coefficient a is -3. -/
def p384P : Nat := 2 ^ 384 - 2 ^ 128 - 2 ^ 96 + 2 ^ 32 - 1
def p384N : Nat := 0xFFFFFFFFFFFFFFFFFFFFFFFFFFFFFFFFFFFFFFFFFFFFFFFFC7634D81F4372DDF581A0DB248B0A77AECEC196ACCC52973
def p384B : Nat := 0xB3312FA7E23EE7E4988E056BE3F82D19181D9C6EFE8141120314088F5013875AC656398D8A2ED19D2A85C8EDD3EC2AEF

/-- The base point. -/
def p384G : Nat × Nat :=
  (0xAA87CA22BE8B05378EB1C71EF320AD746E1D3B628BA79B9859F741E082542A385502F25DBF55296C3A545E3872760AB7,
   0x3617DE4A96262C6F5D9E98BF9292DC29F8F41DBD289A147CE9DA3113B5F0B8C00A60B1CE1D7E819D7A431D7C90EA0E5F)

/-- x to the power of the low n bits of e, modulo m. -/
def powField (m x e : Nat) : Nat → Nat
  | 0 => 1 % m
  | n + 1 =>
    let r := powField m (x * x % m) (e / 2) n
    if e % 2 = 1 then x * r % m else r

/-- The inverse modulo a prime. -/
def invMod (m x : Nat) : Nat := powField m (x % m) (m - 2) 384

/-- Point addition; none is the point at infinity. -/
def ecAdd (a b : Option (Nat × Nat)) : Option (Nat × Nat) :=
  let p := p384P
  match a, b with
  | none, q => q
  | q, none => q
  | some (x1, y1), some (x2, y2) =>
    if x1 = x2 ∧ (y1 + y2) % p = 0 then none
    else
      let l := if x1 = x2 then (3 * x1 * x1 + p - 3) * invMod p (2 * y1) % p
        else (y2 + p - y1) * invMod p (x2 + p - x1) % p
      let x := (l * l + 2 * p - x1 - x2) % p
      some (x, (l * (x1 + p - x) + p - y1) % p)

/-- k times a point, k below 2 ^ n. -/
def ecMul (k : Nat) (q : Option (Nat × Nat)) : Nat → Option (Nat × Nat)
  | 0 => none
  | n + 1 =>
    let r := ecMul (k / 2) (ecAdd q q) n
    if k % 2 = 1 then ecAdd q r else r

/-- An uncompressed point (0x04, X, Y) on the curve. -/
def ecPoint (key : List Byte) : Option (Nat × Nat) :=
  let x := beNat ((key.drop 1).take 48)
  let y := beNat ((key.drop 49).take 48)
  if key.length = 97 ∧ key.headD 0 = 4 ∧ x < p384P ∧ y < p384P ∧ y * y % p384P = (x * x * x + p384B + 3 * (p384P - x)) % p384P then
    some (x, y) else none

/-- R557: a signature (r, s) over a SHA-384 digest verifies under a key. [PRESUMED, assumption log 40] -/
def ecdsaOk (key digest sig : List Byte) : Bool :=
  let n := p384N
  let r := beNat (sig.take 48)
  let s := beNat ((sig.drop 48).take 48)
  match ecPoint key with
  | none => false
  | some q =>
    if r = 0 ∨ n ≤ r ∨ s = 0 ∨ n ≤ s then false
    else
      let w := invMod n s
      let z := beNat digest
      match ecAdd (ecMul (z * w % n) (some p384G) 384) (ecMul (r * w % n) (some q) 384) with
      | none => false
      | some (x, _) => x % n == r

end Sys2Proof.Machine
end

