-- ==== Sys2Proof/Machine/Fuse.lean ====
section
/-! DEFINITION. The flashing fuses: sections, votes, the fuse load, and the commands of the FLS page (R523 to R542, R551, R552). -/

namespace Sys2Proof.Machine

/-! ## The array (R523, R524, R534) -/

def fuse0 (_ : Nat) : Word32 := 0
def State.fuseM (s : State) (n : Nat) : Nat := (smGet fuse0 s.fls.margin n).toNat
def State.fuseN (s : State) (n : Nat) : Nat := (smGet fuse0 s.fls.normal n).toNat
def State.setFuseM (s : State) (n v : Nat) : State :=
  { s with fls := { s.fls with margin := smSet fuse0 s.fls.margin n (BitVec.ofNat 32 v) } }
def State.setFuseN (s : State) (n v : Nat) : State :=
  { s with fls := { s.fls with normal := smSet fuse0 s.fls.normal n (BitVec.ofNat 32 v) } }

/-- The region of a word; none for a reserved word. -/
def fuseRegion (n : Nat) : Option Nat :=
  if n < 0x80 then some 0
  else if n < 0x90 then some 1
  else if n ≤ 0xAC then some 2
  else if 0xD0 ≤ n ∧ n ≤ 0xE9 then some 3
  else if 0xF0 ≤ n ∧ n < 0x110 then some 4
  else if 0x110 ≤ n ∧ n < 0x190 then some 5
  else if 0x190 ≤ n ∧ n < 0x290 then some 6
  else none

/-! ## Votes (R527, R528) -/

def maj (a b c : Nat) : Nat := (a &&& b) ||| (b &&& c) ||| (a &&& c)

/-- The bits of `w`-bit copies that do not all agree. -/
def disagree (w a b c : Nat) : Nat :=
  let d := (a ^^^ b) ||| (b ^^^ c)
  ((List.range w).filter fun i => d.testBit i).length

/-- Three copies of w bits in one word, at bits 0, 8 and 16. -/
def copies (w v : Nat) : Nat × Nat × Nat := (v % 2 ^ w, v / 2 ^ 8 % 2 ^ w, v / 2 ^ 16 % 2 ^ w)

def State.copies3 (s : State) (word w : Nat) : Nat × Nat × Nat := copies w (s.fuseM word)

/-- The three copies of rollback counter n. -/
def State.rbCopies (s : State) (n : Nat) : Nat × Nat × Nat :=
  let c := fun k => s.fuseM (0xD2 + 6 * n + 2 * k) + 2 ^ 32 * s.fuseM (0xD3 + 6 * n + 2 * k)
  (c 0, c 1, c 2)

def vote3 (t : Nat × Nat × Nat) : Nat := maj t.1 t.2.1 t.2.2

/-- The value of a thermometer: none if its bits are not contiguous from bit 0. -/
def thermo (w v : Nat) : Option Nat :=
  (List.range (w + 1)).find? fun k => v == 2 ^ k - 1

/-- R527: a data word as its section's CRC covers it. -/
def State.votedWord (s : State) (n : Nat) : Nat :=
  let v := s.fuseM n
  let put := fun (w : Nat) =>
    let m := vote3 (copies w v)
    let hole := (2 ^ w - 1) * (1 + 2 ^ 8 + 2 ^ 16)
    (v ^^^ (v &&& hole)) + m * (1 + 2 ^ 8 + 2 ^ 16)
  if n = 0x9C then put 6 else if n = 0xAA then put 1 else v

/-! ## Sections (R525, R526) -/

def crc16Bit (c : Nat) (bit : Bool) : Nat :=
  let x := c * 2 % 65536
  if c.testBit 15 != bit then x ^^^ 0x1021 else x

def crc16Byte (c : Nat) (b : Byte) : Nat := (List.range 8).foldl (fun c i => crc16Bit c (b.getLsbD (7 - i))) c

/-- R525. -/
def crc16 (bs : List Byte) : Nat := bs.foldl crc16Byte 0xFFFF

/-- First data word and seal word of a section; the data words end before the seal. -/
def secWords : Nat → Nat × Nat
  | 0 => (0x000, 0x07F) | 1 => (0x080, 0x08F) | 2 => (0x090, 0x09D) | 3 => (0x09E, 0x0AB)
  | 4 => (0x0D0, 0x0D1) | 5 => (0x0F0, 0x10F) | 6 => (0x110, 0x18F) | _ => (0x190, 0x28F)

/-- The state of a section: 0 OK, 1 BLANK, 2 FAIL. -/
def State.secState (s : State) (k : Nat) : Nat :=
  let (a, z) := secWords k
  let ws := (List.range (z - a)).map (a + ·)
  let sw := s.fuseM z
  if ws.all (fun n => s.fuseM n == 0) && sw == 0 then 1
  else if sw / 2 ^ 16 = 0x5E00 + k ∧ sw % 2 ^ 16 = crc16 (ws.flatMap fun n => leBytes 4 (s.votedWord n)) then 0
  else 2

/-! ## The fuse load (R529 to R533) -/

/-- R532: a region's outcome. -/
def State.regionState (s : State) (r : Nat) : Nat :=
  match r with
  | 0 => s.secState 0
  | 1 => s.secState 1
  | 2 => if s.secState 2 = 0 ∧ s.secState 3 ≠ 2 ∧ (thermo 3 (vote3 (s.copies3 0xAC 3))).isSome then 0 else 2
  | 3 => if s.secState 4 = 0 ∧ (List.range 4).all (fun n => (thermo 64 (vote3 (s.rbCopies n))).isSome) then 0 else 2
  | 4 => s.secState 5
  | 5 => s.secState 6
  | _ => s.secState 7

/-- Every bit of R527's fields whose copies do not agree. -/
def State.weakCount (s : State) : Nat :=
  let d := fun w (t : Nat × Nat × Nat) => disagree w t.1 t.2.1 t.2.2
  d 6 (s.copies3 0x9C 6) + d 1 (s.copies3 0xAA 1) + d 3 (s.copies3 0xAC 3)
    + ((List.range 4).map fun n => d 64 (s.rbCopies n)).foldl (· + ·) 0

/-- FLS_SEC and the key hashes. -/
def State.loadSec (s : State) (ok : Bool) : State :=
  let own := ok && s.secState 3 == 0
  let hash := fun (on : Bool) base k => if on then s.fuseM (base + k) else 0
  let s1 := ((((s.wf pgFLS FLS_SEC_DBG (if ok then (thermo 3 (vote3 (s.copies3 0xAC 3))).getD 3 else 3)).wf pgFLS
    FLS_SEC_CUST_EN (if own then vote3 (s.copies3 0xAA 1) else 0)).wf pgFLS FLS_SEC_OKEY (bnat own)).wf pgFLS FLS_SEC_VKEY
    (bnat ok)).wf pgFLS FLS_SEC_D (if ok then vote3 (s.copies3 0x9C 6) + 1 else 1)
  (List.range 12).foldl (fun a k => (a.wf pgFLS FLS_VHASH_HASH (hash ok 0x90 k) k).wf pgFLS FLS_OHASH_HASH (hash own 0x9E k) k) s1

/-- R529: an HBM repair entry. -/
def State.loadHrep (s : State) (v : Nat) : State :=
  if !v.testBit 31 then s
  else
    let pg := pgPHY (bits v 29 28)
    let c := bits v 24 20
    let lane := bits v 5 0
    match bits v 17 16 with
    | 0 => if s.bit pg PHY_SPARE_CA c then s else (s.wf pg PHY_SPARE_CA 1 c).wf pg PHY_SPARE_CA_LANE lane c
    | 1 => if s.bit pg PHY_SPARE_DQ0 c then s else (s.wf pg PHY_SPARE_DQ0 1 c).wf pg PHY_SPARE_DQ0_LANE (lane % 32) c
    | 2 => if s.bit pg PHY_SPARE_DQ1 c then s else (s.wf pg PHY_SPARE_DQ1 1 c).wf pg PHY_SPARE_DQ1_LANE (lane % 32) c
    | _ => s

/-- R529: a store repair entry. -/
def State.loadSrep (s : State) (v : Nat) : State :=
  if !v.testBit 31 then s
  else
    let pg := pgBST (bits v 21 16)
    let b := bits v 12 8
    let row := bits v 6 0
    if v.testBit 7 then
      (if s.bit pg BST_REPAIR_VALID1 b then s else (s.wf pg BST_REPAIR_VALID1 1 b).wf pg BST_REPAIR_ROW1 row b)
    else if s.bit pg BST_REPAIR_VALID0 b then s
    else (s.wf pg BST_REPAIR_VALID0 1 b).wf pg BST_REPAIR_ROW0 row b

/-- R529, R533: the repairs of the fuses; the registers hold none before. -/
def State.loadRepairs (s : State) (h r : Bool) : State :=
  let s1 := if h then (List.range 127).foldl (fun a k => a.loadHrep (a.fuseM (0x110 + k))) s else s
  if r then (List.range 255).foldl (fun a k => a.loadSrep (a.fuseM (0x190 + k))) s1 else s1

/-- FUSE_LOAD. -/
def State.fuseLoad (s : State) : State :=
  let st := fun r => s.regionState r
  let s1 := (List.range 7).foldl (fun a r => a.wf pgFLS FLS_REGION_STATE (st r) r) ((s.wf pgFLS FLS_STAT_LOADED 1).wf pgFLS
    FLS_WEAK_CNT_COUNT (min 0xFFFF s.weakCount))
  let s2 := s1.loadSec (st 2 == 0)
  let s3 := (List.range 4).foldl (fun a n =>
    a.wf pgFLS FLS_RB_VALUE (if st 3 = 0 then (thermo 64 (vote3 (s.rbCopies n))).getD 64 else 64) n) s2
  let ser := fun n => if st 1 = 0 then s.fuseM n else 0
  let s4 := (s3.wf pgGLB GLB_SERIAL_LO_SERIAL (ser 0x80)).wf pgGLB GLB_SERIAL_HI_SERIAL (ser 0x81)
  let ocfg := if st 4 = 0 then s.fuseM 0xF0 else if st 4 = 1 then 0 else 1
  let s5 := (List.range 4).foldl (fun a n => a.wf (pgPHY n) PHY_CFG_RATE (ocfg % 2)) s4
  let s6 := { s5 with fls := { s5.fls with bootPref := bits ocfg 2 1 } }
  let s7 := s6.loadRepairs (st 5 == 0) (st 6 == 0)
  let bad := fun r => st r == 2
  (s7.raiseIf (bad 2 || bad 3) pgFLS 1).raiseIf (bad 0 || bad 1 || bad 4 || bad 5 || bad 6) pgFLS 0

/-! ## The command interface (R535 to R542) -/

/-- Any FLS-page write ends an arming. -/
def State.disarm (s : State) : State := s.wf pgFLS FLS_STAT_ARMED 0

/-- A command ends. -/
def State.flsEnd (s : State) (st : Nat) : State :=
  (({ s with fls := { s.fls with cmd := none } }.wf pgFLS FLS_CMD_STAT_BUSY 0).wf pgFLS FLS_CMD_STAT_STATUS st).raise pgFLS 2

def State.flsStart (s : State) (c : FlsCmd) : State :=
  { s with fls := { s.fls with cmd := some c } }.wf pgFLS FLS_CMD_STAT_BUSY 1

/-- R540: burning is held off by temperature, or by the state of the tray. Only a VALID reading counts. [DEDUCED, assumption log 34] -/
def State.burnTemp (s : State) : Bool :=
  s.tray == tFALLING || (s.tray == tRISING && decide (s.trayStep < 10))
    || (List.range 64).any fun b =>
      let t := sext 16 (s.rf pgSNS SNS_BAT_TEMP b)
      s.bit pgSNS SNS_BAT_VALID b && (decide (85 * 16 < t) || decide (t < 0))

/-- R542: the region or all burning is locked. -/
def State.flsLocked (s : State) (r : Nat) : Bool := s.bit pgFLS FLS_LOCK_PROG || bitOf (s.rf pgFLS FLS_LOCK_REGION) r

/-- Status that ends a command at once (R552), and otherwise the command to run; reads complete at once. [DEDUCED, assumption log 35] -/
def State.flsDo (s : State) (armed : Bool) (op arg word : Nat) : State :=
  if !armed then s.flsEnd 0x140
  else
    match op with
    | 1 =>
      match fuseRegion word with
      | none => s.flsEnd 1
      | some r =>
        if s.flsLocked r then s.flsEnd 3
        else if s.burnTemp then s.flsEnd 0x142
        else s.flsStart (.burn word (s.rf pgFLS FLS_DATA_DATA))
    | 2 => if (fuseRegion word).isNone then s.flsEnd 1 else (s.wf pgFLS FLS_RDATA_DATA (s.fuseM word)).flsEnd 0
    | 3 => if (fuseRegion word).isNone then s.flsEnd 1 else (s.wf pgFLS FLS_RDATA_DATA (s.fuseN word)).flsEnd 0
    | 4 =>
      if 3 < arg then s.flsEnd 1
      else if s.flsLocked 3 then s.flsEnd 3
      else if s.burnTemp then s.flsEnd 0x142
      else if 64 ≤ s.rf pgFLS FLS_RB_VALUE arg then s.flsEnd 0x143
      else s.flsStart (.advRb arg)
    | 5 =>
      if arg = 0 ∨ 3 < arg then s.flsEnd 1
      else if s.flsLocked 2 then s.flsEnd 3
      else if s.burnTemp then s.flsEnd 0x142
      else if arg ≤ s.rf pgFLS FLS_SEC_DBG then s.flsEnd 0x143
      else s.flsStart (.raiseDbg arg)
    | _ => s.flsEnd 1

/-- A write of FLS_CMD by a writer. [DEDUCED, assumption log 34] -/
def State.flsCmd (s : State) (src : Src) (v : Word32) : State :=
  if s.bit pgFLS FLS_CMD_STAT_BUSY then s.disarm.accErr src (pgFLS + 0x68) eSTATE
  else s.disarm.flsDo (s.bit pgFLS FLS_STAT_ARMED) (bits v.toNat 3 0) (bits v.toNat 7 4) (bits v.toNat 25 16)

/-- The word of a command. -/
def flsWord (op arg word : Nat) : Word32 := BitVec.ofNat 32 (op + 16 * arg + 65536 * word)

/-- BURN. -/
def execBurn (src : Src) (word : Fin 1024) (s : State) : Host.Outcome State Fault Refusal :=
  done s (s.ifWriter src (pgFLS + 0x68) fun s => s.flsCmd src (flsWord 1 0 word))

/-- MREAD. -/
def execMread (src : Src) (word : Fin 1024) (s : State) : Host.Outcome State Fault Refusal :=
  done s (s.ifWriter src (pgFLS + 0x68) fun s => s.flsCmd src (flsWord 2 0 word))

/-- NREAD. -/
def execNread (src : Src) (word : Fin 1024) (s : State) : Host.Outcome State Fault Refusal :=
  done s (s.ifWriter src (pgFLS + 0x68) fun s => s.flsCmd src (flsWord 3 0 word))

/-- ADV_RB. -/
def execAdvRb (src : Src) (n : Fin 16) (s : State) : Host.Outcome State Fault Refusal :=
  done s (s.ifWriter src (pgFLS + 0x68) fun s => s.flsCmd src (flsWord 4 n 0))

/-- RAISE_DBG. -/
def execRaiseDbg (src : Src) (level : Fin 16) (s : State) : Host.Outcome State Fault Refusal :=
  done s (s.ifWriter src (pgFLS + 0x68) fun s => s.flsCmd src (flsWord 5 level 0))

/-- FLS_ARM: a write of FLS_ARM; any other value does not arm. -/
def State.flsArm (s : State) (v : Word32) : State := s.wf pgFLS FLS_STAT_ARMED (bnat (v == 0xF1A5))

/-- FLS_ARM. -/
def execFlsArm (src : Src) (v : Word32) (s : State) : Host.Outcome State Fault Refusal :=
  done s (s.ifWriter src (pgFLS + 0x64) fun s => s.flsArm v)

/-- FLS_LOCK. -/
def execFlsLock (src : Src) (v : Word32) (s : State) : Host.Outcome State Fault Refusal :=
  done s (s.ifWriter src (pgFLS + 0x60) fun s => s.disarm.regWrite src (pgFLS + 0x60) v fun _ s1 => s1)

/-! ## The end of a burn (R537, R538) -/

/-- The bits of a command, in the order in which they are treated: word and bit. [DEDUCED, assumption log 34] -/
def State.flsBits (s : State) : FlsCmd → List (Nat × Nat)
  | .burn w d => ((List.range 32).filter fun i => d.testBit i).map fun i => (w, i)
  | .advRb n =>
    let v := s.rf pgFLS FLS_RB_VALUE n
    (List.range 3).map fun c => (0xD2 + 6 * n + 2 * c + v / 32, v % 32)
  | .raiseDbg l => (List.range 3).flatMap fun c => (List.range l).map fun i => (0xAC, 8 * c + i)

/-- Treat one bit, with what its burn comes to: the state, and whether it failed. A bit that reads 1 at margin takes no pulse. -/
def State.burnBit (s : State) (w i : Nat) (r : BitBurn) : State × Bool :=
  if (s.fuseM w).testBit i then (s, false)
  else
    let norm := fun (s : State) => s.setFuseN w (setBit (s.fuseN w) i true)
    match r with
    | .ok p => (norm ((s.setFuseM w (setBit (s.fuseM w) i true)).inc pgFLS FLS_PULSE_CNT_COUNT (p.val + 1)), false)
    | .fail n => (let s1 := s.inc pgFLS FLS_PULSE_CNT_COUNT 4; (if n then norm s1 else s1), true)

/-- Treat bits in turn; bits that already read 1 take none of the results. The failed bits come back as a mask. [DEDUCED, assumption log 34] -/
def State.burnBits (s : State) : List (Nat × Nat) → List BitBurn → State × Nat
  | [], _ => (s, 0)
  | (w, i) :: r, bs =>
    let (s1, bad) := s.burnBit w i (bs.headD (.ok 0))
    let (s2, m) := s1.burnBits r (if (s.fuseM w).testBit i then bs else bs.tail)
    (s2, if bad then m ||| 2 ^ i else m)

/-- R538: the new value of a counter or of the debug lock level; a test-port instruction that the new level forbids acts as BYPASS from then on (R648). -/
def State.flsNew (s : State) : FlsCmd → State
  | .burn _ _ => s
  | .advRb n => s.wf pgFLS FLS_RB_VALUE (s.rf pgFLS FLS_RB_VALUE n + 1) n
  | .raiseDbg l => { s.wf pgFLS FLS_SEC_DBG l with tap := if 3 ≤ l then { s.tap with pins := .normal } else s.tap }

/-- FLS_CMD_DONE: a burning command ends; `res` is what the burn of each bit in turn comes to. -/
def execFlsCmdDone (res : List BitBurn) (s : State) : Host.Outcome State Fault Refusal :=
  done s (match s.fls.cmd with
    | none => s
    | some c =>
      let (s1, m) := s.burnBits (s.flsBits c) res
      let s2 := s1.wf pgFLS FLS_RDATA_DATA m
      if m = 0 then (s2.flsNew c).flsEnd 0 else (s2.raise pgFLS 3).flsEnd 0x141)

/-- A command is cut short by a reset or a loss of power: the bits of some prefix are burned, and the bit in work may read either way. [DEDUCED, assumption log 35] -/
def State.flsCut (s : State) : State :=
  match s.fls.cmd with
  | none => s
  | some c =>
    let (k, s1) := s.fresh
    let (v, s2) := s1.fresh
    let bs := s2.flsBits c
    let (s3, _) := s2.burnBits (bs.take (k % (bs.length + 1))) []
    let s4 := match bs.drop (k % (bs.length + 1)) with
      | [] => s3
      | (w, i) :: _ => if v % 3 = 0 then s3 else if v % 3 = 1 then (s3.burnBit w i (.fail true)).1 else (s3.burnBit w i (.ok 0)).1
    { s4 with fls := { s4.fls with cmd := none } }

end Sys2Proof.Machine
end

