-- ==== Sys2Proof/Machine/Flash.lean ====
section
/-! DEFINITION. The boot and calibration flash and the SFC page (R543, R549, R553 to R555). -/

namespace Sys2Proof.Machine

/-- PRESUMED: an erased byte of NOR flash reads 0xFF (assumption log 33). [PRESUMED, assumption log 33] -/
def flashDflt (_ : Nat) : Byte := 0xFF

def State.flashByte (s : State) (a : Nat) : Byte := smGet flashDflt s.sfc.flash a
def State.flashBytes (s : State) (a n : Nat) : List Byte := (List.range n).map fun i => s.flashByte (a + i)

/-- A little-endian number in flash. -/
def State.flashNat (s : State) (a n : Nat) : Nat := leNat (s.flashBytes a n)

def State.setFlash (s : State) (es : List (Nat × Byte)) : State :=
  { s with sfc := { s.sfc with flash := smSetMany flashDflt s.sfc.flash es } }

/-- PRESUMED: programming NOR flash only clears bits (assumption log 33). [PRESUMED, assumption log 33] -/
def State.flashProg (s : State) (a : Nat) (bs : List Byte) : State :=
  s.setFlash ((List.range bs.length).map fun i => (a + i, s.flashByte (a + i) &&& bs.getD i 0xFF))

/-- Erase the 64 KiB sector at an address. [PRESUMED, assumption log 33] -/
def State.flashErase (s : State) (sector : Nat) : State :=
  { s with sfc := { s.sfc with flash := smDrop (fun a => a / 65536 == sector / 65536) s.sfc.flash } }

/-- Bytes left open by a program or erase that failed or was cut short: free values. -/
def State.flashOpen (s : State) (a n : Nat) : State :=
  let (v, s1) := s.fresh
  s1.setFlash ((List.range n).map fun i => (a + i, BitVec.ofNat 8 (v / 256 ^ i)))

/-! ## The log area (R549) -/

def logBase : Nat := 0x2080000
def logSlots : Nat := (0x4000000 - logBase) / 64

/-- SEQ of the entry at a slot, if its CRC holds. -/
def State.logSeq (s : State) (i : Nat) : Option Nat :=
  let bs := s.flashBytes (logBase + 64 * i) 64
  if crc16 (bs.take 62) = leNat (bs.drop 62) then some (leNat (bs.take 4)) else none

/-- The slot with the highest SEQ among those that flash lists. [DESIGN CHOICE, assumption log 36] -/
def State.logLast (s : State) : Option (Nat × Nat) :=
  (s.sfc.flash.filter fun e => decide (logBase ≤ e.1)).foldl (fun a e =>
    let i := (e.1 - logBase) / 64
    match s.logSeq i, a with
    | none, _ => a
    | some q, none => some (i, q)
    | some q, some (j, q') => if q' < q then some (i, q) else some (j, q')) none

/-- Append an entry. Its 46 data bytes, and the SEQ of a first entry, are free values. [DESIGN CHOICE, assumption log 36] -/
def State.logAppend (s : State) (source code : Nat) : State :=
  let (data, s1) := s.fresh
  let (first, s2) := s1.fresh
  let i := match s.logLast with | none => 0 | some (j, _) => (j + 1) % logSlots
  let q := match s.logLast with | none => first | some (_, q) => q + 1
  let a := logBase + 64 * i
  let body := leBytes 4 q ++ leBytes 8 s2.dmr.sec ++ leBytes 2 source ++ leBytes 2 code ++ leBytes 46 data
  let s3 := if i % 1024 = 0 then s2.flashErase a else s2
  s3.flashProg a (body ++ leBytes 2 (crc16 body))

/-! ## Commands (R553, R554) -/

/-- Partition of an address, as SFC_WP numbers them. -/
def flashPart (a : Nat) : Nat :=
  if a < 0x2000000 then a / 0x800000 else if a < 0x2080000 then 4 else 5

/-- A command ends with a status. -/
def State.sfcEnd (s : State) (st : Nat) : State :=
  (({ s with sfc := { s.sfc with cmd := none } }.wf pgSFC SFC_STAT_BUSY 0).wf pgSFC SFC_STAT_STATUS st).raise pgSFC 0

def State.sfcStart (s : State) (c : SfcCmd) : State :=
  { s with sfc := { s.sfc with cmd := some c } }.wf pgSFC SFC_STAT_BUSY 1

/-- Byte i of the buffer. -/
def State.sfcBuf (s : State) (i : Nat) : Byte := BitVec.ofNat 8 (s.rf pgSFC SFC_BUF_DATA (i / 4) / 256 ^ (i % 4))

def State.setSfcBuf (s : State) (bs : List Byte) : State :=
  (List.range bs.length).foldl (fun s i =>
    let old := s.rf pgSFC SFC_BUF_DATA (i / 4)
    s.wf pgSFC SFC_BUF_DATA (mergeByte old (i % 4) (bs.getD i 0).toNat) (i / 4)) s
where
  mergeByte (old k v : Nat) : Nat := old % 256 ^ k + v * 256 ^ k + old / 256 ^ (k + 1) * 256 ^ (k + 1)

/-- A write of SFC_CMD by a writer. An OP that R553 does not list ends with RANGE (DESIGN CHOICE, assumption log 33). [PRESUMED, assumption log 33] -/
def State.sfcCmd (s : State) (src : Src) (op : Nat) : State :=
  let a := s.rf pgSFC SFC_ADDR_ADDR
  let n := s.rf pgSFC SFC_LEN_LEN
  let wp := bitOf (s.rf pgSFC SFC_WP_WP) (flashPart a)
  if s.bit pgSFC SFC_STAT_BUSY then s.accErr src (pgSFC + 0x50) eSTATE
  else if n = 0 ∨ 256 < n ∨ 0x4000000 < a + n ∨ (op = 2 ∧ 256 < a % 256 + n) then s.sfcEnd 1
  else
    match op with
    | 1 => s.sfcStart (.read a n)
    | 2 => if wp then s.sfcEnd 0x150 else s.sfcStart (.prog a ((List.range n).map s.sfcBuf))
    | 3 => if wp then s.sfcEnd 0x150 else s.sfcStart (.erase (a / 65536 * 65536))
    | 4 => s.sfcStart .readId
    | _ => s.sfcEnd 1

/-- READ. -/
def execRead (src : Src) (s : State) : Host.Outcome State Fault Refusal :=
  done s (s.ifWriter src (pgSFC + 0x50) fun s => s.sfcCmd src 1)

/-- PROG. -/
def execProg (src : Src) (s : State) : Host.Outcome State Fault Refusal :=
  done s (s.ifWriter src (pgSFC + 0x50) fun s => s.sfcCmd src 2)

/-- ERASE. -/
def execErase (src : Src) (s : State) : Host.Outcome State Fault Refusal :=
  done s (s.ifWriter src (pgSFC + 0x50) fun s => s.sfcCmd src 3)

/-- READ_ID. -/
def execReadId (src : Src) (s : State) : Host.Outcome State Fault Refusal :=
  done s (s.ifWriter src (pgSFC + 0x50) fun s => s.sfcCmd src 4)

/-- What a command did to the flash or the buffer. -/
def State.sfcEffect (s : State) (c : SfcCmd) (fail : Bool) : State :=
  match c with
  | .read a n => s.setSfcBuf (s.flashBytes a n)
  | .prog a bs => if fail then s.flashOpen a bs.length else s.flashProg a bs
  | .erase sec => if fail then s.flashOpen sec 65536 else s.flashErase sec
  | .readId => s.setSfcBuf (leBytes 3 Config.flashId)

def SfcCmd.writes : SfcCmd → Bool
  | .prog _ _ | .erase _ => true
  | _ => false

/-- FLASH_COMMAND_DONE: the command ends; `fail` says that the flash reports a failed program or erase. -/
def execFlashCommandDone (fail : Bool) (s : State) : Host.Outcome State Fault Refusal :=
  done s (match s.sfc.cmd with
    | none => s
    | some c =>
      let bad := fail && c.writes
      let s1 := (s.sfcEffect c bad).sfcEnd (if bad then 0x151 else 0)
      if bad then (s1.inc pgSFC SFC_FAIL_CNT_COUNT).raise pgSFC 1 else s1)

/-- A reset or a loss of power cuts a command short. [PRESUMED, assumption log 33] -/
def State.sfcCut (s : State) : State :=
  match s.sfc.cmd with
  | none => s
  | some c =>
    let s1 := if c.writes then s.sfcEffect c true else s
    { s1 with sfc := { s1.sfc with cmd := none } }

end Sys2Proof.Machine
end

