-- ==== Sys2Proof/Machine/GabOps.lean ====
section
/-! DEFINITION. Gable state as every block reaches it: registers, stores, levels, and the view of the GAB page (R418 to R425, R448). -/

namespace Sys2Proof.Machine

/-- Gable g after a reset (R418, R422, R423): gable 1 is stopped. -/
def gabDflt (g : Nat) : GabSt := if g = 0 then { pc := 0x100000 } else { stopped := true }

def State.gable (s : State) (g : Nat) : GabSt := smGet gabDflt s.gab g
def State.setGab (s : State) (g : Nat) (x : GabSt) : State := { s with gab := smSet gabDflt s.gab g x }

/-- R446: the state to which RESET, and the watchdog reset of gable 1, return a gable; it leaves the debug service; its stores and its spar snapshot keep their contents. -/
def State.gabReset (s : State) (g : Nat) : State :=
  let old := s.gable g
  let entry := s.rf (pgGAB g) GAB_ENTRY_ADDR
  let s1 := { s with tap := { s.tap with svc := smErase s.tap.svc g } }
  (s1.setGab g { pc := BitVec.ofNat 64 entry, stopped := true, march := old.march, snap := old.snap }).wf (pgGAB g) GAB_WDOG_STAGE 0

/-! ## Registers (R422) -/

/-- Where register n lies: g16 to g31 in the shadow bank while BANK = 1. -/
def GabSt.slot (x : GabSt) (n : Nat) : Nat := if x.bank && decide (16 ≤ n) then n + 16 else n

/-- g0 reads 0. -/
def GabSt.rd (x : GabSt) (n : Nat) : Word64 := if n = 0 then 0 else smGet (fun _ => 0) x.r (x.slot n)

/-- g0 ignores writes. -/
def GabSt.wr (x : GabSt) (n : Nat) (v : Word64) : GabSt :=
  if n = 0 then x else { x with r := smSet (fun _ => 0) x.r (x.slot n) v }

/-! ## Levels (R425) -/

/-- The level is at least that of a protection field, in which 3 acts as 2. -/
def levelOk (lvl field : Nat) : Bool := decide (min 2 (field % 4) ≤ lvl)

/-! ## Stores (R420, R448) -/

/-- The ranges of R420. -/
inductive GabRange where
  | code | rom | data | window | none
deriving DecidableEq, Repr

/-- The range that holds an address for gable g. -/
def gabRange (g a : Nat) : GabRange :=
  if a < 0x80000 then .code
  else if 0x100000 ≤ a ∧ a < 0x108000 ∧ g = 0 then .rom
  else if 0x10000000 ≤ a ∧ a < 0x10040000 then .data
  else if 0x40000000 ≤ a ∧ a < 0x44000000 then .window
  else .none

def codeDflt (_ : Nat) : CodeWord := {}
def dataDflt (_ : Nat) : DataWord := {}

def codeKey (g a : Nat) : Nat := g * 2 ^ 17 + a / 4
def dataKey (g a : Nat) : Nat := g * 2 ^ 15 + (a % 0x40000) / 8

def State.codeWord (s : State) (g a : Nat) : CodeWord := smGet codeDflt s.gcode (codeKey g a)
def State.dataWord (s : State) (g a : Nat) : DataWord := smGet dataDflt s.gdata (dataKey g a)
def State.setCode (s : State) (g a : Nat) (w : CodeWord) : State := { s with gcode := smSet codeDflt s.gcode (codeKey g a) w }
def State.setData (s : State) (g a : Nat) (w : DataWord) : State := { s with gdata := smSet dataDflt s.gdata (dataKey g a) w }

def State.setGu (s : State) (g : Nat) (f : GabMicro → GabMicro) : State := s.setGab g { s.gable g with u := f (s.gable g).u }

/-- R448, R454: a corrected read is counted, and shows in condition 45. -/
def State.gabCe (s : State) (g : Nat) : State :=
  ((s.setGu g fun u => { u with corr := true }).inc (pgGAB g) GAB_CE_CNT_COUNT).raise (pgGAB g) 5

/-- R448: an uncorrectable read is recorded. -/
def State.gabUe (s : State) (g : Nat) (data : Bool) (off : Nat) : State :=
  let pg := pgGAB g
  let s1 := if s.bit pg GAB_UE_VALID then s
    else ((s.wf pg GAB_UE_VALID 1).wf pg GAB_UE_DATA (bnat data)).wf pg GAB_UE_OFFSET off
  s1.raise pg 6

/-- What strikes a store word joins what it holds: two upsets make it uncorrectable. -/
def errJoin : StErr → StErr → StErr
  | e, .clean => e
  | .clean, e => e
  | _, _ => .multi

/-- R448: read a code word that `up` strikes; none if it is uncorrectable. A corrected word is written back. -/
def State.codeRead (s : State) (g a : Nat) (up : StErr) : State × Option Word32 :=
  let w := s.codeWord g a
  match errJoin w.err up with
  | .clean => (s, some w.data)
  | .single => ((s.setCode g a { data := w.data }).gabCe g, some w.data)
  | e => ((s.setCode g a { data := w.data, err := e }).gabUe g false (a % 0x80000), none)

/-- R448: read a data word. -/
def State.dataRead (s : State) (g a : Nat) (up : StErr) : State × Option Word64 :=
  let w := s.dataWord g a
  match errJoin w.err up with
  | .clean => (s, some w.data)
  | .single => ((s.setData g a { data := w.data }).gabCe g, some w.data)
  | e => ((s.setData g a { data := w.data, err := e }).gabUe g true (a % 0x40000), none)

/-- Bits of a 64-bit word replaced from a byte offset. -/
def mergeWord (old : Nat) (byte n v : Nat) : Nat :=
  old % 2 ^ (8 * byte) + v % 2 ^ (8 * n) * 2 ^ (8 * byte) + old / 2 ^ (8 * (byte + n)) * 2 ^ (8 * (byte + n))

/-- Write n bytes of the data store within one word. A whole word gets fresh check bits; a part of a word that is uncorrectable leaves it so. -/
def State.dataWrite (s : State) (g a n v : Nat) : State :=
  let w := s.dataWord g a
  let d := BitVec.ofNat 64 (mergeWord w.data.toNat (a % 8) n v)
  s.setData g a { data := d, err := if n = 8 ∨ w.err = .single then .clean else w.err }

/-! ## The GAB page's view (R458) -/

def GabSt.stat (x : GabSt) : Nat :=
  2 ^ 31 * bnat x.halted + 2 ^ 30 * bnat x.stopped + 2 ^ 29 * bnat x.wfi + 2 ^ 28 * bnat x.dbl + 16 * x.lvl + 8 * bnat x.bank

/-- R447: a gable halts for a cause of GAB_HALT.WHY. -/
def State.gabHalt (s : State) (g why cause : Nat) : State :=
  let pg := pgGAB g
  let s1 := if s.bit pg GAB_HALT_VALID then s
    else ((s.wf pg GAB_HALT_VALID 1).wf pg GAB_HALT_WHY why).wf pg GAB_HALT_CAUSE cause
  (s1.setGab g { s1.gable g with halted := true, wfi := false, fence := false }).raise pg 0

end Sys2Proof.Machine
end

