-- ==== Sys2Proof/Machine/Boot.lean ====
section
/-! DEFINITION. The boot ROM: image checks, start of an image, recovery (R556 to R562, R571, R576). -/

namespace Sys2Proof.Machine

/-! ## The boot status word (R571) -/

def State.bootStatus (s : State) (phase image bundle code : Nat) : State :=
  s.wf pgGLB GLB_SCRATCH_DATA (phase * 2 ^ 28 + image * 2 ^ 24 + bundle * 2 ^ 20 + code) 0

/-- Record a code: CODE of the status word, and a log entry of SOURCE 1. -/
def State.bootCode (s : State) (code : Nat) : State :=
  let w := s.rf pgGLB GLB_SCRATCH_DATA 0
  (s.wf pgGLB GLB_SCRATCH_DATA (w / 65536 * 65536 + code % 65536) 0).logAppend 1 (code % 65536)

/-! ## Images (R558, R562) -/

/-- First byte of an image's partition. -/
def imgBase (i : Nat) : Nat := i * 0x800000

/-- A header field of image i. -/
def State.bootImg (s : State) (i off n : Nat) : Nat := s.flashNat (imgBase i + off) n

/-- R561: the header makes a candidate. -/
def State.imgCandidate (s : State) (i : Nat) : Bool := s.bootImg i 0 4 == 0x0440B007 && s.bootImg i 4 2 == 1

/-- R561: candidates in order. -/
def State.imgOrder (s : State) : List Nat :=
  let ab := if s.fls.bootPref = 1 then [0, 1]
    else if s.fls.bootPref = 2 then [1, 0]
    else if s.bootImg 0 8 8 < s.bootImg 1 8 8 then [1, 0] else [0, 1]
  ab.filter s.imgCandidate

/-- Bytes of the header that R558 lists. -/
def imgListed (o : Nat) : Bool :=
  decide (o < 7) || (decide (8 ≤ o) && decide (o < 0x11)) || (decide (0x18 ≤ o) && decide (o < 0x30))
    || (decide (0x40 ≤ o) && decide (o < 0xA1)) || (decide (0x100 ≤ o) && decide (o < 0x160))

/-- R562, IMG_HDR: lengths and entries in range, and every other byte 0. -/
def State.imgHdrOk (s : State) (i : Nat) : Bool :=
  let c0 := s.bootImg i 0x18 4
  let d0 := s.bootImg i 0x1C 4
  let c1 := s.bootImg i 0x20 4
  let d1 := s.bootImg i 0x24 4
  let e0 := s.bootImg i 0x28 4
  let e1 := s.bootImg i 0x2C 4
  let code := fun c => c % 4 == 0 && decide (4 ≤ c) && decide (c ≤ 524288)
  code c0 && code c1 && d0 % 8 == 0 && decide (d0 ≤ 245760) && d1 % 8 == 0 && decide (d1 ≤ 262144)
    && decide (e0 < c0) && e0 % 4 == 0 && decide (e1 < c1) && e1 % 4 == 0
    && (List.range 4096).all fun o => imgListed o || s.flashByte (imgBase i + o) == 0

/-- The key hash words as bytes (R524): the least significant byte of each word first. -/
def State.hashBytes (s : State) (f : Fld) : List Byte := (List.range 12).flatMap fun k => leBytes 4 (s.rf pgFLS f k)

/-- The bytes of an image's body. -/
def State.imgBodyLen (s : State) (i : Nat) : Nat := s.bootImg i 0x18 4 + s.bootImg i 0x1C 4 + s.bootImg i 0x20 4 + s.bootImg i 0x24 4

/-- R562: the first failing check; 0 none. -/
def State.imgCheck (s : State) (i : Nat) : Nat :=
  let b := imgBase i
  let key := s.flashBytes (b + 0x40) 97
  if !s.imgHdrOk i then 0x101
  else if sha384 key ≠ s.hashBytes FLS_VHASH_HASH then 0x102
  else if !ecdsaOk key (sha384 (s.flashBytes b 0x100 ++ s.flashBytes (b + 0x1000) (s.imgBodyLen i)))
      (s.flashBytes (b + 0x100) 96) then 0x103
  else if s.bootImg i 0x10 1 < s.rf pgFLS FLS_RB_VALUE 0 then 0x104
  else 0

/-- Fill a code store from flash; what the section does not reach is 0. -/
def State.fillCode (s : State) (g a len : Nat) : State :=
  let es := (List.range (len / 4)).map fun k => (codeKey g (4 * k), ({ data := BitVec.ofNat 32 (s.flashNat (a + 4 * k) 4) } : CodeWord))
  { s with gcode := smSetMany codeDflt (smDrop (fun x => x / 2 ^ 17 == g) s.gcode) es }

/-- Fill a data store from flash. -/
def State.fillData (s : State) (g a len : Nat) : State :=
  let es := (List.range (len / 8)).map fun k => (dataKey g (8 * k), ({ data := BitVec.ofNat 64 (s.flashNat (a + 8 * k) 8) } : DataWord))
  { s with gdata := smSetMany dataDflt (smDrop (fun x => x / 2 ^ 15 == g) s.gdata) es }

/-- R559, R562: the copy of a candidate into the stores of both gables. [DEDUCED, assumption log 37] -/
def State.imgCopy (s : State) (i : Nat) : State :=
  let b := imgBase i + 0x1000
  let c0 := s.bootImg i 0x18 4
  let d0 := s.bootImg i 0x1C 4
  let c1 := s.bootImg i 0x20 4
  (((s.fillCode 0 b c0).fillData 0 (b + c0) d0).fillCode 1 (b + c0 + d0) c1).fillData 1 (b + c0 + d0 + c1) (s.bootImg i 0x24 4)

/-- R560, B4: check the candidates in turn; a header that fails its check is not copied. The one that passes comes back. [DEDUCED, assumption log 37] -/
def State.tryImages (s : State) : List Nat → State × Option Nat
  | [] => (s, none)
  | i :: r =>
    let c := s.imgCheck i
    let s1 := if c = 0x101 then s else s.imgCopy i
    if c = 0 then (s1, some i) else (s1.bootCode c).tryImages r

/-! ## Start and recovery -/

/-- What the run of the boot ROM leaves in the counters of gable 0 is open: free values. -/
def State.bootCount (s : State) : State :=
  let (a, s1) := s.fresh
  let (b, s2) := s1.fresh
  let (c, s3) := s2.fresh
  let x := s3.gable 0
  s3.setGab 0 { x with cycle := a % 2 ^ 64, instret := b % 2 ^ 64, wdFrom := x.wdLoad, wdCyc := c % (x.wdLoad * 1024) }

/-- B6: the start of an image. [DEDUCED, assumption log 37] -/
def State.bootStart (s : State) (i : Nat) : State :=
  let s1 := s.wf pgGLB GLB_SCRATCH_DATA (0x20F00000 + i * 2 ^ 24 + s.rf pgGLB GLB_SCRATCH_DATA 0 % 65536) 0
  let s2 := s1.bootCount
  let x := s2.gable 0
  let y : GabSt := { x with r := [], ss := [], spilled := 0, pc := BitVec.ofNat 64 (s.bootImg i 0x28 4), lvl := 2, ie := false }
  s2.setGab 0 ((y.wr 1 (BitVec.ofNat 64 i)).wr 2 (BitVec.ofNat 64 (s2.rf pgGLB GLB_SCRATCH_DATA 0)))

/-- R576: recovery, with the eave enabled for the PF alone. Where in the boot ROM gable 0 then runs is open. -/
def State.recover (s : State) : State :=
  let code := s.rf pgGLB GLB_SCRATCH_DATA 0 % 65536
  let s1 := (((s.bootStatus 0xF 0xF 0xF code).bootCount).wf pgEAV PG_CTRL_EN 1).wf pgEAV PG_STAT_READY 1
  let (v, s2) := s1.fresh
  let s3 := s2.setGab 0 { s2.gable 0 with pc := BitVec.ofNat 64 (0x100000 + 4 * (v % 8192)) }
  { s3 with sfc := { s3.sfc with recovery := true, stage := none }, eav := { s3.eav with vfs := 0 } }

/-- BOOT_ROM: steps B1 to B6 (R560). -/
def State.bootRom (s : State) : State :=
  let s0 := { s with sfc := { s.sfc with recovery := false, stage := none } }
  let s1 := (s0.bootStatus 1 0xF 0xF 0).wf pgFLS FLS_LOCK_REGION (s0.rf pgFLS FLS_LOCK_REGION ||| 0x63)
  if !s1.bit pgFLS FLS_SEC_VKEY then (s1.bootCode (Config.noVkeyCode % 65536)).recover
  else
    match s1.tryImages s1.imgOrder with
    | (s2, some i) => s2.bootStart i
    | (s2, none) => s2.recover

/-! ## Recovery commands (R576) -/

def State.recCmd (s : State) : Nat := bits (s.rf pgGLB GLB_SCRATCH_DATA 1) 31 28
def State.recAddr (s : State) : Nat := bits (s.rf pgGLB GLB_SCRATCH_DATA 1) 25 0

/-- The result goes into CODE, and the command word is cleared. A refusal is logged like every code that the boot ROM records. [DEDUCED, assumption log 38] -/
def State.recEnd (s : State) (code : Nat) : State :=
  let w := s.rf pgGLB GLB_SCRATCH_DATA 0
  let s1 := if code = 0 then s.wf pgGLB GLB_SCRATCH_DATA (w / 65536 * 65536) 0 else s.bootCode code
  s1.wf pgGLB GLB_SCRATCH_DATA 0 1

/-- RECOVERY_ERASE: `fail` says that the flash command failed. -/
def execRecoveryErase (fail : Bool) (s : State) : Host.Outcome State Fault Refusal :=
  let a := s.recAddr
  done s (if !s.sfc.recovery || s.recCmd != 1 then s
    else if 0x2000000 ≤ a then s.recEnd 0x501
    else if fail then (s.flashOpen (a / 65536 * 65536) 65536).recEnd 0x502
    else (s.flashErase a).recEnd 0)

/-- The bytes of the page being staged, in front of an offset; a gap is left unprogrammed. [DEDUCED, assumption log 38] -/
def stageTo (st : Option (Nat × List Byte)) (page off : Nat) : Option (List Byte) :=
  match st with
  | some (p, bs) => if p = page then (if bs.length ≤ off then some (bs ++ List.replicate (off - bs.length) 0xFF) else none)
    else some (List.replicate off 0xFF)
  | none => some (List.replicate off 0xFF)

/-- RECOVERY_WRITE: stage 8 bytes, and program the page with its last 8. A WRITE to another page drops what was staged. -/
def execRecoveryWrite (fail : Bool) (s : State) : Host.Outcome State Fault Refusal :=
  let a := s.recAddr
  let page := a / 256 * 256
  done s (if !s.sfc.recovery || s.recCmd != 2 then s
    else if 0x2000000 ≤ a ∨ a % 8 ≠ 0 then s.recEnd 0x501
    else
      match stageTo s.sfc.stage page (a % 256) with
      | none => s.recEnd 0x501
      | some bs0 =>
        let bs := bs0 ++ leBytes 4 (s.rf pgGLB GLB_SCRATCH_DATA 2) ++ leBytes 4 (s.rf pgGLB GLB_SCRATCH_DATA 3)
        if bs.length < 256 then { s with sfc := { s.sfc with stage := some (page, bs) } }.recEnd 0
        else
          let s1 := { s with sfc := { s.sfc with stage := none } }
          if fail then (s1.flashOpen page 256).recEnd 0x502 else (s1.flashProg page bs).recEnd 0)

/-- RESTART: back to B1. -/
def execRestart (s : State) : Host.Outcome State Fault Refusal :=
  done s (if !s.sfc.recovery || s.recCmd != 3 then s else (s.recEnd 0).bootRom)

end Sys2Proof.Machine
end

