-- ==== Sys2Proof/Machine/Lamps.lean ====
section
/-! DEFINITION. The fascia lamps and the connection monitor (R637 to R645, R652 to R664). -/

namespace Sys2Proof.Machine

/-! ## Levels (R655, R656, R663) -/

/-- R655: the hardware gamma curve, floor(4095 (v/255)^2.2 + 1/2): the largest g with ((2g - 1) / 8190)^5 at most (v/255)^11. [DEDUCED, assumption log 47] -/
def gamma (v : Nat) : Nat := ((List.range 4096).filter fun g => decide ((2 * g - 1) ^ 5 * 255 ^ 11 ≤ 8190 ^ 5 * v ^ 11)).length - 1

/-- The linear curve. -/
def linear (v : Nat) : Nat := v * 16 + v / 16

def peDflt (_ : Nat) : PeSt := {}
def State.pe (s : State) (e : Nat) : PeSt := smGet peDflt s.fsc.pe e
def State.setPe (s : State) (e : Nat) (x : PeSt) : State := { s with fsc := { s.fsc with pe := smSet peDflt s.fsc.pe e x } }

/-- What a pattern engine runs: mode, direction, increment, HI, LO, mask. -/
structure PePat where
  mode : Nat
  dir : Bool
  inc : Nat
  hi : Nat
  lo : Nat
  mask : Nat
deriving DecidableEq, Repr

/-- R663: the pattern of the STATUS string while AUTO = 1; none where it is static. -/
def State.autoPat (s : State) : Option PePat :=
  if s.bit pgGLB GLB_STATE_FAILED then some { mode := 3, dir := false, inc := 0, hi := 255, lo := 0, mask := 0xFF }
  else if s.tray = tRISING ∨ s.tray = tFALLING then some { mode := 2, dir := false, inc := 0, hi := 128, lo := 0, mask := 0xFF }
  else if s.tray = tIDLE then some { mode := 1, dir := false, inc := 8, hi := 96, lo := 8, mask := 0xFF }
  else none

/-- The pattern of engine e; engine 4 is that of R663. -/
def State.pePat (s : State) (e : Nat) : Option PePat :=
  if e = 4 then s.autoPat
  else
    let f := fun (x : Fld) => s.rf pgFSC x e
    let mask := f FSC_PE_MASK_MASK % (if e < 2 then 256 else 16)
    some ⟨f FSC_PE_CTL_MODE, f FSC_PE_CTL_DIR != 0, f FSC_PE_LVL_INC, f FSC_PE_LVL_HI, f FSC_PE_LVL_LO, mask⟩

/-- Lamps of a mask in the order of a chase. -/
def chaseOrder (p : PePat) : List Nat :=
  let up := (List.range 8).filter fun k => p.mask.testBit k
  if p.dir then up.reverse else up

/-- R658: step 0. -/
def PePat.first (p : PePat) : PeSt :=
  { level := if p.mode = 2 ∨ p.mode = 3 then p.hi else p.lo, pos := (chaseOrder p).headD 0 }

/-- The lamp after position k in a chase. -/
def chaseNext (p : PePat) (k : Nat) : Nat :=
  let ls := chaseOrder p
  let later := ls.filter fun x => if p.dir then decide (x < k) else decide (k < x)
  (later ++ ls).headD k

/-- R657: the next step. [DEDUCED, assumption log 47] -/
def PePat.next (p : PePat) (x : PeSt) : PeSt :=
  match p.mode with
  | 0 => { x with level := p.lo }
  | 1 =>
    if x.falling then
      let l := max p.lo (x.level - p.inc)
      { x with level := l, falling := l != p.lo }
    else
      let l := min p.hi (x.level + p.inc)
      { x with level := l, falling := l == p.hi }
  | 2 => { x with level := p.hi, pos := chaseNext p x.pos }
  | _ => { x with level := if x.odd then p.hi else p.lo, odd := !x.odd }

/-- The level that an engine gives lamp k. -/
def PePat.lampLevel (p : PePat) (x : PeSt) (k : Nat) : Nat :=
  if p.mode = 2 then (if k = x.pos ∧ p.mask.testBit k then p.hi else p.lo) else x.level

/-- R656, R663: the level of lamp k of the STATUS string (k from 0). -/
def State.statusLevel (s : State) (k : Nat) : Nat :=
  let eng := fun e => match s.pePat e with
    | some p => p.lampLevel (s.pe e) k
    | none => if s.tray = tRUN then 64 else if s.tray = tSTANDBY ∧ k = 0 then 32 else 0
  if s.bit pgFSC FSC_CFG_AUTO then eng 4
  else match s.rf pgFSC FSC_S_SRC k with
    | 0 => s.rf pgFSC FSC_S_LEVEL k
    | 1 => eng 0
    | 2 => eng 1
    | _ => 0

/-- R656: the level that the four lamps of the LOCATOR string share. -/
def State.locLevel (s : State) : Nat :=
  match s.rf pgFSC FSC_L_SRC with
  | 0 => s.rf pgFSC FSC_L_LEVEL
  | 1 => (s.pe 2).level
  | 2 => (s.pe 3).level
  | _ => 0

/-- R645, R654, R664: the sinks carry their currents. -/
def State.sinks (s : State) : Bool := s.fsc.supply && s.bit pgFSC PG_CTRL_EN && !s.fsc.due

/-- R655: counts of a PWM period for which a lamp of a level is lit. -/
def State.counts (s : State) (v : Nat) : Nat := if s.bit pgFSC FSC_CFG_GAMMA_OFF then linear v else gamma v

/-- Counts of a period for which STATUS lamp k is lit: not if shorted, bypassed, or without sink current (R660). -/
def State.statusLit (s : State) (k : Nat) : Nat :=
  if s.sinks && !s.fsc.sOff && !bitOf (s.rf pgFSC FSC_BYP_LATCH) k && s.rf pgFSC FSC_FAULT_STAT k != 2 then s.counts (s.statusLevel k) else 0

/-- Counts of a period for which the LOCATOR lamps are lit (R656, R661). -/
def State.locLit (s : State) : Nat := if s.sinks && !s.bit pgFSC FSC_FAULT_LOC_DEAD then s.counts s.locLevel else 0

/-! ## Pattern engines (R657, R658, R664) -/

/-- FSC_PEe_POS shows the engine. -/
def State.showPe (s : State) (e : Nat) (x : PeSt) : State :=
  if e < 4 then ((s.setPe e x).wf pgFSC FSC_PE_POS_LEVEL x.level e).wf pgFSC FSC_PE_POS_P x.pos e else s.setPe e x

/-- PATTERN_STEP: engines 0 to 3, or the pattern of R663. FREEZE holds them at a step boundary. -/
def execPatternStep (e : Fin 5) (s : State) : Host.Outcome State Fault Refusal :=
  done s (if s.tray ≤ tDORMANT ∨ s.bit pgFSC PG_CTRL_FREEZE then s
    else match s.pePat e with
      | some p => s.showPe e (p.next (s.pe e))
      | none => s)

/-- R663: a write that AUTO refuses. -/
def State.autoBad (s : State) (off : Nat) : Bool :=
  s.bit pgFSC FSC_CFG_AUTO && ((decide (0x50 ≤ off) && decide (off < 0x70)) || (decide (0x80 ≤ off) && decide (off < 0xA0)))

/-- A write of FSC_PEe_CTL by a writer. -/
def State.peWrite (s : State) (src : Src) (e : Nat) (v : Word32) : State :=
  let off := 0x80 + 0x10 * e
  let key := pgFSC + off
  if bits v.toNat 15 8 = 0 ∨ (2 ≤ e ∧ bits v.toNat 1 0 = 2) then s.accErr src key eRANGE
  else if s.autoBad off then s.accErr src key eSTATE
  else
    let s1 := s.writeFields pgFSC .fsc 0 off v
    match s1.pePat e with
    | some p => s1.showPe e p.first
    | none => s1

/-- PATTERN_RESTART. -/
def execPatternRestart (src : Src) (e : Fin 4) (v : Word32) (s : State) : Host.Outcome State Fault Refusal :=
  done s (s.ifWriter src (pgFSC + 0x80 + 0x10 * e) fun s => s.peWrite src e v)

/-! ## Lamp tests (R659 to R662) -/

/-- A test starts, unless one runs; the supplies must be applied and EN = 1. [DEDUCED, assumption log 47] -/
def State.testStart (s : State) : State :=
  if s.fsc.supply && s.bit pgFSC PG_CTRL_EN && !s.bit pgFSC FSC_TEST_STAT_RUN then
    { s with fsc := { s.fsc with regDue := false } }.wf pgFSC FSC_TEST_STAT_RUN 1
  else s

/-- LAMP_TEST: on a write of FSC_TEST.GO by a source, or by the tray itself: periodically, or after a loss of regulation. -/
def execLampTest (why : Option Src) (s : State) : Host.Outcome State Fault Refusal :=
  done s (match why with
    | some src => s.ifWriter src (pgFSC + 0xD0) State.testStart
    | none => s.testStart)

/-- Result of a STATUS lamp (0 OK, 1 OPEN, 2 SHORT): an entry changes on a fault that differs from it, and OPEN latches the bypass. [DEDUCED, assumption log 47] -/
def State.statResult (s : State) (k r : Nat) : State :=
  if bitOf (s.rf pgFSC FSC_BYP_LATCH) k ∨ (r ≠ 1 ∧ r ≠ 2) ∨ s.rf pgFSC FSC_FAULT_STAT k = r then s
  else
    let s1 := (s.wf pgFSC FSC_FAULT_STAT r k).raise pgFSC (r - 1)
    if r = 1 then s1.wf pgFSC FSC_BYP_LATCH (s1.rf pgFSC FSC_BYP_LATCH ||| 2 ^ k) else s1

/-- Result of a LOCATOR lamp. [DEDUCED, assumption log 47] -/
def State.locResult (s : State) (k r : Nat) : State :=
  if (r ≠ 1 ∧ r ≠ 2) ∨ s.rf pgFSC FSC_FAULT_LOC k = r then s
  else (s.wf pgFSC FSC_FAULT_LOC r k).raise pgFSC (r - 1)

/-- Results of the cross pulses. -/
def State.crossResult (s : State) (f : Fld) (short : Bool) : State :=
  if short && !s.bit pgFSC f then (s.wf pgFSC f 1).raise pgFSC 2 else s

/-- R661: any fault of the LOCATOR string switches it off as a whole. A dead string is not tested. -/
def State.locTest (s : State) (loc : BitVec 8) (short : Bool) : State :=
  if s.bit pgFSC FSC_FAULT_LOC_DEAD then s
  else
    let r := fun k => bits loc.toNat (2 * k + 1) (2 * k)
    let s1 := ((List.range 4).foldl (fun s k => s.locResult k (r k)) s).crossResult FSC_FAULT_NSHORT_L short
    if short || (List.range 4).any fun k => r k == 1 || r k == 2 then (s1.wf pgFSC FSC_FAULT_LOC_DEAD 1).raise pgFSC 3 else s1

/-- TEST_DONE: `stat` and `loc` hold the lamps' results by pairs of bits, 0 OK, 1 OPEN, 2 SHORT; the others say which string has NSHORT. -/
def execTestDone (stat : BitVec 16) (loc : BitVec 8) (nsS nsL : Bool) (s : State) : Host.Outcome State Fault Refusal :=
  done s (if !s.bit pgFSC FSC_TEST_STAT_RUN then s
    else
      let s1 := (List.range 8).foldl (fun s k => s.statResult k (bits stat.toNat (2 * k + 1) (2 * k))) s
      let s2 := (s1.crossResult FSC_FAULT_NSHORT_S nsS).locTest loc nsL
      let s3 := { s2 with fsc := { s2.fsc with sOff := nsS, due := false } }
      ((((s3.wf pgFSC FSC_TEST_STAT_RUN 0).inc pgFSC FSC_TEST_STAT_COUNT).wf pgFSC FSC_REG_S_OUT 0).wf pgFSC FSC_REG_L_OUT 0).raise
        pgFSC 4)

/-- REGULATION: a sink leaves regulation while it carries current; a test is due if its string has any lamp lit. -/
def execRegulation (loc : Bool) (s : State) : Host.Outcome State Fault Refusal :=
  let lit := if loc then s.locLit != 0 else (List.range 8).any fun k => s.statusLit k != 0
  done s (if !s.sinks then s
    else ({ s with fsc := { s.fsc with regDue := s.fsc.regDue || lit } }.wf pgFSC (if loc then FSC_REG_L_OUT else FSC_REG_S_OUT) 1).raise pgFSC 5)

/-! ## The connection monitor (R630, R637 to R645, R653) -/

/-- The monitor, the link logic and the test port watch their connectors from STANDBY onwards. -/
def State.watched (s : State) : Bool := decide (tSTANDBY ≤ s.tray)

/-- The field of an event has had its first reading since the reset. An output that is switched on has read DISABLED before (R653's example). [DEDUCED, assumption log 122] -/
def State.connRead (s : State) (b : Nat) : State := { s with fsc := { s.fsc with seen := smSet (fun _ => false) s.fsc.seen b true } }

/-- A reading of a field; the first one after a reset raises no event. -/
def State.conn (s : State) (f : Fld) (b v : Nat) : State :=
  if smGet (fun _ => false) s.fsc.seen b then s.connSet f b v else (s.wf pgFSC f v).connRead b

/-- J4_IN: a new state of the input pair has held for 16 samples. -/
def execJ4In (st : Fin 4) (s : State) : Host.Outcome State Fault Refusal :=
  done s (if s.watched then s.conn FSC_CONN_J4_IN 16 st else s)

/-- J4_OUT: the output monitor classifies the pair while it is enabled. -/
def execJ4Out (st : Fin 3) (s : State) : Host.Outcome State Fault Refusal :=
  done s (if s.watched && s.bit pgCRS CRS_SRC_SYNC_OUT_EN then s.conn FSC_CONN_J4_OUT 18 st else s)

/-- R644: the ribbon's class, by readings in units of 100 Ω. -/
def ribbon (a b : Nat) : Nat :=
  let k10 := fun x => decide (90 ≤ x) && decide (x ≤ 110)
  let k47 := fun x => decide (423 ≤ x) && decide (x ≤ 517)
  if k10 a && k47 b then 0
  else if 4000 < a ∧ 4000 < b then 1
  else if k47 a && k10 b then 2
  else if a < 10 ∨ b < 10 then 3
  else 4

/-- R645: the supplies are removed; a test in progress ends without a result. -/
def State.supplyOff (s : State) : State :=
  if s.fsc.supply then
    ({ s with fsc := { s.fsc with supply := false, regDue := false } }.wf pgFSC FSC_TEST_STAT_RUN 0).raise pgFSC 6
  else s

/-- J5: the ribbon identity is read. -/
def execJ5 (idA idB : Fin 4096) (s : State) : Host.Outcome State Fault Refusal :=
  let st := ribbon idA idB
  done s (if !s.watched then s
    else
      let s1 := ((s.wf pgFSC FSC_J5_ID_ID_A idA).wf pgFSC FSC_J5_ID_ID_B idB).conn FSC_CONN_J5 19 st
      if st = 0 then s1 else s1.supplyOff)

/-- SUPPLY_RETURN: 10 ms after J5 reads OK, the supplies return, and a test runs first. -/
def execSupplyReturn (s : State) : Host.Outcome State Fault Refusal :=
  done s (if !s.watched || s.fsc.supply || s.rf pgFSC FSC_CONN_J5 != 0 then s
    else ({ s with fsc := { s.fsc with supply := true, due := true } }.raise pgFSC 6).testStart)

/-- R664: EN = 1 applies the sinks after a test. -/
def State.fscStart (s : State) : State := { s with fsc := { s.fsc with due := true } }.testStart

end Sys2Proof.Machine
end

