-- ==== Sys2Proof/Machine/Conn.lean ====
section
/-! DEFINITION. The optical cage and the test access port (R637, R648 to R652). -/

namespace Sys2Proof.Machine

/-! ## The optical cage (R637) -/

/-- Without its plug, or its module, the east segment carries no light, and the link is lost. -/
def State.dark (s : State) : State := { s with btx := { s.btx with light := false } }.linkLost

/-- J3_PLUG: the module is or is not seated, and a plug in it. -/
def execJ3Plug (module plug : Bool) (s : State) : Host.Outcome State Fault Refusal :=
  let p := module && plug
  done s (if !s.watched then s
    else
      let s1 := (s.conn FSC_CONN_J3_MOD 20 (bnat module)).conn FSC_CONN_J3_PLUG 21 (bnat p)
      if p then s1 else s1.dark)

/-- LASER_ENABLE: 1 ms after the plug was seated. -/
def execLaserEnable (s : State) : Host.Outcome State Fault Refusal :=
  done s (if s.watched && s.bit pgFSC FSC_CONN_J3_MOD && s.bit pgFSC FSC_CONN_J3_PLUG then
      { s with btx := { s.btx with light := true } }
    else s)

/-! ## The sideband (R634) -/

/-- ALERT# of J2 is driven low. -/
def State.alert (s : State) : Bool := s.watched && s.bit pgGLB GLB_STATE_FAILED

/-! ## The test access port (R648) -/

/-- The debug lock level. -/
def State.dbgLevel (s : State) : Nat := s.rf pgFLS FLS_SEC_DBG

/-- What shifting `data` through a 1-bit register that captured 0 brings out. -/
def bypassOut (data : List Bool) : List Bool := (false :: data).take data.length

/-- An instruction that selects the bypass register, with the pins as it leaves them. -/
def State.tapBypass (s : State) (ir : Nat) (pins : Pins) (data : List Bool) : State :=
  { s with tap := { s.tap with ir := ir, pins := pins } }.emit (.scan (bypassOut data))

/-- BYPASS, and every instruction that the debug lock level does not allow. [DEDUCED, assumption log 45] -/
def State.tapForbidden (s : State) (data : List Bool) : State := s.tapBypass 0xFF .normal data

/-- BYPASS. -/
def execBypass (data : List Bool) (s : State) : Host.Outcome State Fault Refusal :=
  done s (if s.watched then s.tapForbidden data else s)

/-- A scan of the boundary register: `cap` is what its cells capture, `data` what is shifted in and then updated. [DEDUCED, assumption log 45] -/
def State.tapScan (s : State) (ir : Nat) (pins : Pins) (cap data : List Bool) : State :=
  { s with tap := { s.tap with ir := ir, pins := pins, bsr := data } }.emit (.scan cap)

/-- EXTEST: the pins are driven from the boundary register. -/
def execExtest (cap data : List Bool) (s : State) : Host.Outcome State Fault Refusal :=
  done s (if !s.watched then s
    else if 2 < s.dbgLevel then s.tapForbidden data
    else s.tapScan 0x00 .scan cap data)

/-- SAMPLE/PRELOAD: the pins stay with the tray. -/
def execSamplePreload (cap data : List Bool) (s : State) : Host.Outcome State Fault Refusal :=
  done s (if !s.watched then s
    else if 2 < s.dbgLevel then s.tapForbidden data
    else s.tapScan 0x02 .normal cap data)

/-- CLAMP: the pins hold what the boundary register was loaded with. -/
def execClamp (data : List Bool) (s : State) : Host.Outcome State Fault Refusal :=
  done s (if !s.watched then s
    else if 2 < s.dbgLevel then s.tapForbidden data
    else s.tapBypass 0x03 .scan data)

/-- HIGHZ: the pins are not driven. -/
def execHighz (data : List Bool) (s : State) : Host.Outcome State Fault Refusal :=
  done s (if !s.watched then s
    else if 2 < s.dbgLevel then s.tapForbidden data
    else s.tapBypass 0x04 .highZ data)

/-- The identity: REV_MAJ of GLB_ID, 0x0440, the manufacturer code 0x4D3, and 1. -/
def idcode : Nat := Config.revision / 16 % 16 * 2 ^ 28 + 0x0440 * 2 ^ 12 + 0x4D3 * 2 + 1

/-- IDCODE: its 32 bits come out, the lowest first. -/
def execIdcode (s : State) : Host.Outcome State Fault Refusal :=
  done s (if s.watched then
      { s with tap := { s.tap with ir := 0x01, pins := .normal } }.emit (.scan ((List.range 32).map fun i => idcode.testBit i))
    else s)

/-- J7_SESSION: the port leaves Test-Logic-Reset, or returns to it; there it selects IDCODE and lets go of the pins. -/
def execJ7Session (out : Bool) (s : State) : Host.Outcome State Fault Refusal :=
  done s (if !s.watched then s
    else
      let s1 := s.connSet FSC_CONN_J7_SESSION 23 (bnat out)
      if out then s1 else { s1 with tap := { s1.tap with ir := 0x01, pins := .normal } })

end Sys2Proof.Machine
end

