-- ==== Sys2Proof/Machine/Functions.lean ====
section
/-! DEFINITION. The end of a function-level reset of a VF (R623, R684). -/

namespace Sys2Proof.Machine

/-- R623: the interrupt sources whose target is function v of the host. -/
def State.irqTo (s : State) (v : Nat) : List Nat :=
  (List.range 256).filter fun n => decide (32 ≤ n) && irqExists n && s.rf pgIRQ IRQ_SRC_TARGET n == 2 && s.rf pgIRQ IRQ_SRC_FUNC n == v

/-- Return the pages of VF v to their warm values; domain bindings are kept. -/
def State.vfWarm (s : State) (v : Nat) : State :=
  let lo := s.rf (pgVFC v) VF_DOMAIN_LO_D
  let hi := s.rf (pgVFC v) VF_DOMAIN_HI_D
  let s1 := s.warmPages (fun k i => (k == .vfc || k == .vdb || k == .vmb) && i == v) false
  let s2 := (s1.wf (pgVFC v) VF_DOMAIN_LO_D lo).wf (pgVFC v) VF_DOMAIN_HI_D hi
  { s2 with eav := { s2.eav with flip := smSet (fun _ => false) s2.eav.flip v false } }

/-- R623: what the reset of VF v does once no plan of v runs: its objects are freed, its pages return to their warm values, and its interrupt sources to IDLE. -/
def State.flrEnd (s : State) (v : Nat) : State :=
  let hs := (s.pur.objs.filter fun e => e.2.owner == v && e.2.state != .free).map (·.1)
  let s1 := (hs.foldl State.freeObj s).vfWarm v
  let s2 := (s1.irqTo v).foldl (fun s n => s.irqIdle 0 n) s1
  { s2 with eav := { s2.eav with flr := smErase s2.eav.flr v } }

/-- A plan of function v runs, or is dispatched to the coming course. -/
def State.fnRuns (s : State) (v : Nat) : Bool :=
  ((s.crs.next.bind (·.run)).toList ++ s.crs.run.toList).any fun r => r.plan.fn == v

/-- At a tick, the resets that waited for it end. -/
def State.flrTick (s : State) : State :=
  (s.eav.flr.map (·.1)).foldl (fun s v => if s.fnRuns v then s else s.flrEnd v) s

end Sys2Proof.Machine
end

