-- ==== Sys2Proof/Machine/Stook.lean ====
section
/-! DEFINITION. Stooks: descriptors and their checks, pillars, the three-axis sort, neighbour selection and feature words (R295 to R320). -/

namespace Sys2Proof.Machine

def stkDflt (_ : Nat) : StkSt := {}
def State.stook (s : State) (n : Nat) : StkSt := smGet stkDflt s.stk n
def State.setStook (s : State) (n : Nat) (x : StkSt) : State := { s with stk := smSet stkDflt s.stk n x }

/-! ## Descriptors (R302) -/

/-- A stook descriptor: its 64 bytes by field. -/
structure StkDesc where
  inH : Nat
  inRes : Nat
  first : Nat
  nrec : Nat
  op : Nat
  flags : Nat
  dbat : Nat
  fwin : Nat
  x0 : Int
  y0 : Int
  zmin : Int
  zmax : Int
  nx : Nat
  ny : Nat
  cell : Nat
  mshift : Nat
  pmax : Nat
  radius : Nat
  k : Nat
  qstride : Nat
  win : Nat
  qmax : Nat
  gs : Nat
  zs : Nat
  ts : Nat
  ns : Nat
  ds : Nat
  cwin : Nat
  res : Nat
deriving DecidableEq, Repr

/-- Descriptor k of stook n, from the image. -/
def State.stkDesc (s : State) (r : Run) (n k : Nat) : StkDesc :=
  let o := (r.plan.eng (4 + n)).descOff + 64 * k
  let g := fun a w => leNat (s.runBytes r r.plan.img (o + a) w)
  let i := fun a => sext 32 (g a 4)
  { inH := g 0 3, inRes := g 3 1, first := g 4 4, nrec := g 8 4, op := g 0xC 1, flags := g 0xD 1
    dbat := g 0xE 1, fwin := g 0xF 1, x0 := i 0x10, y0 := i 0x14, zmin := i 0x18, zmax := i 0x1C
    nx := g 0x20 2, ny := g 0x22 2, cell := g 0x24 1, mshift := g 0x25 1, pmax := g 0x26 2, radius := g 0x28 4
    k := g 0x2C 1, qstride := g 0x2D 1, win := g 0x2E 2, qmax := g 0x30 4, gs := g 0x34 1, zs := g 0x35 1
    ts := g 0x36 1, ns := g 0x37 1, ds := g 0x38 1, cwin := g 0x39 1, res := g 0x3A 6 }

def StkDesc.sway (d : StkDesc) : Bool := d.flags.testBit 2
def StkDesc.pcapCode (d : StkDesc) : Nat := d.flags % 4
def StkDesc.pcap (d : StkDesc) : Nat := 16 * 2 ^ d.pcapCode

/-- A field used by the descriptor's OP lies in its range; one that the OP does not use is 0. -/
def fieldOk (used : Bool) (v lo hi : Nat) : Bool := if used then decide (lo ≤ v ∧ v ≤ hi) else v == 0

/-- R304, code RANGE. [DEDUCED, assumption log 71] -/
def StkDesc.rangeBad (d : StkDesc) : Bool :=
  let pil := d.op == 1
  let srt := d.op == 2
  let ball := d.op == 3
  let nb := ball || d.op == 4
  !(d.inRes == 0 && fieldOk true d.nrec 1 262144 && decide (d.flags < 8)
    && fieldOk (pil || nb) d.dbat 0 63 && fieldOk (pil || nb) d.fwin 0 7 && decide (d.zmin ≤ d.zmax)
    && fieldOk true d.nx 1 2048 && fieldOk true d.ny 1 2048 && fieldOk true d.cell 5 160
    && fieldOk (srt || nb) d.mshift 0 11 && fieldOk pil d.pmax 1 16384 && fieldOk ball d.radius 0 (2 ^ 21 - 1)
    && fieldOk nb d.k 1 32 && fieldOk nb d.qstride 1 64 && fieldOk nb d.win 2 64 && fieldOk nb d.qmax 1 65536
    && fieldOk pil d.gs 0 15 && fieldOk (pil || nb) d.zs 0 15 && fieldOk (pil || nb) d.ts 0 15
    && fieldOk nb d.ns 0 15 && fieldOk nb d.ds 0 47 && fieldOk pil d.cwin 0 7 && d.res == 0)

/-- R303: what a BALL or KNN shares with its SORT3. -/
def StkDesc.sortId (d : StkDesc) : List Nat :=
  [d.inH, d.first, d.nrec, trunc 32 d.x0, trunc 32 d.y0, trunc 32 d.zmin, trunc 32 d.zmax, d.nx, d.ny, d.cell, d.mshift]

/-- What the checks of R304 find. -/
inductive StkCheck where
  | ok
  | code (c : Nat)
  | domain
deriving DecidableEq, Repr

/-- R304: the checks in table order. -/
def State.stkCheck (s : State) (r : Run) (n : Nat) (d : StkDesc) : StkCheck :=
  if !s.blockTakes (pgSTK n) then .code 1
  else if r.plan.domain ≠ 0 then .code 2
  else if d.op < 1 ∨ 4 < d.op ∨ d.pcapCode = 3 then .code 3
  else if d.rangeBad then .code 4
  else if s.accessBad r d.inH then .domain
  else if (s.obj d.inH).kind ≠ 0 then .code 5
  else if (s.obj d.inH).size1 + 1 < 16 * (d.first + d.nrec) then .code 6
  else if 3 ≤ d.op ∧ (s.stook n).sort.map (·.1) ≠ some d.sortId then .code 7
  else .ok

/-- R305: a refusal. -/
def State.stkRefuse (s : State) (n k code h : Nat) : State :=
  let pg := pgSTK n
  let s := s.wf pg STK_STAT_STAGE 1
  let s1 := if s.bit pg STK_REFUSE_VALID then s
    else (((s.wf pg STK_REFUSE_VALID 1).wf pg STK_REFUSE_DESC k).wf pg STK_REFUSE_CODE code).wf pg STK_REFUSE_H_HANDLE h
  ((s1.inc pg STK_REFUSE_CNT_COUNT).raise pg 0).haltSpar (68 + n) 12

/-! ## Records (R299 to R301) -/

/-- A point record with its cell. -/
structure PtRec where
  x : Int
  y : Int
  z : Int
  inten : Nat
  ring : Nat
  toff : Nat
  cx : Int
  cy : Int
deriving DecidableEq, Repr

/-- Slot i of a descriptor's input. -/
def State.stkRec (s : State) (r : Run) (d : StkDesc) (i : Nat) : PtRec :=
  let o := 16 * (d.first + i)
  let g := fun a w => leNat (s.runBytes r d.inH (o + a) w)
  let x := sext 32 (g 0 4)
  let y := sext 32 (g 4 4)
  { x := x, y := y, z := sext 32 (g 8 4), inten := g 12 1, ring := g 13 1, toff := g 14 2
    cx := (x - d.x0) / (10 * d.cell : Int), cy := (y - d.y0) / (10 * d.cell : Int) }

def PtRec.void (p : PtRec) : Bool := p.x == -(2 ^ 31 : Int)

/-- R301: out of grid. -/
def PtRec.out (p : PtRec) (d : StkDesc) : Bool :=
  decide (p.cx < 0) || decide ((d.nx : Int) ≤ p.cx) || decide (p.cy < 0) || decide ((d.ny : Int) ≤ p.cy)
    || decide (p.z < d.zmin) || decide (d.zmax < p.z)

/-- An intake's result: valid records in slot order, void slots, and out-of-grid records. -/
def State.stkIntake (s : State) (r : Run) (d : StkDesc) : List PtRec × Nat × Nat :=
  let all := (List.range d.nrec).map (s.stkRec r d)
  let real := all.filter fun p => !p.void
  (real.filter fun p => !p.out d, all.length - real.length, (real.filter fun p => p.out d).length)

/-- The counts and the condition that an intake leaves. -/
def State.stkCount (s : State) (n nv voids outs : Nat) : State :=
  let pg := pgSTK n
  let s1 := ((s.wf pg STK_LAST_VALID_NV nv).inc pg STK_VOID_CNT_COUNT voids).inc pg STK_OUT_CNT_COUNT outs
  s1.setSp (68 + n) { s1.sp (68 + n) with nvZero := nv == 0 }

/-! ## Keys and sorting (R310, R311) -/

/-- Interleave the low w bits of coordinates, `m` to a group: bit b of coordinate j goes to bit m b + j. -/
def morton (w : Nat) (cs : List Nat) : Nat :=
  (List.range w).foldl (fun a b =>
    (List.range cs.length).foldl (fun a j => a + bnat ((cs.getD j 0).testBit b) * 2 ^ (cs.length * b + j)) a) 0

/-- Insert before the first element of a greater or equal key: with elements inserted last to first, the order is stable. -/
def insertKey {α : Type} (key : α → Nat) (a : α) : List α → List α
  | [] => [a]
  | b :: r => if key a ≤ key b then a :: b :: r else b :: insertKey key a r

/-- A stable sort by ascending key. -/
def sortKey {α : Type} (key : α → Nat) (l : List α) : List α := l.foldr (insertKey key) []

/-- Gather a sorted list into runs of equal keys. -/
def runsOf {α : Type} (key : α → Nat) : List α → List (List α)
  | [] => []
  | a :: r =>
    match runsOf key r with
    | (b :: g) :: gs => if key a = key b then (a :: b :: g) :: gs else [a] :: (b :: g) :: gs
    | gs => [a] :: gs

def PtRec.cellKey (p : PtRec) : Nat := morton 11 [p.cx.toNat, p.cy.toNat]

/-! ## Features (R315) -/

/-- q8. -/
def q8 (v : Int) (sh : Nat) : Int :=
  let w := if 0 < sh then v + 2 ^ (sh - 1) else v
  min (max (w / (2 ^ sh : Int)) (-128)) 127

/-- Nine INT8 features in one word. -/
def featWord (fs : List Int) : BitVec 72 := packWord 8 (fs.map (trunc 8))

/-- The mean of one axis: floor((2 sum + c) / (2 c)). -/
def meanOf (vs : List Int) : Int := (2 * vs.foldl (· + ·) 0 + vs.length) / (2 * vs.length : Int)

/-- R307: the records a pillar keeps. -/
def keepRecs (cap : Nat) (rs : List PtRec) : List PtRec :=
  if rs.length ≤ cap then rs
  else (List.range cap).filterMap fun j => rs[j * rs.length / cap]?

/-- The feature words of one pillar's kept records. -/
def pillarWords (d : StkDesc) (ks : List PtRec) : List (BitVec 72) :=
  let mx := meanOf (ks.map (·.x))
  let my := meanOf (ks.map (·.y))
  let mz := meanOf (ks.map (·.z))
  let zc := (d.zmin + d.zmax) / 2
  ks.map fun p =>
    let xc := d.x0 + 10 * d.cell * p.cx + 5 * d.cell
    let yc := d.y0 + 10 * d.cell * p.cy + 5 * d.cell
    featWord [q8 (p.x - xc) d.gs, q8 (p.y - yc) d.gs, q8 (p.z - zc) d.zs, (p.inten : Int) - 128, q8 (p.x - mx) d.gs,
      q8 (p.y - my) d.gs, q8 (p.z - mz) d.gs, (p.ring : Int) - 128, q8 ((p.toff : Int) - 32768) d.ts]

/-- R309: the coordinate entry of a pillar. -/
def coordEntry (ks : List PtRec) : Nat :=
  match ks with
  | [] => 0
  | p :: _ => p.cx.toNat % 2 ^ 11 + 2 ^ 11 * (p.cy.toNat % 2 ^ 11) + 2 ^ 22 * ks.length

/-! ## Neighbours (R313) -/

def dist2 (a b : SortRec) : Int :=
  let dx := (a.ux : Int) - b.ux
  let dy := (a.uy : Int) - b.uy
  let dz := (a.uz : Int) - b.uz
  dx * dx + dy * dy + dz * dz

/-- The window of a query at sorted position p: first position and length. -/
def winOf (nv w p : Nat) : Nat × Nat :=
  let w0 := min (p - w / 2) (nv - w)
  (w0, min (w0 + w) nv - w0)

/-- The selection of a query: sorted positions. -/
def selectNb (d : StkDesc) (rs : List SortRec) (p : Nat) (q : SortRec) : List SortRec :=
  let (w0, n) := winOf rs.length (128 * d.win) p
  let win := (rs.drop w0).take n
  if d.op = 3 then (win.filter fun e => decide (dist2 e q ≤ (d.radius : Int) * d.radius)).take d.k
  else (sortKey (fun e => (dist2 e q).toNat * 2 ^ 63 + e.key) win).take d.k

/-- The K words of a query slot. -/
def queryWords (d : StkDesc) (rs : List SortRec) (j : Nat) : List (BitVec 72) :=
  let p := j * d.qstride
  match rs[p]? with
  | none => List.replicate d.k 0
  | some q =>
    let sel := selectNb d rs p q
    (List.range d.k).map fun i =>
      let e := sel.getD i (sel.headD q)
      featWord [q8 ((e.ux : Int) - q.ux) d.ns, q8 ((e.uy : Int) - q.uy) d.ns, q8 ((e.uz : Int) - q.uz) d.ns,
        (e.inten : Int) - 128, q8 (dist2 e q) d.ds, (e.ring : Int) - 128, q8 ((e.toff : Int) - 32768) d.ts,
        bnat (decide (sel.length ≤ i)), 1]

/-! ## Execution -/

/-- R298: errors of stook memory; whether the descriptor goes on. -/
def State.stkMem (s : State) (n ce : Nat) (ue : Option (Fin 1310720)) : State × Bool :=
  let pg := pgSTK n
  let s1 := if ce = 0 then s else (s.inc pg STK_MEM_CE_CNT_COUNT ce).raise pg 1
  match ue with
  | none => (s1, true)
  | some a => (((s1.wf pg STK_MEM_UE_ADDR_ADDR a).raise pg 2).haltSpar (68 + n) 12, false)

/-- A descriptor completes. -/
def State.stkDone (s : State) (r : Run) (n k : Nat) : State :=
  let s1 := (s.inc (pgSTK n) STK_DESC_CNT_COUNT).setStook n { s.stook n with next := k + 1 }
  if (r.plan.eng (4 + n)).count ≤ k + 1 then (s1.wf (pgSTK n) STK_STAT_STAGE 0).engEnded (4 + n) else s1

/-- R306 to R309: a PILLAR descriptor. -/
def State.pillar (s : State) (r : Run) (n k : Nat) (d : StkDesc) : State :=
  let pg := pgSTK n
  let (vs, voids, outs) := s.stkIntake r d
  let pils := runsOf PtRec.cellKey (sortKey PtRec.cellKey vs)
  let kept := (pils.take d.pmax).map (keepRecs d.pcap)
  let capDrop := (pils.take d.pmax).foldl (fun a g => a + (g.length - d.pcap)) 0
  let pilDrop := pils.length - d.pmax
  let words := (List.range d.pmax).flatMap fun p =>
    let ws := pillarWords d (kept.getD p [])
    ws ++ List.replicate (d.pcap - ws.length) 0
  let coords := packAll 2 36 ((List.range d.pmax).map fun p => coordEntry (kept.getD p []))
  let s0 := s.setStook n { s.stook n with sort := none }
  match s0.engPutAll d.dbat d.fwin (ownStook n) (68 + n) words with
  | (s1, false) => s1
  | (s1, true) =>
    match s1.engPutAll d.dbat d.cwin (ownStook n) (68 + n) coords with
    | (s2, false) => s2
    | (s2, true) =>
      let s3 := (((s2.stkCount n vs.length voids outs).wf pg STK_LAST_PIL_PILLARS pils.length).inc pg
        STK_CAPDROP_CNT_COUNT capDrop).inc pg STK_PILDROP_CNT_COUNT pilDrop
      let s4 := (s3.raiseIf (decide (0 < capDrop)) pg 3).raiseIf (decide (0 < pilDrop)) pg 4
      let p := s4.sp (68 + n)
      (s4.setSp (68 + n) { p with capDrop := decide (0 < capDrop), pmaxDrop := decide (0 < pilDrop) }).stkDone r n k

/-- R310, R312: a SORT3 descriptor. -/
def State.sort3 (s : State) (r : Run) (n k : Nat) (d : StkDesc) : State :=
  let (vs, voids, outs) := s.stkIntake r d
  let u := fun (v : Int) => min (v / (2 ^ d.mshift : Int)).toNat (2 ^ 21 - 1)
  let rs : List SortRec := vs.map fun p =>
    let ux := u (p.x - d.x0)
    let uy := u (p.y - d.y0)
    let uz := u (p.z - d.zmin)
    { ux := ux, uy := uy, uz := uz, key := morton 21 [ux, uy, uz], inten := p.inten, ring := p.ring, toff := p.toff }
  let s1 := s.stkCount n vs.length voids outs
  (s1.setStook n { s1.stook n with sort := some (d.sortId, sortKey SortRec.key rs) }).stkDone r n k

/-- R313, R314: a BALL or KNN descriptor. -/
def State.neighbours (s : State) (r : Run) (n k : Nat) (d : StkDesc) : State :=
  let rs := ((s.stook n).sort.map (·.2)).getD []
  let words := (List.range d.qmax).flatMap (queryWords d rs)
  match s.engPutAll d.dbat d.fwin (ownStook n) (68 + n) words with
  | (s1, false) => s1
  | (s1, true) => s1.stkDone r n k

/-- A stook takes the descriptor it has reached: the checks, then its work. STAGE keeps the last stage that it has carried out. [DEDUCED, assumption log 72] -/
def State.stkTake (s : State) (r : Run) (n k : Nat) (d : StkDesc) (ce : Nat) (ue : Option (Fin 1310720)) : State :=
  let pg := pgSTK n
  let x := s.stook n
  let s1 := (((s.setStook n { x with swayWait := false, swayOk := false, descOk := false }).wf pg STK_STAT_DESC k).wf pg
    STK_STAT_OP d.op).wf (pgSPR (68 + n)) SPR_STINT_INDEX k
  match s1.stkCheck r n d with
  | .domain => s1.planFail 1
  | .code c => s1.stkRefuse n k c d.inH
  | .ok =>
    match s1.runReads r d.inH (if d.op ≤ 2 then [(16 * d.first, 16 * d.nrec)] else []) with
    | (s2, false) => s2
    | (s2, true) =>
      match ((s2.setStook n { s2.stook n with descOk := true }).wf pg STK_STAT_STAGE (if d.op = 2 then 3 else 6)).stkMem n ce ue with
      | (s3, false) => s3
      | (s3, true) =>
        if d.op = 1 then s3.pillar r n k d else if d.op = 2 then s3.sort3 r n k d else s3.neighbours r n k d

/-- A word that a descriptor of stook n writes goes to a bank that must wait: of the feature words, or of the coordinate words (R175, R203). -/
def State.stkWaits (s : State) (n : Nat) (d : StkDesc) : Bool :=
  if d.op = 1 then s.engWaits d.dbat d.fwin (ownStook n) (d.pmax * d.pcap) || s.engWaits d.dbat d.cwin (ownStook n) ((d.pmax + 1) / 2)
  else decide (d.op = 3 ∨ d.op = 4) && s.engWaits d.dbat d.fwin (ownStook n) (d.qmax * d.k)

/-- A stook works on its next descriptor, of this OP or of a reserved one, once its sway dependence is met (R303, R330), it holds the buffers that it writes (R329), and the banks that it writes do not wait. -/
def State.stkRow (s : State) (n op ce : Nat) (ue : Option (Fin 1310720)) : State :=
  let x := s.stook n
  match s.engRun (4 + n) with
  | none => s
  | some r =>
    let k := x.next
    let d := s.stkDesc r n k
    if (r.plan.eng (4 + n)).count ≤ k ∨ (d.op ≠ op ∧ 1 ≤ d.op ∧ d.op ≤ 4) ∨ s.stkWaits n d ∨ (d.op ≠ 2 ∧ !s.holdsBuffers (0x84 + n)) then s
    else match s.runReads r r.plan.img (if x.swayWait || x.swayOk then [] else [((r.plan.eng (4 + n)).descOff + 64 * k, 64)]) with
      | (s0, false) => s0
      | (s0, true) =>
        if !d.sway || x.swayOk then s0.stkTake r n k d ce ue
        else match s0.swayMet (0x84 + n) true with
          | (s1, true) => s1.stkTake r n k d ce ue
          | (s1, false) => s1.setStook n { x with swayWait := true }

/-- PILLAR. `ce` and `ue` are the stook memory's errors in the descriptor (R298). -/
def execPillar (n : Fin 4) (ce : Nat) (ue : Option (Fin 1310720)) (s : State) : Host.Outcome State Fault Refusal :=
  done s (s.stkRow n 1 ce ue)

/-- SORT3. -/
def execSort3 (n : Fin 4) (ce : Nat) (ue : Option (Fin 1310720)) (s : State) : Host.Outcome State Fault Refusal :=
  done s (s.stkRow n 2 ce ue)

/-- BALL. -/
def execBall (n : Fin 4) (ce : Nat) (ue : Option (Fin 1310720)) (s : State) : Host.Outcome State Fault Refusal :=
  done s (s.stkRow n 3 ce ue)

/-- KNN. -/
def execKnn (n : Fin 4) (ce : Nat) (ue : Option (Fin 1310720)) (s : State) : Host.Outcome State Fault Refusal :=
  done s (s.stkRow n 4 ce ue)

end Sys2Proof.Machine
end

