-- ==== Sys2Proof/Machine/Yealm.lean ====
section
/-! DEFINITION. Yealms: key-switch descriptors, their checks, the key stream with seed expansion, the fused sequence, and the known-answer test (R241 to R294). -/

namespace Sys2Proof.Machine

def ylmDflt (_ : Nat) : YlmSt := {}
def State.yealm (s : State) (y : Nat) : YlmSt := smGet ylmDflt s.ylm y
def State.setYealm (s : State) (y : Nat) (x : YlmSt) : State := { s with ylm := smSet ylmDflt s.ylm y x }

/-! ## The sealed parameter block (R244) -/

def Plan.sealedByte (p : Plan) (i : Nat) : Nat := (p.sealedBlk.getD i 0).toNat
def Plan.kScheme (p : Plan) : Nat := p.sealedByte 0
def Plan.kLogn (p : Plan) : Nat := p.sealedByte 1
def Plan.kL (p : Plan) : Nat := p.sealedByte 2
def Plan.kK (p : Plan) : Nat := p.sealedByte 3
def Plan.kDnum (p : Plan) : Nat := p.sealedByte 4
def Plan.kMbase (p : Plan) : Nat := p.sealedByte 5
def Plan.kT (p : Plan) : Nat := leNat ((p.sealedBlk.drop 8).take 8)

def ceilDiv (a b : Nat) : Nat := (a + b - 1) / b

/-- R246: the block breaks a range of R241, R243 or R244; a plan with yealm stints switches keys, so K is at least 1. [DEDUCED, assumption log 72] -/
def Plan.sealedBad (p : Plan) : Bool :=
  let a := ceilDiv p.kL p.kDnum
  p.kScheme != 0xFF &&
    (decide (1 < p.kScheme) || decide (p.kLogn < 14 ∨ 17 < p.kLogn) || decide (p.kL < 1 ∨ 64 < p.kL)
      || decide (p.kK < 1 ∨ 16 < p.kK) || decide (p.kDnum < 1 ∨ min 8 p.kL < p.kDnum)
      || decide (p.kL ≤ (p.kDnum - 1) * a) || decide (95 < p.kMbase)
      || p.sealedByte 6 != 0 || p.sealedByte 7 != 0
      || (if p.kScheme = 1 then decide (p.kT < 2 ∨ 2 ^ 36 ≤ p.kT) else p.kT != 0))

/-! ## Sizes and layout -/

/-- R247: bytes of a limb polynomial. -/
def limbBytes (logn : Nat) : Nat := 2 ^ logn * 9 / 2
/-- R255: bytes of the seed block. -/
def seedBlock (dnum lk : Nat) : Nat := 4096 * ceilDiv (64 + 32 * dnum * lk) 4096

/-- R247: the residue at position k of the polynomial at a byte offset of an object. -/
def State.residue (s : State) (r : Run) (h off k : Nat) : Nat :=
  leNat (s.runBytes r h (off + 36 * (k / 8)) 36) / 2 ^ (36 * (k % 8)) % 2 ^ 36

/-- n residues from a byte offset. -/
def State.residues (s : State) (r : Run) (h off n : Nat) : List Nat :=
  (List.range n).map (s.residue r h off)

/-- R247: the bytes of a list of residues. -/
def packResidues (vs : List Nat) : List Byte :=
  (List.range (vs.length / 8)).flatMap fun g =>
    leBytes 36 (((vs.drop (8 * g)).take 8).foldr (fun v acc => v + 2 ^ 36 * acc) 0)

/-! ## Descriptors -/

/-- A key-switch descriptor (R272). -/
structure KsDesc where
  inH : Nat
  keyH : Nat
  outH : Nat
  level : Nat
  oper : Nat
  sway : Bool
  galois : Nat
deriving DecidableEq, Repr

/-- Descriptor k of yealm y, from the image. -/
def State.ksDesc (s : State) (r : Run) (y k : Nat) : KsDesc :=
  let o := (r.plan.eng y).descOff + 32 * k
  let g := fun a n => leNat (s.runBytes r r.plan.img (o + a) n)
  { inH := g 0 3, keyH := g 4 3, outH := g 8 3, level := g 0xC 1, oper := g 0xD 1 % 4
    sway := (g 0xD 1).testBit 2, galois := g 0x10 4 }

/-- Components of the input (R273). -/
def KsDesc.comps (d : KsDesc) : Nat := if d.oper = 0 then 3 else 2

/-- R269: the row or pair breaks R269: a lower-numbered yealm of the plan names it, or it does not suit LOGN. -/
def Plan.rowBad (p : Plan) (y : Nat) : Bool :=
  (List.range y).any (fun z => (List.range 64).any fun b => p.rowOf y b && p.rowOf z b)
    || ((p.eng y).paired != (p.kLogn == 17))

/-- The seed-block field of a seeded key. -/
def State.seedField (s : State) (r : Run) (key off n : Nat) : Nat := leNat (s.runBytes r key off n)

/-- What the checks of R275 find: nothing, a code with its handle, or an access that R142 refuses. -/
inductive KsCheck where
  | ok
  | code (c h : Nat)
  | domain
deriving DecidableEq, Repr

/-- R255, R254, R273: the sizes that the parameters require. -/
def Plan.sizeOk (p : Plan) (kind size n : Nat) : Bool :=
  let lb := limbBytes p.kLogn
  if kind = 1 then size == n * lb
  else if kind = 2 then size == seedBlock p.kDnum (p.kL + p.kK) + p.kDnum * (p.kL + p.kK) * lb
  else size == 2 * p.kDnum * (p.kL + p.kK) * lb

/-- R275: PURPOSE and GALOIS as the descriptor gives them. OPER 3 is reserved (R272), and no key has such a PURPOSE. [DEDUCED, assumption log 72] -/
def galoisBad (oper g logn : Nat) : Bool :=
  if oper = 0 then false
  else if oper = 1 then g % 2 == 0 || decide (2 ^ (logn + 1) ≤ g)
  else if oper = 2 then g != 2 ^ (logn + 1) - 1
  else true

/-- R275: the checks in table order. [DEDUCED, assumption log 72] -/
def State.ksCheck (s : State) (r : Run) (y : Nat) (d : KsDesc) : KsCheck :=
  let p := r.plan
  let oi := s.obj d.inH
  let ok := s.obj d.keyH
  let oo := s.obj d.outH
  let seeded := ok.kind == 2
  let f := s.seedField r d.keyH
  if !s.blockTakes (pgYLM y) then .code 1 d.inH
  else if p.domain == 0 || p.kScheme == 0xFF then .code 2 d.inH
  else if p.rowBad y then .code 3 d.inH
  else if s.accessBad r d.inH || s.accessBad r d.keyH || s.accessBad r d.outH then .domain
  else if oi.kind ≠ 1 then .code 4 d.inH
  else if oo.kind ≠ 1 then .code 4 d.outH
  else if ok.kind ≠ 2 ∧ ok.kind ≠ 3 then .code 4 d.keyH
  else if oi.place ≠ y then .code 5 d.inH
  else if ok.place ≠ y then .code 5 d.keyH
  else if oo.place ≠ y then .code 5 d.outH
  else if !p.sizeOk 1 (oi.size1 + 1) (d.comps * d.level) then .code 6 d.inH
  else if !p.sizeOk ok.kind (ok.size1 + 1) 0 then .code 6 d.keyH
  else if !p.sizeOk 1 (oo.size1 + 1) (2 * d.level) then .code 6 d.outH
  else if seeded && (f 0 4 != 0x04405EED || f 4 2 != 1) then .code 7 d.keyH
  else if seeded && (f 6 1 != p.kLogn || f 7 1 != p.kL || f 8 1 != p.kK || f 9 1 != p.kDnum) then .code 8 d.keyH
  else if seeded && f 10 1 != ok.domain then .code 9 d.keyH
  else if (seeded && (f 11 1 != d.oper || f 12 4 != d.galois)) || galoisBad d.oper d.galois p.kLogn then .code 10 d.keyH
  else if d.level = 0 ∨ p.kL < d.level then .code 11 d.inH
  else .ok

/-- R276: a refusal. -/
def State.ksRefuse (s : State) (y k code h : Nat) : State :=
  let pg := pgYLM y
  let s1 := if s.bit pg YLM_REFUSE_VALID then s
    else (((s.wf pg YLM_REFUSE_VALID 1).wf pg YLM_REFUSE_DESC k).wf pg YLM_REFUSE_CODE code).wf pg YLM_REFUSE_H_HANDLE h
  let s2 := ((s1.inc pg YLM_REFUSE_CNT_COUNT).raise pg 0).wf pg YLM_STAT_STAGE 1
  if code = 9 then s2.planFail 1 else s2.haltSpar (64 + y) 12

/-! ## The fused sequence (R283 to R285) -/

/-- The inverse of x modulo a prime q. Where x^(q - 2) is not an inverse, q is no prime, which R242 and R225 leave to the sender, and the result is open. -/
def primeInv (q x : Nat) : Nat :=
  let v := powMod q x (q - 2)
  if x % q * v % q = 1 % q then v else Config.freeInverse q x

/-- What the stages of one descriptor need to know. -/
structure KsCtx where
  logn : Nat
  l : Nat
  bigL : Nat
  k : Nat
  alpha : Nat
  digits : Nat
  /-- modulus and root of each extended limb of the ciphertext (R270, R245) -/
  q : List Nat
  psi : List Nat
  bgvT : Option Nat
deriving DecidableEq, Repr

def KsCtx.n (c : KsCtx) : Nat := 2 ^ c.logn
def KsCtx.lk (c : KsCtx) : Nat := c.l + c.k
def KsCtx.mod (c : KsCtx) (t : Nat) : Nat := c.q.getD t 1
/-- Position x of polynomial i of a flat list. -/
def KsCtx.at (c : KsCtx) (v : List Nat) (i x : Nat) : Nat := v.getD (i * c.n + x) 0
def KsCtx.fwd (c : KsCtx) (t : Nat) (f : Nat → Nat) (x : Nat) : Nat := nttAt (c.mod t) (c.psi.getD t 0) c.logn f x
def KsCtx.inv (c : KsCtx) (t : Nat) (f : Nat → Nat) (x : Nat) : Nat := inttAt (c.mod t) (c.psi.getD t 0) c.logn f x
/-- Flatten polynomials 0 to m - 1. -/
def KsCtx.flat (c : KsCtx) (m : Nat) (f : Nat → Nat → Nat) : List Nat :=
  (List.range m).flatMap fun i => (List.range c.n).map (f i)

/-- R269: the first batten of the row or pair, and how many battens. -/
def Plan.ksFirst (p : Plan) (y : Nat) : Nat := 8 * (p.eng y).row
def Plan.ksNb (p : Plan) (y : Nat) : Nat := if (p.eng y).paired then 16 else 8

/-- R270, R245: batten and modulus-table entry of extended limb e of a ciphertext of level l. -/
def Plan.ksPlace (p : Plan) (y l e : Nat) : Nat × Nat :=
  (p.ksFirst y + e % p.ksNb y, p.kMbase + (if e < l then e else p.kL + (e - l)))

def State.ksCtx (s : State) (p : Plan) (y l : Nat) : KsCtx :=
  let at' := fun e => p.ksPlace y l e
  let es := List.range (l + p.kK)
  let a := ceilDiv p.kL p.kDnum
  { logn := p.kLogn, l := l, bigL := p.kL, k := p.kK, alpha := a, digits := ceilDiv l a
    q := es.map fun e => s.modQ (at' e).1 (at' e).2
    psi := es.map fun e => s.modPsi (at' e).1 (at' e).2
    bgvT := if p.kScheme = 1 then some p.kT else none }

/-- R236, R245, R286: what the stages find first: an array of a batten that is not in MOD36 (kind 3), an extended limb whose entry is not VALID (kind 4) or has another LOGN (kind 5): batten, array, kind and entry. -/
def State.ksEntryBad (s : State) (p : Plan) (y l : Nat) : Option (Nat × Nat × Nat × Nat) :=
  (List.range (l + p.kK)).findSome? fun e =>
    let (b, n) := p.ksPlace y l e
    match (List.range 4).find? (fun a => s.arrMode (arrNo b a) != 0) with
    | some a => some (b, a, 3, 0)
    | none =>
      if !s.modValid b n then some (b, 0, 4, n)
      else if s.rf (pgSLT b) SLT_MCTL_LOGN n ≠ p.kLogn then some (b, 0, 5, n)
      else none

/-- R236: a fault of the fused sequence on a batten of the row: its spar halts, and the course overruns, whether or not that batten has stints of its own. -/
def State.ksFault (s : State) (b a kind entry : Nat) : State := (s.arrFault b a kind entry).overrun 4

/-- R285: the input position that output position x takes under σ_g. -/
def sigmaPos (logn g x : Nat) : Nat := brv logn ((g * (2 * brv logn x + 1) % 2 ^ (logn + 1) - 1) / 2)

/-- Component c of limb i of the permuted input. -/
def KsRec.x (d : KsRec) (c : KsCtx) (comp i x : Nat) : Nat :=
  let comps := if d.oper = 0 then 3 else 2
  c.at d.input (i * comps + comp) (if d.oper = 0 then x else sigmaPos c.logn d.galois x) % c.mod i

/-- R243: the limbs of digit d at this level. [DEDUCED, assumption log 72] -/
def KsCtx.dig (c : KsCtx) (d : Nat) : List Nat :=
  (List.range c.l).filter fun j => decide (d * c.alpha ≤ j ∧ j < (d + 1) * c.alpha)

/-- The product of the moduli of limbs `js` other than j. -/
def KsCtx.hat (c : KsCtx) (js : List Nat) (j : Nat) : Nat := (js.filter (· != j)).foldl (fun a i => a * c.mod i) 1

/-- R283: fast basis conversion of values u_j (j in js) to modulus m. -/
def KsCtx.convert (c : KsCtx) (js : List Nat) (u : Nat → Nat) (m : Nat) : Nat :=
  (js.foldl (fun a j =>
    let h := c.hat js j
    a + u j * primeInv (c.mod j) (h % c.mod j) % c.mod j * h) 0) % m

/-- S1 to S3: the extended digits. [DEDUCED, assumption log 67, 72] -/
def KsRec.preStages (d : KsRec) (c : KsCtx) : List Nat :=
  let src := d.x c (if d.oper = 0 then 2 else 1)
  let u := c.flat c.l fun j => c.inv j (src j)
  let v := fun dg t x =>
    if (c.dig dg).contains t then src t x
    else c.fwd t (fun z => c.convert (c.dig dg) (fun j => c.at u j z) (c.mod t)) x
  c.flat (c.digits * c.lk) fun i => v (i / c.lk) (i % c.lk)

/-- S4: the inner products with the key. `key comp d t x` is the stored residue. -/
def KsRec.inner (d : KsRec) (c : KsCtx) (key : Nat → Nat → Nat → Nat → Nat) : List Nat :=
  c.flat (2 * c.lk) fun i x =>
    let t := i % c.lk
    (List.range c.digits).foldl (fun a dg =>
      (a + mont (c.mod t) (c.at d.ext (dg * c.lk + t) x) (key (i / c.lk) dg t x)) % c.mod t) 0

/-- X2 to F: ModDown of both inner products (R283, R284). [DEDUCED, assumption log 72] -/
def KsRec.modDown (d : KsRec) (c : KsCtx) : List Nat :=
  let ps := (List.range c.k).map (c.l + ·)
  let bigP := ps.foldl (fun a j => a * c.mod j) 1
  let yp := c.flat (2 * c.k) fun i x =>
    let t := c.l + i % c.k
    let v := c.inv t (c.at d.acc (i / c.k * c.lk + t)) x
    match c.bgvT with
    | none => v
    | some tm => v * (c.mod t - primeInv (c.mod t) tm % c.mod t) % c.mod t
  let w := fun y t z => c.convert ps (fun j => c.at yp (y * c.k + (j - c.l)) z) (c.mod t)
  c.flat (2 * c.l) fun i x =>
    let t := i / 2
    let comp := i % 2
    let q := c.mod t
    let nw := c.fwd t (w comp t) x
    let y := c.at d.acc (comp * c.lk + t) x
    let z := match c.bgvT with
      | none => (y + (q - nw % q)) * primeInv q (bigP % q) % q
      | some tm => (y + tm * nw) * primeInv q (bigP % q) % q
    if comp = 0 then (z + d.x c 0 t x) % q
    else if d.oper = 0 then (z + d.x c 1 t x) % q
    else z

/-! ## Seed expansion (R280) -/

/-- Component a of one digit and limb: the n residues. -/
def expandSeed (seed : List Byte) (q n : Nat) : List Nat :=
  let z := shake128 (seed ++ leBytes 8 q) (8 * n)
  (List.range n).map fun k => leNat ((z.drop (8 * k)).take 8) % q

/-- The entry of the modulus table that limb t of a key at level l takes (R245, R280). -/
def Plan.keyEntry (p : Plan) (l t : Nat) : Nat := p.kMbase + (if t < l then t else p.kL + (t - l))

/-- R245, R280: the first entry that the expansion of a seeded key reads and that is not VALID, in the first batten of the row. -/
def State.seedEntryBad (s : State) (p : Plan) (y : Nat) (d : KsRec) : Option Nat :=
  if (s.obj d.keyH).kind = 2 then
    ((List.range (d.level + p.kK)).map (p.keyEntry d.level)).find? fun e => !s.modValid (p.ksFirst y) e
  else none

/-- Where the key of a descriptor lies (R254, R255): polynomial i of the stream, as in `keyStream`, none where a seed gives it. -/
def State.keyAt (s : State) (p : Plan) (d : KsRec) (c : KsCtx) (i : Nat) : Option Nat :=
  let lb := limbBytes p.kLogn
  let comp := i / (c.digits * c.lk)
  let t := i % c.lk
  let j := (if t < c.l then t else c.bigL + (t - c.l)) * p.kDnum + i / c.lk % c.digits
  if (s.obj d.keyH).kind ≠ 2 then some ((j * 2 + comp) * lb)
  else if comp = 0 then some (seedBlock p.kDnum (p.kL + p.kK) + j * lb)
  else none

/-- The spans of a key that its stream reads: the seed block, and the polynomials. -/
def State.keySpans (s : State) (p : Plan) (d : KsRec) (c : KsCtx) : List (Nat × Nat) :=
  (if (s.obj d.keyH).kind = 2 then [(0, seedBlock p.kDnum (p.kL + p.kK))] else []) ++
    (List.range (2 * c.digits * c.lk)).filterMap fun i => (s.keyAt p d c i).map (·, limbBytes p.kLogn)

/-- The key of a descriptor as the stream delivers it, flat: component comp of digit dg at target t is polynomial (comp * digits + dg) * lk + t. -/
def State.keyStream (s : State) (r : Run) (y : Nat) (d : KsRec) (c : KsCtx) : List Nat :=
  let p := r.plan
  (List.range (2 * c.digits * c.lk)).flatMap fun i =>
    let t := i % c.lk
    let ki := if t < c.l then t else c.bigL + (t - c.l)
    let j := ki * p.kDnum + i / c.lk % c.digits
    match s.keyAt p d c i with
    | some off => s.residues r d.keyH off c.n
    | none => expandSeed (s.runBytes r d.keyH (0x40 + 32 * j) 32) (s.modQ (p.ksFirst y) (p.kMbase + ki)) c.n

/-! ## The pipeline -/

/-- Replace the record of descriptor k. -/
def YlmSt.put (x : YlmSt) (d : KsRec) : YlmSt := { x with recs := x.recs.map fun e => if e.idx = d.idx then d else e }

def YlmSt.find (x : YlmSt) (k : Nat) : Option KsRec := x.recs.find? (fun e => e.idx == k)

/-- R279: the slots reach the input of descriptor k: k - 2 has been streamed, and everything before it written. -/
def YlmSt.slotOpen (x : YlmSt) (k : Nat) : Bool :=
  x.recs.all fun z => decide (k < z.idx + 3) && (z.idx + 2 != k || decide (3 ≤ z.stage))

/-- Descriptor n cannot be taken before earlier ones complete: it carries a sway mark. -/
def State.ksHeld (s : State) (r : Run) (y n : Nat) : Bool :=
  decide ((r.plan.eng y).count ≤ n) || (s.ksDesc r y n).sway

/-- The descriptor's move of bytes with the stack. -/
def State.ylmBytes (s : State) (y n : Nat) : State :=
  s.setYealm y { s.yealm y with bytes := ((s.yealm y).bytes + n) % 2 ^ 64 }

/-! ## The store banks of the row (R177, R271) -/

/-- The battens of the row that hold Q limbs at a level (R270). -/
def Plan.limbBattens (p : Plan) (y l : Nat) : List Nat := (List.range (min l (p.ksNb y))).map (p.ksFirst y + ·)

/-- Why the limbs cannot pass through the store of a batten: no bank of it is the yealm's (0), or no word of it is in bounds (1). -/
def State.limbDenied (s : State) (y b : Nat) : Option Nat :=
  if !(List.range 32).any (fun k => ownByte (s.rf (pgBST b) BST_OWNER_BANK k) == ownYealm y) then some 0
  else if s.rf (pgBST b) BST_BOUND_D = 0 ∧ !(s.batten b).grants.any (fun g => decide (0 < g.2)) then some 1
  else none

/-- A bank of the yealm on these battens must wait (R175, R203). -/
def State.limbWaits (s : State) (y : Nat) (bs : List Nat) : Bool :=
  bs.any fun b => !s.storeQuiet b && (List.range 32).any fun k =>
    ownByte (s.rf (pgBST b) BST_OWNER_BANK k) == ownYealm y && s.stWaits b k (ownYealm y) true

/-- Limbs pass through the yealm's banks of a batten. No rule gives the words that they take, so each word of those banks that the plan may access holds a free value afterwards. [DESIGN CHOICE, assumption log 114] -/
def State.limbWords (s : State) (y b : Nat) : State :=
  (List.range 262144).foldl (fun s a =>
    if (s.stDenied b a (ownYealm y) true true).isNone then let (v, s1) := s.fresh; s1.stPut b a (BitVec.ofNat 72 v) else s) s

/-- R184, R271: the ciphertext limbs of a level pass through the battens of the row; a batten that denies the yealm halts its spar. -/
def State.limbPass (s : State) (y : Nat) (bs : List Nat) : State × Bool :=
  match bs.findSome? (fun b => (s.limbDenied y b).map (b, ·)) with
  | some (b, why) => ((s.stRefuse b (ownYealm y) why 0).haltSpar (64 + y) 7, false)
  | none => (bs.foldl (fun s b => s.limbWords y b) s, true)

/-- The descriptor that has met its sway dependence is checked, and its input read. -/
def State.ksTake (s : State) (r : Run) (y k : Nat) (d : KsDesc) : State :=
  let x := s.yealm y
  let s1 := (s.setYealm y { x with swayWait := false, swayOk := false, descOk := false }).wf (pgSPR (64 + y))
    SPR_STINT_INDEX k
  let seeded := (s1.obj d.keyH).kind == 2
  match s1.ksCheck r y d with
  | .domain => s1.planFail 1
  | .code c h =>
    let hdr := seeded && decide (7 ≤ c)
    ((if hdr then (s1.runReads r d.keyH [(0, 64)]).1 else s1).ylmBytes y (if hdr then 64 else 0)).ksRefuse y k c h
  | .ok =>
    let n := d.comps * d.level * limbBytes r.plan.kLogn
    match (if seeded then s1.runReads r d.keyH [(0, 64)] else (s1, true)) with
    | (s2, false) => s2
    | (s2, true) =>
      match s2.runReads r d.inH [(0, n)] with
      | (s3, false) => s3
      | (s3, true) =>
        let e : KsRec := { idx := k, level := d.level, oper := d.oper, galois := d.galois, inH := d.inH, keyH := d.keyH
                           outH := d.outH, input := s3.residues r d.inH 0 (d.comps * d.level * 2 ^ r.plan.kLogn) }
        let x1 := s3.yealm y
        let s4 := ((s3.setYealm y { x1 with descOk := true }).wf (pgYLM y) YLM_STAT_STAGE 2).ylmBytes y (n + 64 * bnat seeded)
        match s4.limbPass y (r.plan.limbBattens y d.level) with
        | (s5, false) => s5
        | (s5, true) => s5.setYealm y { s5.yealm y with next := k + 1, recs := x1.recs ++ [e] }

/-! ## The stages

STAGE keeps the last stage that the yealm has carried out. [DEDUCED, assumption log 72] -/

/-- A yealm takes its next descriptor, when the slots of R279 reach it and the banks that its limbs pass through do not wait. -/
def State.ksNext (s : State) (y : Nat) : State :=
  let x := s.yealm y
  match s.engRun y with
  | none => s
  | some r =>
    let k := x.next
    if (r.plan.eng y).count ≤ k ∨ !x.slotOpen k then s
    else
      let d := s.ksDesc r y k
      if s.limbWaits y (r.plan.limbBattens y d.level) then s
      else match s.runReads r r.plan.img (if x.swayWait || x.swayOk then [] else [((r.plan.eng y).descOff + 32 * k, 32)]) with
        | (s0, false) => s0
        | (s0, true) =>
          if !d.sway || x.swayOk then s0.ksTake r y k d
          else match s0.swayMet (0x80 + y) x.recs.isEmpty with
            | (s1, true) => s1.ksTake r y k d
            | (s1, false) => s1.setYealm y { x with swayWait := true }

/-- S1 to S3 of the oldest descriptor whose input has arrived. -/
def State.ksPre (s : State) (y : Nat) : State :=
  let x := s.yealm y
  match s.engRun y, x.recs.find? (fun e => e.stage == 1) with
  | some r, some d =>
    match s.ksEntryBad r.plan y d.level with
    | some (b, a, kind, e) => s.ksFault b a kind e
    | none =>
      let c := s.ksCtx r.plan y d.level
      (s.setYealm y (x.put { d with stage := 2, ext := d.preStages c })).wf (pgYLM y) YLM_STAT_DESC d.idx
  | _, _ => s

/-- The key of the oldest descriptor whose pre-stages are complete; `bad` says that a row rail word fails parity (R293). -/
def State.ksKey (s : State) (y : Nat) (bad : Bool) : State :=
  let x := s.yealm y
  match s.engRun y, x.recs.find? (fun e => decide (e.stage ≤ 2)) with
  | some r, some d =>
    let waits := d.stage == 1 || ((x.find (d.idx + 1)).isNone && !s.ksHeld r y (d.idx + 1))
      || x.recs.any (fun z => decide (z.idx + 2 ≤ d.idx))
    if waits then s
    else if bad then ((s.inc (pgYLM y) YLM_RAIL_CNT_COUNT).raise (pgYLM y) 3).haltSpar (64 + y) 12
    else
      let p := r.plan
      match s.seedEntryBad p y d with
      | some e => s.ksFault (p.ksFirst y) 0 4 e
      | none =>
        let c := s.ksCtx p y d.level
        match s.runReads r d.keyH (s.keySpans p d c) with
        | (s1, false) => s1
        | (s1, true) =>
          let ks := s1.keyStream r y d c
          let bytes := ((s.keySpans p d c).map (·.2)).foldl (· + ·) 0
          let d1 := { d with stage := 3, acc := d.inner c fun comp dg t z => c.at ks ((comp * c.digits + dg) * c.lk + t) z }
          (((s1.setYealm y (x.put d1)).ylmBytes y bytes).wf (pgYLM y) YLM_STAT_DESC d.idx).wf (pgYLM y) YLM_STAT_STAGE 3
  | _, _ => s

/-- X2 to F of the oldest descriptor whose key has been streamed; the row hands its output over through the yealm's banks. -/
def State.ksPost (s : State) (y : Nat) : State :=
  let x := s.yealm y
  match s.engRun y, x.recs.find? (fun e => e.stage == 3) with
  | some r, some d =>
    let bs := r.plan.limbBattens y d.level
    if s.limbWaits y bs then s
    else
      let c := s.ksCtx r.plan y d.level
      match s.limbPass y bs with
      | (s1, false) => s1
      | (s1, true) => s1.setYealm y (x.put { d with stage := 4, out := d.modDown c })
  | _, _ => s

/-- The output of the oldest descriptor, after the key stream of the next one where there is one, and with the buffers that it writes (R329). -/
def State.ksOut (s : State) (y : Nat) : State :=
  let x := s.yealm y
  match s.engRun y, x.recs.head? with
  | some r, some d =>
    let waits := d.stage != 4 || !s.holdsBuffers (0x80 + y) || (match x.find (d.idx + 1) with
      | some e => decide (e.stage < 3)
      | none => !s.ksHeld r y (d.idx + 1))
    if waits then s
    else
      let s1 := s.runWrite r d.outH 0 (packResidues d.out)
      let s2 := (s1.setYealm y { x with recs := x.recs.tail }).ylmBytes y (2 * d.level * limbBytes r.plan.kLogn)
      let s3 := s2.inc (pgYLM y) YLM_SW_CNT_COUNT
      if (r.plan.eng y).count ≤ d.idx + 1 then (s3.wf (pgYLM y) YLM_STAT_STAGE 0).engEnded y
      else s3.wf (pgYLM y) YLM_STAT_STAGE 4
  | _, _ => s

/-- KS_DESCRIPTOR. -/
def execKsDescriptor (y : Fin 4) (s : State) : Host.Outcome State Fault Refusal := done s (s.ksNext y)

/-- PRE_STAGES. -/
def execPreStages (y : Fin 4) (s : State) : Host.Outcome State Fault Refusal := done s (s.ksPre y)

/-- KEY_STREAM. -/
def execKeyStream (y : Fin 4) (bad : Bool) (s : State) : Host.Outcome State Fault Refusal := done s (s.ksKey y bad)

/-- POST_STAGES. -/
def execPostStages (y : Fin 4) (s : State) : Host.Outcome State Fault Refusal := done s (s.ksPost y)

/-- OUTPUT_WRITE. -/
def execOutputWrite (y : Fin 4) (s : State) : Host.Outcome State Fault Refusal := done s (s.ksOut y)

/-! ## Known-answer test (R290, R291) -/

/-- A known-answer test starts; an enable that waits for its start then waits for the test. -/
def State.katStart (s : State) (y : Nat) : State :=
  ((s.setYealm y { s.yealm y with starting := false }).wf (pgYLM y) YLM_KAT_STAT_RUN 1).wf (pgYLM y) PG_STAT_READY 0

/-- KAT: a write of YLM_KAT. -/
def State.katWrite (s : State) (src : Src) (y : Nat) (v : Word32) : State :=
  let pg := pgYLM y
  s.ifWriter src (pg + 0x5C) fun s =>
    if !v.getLsbD 0 then s
    else if s.bit pg YLM_STAT_ACTIVE || s.bit pg YLM_KAT_STAT_RUN then s.accErr src (pg + 0x5C) eSTATE
    else s.katStart y

/-- The command of the write above. -/
def execKat (src : Src) (y : Fin 4) (v : Word32) (s : State) : Host.Outcome State Fault Refusal :=
  done s (s.katWrite src y v)

/-- KAT_DONE: a known-answer test ends; bit c of `fail` says that engine c failed. -/
def execKatDone (y : Fin 4) (fail : BitVec 32) (s : State) : Host.Outcome State Fault Refusal :=
  let pg := pgYLM y
  done s (if !s.bit pg YLM_KAT_STAT_RUN || s.gated then s
    else
      let pass := fail == 0
      let s1 := (((s.wf pg YLM_KAT_STAT_RUN 0).wf pg YLM_KAT_STAT_PASS (bnat pass)).wf pg YLM_KAT_STAT_DONE 1).wf pg
        YLM_KAT_FAIL_ENGINE fail.toNat
      let s2 := (s1.raise pg 1).raiseIf (!pass) pg 2
      if pass && s2.bit pg PG_CTRL_EN then s2.wf pg PG_STAT_READY 1 else s2)

end Sys2Proof.Machine
end

