-- ==== Sys2Proof/Machine/Stint.lean ====
section
/-! DEFINITION. Micro-words, conditions, fetch, stints and their ends, and the ATTN routine (R383 to R385, R395 to R397, R405 to R408, R414, R456). -/

namespace Sys2Proof.Machine

/-! ## Micro-word fields (R383) -/

def wNA (w : BitVec 128) : Nat := bits w.toNat 127 114
def wSEQ (w : BitVec 128) : Nat := bits w.toNat 113 110
def wCSEL (w : BitVec 128) : Nat := bits w.toNat 109 104
def wWLIM (w : BitVec 128) : Nat := bits w.toNat 103 96
def wDP (w : BitVec 128) : BitVec 96 := w.truncate 96

/-- R385: the wait limit in cycles; 0 is no limit. -/
def waitLimit (wlim : Nat) : Nat := wlim % 64 * 16 ^ (wlim / 64)

/-! ## Control stores (R381, R412, R413) -/

def csKey (i a : Nat) : Nat := i * 8192 + a
def State.csWord (s : State) (i a : Nat) : BitVec 128 := smGet (fun _ => 0) s.cs (csKey i a)

/-- R381: words 7680 to 8191 are unusable: a yealm or stook spar, or customer microcode disabled. -/
def State.custOff (s : State) (i : Nat) : Bool := decide (64 ≤ i) || !s.bit pgFLS FLS_SEC_CUST_EN

/-- R413: where a fetch from an address goes: the TARGET of the lowest VALID entry whose MATCH is this mask ROM address. [DEDUCED, assumption log 63] -/
def State.fetchAt (s : State) (i a : Nat) : Nat :=
  let pg := pgSPR i
  if a < 6144 then
    match (List.range 16).find? fun m => s.bit pg SPR_PM_VALID m && s.rf pg SPR_PM_MATCH m == a with
    | some m => s.rf pg SPR_PM_TARGET m
    | none => a
  else a

/-- The region of a control-store word: 1 vendor RAM, 2 customer, 0 mask ROM. -/
def csRegion (a : Nat) : Nat := if a < 6144 then 0 else if a < 7680 then 1 else 2

/-! ## Conditions (R396) -/

/-- R406: the pair of slot k, if VALID. [DEDUCED, assumption log 68] -/
def SprSt.slotPair (p : SprSt) (k : Nat) : Option Nat :=
  let x := smGet (fun _ => 0) p.lp k
  if x < 1024 then none else some (x - 1024)

/-- ENG_READY, ENG_IDLE and DESC_OK of a yealm or stook spar. [DEDUCED, assumption log 71] -/
def State.engCond (s : State) (i c : Nat) : Bool :=
  if i < 64 then false
  else if c = 45 then (s.engRun (i - 64)).isSome && !(if i < 68 then (s.yealm (i - 64)).swayWait else (s.stook (i - 68)).swayWait)
  else if c = 46 then (if i < 68 then (s.yealm (i - 64)).recs.isEmpty else true)
  else if i < 68 then (s.yealm (i - 64)).descOk else (s.stook (i - 68)).descOk

/-- The value of condition c for spar i in the word w. Group D conditions read 0 in sealed mode (R397). [DEDUCED, assumption log 68] -/
def State.cond (s : State) (i : Nat) (w : BitVec 128) (c : Nat) : Bool :=
  let p := s.sp i
  let pg := pgSPR i
  let bat := decide (i < 64)
  let d := wDP w
  if c = 0 then true
  else if c = 1 then p.cl
  else if c = 2 then p.lc0 != 0
  else if c = 3 then p.lc1 != 0
  else if c = 4 then p.fz
  else if c = 5 then p.fn
  else if c = 6 then p.fc
  else if c = 7 then p.fv
  else if c = 8 then p.stack.isEmpty
  else if c = 9 then !p.frame.isEmpty
  else if c = 10 then s.bit pg SPR_STAT_SEALED
  else if c = 11 then s.drives i && decide (s.rf pg SPR_STINT_INDEX + 1 < s.rf pg SPR_STINT_NST)
  else if c < 20 then (match p.slotPair (c - 12) with | some q => decide (0 < s.ligFree q) | none => false)
  else if c < 28 then (match p.slotPair (c - 20) with | some q => decide (0 < s.ligFull q) | none => false)
  else if c < 32 then bat && (s.arr (arrNo i (c - 28))).queue != 0
  else if c < 40 then bat && bitOf p.wrap (c - 32)
  else if c = 40 then bat && (List.range 96).all fun e => s.rf (pgSLT i) SLT_MCTL_STATE e != 1
  else if c = 41 then bat && (s.batten i).march.isNone
  else if c = 42 then s.bit pg SPR_PARK_PARK
  else if c = 43 then s.crs.running && s.phase == 2
  else if c = 44 then bat && (arraysOf (dpAM d)).any fun a => decide (4 ≤ (s.arr (arrNo i a)).queue)
  else if c < 48 then s.engCond i c
  else if s.bit pg SPR_STAT_SEALED then false
  else if c < 52 then bat && bitOf p.sat (c - 48)
  else if c = 52 then p.srdWord == 0
  else if c = 53 then p.srdVal.toNat.testBit 35
  else if c = 54 then decide (p.srdVal.toNat < (p.rd (dpRB d)).toNat)
  else if c = 55 then p.srdVal == p.rd (dpRB d)
  else if c = 56 then p.srdVal.toNat.testBit 0
  else if c = 57 then p.capDrop
  else if c = 58 then p.pmaxDrop
  else if c = 59 then p.nvZero
  else bat && bitOf p.clamp (c - 60)

/-! ## Words that trap -/

/-- R390: micro-operations of every spar, and of batten spars. -/
def opAll (op : Nat) : Bool := op == 0 || (decide (0x30 ≤ op) && decide (op ≤ 0x33)) || op == 0x4A
def opBatten (op : Nat) : Bool :=
  (decide (0x10 ≤ op) && decide (op ≤ 0x1E)) || (decide (0x20 ≤ op) && decide (op ≤ 0x22)) || op == 0x28 || op == 0x29
    || op == 0x40 || op == 0x41 || op == 0x48 || op == 0x49
def opEngine (op : Nat) : Bool := decide (0x60 ≤ op) && decide (op ≤ 0x7F)

/-- R389, R390: the micro-operation uses IMM. [DEDUCED, assumption log 65] -/
def opUsesImm (op : Nat) : Bool :=
  (decide (0x10 ≤ op) && decide (op ≤ 0x1E)) || op == 0x20 || op == 0x21 || op == 0x28 || op == 0x29 || op == 0x48
    || op == 0x49

/-- R391: array operations, which AM = 0 makes ILLEGAL. -/
def opArrays (op : Nat) : Bool := decide (0x10 ≤ op) && decide (op ≤ 0x1E)

/-- R383: the operation uses NA. -/
def seqUsesNA (q : Nat) : Bool := q == 2 || q == 3 || q == 4 || q == 5 || q == 6 || q == 9 || q == 10 || q == 11 || q == 12 || q == 13

/-- R395: a word that raises ILLEGAL, fetched from control-store word `at'`. A DISPATCH word issues no micro-operation. [DEDUCED, assumption log 63] -/
def State.illegal (s : State) (i at' : Nat) (w : BitVec 128) : Bool :=
  let d := wDP w
  let q := wSEQ w
  let op := if q = 11 then 0 else dpOP d
  !(opAll op || (decide (i < 64) && opBatten op) || (decide (64 ≤ i) && opEngine op && decide (at' < 7680)))
    || (seqUsesNA q && decide (8192 ≤ wNA w))
    || (q == 11 && decide (8 < dpOPT d))
    || ((dpALU d == 8 || dpALU d == 9) && opUsesImm op)
    || (opArrays op && dpAM d == 0)
    || (q == 14 && (s.sp i).frame.isEmpty)

/-- R397: a word that traps in sealed mode. -/
def State.sealedBad (s : State) (i : Nat) (w : BitVec 128) : Bool :=
  s.bit (pgSPR i) SPR_STAT_SEALED && (decide (48 ≤ wCSEL w) || dpOP (wDP w) == 0x40)

/-! ## Fetch and sequencing (R384) -/

/-- The fetch of the next word by spar i, whose SEQ must be `q`, and what the word does; its ALU operation and its micro-operation are to follow. A DISPATCH word issues no micro-operation (R384). `bad` says that a RAM word fails parity (R382). [DEDUCED, assumption log 62] -/
def State.seqRow (s : State) (i : Nat) (bad : Bool) (q : Nat)
    (eff : State → Nat → BitVec 128 → State) : State :=
  if !s.sparFetch i then s
  else
    let a := (s.sp i).next % 8192
    let s1 := s.wf (pgSPR i) SPR_STAT_UPC a
    if 7680 ≤ a ∧ s.custOff i then s1.microTrap i 5 a
    else
      let f := s.fetchAt i a
      let w := if f < 6144 then romAt i f else s.csWord i f
      if csRegion f ≠ 0 ∧ csRegion f = (s.sp i).march then s
      else if 6144 ≤ f ∧ bad then (s1.raise (pgSPR i) 3).haltSpar i 4
      else if wSEQ w ≠ q then s
      else
        let s2 := s1.setSp i { s1.sp i with pre := none, word := w, phys := f }
        if s2.sealedBad i w then s2.microTrap i 2 a
        else if s2.illegal i f w then s2.microTrap i 3 a
        else
          let d := wDP w
          eff (s2.setSp i { s2.sp i with
            residue := 0, next := (a + 1) % 8192, aluDue := dpALU d != 0, opDue := dpOP d != 0 && q != 11 }) a w

/-! ## Stints (R405 to R408) -/

/-- Word j of the descriptor of stint idx in the loaded list, read as the processor. -/
def State.stintWord (s : State) (b idx j : Nat) : State × BitVec 72 × Bool :=
  s.stRead b ((s.batten b).stFirst + 8 * idx + j) .clean

/-- The eight words of a stint descriptor; whether one is POISON. [DEDUCED, assumption log 69] -/
def State.stintWords (s : State) (b idx : Nat) : Nat → State × List Nat × Bool
  | 0 => (s, [], false)
  | n + 1 =>
    let (s1, ws, bad) := s.stintWords b idx n
    let (s2, v, p) := s1.stintWord b idx n
    (s2, ws ++ [v.toNat], bad || p)

/-- The slots, k to a pair field plus 1024 for VALID. -/
def slotsOf (ws : List Nat) : SMap Nat :=
  let w := fun k =>
    let byte := 4 + 2 * k
    bits (ws.getD (byte / 8) 0) (8 * (byte % 8) + 15) (8 * (byte % 8))
  smSetMany (fun _ => 0) [] ((List.range 8).map fun k => (k, w k % 1024 + 1024 * (w k / 2 ^ 15)))

/-- R407: the batten's spar fetches descriptors ahead, until its queue of 4 is full or the list ends; `from'` is the first stint that it does not hold. -/
def State.stintAhead (s : State) (b : Nat) : Nat → Nat → State
  | _, 0 => s
  | from', n + 1 =>
    if 4 ≤ (s.sp b).ahead.length ∨ (s.batten b).stWords ≤ 8 * from' then s
    else
      let (s1, ws, bad) := s.stintWords b from' 8
      (s1.setSp b { s1.sp b with ahead := (s1.sp b).ahead ++ [(ws, bad)] }).stintAhead b (from' + 1) n

/-- R407, steps 2 to 4: the batten's spar enters stint idx, whose words are given. [DEDUCED, assumption log 69] -/
def State.stintLoad (s : State) (b idx : Nat) (ws : List Nat) : State :=
  let w0 := ws.getD 0 0
  let s1 := if idx = 0 then s else (List.range 4).foldl (fun s a => s.modeWant (arrNo b a) (bits w0 (25 + 2 * a) (24 + 2 * a))) s
  let p := s1.sp b
  let p1 := (List.range 5).foldl (fun p j => SprSt.wr p (j + 1) (BitVec.ofNat 36 (ws.getD (3 + j) 0))) p
  (((s1.setSp b { p1 with lp := slotsOf ws, next := w0 % 8192, sat := 0, hold := .none }).wf (pgSPR b) SPR_STINT_INDEX idx).wf
    (pgSPR b) SPR_STAT_WAITING 0).wf (pgSPR b) SPR_STAT_RUNNING 1

/-- R330, R407: every operation of the earlier stints of a batten's spar has completed. -/
def State.stintsAcked (s : State) (b : Nat) : Bool :=
  (List.range 4).all (fun a => (s.arr (arrNo b a)).queue == 0)

/-- R407: stint idx is entered, and its descriptor leaves the queue, which then takes further ones. -/
def State.stintTake (s : State) (b idx : Nat) (ws : List Nat) : State :=
  let s1 := s.setSp b { s.sp b with ahead := (s.sp b).ahead.drop 1 }
  (s1.stintAhead b (idx + 1 + (s1.sp b).ahead.length) 4).stintLoad b idx ws

/-- R407: enter stint idx, whose descriptor is at the head of the queue, waiting first on its sway mark. [DEDUCED, assumption log 69] -/
def State.stintEnter (s : State) (b idx : Nat) : State :=
  let s0 := if (s.sp b).ahead.isEmpty then s.stintAhead b idx 4 else s
  match (s0.sp b).ahead with
  | [] => s0.haltSpar b 11
  | (ws, bad) :: _ =>
    if bad then s0.haltSpar b 6
    else if !(ws.getD 0 0).testBit 16 then s0.stintTake b idx ws
    else
      match s0.swayMet b (s0.stintsAcked b) with
      | (s2, true) => s2.stintTake b idx ws
      | (s2, false) =>
        ((s2.setSp b { s2.sp b with hold := .sway idx }).wf (pgSPR b) SPR_STAT_WAITING 1).wf (pgSPR b) SPR_STAT_RUNNING 1

/-- R456: the snapshot that the ATTN routine of spar i leaves in the page of a gable. -/
def State.sparSnap (s : State) (i g saved : Nat) : State :=
  let p := s.sp i
  let fl := 8 * bnat p.fz + 4 * bnat p.fn + 2 * bnat p.fc + bnat p.fv + 16 * bnat p.cl
  let items := (saved + 65536 * i) :: ((List.range 15).map fun k => (p.rd (k + 1)).toNat) ++ [p.lc0.toNat + 65536 * p.lc1.toNat, fl]
  ((s.setGab g { s.gable g with snap := items }).wf (pgGAB g) GAB_SDBG_IDX_SPAR i).raise (pgGAB g) 8

/-- R414, R456: micro-trap ATTN for a gable's request: its routine fills the snapshot. [DEDUCED, assumption log 64] -/
def State.attnTrap (s : State) (i g saved : Nat) (residue : Nat := 0) : State :=
  let s1 := if (s.sp i).frame.length < 4 then s.sparSnap i g saved else s
  s1.microTrap i 7 saved residue

/-- R414: an ATTN that was held is taken. -/
def State.attnTake (s : State) (i : Nat) : State :=
  match (s.sp i).attn with
  | some g => ((s.setSp i { s.sp i with attn := none, free := true }).wf (pgSPR i) SPR_STAT_RUNNING 1).attnTrap i g ((s.sp i).next)
  | none => s

/-- R408: the end of a spar's list. [DEDUCED, assumption log 64] -/
def State.listEnd (s : State) (i : Nat) : State :=
  let s1 := (s.wf (pgSPR i) SPR_STAT_ENDED 1).wf (pgSPR i) SPR_STAT_RUNNING 0
  let s2 := if i < 64 then s1.setBatten i { s1.batten i with stWords := 0 } else s1
  s2.attnTake i

/-- Every descriptor of the engine that spar i drives has completed. -/
def State.engListDone (s : State) (r : Run) (i : Nat) : Bool :=
  if i < 68 then decide ((r.plan.eng (i - 64)).count ≤ (s.yealm (i - 64)).next) && (s.yealm (i - 64)).recs.isEmpty
  else decide ((r.plan.eng (4 + (i - 68))).count ≤ (s.stook (i - 68)).next)

/-! ## The end of a stint (R407, R408) -/

/-- A run without stints ends. -/
def State.endFree (s : State) (i : Nat) : State :=
  ((s.setSp i { s.sp i with free := false }).wf (pgSPR i) SPR_STAT_RUNNING 0).attnTake i

/-- R407: the end of a stint of spar i; in a run without stints it ends the run. A yealm's or stook's spar, whose descriptors its engine takes, goes on until they have completed. -/
def State.endStint (s : State) (i : Nat) : State :=
  match s.crs.run with
  | some r =>
    if !s.drives i then s.endFree i
    else if 64 ≤ i then (if s.engListDone r i then s.listEnd i else s)
    else if s.rf (pgSPR i) SPR_STINT_NST ≤ s.rf (pgSPR i) SPR_STINT_INDEX + 1 then s.listEnd i
    else s.stintEnter i (s.rf (pgSPR i) SPR_STINT_INDEX + 1)
  | none => s.endFree i

/-- A part of spar i's word has taken effect. When none is left, an ENDSTINT word ends its stint, and an ATTN that was held between the words of a run is taken (R407, R414). [DEDUCED, assumption log 62] -/
def State.endWord (s : State) (i : Nat) : State :=
  let p := s.sp i
  if p.busy then s
  else if p.hold = .ending then (s.setSp i { p with hold := .none }).endStint i
  else match p.attn with
    | some g => if p.free && p.hold == .none && s.bit (pgSPR i) SPR_STAT_RUNNING then
        (s.setSp i { p with attn := none }).attnTrap i g p.next else s
    | none => s

/-- The micro-operation of spar i's word has been issued. -/
def State.opDone (s : State) (i : Nat) : State := (s.setSp i { s.sp i with opDue := false }).endWord i

/-- The windows and words that the micro-operation of a datapath addresses (R390): for reading, and for writing. -/
def State.opOperands (s : State) (b : Nat) (d : BitVec 96) : List (Nat × Nat) × List (Nat × Nat) :=
  let as := arraysOf (dpAM d)
  let mode := s.arrMode (arrNo b (as.headD 0))
  let vecs := (dpP16 d + 1) * vecWords mode
  let o := dpOPT d
  match dpOP d with
  | 0x11 => ([(dpWA d, (dpP16 d + 1) * (as.map fun a => vecWords (s.arrMode (arrNo b a))).foldl max 0)], [])
  | 0x12 => ((if mode != 0 && o.testBit 2 then [] else [(dpWA d, vecs)]) ++ (if mode != 0 && o.testBit 3 then [] else [(dpWB d, vecs)]), [])
  | 0x13 => ([], [(dpWD d, (as.map fun a => let e := vecLen (s.arrMode (arrNo b a)); e * (drainShape (o % 8) e).2).foldl (· + ·) 0)])
  | 0x14 => ([(dpWA d, 512)], [])
  | 0x15 => ([], [(dpWD d, as.length * 512)])
  | 0x19 | 0x1A => (if o % 2 = 1 then [(dpWB d, 512)] else [], [])
  | 0x20 | 0x21 | 0x40 => ([(dpWA d, 1)], [])
  | 0x22 => ([(dpWA d, 4)], [])
  | 0x41 => ([], [(dpWD d, 1)])
  | _ => ([], [])

/-- A request of the spar's batten waits: a march tests a bank that it needs (R179, R203), or it writes to a bank whose handover to the spar is pending (R175). -/
def State.opWaits (s : State) (b : Nat) (d : BitVec 96) : Bool :=
  let (rd, wr) := if s.storeQuiet b then ([], []) else s.opOperands b d
  let at' (x : Nat × Nat) (f : Nat → Bool) := (List.range x.2).any fun j => f (s.winAddr b x.1 (s.dpOffset b d + j))
  ((rd ++ wr).any fun x => at' x fun a => s.bankTested b (bankOf a)) || wr.any fun x => at' x fun a => s.stWaits b a ownSpar true

/-- Spar i issues the micro-operation of its word, with these datapath fields and OP code, once it need not wait for the store; a request that waits stalls the spar. [DEDUCED, assumption log 62] -/
def State.sparOp (s : State) (i : Nat) (d : BitVec 96) (code : Nat) (eff : State → State) : State :=
  if s.sparFree i && (s.sp i).opTurn d code && !s.opWaits i d then (eff s).opDone i else s

end Sys2Proof.Machine
end

