-- ==== Sys2Proof/Machine/Ligger.lean ====
section
/-! DEFINITION. The commands of the ligger pairs and of the ridge: moves, beat pairs, replays (R326 to R338, R393). -/

namespace Sys2Proof.Machine

/-! ## The commands of the family -/

/-- R328, R393: the pair of a spar's slot, or the protocol error of an unbound slot. [DEDUCED, assumption log 68] -/
def State.onSlot (s : State) (i slot : Nat) (f : State → Nat → State) : State :=
  let x := smGet (fun _ => 0) (s.sp i).lp slot
  if x < 1024 then s.ligProto (engOfSpar i) x 3 else f s (x - 1024)

/-- A fixed engine may move: the plan works, and its spar has not halted. -/
def State.engMoves (s : State) (e : Nat) : Bool :=
  s.live.isSome && s.phase == 2 && (match sparOfEng e with
    | some i => !s.bit (pgSPR i) SPR_STAT_HALTED
    | none => true)

/-- A move by a spar through the slot that its word names in OPT[2:0], or by an engine on a pair. -/
def State.ligMove (s : State) (m : Mover) (code : Nat) (f : State → Nat → Nat → State) : State :=
  match m with
  | .spar i slot =>
    let d := wDP (s.sp i).word
    if dpOPT d % 8 = slot then s.sparOp i d code fun s => s.onSlot i slot (fun s p => f s (engOfSpar i) p) else s
  | .engine e p => if s.engMoves e then f s e p else s

/-- ACQUIRE: with FREE = 0 a spar stalls, and an engine waits for its ACQUIRE_RESUME (R326, R393). -/
def execAcquire (m : Mover) (s : State) : Host.Outcome State Fault Refusal :=
  done s (s.ligMove m 0x30 fun s e p =>
    match m with
    | .spar i _ =>
      if s.ligMustWait e p then (s.setSp i { s.sp i with hold := .acquire p ((s.sp i).hold == .ending) }).wf (pgSPR i) SPR_STAT_WAITING 1
      else s.ligAcquire e p
    | .engine _ _ => s.ligAcquire e p)

/-- ACQUIRE_RESUME: FREE has become non-zero for a waiting producer. -/
def execAcquireResume (m : Mover) (s : State) : Host.Outcome State Fault Refusal :=
  done s (match m with
    | .spar i _ =>
      match (s.sp i).hold with
      | .acquire p last =>
        if s.sparGoes i && !s.ligMustWait (engOfSpar i) p then
          (((s.setSp i { s.sp i with hold := if last then .ending else .none }).wf (pgSPR i) SPR_STAT_WAITING 0).ligAcquire (engOfSpar i) p).endWord i
        else s
      | _ => s
    | .engine e p => if s.engMoves e && !s.ligMustWait e p then s.ligAcquire e p else s)

/-- POST. -/
def execPost (m : Mover) (s : State) : Host.Outcome State Fault Refusal := done s (s.ligMove m 0x31 State.ligPost)

/-- POST_APPLY: every write to the buffer has arrived whole (R333). -/
def execPostApply (p : Fin 1024) (s : State) : Host.Outcome State Fault Refusal := done s (s.ligPostApply p)

/-- The TAKE of a spar's slot waits (R330). -/
def State.takeWaits (s : State) (m : Mover) : Bool :=
  match m with
  | .spar i slot =>
    let x := smGet (fun _ => 0) (s.sp i).lp slot
    decide (1024 ≤ x) && s.ligTakeWaits (engOfSpar i) (x - 1024)
  | .engine e p => s.ligTakeWaits e p

/-- TAKE; that of a sway link with FULL = 0 stays due. -/
def execTake (m : Mover) (s : State) : Host.Outcome State Fault Refusal :=
  done s (if s.takeWaits m then s else s.ligMove m 0x32 State.ligTake)

/-- RELEASE. -/
def execRelease (m : Mover) (s : State) : Host.Outcome State Fault Refusal := done s (s.ligMove m 0x33 State.ligRelease)

/-- BEAT_PAIR_ARRIVAL: a half reaches a receiver from an issuer in a request class. `hbm` is the stack and channel on the path; a path without one carries whole beat pairs only (R336). `eng` is the engine at the plan's end of the path, `pair` the pair whose buffer is written, and `rivals` the other requests, by issuer and class, before which the valley took this one (R341). -/
def execBeatPairArrival (recv issuer : Fin 256) (cls : Fin 8) (seq : Fin 4) (half : Fin 2) (hbm : Option (Fin 4 × Fin 32))
    (eng : Option (Fin 256)) (pair : Option (Fin 1024)) (rivals : List (Fin 256 × Fin 8)) (s : State) :
    Host.Outcome State Fault Refusal :=
  let k := portKey recv issuer cls
  let rs := rivals.map fun r => (r.1.val, r.2.val)
  done s (match hbm with
    | none => s.wholeArrives k seq half rs
    | some (n, ch) => s.halfArrives k seq half n ch (eng.map (·.val)) (pair.map (·.val)) rs)

/-- SPLIT_TIMEOUT: RDG_CFG.SPLIT_TO cycles have passed after a lone half (R337). -/
def execSplitTimeout (recv issuer : Fin 256) (cls : Fin 8) (n : Fin 4) (ch : Fin 32) (s : State) :
    Host.Outcome State Fault Refusal :=
  let k := portKey recv issuer cls
  done s (match (s.port k).find? BeatPair.lone with
    | some b => (s.splitAt k b n ch).deliver k
    | none => s)

end Sys2Proof.Machine
end

