-- ==== Sys2Proof/Machine/Slate.lean ====
section
/-! DEFINITION. The commands of the slate arrays: issue, array operations, tables, modes (R211 to R240, R390, R391). -/

namespace Sys2Proof.Machine

/-- R391, R395: issue the array operation of the word of batten b's spar, with these datapath fields and OP code. An issue that stalls changes nothing: the spar fetches no further word until it has gone. -/
def State.arrIssue (s : State) (b : Nat) (d : BitVec 96) (code : Nat) (as : List Nat) (c : ArrCheck) (eff : State → State) : State :=
  if !s.sparFree b || !(s.sp b).opTurn d code || s.opWaits b d then s
  else if as.isEmpty then s.microTrap b 3 (s.rf (pgSPR b) SPR_STAT_UPC)
  else if s.arrStall b as then s
  else match s.arrBad b as c with
    | some (a, k, e) => s.arrFault b a k e
    | none => (eff (s.arrQueue b as c.entries)).opDone b

/-! ## Effects -/

/-- CLEAR of plane r of one array: a residue register in MOD36; in an integer mode, accumulator r of every slate. -/
def State.clearPlane (s : State) (x r : Nat) : State :=
  let m := s.arrMode x
  if m = 0 then s.setPlane x r (fun _ _ => 0)
  else
    let p := if m = 1 then 4 else 8
    { s with slt := { s.slt with acc := smDrop (fun k =>
        k / 65536 == x && k % 65536 / 256 % p == r / p && k % 256 % p == r % p) s.slt.acc } }

/-- R220: lower and upper bound of an accumulator. -/
def accLo (mode : Nat) : Int := if mode = 1 then -(2 ^ 31) else -(2 ^ 19)
def accHi (mode : Nat) : Int := if mode = 1 then 2 ^ 31 - 1 else 2 ^ 19 - 1

def clampInt (lo hi x : Int) : Int := min (max x lo) hi

/-- R213, R219: value v of an integer vector, signed or not. -/
def vecVal (mode : Nat) (sg : Bool) (ws : List (BitVec 72)) (v : Nat) : Int :=
  let w := if mode = 1 then 8 else 4
  let x := packedAt ws (if mode = 1 then 9 else 18) w v
  if sg then sext w x else x

/-- R220: one MAC step on one array in an integer mode. -/
def State.macStepInt (s : State) (b a mode : Nat) (av bv : Nat → Int) : State :=
  let x := arrNo b a
  let e := vecLen mode
  let cells := (List.range (e * e)).map fun p =>
    let t := s.accu x (p / e) (p % e) + av (p / e) * bv (p % e)
    (accKey x (p / e) (p % e), t)
  let sat := cells.any fun c => decide (c.2 < accLo mode) || decide (accHi mode < c.2)
  let s1 := { s with slt := { s.slt with
    acc := smSetMany zInt s.slt.acc (cells.map fun c => (c.1, clampInt (accLo mode) (accHi mode) c.2)) } }
  if sat then s1.noteSat b a else s1

/-- R233: one MAC step on one array in MOD36, into register r. -/
def State.macStepMod (s : State) (b a r : Nat) (av bv : Nat → Nat) : State :=
  let x := arrNo b a
  s.setPlane x r fun i j =>
    let q := s.modQ b (s.colEntry b j)
    (s.pock x r i j + mont q (av i) (bv j)) % q

/-- The words of step k of a streamed operand. -/
def stepWords (ws : List (BitVec 72)) (n k : Nat) : List (BitVec 72) := (ws.drop (k * n)).take n

/-- K MAC steps on one array; `aw` and `bw` give each step's words. -/
def State.macArray (s : State) (b a mode r : Nat) (sa sb : Bool) (aw bw : Nat → List (BitVec 72)) (steps : Nat) : State :=
  (List.range steps).foldl (fun s k =>
    if mode = 0 then s.macStepMod b a r (packedAt (aw k) 2 36) (packedAt (bw k) 2 36)
    else s.macStepInt b a mode (vecVal mode sa (aw k)) (vecVal mode sb (bw k))) s

/-- R222: the fields of a requant entry. -/
structure Requant where
  m : Int
  sh : Nat
  zp : Int
  lo : Int
  hi : Int
deriving DecidableEq, Repr

def requantOf (w : BitVec 72) : Requant :=
  let n := w.toNat
  { m := sext 16 (bits n 15 0), sh := min 47 (bits n 21 16), zp := sext 8 (bits n 29 22)
    lo := sext 9 (bits n 38 30), hi := sext 9 (bits n 47 39) }

/-- R219: the range of a DRAIN output format. -/
def drainRange (fmt : Nat) : Int × Int :=
  if fmt = 0 then (-128, 127) else if fmt = 1 then (0, 255) else if fmt = 2 then (-8, 7) else (0, 15)

/-- R223: a requantised value before its clamp, and after it. -/
def requantise (q : Requant) (fmt : Nat) (x : Int) : Int × Int :=
  let p := x * q.m + (if q.sh = 0 then 0 else 2 ^ (q.sh - 1))
  let y := p / (2 ^ q.sh : Int) + q.zp
  let (tmin, tmax) := drainRange fmt
  let lo2 := min (max q.lo tmin) tmax
  let hi2 := min (max q.hi tmin) tmax
  (y, min (max y lo2) (max lo2 hi2))

/-- R223: the words of row m of an array, drained in a format; whether a value clamped. -/
def State.drainRow (s : State) (x e fmt : Nat) (byCol : Bool) (m : Nat) : List (BitVec 72) × Bool :=
  if fmt = 4 then (packAll 2 36 ((List.range e).map fun n => trunc 36 (s.accu x m n)), false)
  else
    let ys := (List.range e).map fun n =>
      requantise (requantOf (smGet z72 s.slt.requant (x * 256 + (if byCol then n else m)))) fmt (s.accu x m n)
    let w := if fmt ≤ 1 then 8 else 4
    (packAll (if fmt ≤ 1 then 9 else 18) w (ys.map fun y => trunc w y.2), ys.any fun y => y.1 != y.2)

/-- R223: all rows of an array in order. -/
def State.drainAll (s : State) (x fmt : Nat) (byCol : Bool) : List (BitVec 72) × Bool :=
  let e := vecLen (s.arrMode x)
  (List.range e).foldl (fun acc m =>
    let (ws, c) := s.drainRow x e fmt byCol m
    (acc.1 ++ ws, acc.2 || c)) ([], false)

/-- R230: where coefficient position c of a transform of size 2^n lies: array, row, column, register. -/
def coefAt (n base c : Nat) : Nat × Nat × Nat × Nat :=
  (c / 2 ^ (n - 2) % 4, c / 2 ^ (n - 7) % 32, c / 2 ^ (n - 12) % 32, base + c % 2 ^ (n - 12))

/-- The coefficients of a polynomial in the pockets of batten b. -/
def State.coef (s : State) (b n base c : Nat) : Nat :=
  let (a, i, j, r) := coefAt n base c
  s.pock (arrNo b a) r i j

/-- Replace a polynomial in the pockets. -/
def State.setCoefs (s : State) (b n base : Nat) (f : Nat → Nat) : State :=
  let kvs := (List.range (2 ^ n)).map fun c =>
    let (a, i, j, r) := coefAt n base c
    (pockKey (arrNo b a) r i j, BitVec.ofNat 36 (f c))
  { s with slt := { s.slt with pock := smSetMany z36 s.slt.pock kvs } }

/-- Element-wise operation of one array on planes. -/
def State.planeOp (s : State) (b a rd : Nat) (f : Nat → Nat → Nat) : State := s.setPlane (arrNo b a) rd f

/-- Register planes and entry of a MOD36 operation (R390). [DEDUCED, assumption log 65] -/
def immEntry (d : BitVec 96) : Nat := bits (dpIMM d) 6 0
def immD (d : BitVec 96) : Nat := bits (dpIMM d) 12 8
def immX (d : BitVec 96) : Nat := bits (dpIMM d) 20 16
def immY (d : BitVec 96) : Nat := bits (dpIMM d) 28 24

/-- What an operation of parity faults: none, or in a pocket register or a ledge word of an array. -/
abbrev ArrPar := Option (Fin 4 × Bool)

/-- A MOD36 operation on planes x and y into plane d of every array of AM. -/
def State.elemOp (s : State) (b : Nat) (d : BitVec 96) (code : Nat) (par : ArrPar) (f : Nat → Nat → Nat → Nat → Nat) : State :=
  let as := arraysOf (dpAM d)
  let q := s.modQ b (immEntry d)
  s.arrIssue b d code as { modes := .mod36, entries := [immEntry d], par := par } fun s =>
    as.foldl (fun t a => t.planeOp b a (immD d) fun i j =>
      f q (s.pock (arrNo b a) (immX d) i j) (s.pock (arrNo b a) (immY d) i j) (s.pock (arrNo b a) (immD d) i j)) s

/-- EWMUL and EWMAC: as elemOp, with y streamed from (b) when OPT[0] = 1. -/
def State.streamOp (s : State) (b : Nat) (d : BitVec 96) (code : Nat) (par : ArrPar) (ups : List StErr)
    (f : Nat → Nat → Nat → Nat → Nat) : State :=
  if dpOPT d % 2 = 0 then s.elemOp b d code par f
  else
    let as := arraysOf (dpAM d)
    let q := s.modQ b (immEntry d)
    s.arrIssue b d code as { modes := .mod36, entries := [immEntry d], par := par } fun s =>
      match s.operandWords b (dpWB d) (dpAB d) (s.dpOffset b d) 512 ups with
      | (s1, none) => s1
      | (s1, some ws) =>
        as.foldl (fun t a => t.planeOp b a (immD d) fun i j =>
          f q (s.pock (arrNo b a) (immX d) i j) (packedAt ws 2 36 (32 * i + j)) (s.pock (arrNo b a) (immD d) i j)) s1

/-- NTT or INTT of the polynomial that the word names. AM = 0 is ILLEGAL as for every array operation (R391); otherwise it is ignored. [DEDUCED, assumption log 65] -/
def State.transform (s : State) (b : Nat) (d : BitVec 96) (code : Nat) (par : ArrPar)
    (f : Nat → Nat → Nat → (Nat → Nat) → Nat → Nat) : State :=
  let n := 14 + dpOPT d % 4
  let e := immEntry d
  let as := if dpAM d = 0 then [] else [0, 1, 2, 3]
  s.arrIssue b d code as { modes := .mod36, entries := [e], ntt := some (n, immD d), par := par } fun s =>
    s.setCoefs b n (immD d) (f (s.modQ b e) (s.modPsi b e) n (s.coef b n (immD d)))

/-! ## The commands of the family -/

/-- MODE_CHANGE: the earlier stint's operations on the array have completed (R216). -/
def execModeChange (b : Fin 64) (a : Fin 4) (s : State) : Host.Outcome State Fault Refusal :=
  done s (s.modeStart (arrNo b a))

/-- MODE_CHANGE_DONE: 96 cycles later every pocket register is 0 (R216). -/
def execModeChangeDone (b : Fin 64) (a : Fin 4) (s : State) : Host.Outcome State Fault Refusal :=
  let x := arrNo b a
  done s (match (s.arr x).changing && !s.gated, (s.arr x).want with
    | true, m :: r =>
      (((s.clearPockets x).wf (pgSLT b) SLT_MODE_MODE m a).setArr x { s.arr x with want := r, changing := false }).modeStart x
    | _, _ => s)

/-- A gable's write to the modulus table or the column map while a plan uses the batten (R238). [DEDUCED, assumption log 67] -/
def State.ifModWritable (s : State) (src : Src) (b key : Nat) (f : State → State) : State :=
  s.ifWriter src key fun s => if s.planUses b then s.accErr src key eSTATE else f s

/-- MODULUS_ENTRY_CHECK: a write of SLT_MCTLe. -/
def State.modCtlWrite (s : State) (src : Src) (b : Nat) (e : Nat) (v : Word32) : State :=
  s.ifModWritable src b (pgSLT b + 0x410 + 32 * e) fun s => s.modCheck b e (bits v.toNat 4 0)

/-- The command of the write above. -/
def execModulusEntryCheck (src : Src) (b : Fin 64) (e : Fin 96) (v : Word32) (s : State) : Host.Outcome State Fault Refusal :=
  done s (s.modCtlWrite src b e v)

/-- MOD_VALID: the check of an entry ends, VALID or BAD (R227). -/
def execModValid (b : Fin 64) (e : Fin 96) (s : State) : Host.Outcome State Fault Refusal :=
  done s (if s.rf (pgSLT b) SLT_MCTL_STATE e = 1 then s.modChecked b e else s)

/-- MODULUS_VALUE_WRITE: a write of SLT_Qe_LO, SLT_Qe_HI, SLT_PSIe_LO or SLT_PSIe_HI, in that order (R228). -/
def State.modValWrite (s : State) (src : Src) (b : Nat) (e : Nat) (k : Nat) (v : Word32) : State :=
  let f := if k = 0 then SLT_Q_LO_Q else if k = 1 then SLT_Q_HI_Q else if k = 2 then SLT_PSI_LO_PSI else SLT_PSI_HI_PSI
  s.ifModWritable src b (pgSLT b + 0x400 + 32 * e + 4 * k) fun s =>
    ((s.wf (pgSLT b) f v.toNat e).wf (pgSLT b) SLT_MCTL_STATE 0 e).wf (pgSLT b) SLT_MCTL_WHY 0 e

/-- The command of the write above. -/
def execModulusValueWrite (src : Src) (b : Fin 64) (e : Fin 96) (k : Fin 4) (v : Word32) (s : State) : Host.Outcome State Fault Refusal :=
  done s (s.modValWrite src b e k v)

/-- CLEAR. -/
def execClear (b : Fin 64) (d : BitVec 96) (s : State) : Host.Outcome State Fault Refusal :=
  let as := arraysOf (dpAM d)
  done s (s.arrIssue b d 0x10 as { modes := .all } fun s =>
    as.foldl (fun s a => if dpOPT d % 2 = 1 then s.clearPockets (arrNo b a) else s.clearPlane (arrNo b a) (immD d)) s)

/-- LLOAD: P16 + 1 vectors into ledge slots from IMM[9:0]. Every array of AM takes the same words, as vectors of its own mode. [DEDUCED, assumption log 65] -/
def execLload (b : Fin 64) (d : BitVec 96) (ups : List StErr) (s : State) : Host.Outcome State Fault Refusal :=
  let as := arraysOf (dpAM d)
  let cnt := dpP16 d + 1
  done s (s.arrIssue b d 0x11 as { modes := .all } fun s =>
    let size a := vecWords (s.arrMode (arrNo b a))
    let most := as.foldl (fun m a => max m (size a)) 0
    match s.operandWords b (dpWA d) (dpAA d) (s.dpOffset b d) (cnt * most) ups with
    | (s1, none) => s1
    | (s1, some ws) =>
      let kvs := as.flatMap fun a => (List.range (cnt * size a)).map fun p =>
        (ledgeKey (arrNo b a) (bits (dpIMM d) 9 0 + p / size a) (p % size a), ws.getD p 0)
      { s1 with slt := { s1.slt with ledge := smSetMany z72 s1.slt.ledge kvs } })

/-- MAC: K = P16 + 1 steps (R220, R233, R234). Operands from the store are read once and reach every array of the gang. -/
def execMac (b : Fin 64) (d : BitVec 96) (upsA upsB : List StErr) (par : ArrPar) (s : State) :
    Host.Outcome State Fault Refusal :=
  let as := arraysOf (dpAM d)
  let mode := s.arrMode (arrNo b (as.headD 0))
  let n := vecWords mode
  let cnt := dpP16 d + 1
  let k := s.dpOffset b d
  let o := dpOPT d
  let aL := mode != 0 && o.testBit 2
  let bL := mode != 0 && o.testBit 3
  let chk : ArrCheck := { modes := .gang, entries := if mode = 0 then (List.range 32).map (s.colEntry b) else [], par := par }
  done s (s.arrIssue b d 0x12 as chk fun s =>
    match (if aL then (s, some []) else s.operandWords b (dpWA d) (dpAA d) k (cnt * n) upsA) with
    | (s1, none) => s1
    | (s1, some wa) =>
      match (if bL then (s1, some []) else s1.operandWords b (dpWB d) (dpAB d) k (cnt * n) upsB) with
      | (s2, none) => s2
      | (s2, some wb) =>
        as.foldl (fun t a =>
          let x := arrNo b a
          t.macArray b a mode (immD d) (o.testBit 0) (o.testBit 1)
            (fun j => if aL then t.ledgeVec x (bits (dpIMM d) 9 0 + j) n else stepWords wa n j)
            (fun j => if bL then t.ledgeVec x (bits (dpIMM d) 25 16 + j) n else stepWords wb n j) cnt) s2)

/-- The words that DRAIN writes for one array: R223, or free values for an OPT[2:0] that names no format. [DESIGN CHOICE, assumption log 66] -/
def State.drainWords (s : State) (x fmt : Nat) (byCol : Bool) : State × List (BitVec 72) × Bool :=
  if fmt ≤ 4 then let (ws, c) := s.drainAll x fmt byCol; (s, ws, c)
  else
    let e := vecLen (s.arrMode x)
    let (s1, ws) := (List.range (15 * e)).foldl (fun acc _ =>
      let (v, t) := State.fresh acc.1
      (t, acc.2 ++ [BitVec.ofNat 72 v])) (s, [])
    (s1, ws, false)

/-- The words of a DRAIN, each array of AM in turn, lowest first; and its CLAMP conditions. -/
def State.drainOut (s : State) (b : Nat) (d : BitVec 96) : State × List (BitVec 72) :=
  (arraysOf (dpAM d)).foldl (fun acc a =>
    let (t, w, c) := State.drainWords acc.1 (arrNo b a) (dpOPT d % 8) ((dpOPT d).testBit 3)
    let p := t.sp b
    let t1 := if t.bit (pgSPR b) SPR_STAT_SEALED then t else t.setSp b { p with clamp := setBit p.clamp a c }
    (t1, acc.2 ++ w)) (s, [])


/-- R223: clear the accumulators of an array that the first `n` words of its DRAIN hold. -/
def State.clearDrained (s : State) (x fmt n : Nat) : State :=
  let (per, row) := drainShape fmt (vecLen (s.arrMode x))
  { s with slt := { s.slt with acc := smDrop (fun k =>
      k / 65536 == x && decide (k % 65536 / 256 * row + k % 256 / per < n)) s.slt.acc } }

/-- R223: a DRAIN that clears (IMM[0]) clears the accumulators that it has written: those of the first `n` words, each array of AM in turn. -/
def State.drainClear (s : State) (b fmt : Nat) : Nat → List Nat → State
  | _, [] => s
  | n, a :: r =>
    let e := vecLen (s.arrMode (arrNo b a))
    let (_, row) := drainShape fmt e
    (s.clearDrained (arrNo b a) fmt n).drainClear b fmt (n - e * row) r

/-- The words that the processor may write at consecutive offsets through a window before one is refused. -/
def State.wordsAllowed (s : State) (b w k n : Nat) : Nat :=
  if !s.winUser b w ownSpar then 0
  else ((List.range n).takeWhile fun j => (s.stDenied b (s.winAddr b w (k + j)) ownSpar true (s.drives b)).isNone).length

/-- DRAIN, to consecutive words of (d). -/
def execDrain (b : Fin 64) (d : BitVec 96) (par : ArrPar) (s : State) : Host.Outcome State Fault Refusal :=
  let as := arraysOf (dpAM d)
  done s (s.arrIssue b d 0x13 as { modes := .int, par := par } fun s =>
    let (s1, ws) := s.drainOut b d
    let k := s1.dpOffset b d
    let s2 := if dpIMM d % 2 = 1 then s1.drainClear b (dpOPT d % 8) (s1.wordsAllowed b (dpWD d) k ws.length) as else s1
    s2.storeOperand b (dpWD d) (dpAD d) k ws)

/-- PLOAD: value v of the 512 words goes to slate (v / 32, v mod 32); every array of AM takes the same words. -/
def execPload (b : Fin 64) (d : BitVec 96) (ups : List StErr) (s : State) : Host.Outcome State Fault Refusal :=
  let as := arraysOf (dpAM d)
  done s (s.arrIssue b d 0x14 as { modes := .mod36 } fun s =>
    match s.operandWords b (dpWA d) (dpAA d) (s.dpOffset b d) 512 ups with
    | (s1, none) => s1
    | (s1, some ws) => as.foldl (fun t a => t.setPlane (arrNo b a) (immD d) fun i j => packedAt ws 2 36 (32 * i + j)) s1)

/-- PSTORE: each array's plane in turn, lowest first. -/
def execPstore (b : Fin 64) (d : BitVec 96) (par : ArrPar) (s : State) : Host.Outcome State Fault Refusal :=
  let as := arraysOf (dpAM d)
  done s (s.arrIssue b d 0x15 as { modes := .mod36, par := par } fun s =>
    let ws := as.flatMap fun a => packAll 2 36 ((List.range 1024).map fun v => s.pock (arrNo b a) (immD d) (v / 32) (v % 32))
    s.storeOperand b (dpWD d) (dpAD d) (s.dpOffset b d) ws)

/-- ADD on register planes. -/
def execModAdd (b : Fin 64) (d : BitVec 96) (par : ArrPar) (s : State) : Host.Outcome State Fault Refusal :=
  done s (s.elemOp b d 0x16 par fun q x y _ => (x + y) % q)

/-- SUB on register planes. -/
def execModSub (b : Fin 64) (d : BitVec 96) (par : ArrPar) (s : State) : Host.Outcome State Fault Refusal :=
  done s (s.elemOp b d 0x17 par fun q x y _ => (x + (q - y % q)) % q)

/-- NEG of a register plane. -/
def execNeg (b : Fin 64) (d : BitVec 96) (par : ArrPar) (s : State) : Host.Outcome State Fault Refusal :=
  done s (s.elemOp b d 0x18 par fun q x _ _ => (q - x % q) % q)

/-- EWMUL. -/
def execEwmul (b : Fin 64) (d : BitVec 96) (ups : List StErr) (par : ArrPar) (s : State) :
    Host.Outcome State Fault Refusal :=
  done s (s.streamOp b d 0x19 par ups fun q x y _ => mont q x y)

/-- EWMAC. -/
def execEwmac (b : Fin 64) (d : BitVec 96) (ups : List StErr) (par : ArrPar) (s : State) :
    Host.Outcome State Fault Refusal :=
  done s (s.streamOp b d 0x1A par ups fun q x y acc => (acc + mont q x y) % q)

/-- TOM. -/
def execTom (b : Fin 64) (d : BitVec 96) (par : ArrPar) (s : State) : Host.Outcome State Fault Refusal :=
  done s (s.elemOp b d 0x1B par fun q x _ _ => toM q x)

/-- MULP. -/
def execMulp (b : Fin 64) (d : BitVec 96) (par : ArrPar) (s : State) : Host.Outcome State Fault Refusal :=
  done s (s.elemOp b d 0x1C par fun q x y _ => x * y % q)

/-- NTT. -/
def execNtt (b : Fin 64) (d : BitVec 96) (par : ArrPar) (s : State) : Host.Outcome State Fault Refusal :=
  done s (s.transform b d 0x1D par nttAt)

/-- INTT. -/
def execIntt (b : Fin 64) (d : BitVec 96) (par : ArrPar) (s : State) : Host.Outcome State Fault Refusal :=
  done s (s.transform b d 0x1E par inttAt)

/-- RQLOAD. -/
def execRqload (b : Fin 64) (d : BitVec 96) (ups : List StErr) (s : State) : Host.Outcome State Fault Refusal :=
  done s (s.sparOp b d 0x20 fun s =>
    match s.operandWords b (dpWA d) (dpAA d) (s.dpOffset b d) 1 ups with
    | (s1, none) => s1
    | (s1, some ws) =>
      let kvs := (arraysOf (dpAM d)).map fun a => (arrNo b a * 256 + bits (dpIMM d) 7 0, ws.headD 0)
      { s1 with slt := { s1.slt with requant := smSetMany z72 s1.slt.requant kvs } })

/-- MODLOAD: an entry number above 95 names no entry, and loads nothing. -/
def execModload (b : Fin 64) (d : BitVec 96) (ups : List StErr) (s : State) : Host.Outcome State Fault Refusal :=
  let e := immEntry d
  let pg := pgSLT b
  done s (s.sparOp b d 0x21 fun s =>
    match s.operandWords b (dpWA d) (dpAA d) (s.dpOffset b d) 1 ups with
    | (s1, none) => s1
    | (s1, some ws) =>
      if 96 ≤ e then s1
      else
        let w := (ws.headD 0).toNat
        ((((s1.wf pg SLT_Q_LO_Q (bits w 31 0) e).wf pg SLT_Q_HI_Q (bits w 35 32) e).wf pg SLT_PSI_LO_PSI
          (bits w 67 36) e).wf pg SLT_PSI_HI_PSI (bits w 71 68) e).modCheck b e (bits (dpIMM d) 12 8))

/-- COLMAP. -/
def execColmap (b : Fin 64) (d : BitVec 96) (ups : List StErr) (s : State) : Host.Outcome State Fault Refusal :=
  done s (s.sparOp b d 0x22 fun s =>
    match s.operandWords b (dpWA d) (dpAA d) (s.dpOffset b d) 4 ups with
    | (s1, none) => s1
    | (s1, some ws) =>
      (List.range 32).foldl (fun t c =>
        t.wf (pgSLT b) SLT_COLMOD_ENTRY (bits (ws.getD (c / 8) 0).toNat (8 * (c % 8) + 6) (8 * (c % 8))) c) s1)

/-- ARRAY_OPERATION_DONE: the oldest operation of an array completes after `busy` cycles in which the batten's arrays executed. [DEDUCED, assumption log 67] -/
def execArrayOperationDone (b : Fin 64) (a : Fin 4) (busy : Nat) (s : State) : Host.Outcome State Fault Refusal :=
  let x := arrNo b a
  done s (if (s.arr x).queue = 0 || s.gated then s
    else
      let t := smGet (fun _ => 0) s.slt.busyRest b + busy
      let s1 := { s with slt := { s.slt with busyRest := smSet (fun _ => 0) s.slt.busyRest b (t % 1024) } }
      let s2 := s1.inc (pgBTN b) BTN_BUSY_CNT_COUNT (t / 1024)
      ((s2.setArr x { s2.arr x with queue := (s2.arr x).queue - 1 }).arrNext b a).modeStart x)

end Sys2Proof.Machine
end

