-- ==== Sys2Proof/Machine/Spar.lean ====
section
/-! DEFINITION. Spars: the ALU, the micro-operations that no array takes, parking, patching and control-store marches (R387 to R389, R390, R410 to R417). -/

namespace Sys2Proof.Machine

/-! ## The ALU (R387 to R389) -/

/-- The ALU operation of the present word, with these datapath fields and code: it reads the registers as they stand, and they are kept for the word's micro-operation. -/
def State.alu (s : State) (i : Nat) (d : BitVec 96) (code : Nat) (f : State → SprSt → SprSt) : State :=
  if s.sparFree i && (s.sp i).aluTurn d code then
    let p := s.sp i
    (s.setSp i { f s p with pre := some p.v, aluDue := false }).endWord i
  else s

/-- Operations 1 to 12: result and flags. -/
def SprSt.result (p : SprSt) (rd : Nat) (v : BitVec 36) (fl : AluFlags) : SprSt :=
  { p.wr rd v with fz := fl.z, fn := fl.n, fc := fl.c, fv := fl.v }

/-- An operation of registers RA and RB. -/
def State.alu2 (s : State) (i : Nat) (d : BitVec 96) (code : Nat) (f : BitVec 36 → BitVec 36 → BitVec 36)
    (fl : BitVec 36 → BitVec 36 → AluFlags) : State :=
  s.alu i d code fun _ p => p.result (dpRD d) (f (p.rd (dpRA d)) (p.rd (dpRB d))) (fl (p.rd (dpRA d)) (p.rd (dpRB d)))

/-- The flags of the operations that clear C and V. -/
def logicFlags (f : BitVec 36 → BitVec 36 → BitVec 36) (x y : BitVec 36) : AluFlags := aluFlags (f x y) false false

def shlOp (x y : BitVec 36) : BitVec 36 := x <<< (y.toNat % 64)
def shrOp (x y : BitVec 36) : BitVec 36 := x >>> (y.toNat % 64)
def mul16Op (x y : BitVec 36) : BitVec 36 := BitVec.ofNat 36 (x.toNat % 2 ^ 16 * (y.toNat % 2 ^ 16))
def minOp (x y : BitVec 36) : BitVec 36 := if x.toNat ≤ y.toNat then x else y
def maxOp (x y : BitVec 36) : BitVec 36 := if x.toNat ≤ y.toNat then y else x

/-! ## Micro-operations -/

/-- NOP: no micro-operation of the word has still to take effect. -/
def execNop (i : Fin 72) (s : State) : Host.Outcome State Fault Refusal := done s (if s.sparFree i then s.endWord i else s)

/-- WSET: BASE, LEN and STRIDE are written in turn; a LEN or STRIDE outside its range is ignored and recorded (R711). -/
def execWset (b : Fin 64) (d : BitVec 96) (s : State) : Host.Outcome State Fault Refusal :=
  let pg := pgBST b
  let w := dpWD d
  done s (s.sparOp b d 0x28 fun s =>
    let base := ((s.sp b).rdPre (dpRA d)).toNat
    let len := ((s.sp b).rdPre (dpRB d)).toNat
    let stride := bits (dpIMM d) 17 0
    let s1 := s.wf pg BST_CW_BASE_BASE (bits base 17 5) w
    let s2 := if 1 ≤ len ∧ len ≤ 262144 then s1.wf pg BST_CW_LEN_LEN len w else s1.err pg eRANGE (pg + 0xC0 + 4 * w)
    let s3 := if stride < s2.rf pg BST_CW_LEN_LEN w then s2.wf pg BST_CW_STRIDE_STRIDE stride w
      else s2.err pg eRANGE (pg + 0xE0 + 4 * w)
    s3.winReset b w)

/-- WGROUP. -/
def execWgroup (b : Fin 64) (d : BitVec 96) (s : State) : Host.Outcome State Fault Refusal :=
  let pg := pgBST b
  let w := dpWD d
  let v := bits (dpIMM d) 15 0
  done s (s.sparOp b d 0x29 fun s =>
    if groupOk v then
      (((s.wf pg BST_CW_GROUP_USER (ownByte (bits v 15 8)) w).wf pg BST_CW_GROUP_F (bits v 7 3) w).wf pg BST_CW_GROUP_W (bits v 2 0) w).winReset b w
    else s.err pg eRANGE (pg + 0x100 + 4 * w))

/-- SRD: in sealed mode the word traps before any field takes effect (R397). `up` is what strikes the word before the read. -/
def execSrd (b : Fin 64) (d : BitVec 96) (up : StErr) (s : State) : Host.Outcome State Fault Refusal :=
  done s (s.sparOp b d 0x40 fun s =>
    if s.bit (pgSPR b) SPR_STAT_SEALED then s.microTrap b 2 (s.rf (pgSPR b) SPR_STAT_UPC)
    else
      match s.operandWords b (dpWA d) (dpAA d) (s.dpOffset b d) 1 [up] with
      | (s1, none) => s1
      | (s1, some ws) =>
        let w := ws.headD 0
        let v : BitVec 36 := if dpOPT d % 2 = 0 then w.truncate 36 else (w >>> 36).truncate 36
        let p := s1.sp b
        s1.setSp b { p.wr (dpRD d) v with srdWord := w, srdVal := v })

/-- SWR. -/
def execSwr (b : Fin 64) (d : BitVec 96) (s : State) : Host.Outcome State Fault Refusal :=
  done s (s.sparOp b d 0x41 fun s =>
    let p := s.sp b
    let v := BitVec.ofNat 72 ((p.rdPre (dpRA d)).toNat + 2 ^ 36 * (p.rdPre (dpRB d)).toNat)
    s.storeOperand b (dpWD d) (dpAD d) (s.dpOffset b d) [v])

/-- STORE_TEST. -/
def execStoreTest (b : Fin 64) (d : BitVec 96) (s : State) : Host.Outcome State Fault Refusal :=
  done s (s.sparOp b d 0x48 fun s => s.marchRequest b (dpOPT d % 2) (dpIMM d) true)

/-- STORE_REPAIR: refused on a bank of the loaded list (R202), and ignored while the running plan uses the batten (R206). -/
def execStoreRepair (b : Fin 64) (d : BitVec 96) (s : State) : Host.Outcome State Fault Refusal :=
  let pg := pgBST b
  let bank := bits (dpIMM d) 4 0
  done s (s.sparOp b d 0x49 fun s =>
    if s.listInBanks b (2 ^ bank) then (s.wf pg BST_MARCH_STAT_STATUS 8).err pg eBUSY_SELF (s.batten b).stFirst
    else if s.planUses b then s.err pg eSTATE (pg + 0x200 + 4 * bank)
    else s.repairEntry b bank (dpOPT d % 2) (bits (dpOPT d) 1 1) (bits (dpIMM d) 14 8))

/-- R415: the status of a control-store march request. -/
def State.csStatus (s : State) (i region : Nat) (spar : Bool) : Nat :=
  if spar && region != 0 && csRegion (s.sp i).phys == region then 0x8
  else if (s.sp i).march ≠ 0 then 0x111
  else if region = 0 ∨ region = 3 ∨ (region = 2 ∧ 64 ≤ i) then 0x112
  else if !spar && !s.bit (pgSPR i) SPR_STAT_PARKED then 0x113
  else 0

/-- R415: a control-store march is requested. -/
def State.csTest (s : State) (i region : Nat) (spar : Bool) : State :=
  let pg := pgSPR i
  let st := s.csStatus i region spar
  let s1 := s.wf pg SPR_CS_TSTAT_STATUS st
  if st = 0x8 then s1.err pg eBUSY_SELF
  else if st ≠ 0 then s1
  else (((s1.wf pg SPR_CS_TSTAT_RUN 1).wf pg SPR_CS_TSTAT_PASS 0).wf pg SPR_CS_TSTAT_DONE 0).setSp i
    { s1.sp i with march := region }

/-- CS_TEST. -/
def execCsTest (i : Fin 72) (d : BitVec 96) (s : State) : Host.Outcome State Fault Refusal :=
  done s (s.sparOp i d 0x4A fun s => s.csTest i (dpOPT d % 4) true)

/-- R394: an engine micro-operation drives a fixed stage of the engine of spar i, with the effect that the stage's own command has where no error strikes it. [DESIGN CHOICE, assumption log 65] -/
def State.driveStage (s : State) (i op : Nat) : State :=
  let k := Config.engineStage op
  if i < 68 then
    let y := i - 64
    match k % 5 with
    | 0 => s.ksNext y
    | 1 => s.ksPre y
    | 2 => s.ksKey y false
    | 3 => s.ksPost y
    | _ => s.ksOut y
  else s.stkRow (i - 68) (k % 4 + 1) 0 none

/-- ENGINE_MICRO_OPERATION. In a batten's spar it is ILLEGAL. -/
def execEngineMicroOperation (i : Fin 72) (d : BitVec 96) (s : State) : Host.Outcome State Fault Refusal :=
  done s (if opEngine (dpOP d) then
    s.sparOp i d (dpOP d) fun s =>
      if i.val < 64 then s.microTrap i 3 (s.rf (pgSPR i) SPR_STAT_UPC) else s.driveStage i (dpOP d)
  else s)

/-! ## Control of spars -/

/-- Gable 0 and the debug port. -/
def isMaster0 : Src → Bool
  | .gable g => g.val == 0
  | .debug => true
  | _ => false

/-- R410: a park request takes effect. -/
def State.park (s : State) (i : Nat) : State :=
  let pg := pgSPR i
  ((((s.wf pg SPR_STAT_PARKED 1).wf pg SPR_STAT_RUNNING 0).wf pg SPR_STAT_WAITING 0).setSp i
    { s.sp i with hold := .none, free := false }).raise pg 2

/-- PARK: a write of SPR_PARK. [DEDUCED, assumption log 64] -/
def State.parkWrite (s : State) (src : Src) (i : Nat) (v : Word32) : State :=
  let pg := pgSPR i
  let key := pg + 0x50
  s.ifWriter src key fun s =>
    if !isMaster0 src then s.accErr src key eWRITER
    else if v.getLsbD 0 then s.wf pg SPR_PARK_PARK 1
    else (s.wf pg SPR_PARK_PARK 0).wf pg SPR_STAT_PARKED 0

/-- The command of the write above. -/
def execPark (src : Src) (i : Fin 72) (v : Word32) (s : State) : Host.Outcome State Fault Refusal :=
  done s (s.parkWrite src i v)

/-- PARKED: a park request of a spar that drives no stint of the running plan takes effect. -/
def execParked (i : Fin 72) (s : State) : Host.Outcome State Fault Refusal :=
  let pg := pgSPR i
  done s (if s.bit pg SPR_PARK_PARK && !s.bit pg SPR_STAT_PARKED && !s.drives i then s.park i else s)

/-- R414: the spar is idle, unparked and drives no stint. -/
def State.sparIdle (s : State) (i : Nat) : Bool :=
  !s.bit (pgSPR i) SPR_STAT_RUNNING && !s.bit (pgSPR i) SPR_STAT_PARKED && !s.drives i

/-- SPR_RUN: a write of SPR_RUN. [DEDUCED, assumption log 64] -/
def State.runGoWrite (s : State) (src : Src) (i : Nat) (v : Word32) : State :=
  let pg := pgSPR i
  let key := pg + 0x54
  s.ifWriter src key fun s =>
    if !v.getLsbD 31 then s
    else if !s.sparIdle i then s.accErr src key eSTATE
    else
      let p := (List.range 5).foldl (fun p j => SprSt.wr p (j + 1) 0) (s.sp i)
      (((s.setSp i { p.drop with lp := [], next := bits v.toNat 12 0, hold := .none, free := true, residue := 0 }).wf pg
        SPR_STAT_HALTED 0).wf pg SPR_STAT_ENDED 0).wf pg SPR_STAT_RUNNING 1

/-- The command of the write above. -/
def execSprRun (src : Src) (i : Fin 72) (v : Word32) (s : State) : Host.Outcome State Fault Refusal :=
  done s (s.runGoWrite src i v)

/-- ATTN: a write of SPR_ATTN. `left` is what remains of the limit of a WAIT that it interrupts. [DEDUCED, assumption log 64] -/
def State.attnWrite (s : State) (src : Src) (i : Nat) (v : Word32) (left : Nat) : State :=
  let pg := pgSPR i
  let p := s.sp i
  s.ifWriter src (pg + 0x58) fun s =>
    let g := match src with
      | .gable g => g.val
      | _ => 0
    if !v.getLsbD 0 then s
    else if s.drives i then s.setSp i { p with attn := some g }
    else if !s.bit pg SPR_STAT_RUNNING then s
    else match p.hold with
      | .wait lim => s.attnTrap i g (s.rf pg SPR_STAT_UPC) (if lim = 0 then 0 else min left lim)
      | .ending => s.setSp i { p with attn := some g }
      | _ => if p.busy then s.setSp i { p with attn := some g } else s.attnTrap i g p.next

/-- The command of the write above. -/
def execAttn (src : Src) (i : Fin 72) (v : Word32) (left : Nat) (s : State) : Host.Outcome State Fault Refusal :=
  done s (s.attnWrite src i v left)

/-- R412: the code that refuses a commit; 0 none. -/
def State.csRefusal (s : State) (src : Src) (i : Nat) : Nat :=
  let pg := pgSPR i
  let a := s.rf pg SPR_CS_ADDR_ADDR
  if !isMaster0 src then eWRITER
  else if s.locked pg then eLOCKED
  else if a < 6144 then eREAD_ONLY
  else if 7680 ≤ a ∧ s.custOff i then 0x101
  else if !s.bit pg SPR_STAT_PARKED ∨ (s.sp i).march ≠ 0 then eSTATE
  else 0

/-- CS_COMMIT: a write of SPR_CS_D3. -/
def State.csCommitWrite (s : State) (src : Src) (i : Nat) (v : Word32) : State :=
  let pg := pgSPR i
  let key := pg + 0x70
  s.ifWriter src key fun s =>
    let c := s.csRefusal src i
    if c ≠ 0 then s.accErr src key c
    else
      let a := s.rf pg SPR_CS_ADDR_ADDR
      let w := (List.range 3).foldl (fun w k => w + s.rf pg SPR_CS_D_DATA k * 2 ^ (32 * k)) (v.toNat * 2 ^ 96)
      let s1 := (s.wf pg SPR_CS_D_DATA v.toNat 3)
      let s2 := { s1 with cs := smSet (fun _ => 0) s1.cs (csKey i a) (BitVec.ofNat 128 w) }
      if s2.bit pg SPR_CS_ADDR_INC then s2.wf pg SPR_CS_ADDR_ADDR ((a + 1) % 8192) else s2

/-- The command of the write above. -/
def execCsCommit (src : Src) (i : Fin 72) (v : Word32) (s : State) : Host.Outcome State Fault Refusal :=
  done s (s.csCommitWrite src i v)

/-- PATCH_MATCH_WRITE: a write of SPR_PMm. TARGET and MATCH are judged whether or not the entry is written VALID. [DEDUCED, assumption log 11] -/
def State.pmWrite (s : State) (src : Src) (i : Nat) (m : Nat) (v : Word32) : State :=
  let pg := pgSPR i
  let key := pg + 0x80 + 4 * m
  let t := bits v.toNat 28 16
  let a := bits v.toNat 12 0
  s.ifWriter src key fun s =>
    if decide (t < 6144 ∨ 7680 ≤ t) || decide (16 ≤ a ∧ a < 24) then s.accErr src key eRANGE
    else if s.lockBad pg .spr i (0x80 + 4 * m) v then s.accErr src key eLOCKED
    else if !s.bit pg SPR_STAT_PARKED then s.accErr src key eSTATE
    else ((s.wf pg SPR_PM_VALID (bits v.toNat 31 31) m).wf pg SPR_PM_TARGET t m).wf pg SPR_PM_MATCH a m

/-- The command of the write above. -/
def execPatchMatchWrite (src : Src) (i : Fin 72) (m : Fin 16) (v : Word32) (s : State) : Host.Outcome State Fault Refusal :=
  done s (s.pmWrite src i m v)

/-- CS_TEST_REQUEST: a write of SPR_CS_TEST. -/
def State.csTestWrite (s : State) (src : Src) (i : Nat) (v : Word32) : State :=
  s.ifWriter src (pgSPR i + 0x74) fun s =>
    if v.getLsbD 31 then s.csTest i (bits v.toNat 1 0) false else s

/-- The command of the write above. -/
def execCsTestRequest (src : Src) (i : Fin 72) (v : Word32) (s : State) : Host.Outcome State Fault Refusal :=
  done s (s.csTestWrite src i v)

/-- CS_TEST_DONE: a control-store march ends; `bad` says that a word failed. -/
def execCsTestDone (i : Fin 72) (bad : Bool) (s : State) : Host.Outcome State Fault Refusal :=
  let pg := pgSPR i
  done s (if (s.sp i).march = 0 || s.gated then s
    else ((((s.setSp i { s.sp i with march := 0 }).wf pg SPR_CS_TSTAT_RUN 0).wf pg SPR_CS_TSTAT_PASS (bnat !bad)).wf pg
      SPR_CS_TSTAT_DONE 1).raise pg 4)

end Sys2Proof.Machine
end

