-- ==== Sys2Proof/Machine/Course.lean ====
section
/-! DEFINITION. Courses: the tick, the arm window, the run phase, the tick guard and its selection point, and ring lockstep (R25 to R69, R131 to R133, R177, R217, R324, R388, R405). -/

namespace Sys2Proof.Machine

/-! ## The coming course -/

/-- Bits [31:0] of a number. -/
def low32 (n : Nat) : Nat := n % 2 ^ 32

/-- The number of the course that begins at the coming tick (R33, R61). -/
def State.comingNum (s : State) : Nat := if s.crs.first then s.courseNum else (s.courseNum + 1) % 2 ^ 64

/-- R67: the staged length is that of the course with this number. -/
def State.lenStaged (s : State) (n : Nat) : Bool := s.bit pgCRS CRS_STAT_NEXT_ARMED && s.rf pgCRS CRS_NEXT_AT_AT == low32 n

/-- The length of the coming course, µs. -/
def State.comingLen (s : State) : Nat :=
  if s.lenStaged s.comingNum then s.rf pgCRS CRS_NEXT_LEN_LEN else s.rf pgCRS CRS_LEN_LEN

/-- The course timer stops at the coming tick: EN was written 0, and no freeze holds the drain (R61, R78, R80). -/
def State.lastCourse (s : State) : Bool := s.bit pgCRS PG_STAT_QUIESCING && !s.bit pgCRS PG_CTRL_FREEZE

/-! ## Done (R28) -/


/-- R28: every engine of the plan has reached the end of its list, and every write that it issued has been acknowledged. [DEDUCED, assumption log 30] -/
def State.planEnded (s : State) (r : Run) : Bool :=
  (List.range 64).all (fun b => !(r.plan.bat b).stints || s.bit (pgSPR b) SPR_STAT_ENDED)
    && (List.range 8).all (fun e => !(r.plan.eng e).present || s.bit (pgSPR (64 + e)) SPR_STAT_ENDED)
    && s.txDone r && s.lig.posts.isEmpty
    && s.lig.ports.all (fun e => e.2.all fun b => match b.eng with | some x => decide (0x89 ≤ x) | none => true)
    && (List.range 64).all (fun b => !r.plan.uses b || (List.range 4).all fun a => (s.arr (arrNo b a)).queue == 0)

/-- PLAN_DONE. -/
def execPlanDone (s : State) : Host.Outcome State Fault Refusal :=
  done s (match s.live with
    | some r => if s.phase == 2 && s.planEnded r then s.wf pgCRS CRS_STAT_PLAN_DONE 1 else s
    | none => s)

/-- BUDGET_SLIP: the bound has passed and the plan is not done (R51). -/
def execBudgetSlip (s : State) : Host.Outcome State Fault Refusal :=
  done s (match s.crs.run with
    | some r =>
      if s.phase != 2 || s.crs.slipped || s.crs.trayFail || s.planEnded r then s
      else ({ s with crs := { s.crs with slipped := true } }.raise pgCRS 3).inc pgCRS CRS_SLIP_CNT_COUNT
    | none => s)

/-! ## The arm window (R27) -/

/-- R388, R397, R404: a spar at an arm window: a halt ends; a spar that the plan uses starts from cleared state. [DEDUCED, assumption log 27] -/
def State.armSpar (s : State) (p : Option Plan) (i : Nat) : State :=
  let pg := pgSPR i
  let s0 := s.wf pg SPR_STAT_HALTED 0
  match p with
  | none => s0
  | some p =>
    if !p.stintsOn i then s0
    else
      let old := s0.sp i
      let nst := if i < 64 then (p.bat i).nst else (p.eng (i - 64)).count
      let s1 := s0.setSp i { attn := old.attn, march := old.march }
      (((((((s1.wf pg SPR_STAT_RUNNING 0).wf pg SPR_STAT_WAITING 0).wf pg SPR_STAT_ENDED 0).wf pg SPR_STAT_IN_TRAP 0).wf pg
        SPR_STAT_FRAME 0).wf pg SPR_STAT_SEALED (bnat (p.domain != 0))).wf pg SPR_STINT_NST nst).wf pg SPR_STINT_INDEX 0

/-- R405: the stint list of a batten lies in the plan's shingles. -/
def BatEnt.listFits (e : BatEnt) : Bool := decide ((e.stlist + 8 * e.nst - 1) / 256 < e.demand)

/-- R405: copy a stint list into its batten store. [DEDUCED, assumption log 27] -/
def State.copyStints (s : State) (r : Run) (b : Nat) : State :=
  let e := r.plan.bat b
  let s0 := (s.runReads r r.plan.img [(e.slOff, 64 * e.nst)]).1
  let s1 := (List.range (8 * e.nst)).foldl (fun s i =>
    s.stPut b (e.stlist + i) (BitVec.ofNat 72 (leNat (s.runBytes r r.plan.img (e.slOff + 8 * i) 8)))) s0
  s1.setBatten b { s1.batten b with stFirst := e.stlist, stWords := 8 * e.nst }

def State.setDoom (s : State) (i why : Nat) : State := s.setSp i { s.sp i with doom := why }

/-- R27, R177, R181, R405: a batten's store in the arm window: bounds and grants, the stint list, and then the owner map. -/
def State.armStore (s : State) (r : Run) (b : Nat) : State :=
  let p := r.plan
  let e := p.bat b
  let gs := (p.grants.filter fun g => g.batten == b).map fun g => ((s.grant g.num).first, (s.grant g.num).len)
  let s1 := (s.wf (pgBST b) BST_BOUND_D e.demand).setBatten b { s.batten b with grants := gs }
  let s2 := if !e.stints then s1 else if e.listFits then s1.copyStints r b else s1.setDoom b 11
  if p.onBatten b then
    (List.range 32).foldl (fun s k => let o := e.owner.getD k 0xFF; if o = 0xFF then s else s.handOver b k o) s2
  else s2

/-- MODES of stint k of a batten's list in the plan's image, for array a. -/
def State.stintMode (s : State) (r : Run) (b k a : Nat) : Nat :=
  let w := leNat (s.runBytes r r.plan.img ((r.plan.bat b).slOff + 64 * k) 8)
  bits w (25 + 2 * a) (24 + 2 * a)

/-- R27, R218, R286: the modes of the arrays' first stint, where the descriptor names one, and MOD36 for the arrays of a row that a yealm of the plan drives; the arrays that a stint of the plan names, or a yealm of it uses, leave their clock gate. [DEDUCED, assumption log 28] -/
def State.armModes (s : State) (r : Run) (b : Nat) : State :=
  let e := r.plan.bat b
  let m a := if e.stints then s.stintMode r b 0 a else 3
  let named a := e.stints && (List.range e.nst).any fun k => s.stintMode r b k a != 3
  let row := (List.range 4).any fun y => r.plan.rowOf y b
  let s1 := (List.range 4).foldl (fun s a =>
    if m a ≠ 3 then s.wf (pgSLT b) SLT_MODE_MODE (m a) a else if row then s.wf (pgSLT b) SLT_MODE_MODE 0 a else s) s
  let gated := (List.range 4).foldl (fun v a => if row || named a then v else v + 2 ^ a) 0
  s1.wf (pgBTN b) BTN_USE_GATED gated

/-- R217: every pocket, ledge slot and requant entry is cleared, and SLT_SAT. -/
def State.armClearAll (s : State) : State :=
  let s1 := { s with slt := { s.slt with arrs := [], pock := [], acc := [], ledge := [], requant := [], satCourse := [] } }
  (List.range 64).foldl (fun s b => s.wf (pgSLT b) SLT_SAT_SAT 0) s1

/-- R189: every window's pointer returns to 0. -/
def State.armWindows (s : State) : State :=
  (List.range 64).foldl (fun s b => (List.range 8).foldl (fun s w => s.winReset b w) s) s

/-- Yealms and stooks at an arm window. [DEDUCED, assumption log 28] -/
def State.armEngines (s : State) (p : Option Plan) : State :=
  let ent e := match p with | some q => q.eng e | none => {}
  let s1 := (List.range 4).foldl (fun s y =>
    let e := ent y
    (((((s.setYealm y { bytes := (s.yealm y).bytes, starting := (s.yealm y).starting }).wf (pgYLM y) YLM_STAT_ACTIVE
      (bnat e.present)).wf (pgYLM y) YLM_STAT_PAIRED (bnat e.paired)).wf (pgYLM y) YLM_STAT_ROW e.row).wf (pgYLM y)
      YLM_STAT_DESC 0).wf (pgYLM y) YLM_STAT_STAGE 0) s
  (List.range 4).foldl (fun s n =>
    ((((s.setStook n {}).wf (pgSTK n) STK_STAT_ACTIVE (bnat (ent (4 + n)).present)).wf (pgSTK n) STK_STAT_DESC 0).wf (pgSTK n)
      STK_STAT_OP 0).wf (pgSTK n) STK_STAT_STAGE 0) s1

/-- R324: the link table in error halts every spar of the plan at its first stint, and the course is overrun. -/
def State.linkDoom (s : State) (p : Plan) : State :=
  ((List.range 72).foldl (fun s i => if p.stintsOn i then s.setDoom i 9 else s) s).overrun 4

/-- R411: spars of the plan that are parked halt. -/
def State.armParked (s : State) (p : Plan) : State :=
  (List.range 72).foldl (fun s i => if p.stintsOn i && s.bit (pgSPR i) SPR_STAT_PARKED then s.haltSpar i 10 else s) s

/-- R27: the arm window of the course that has just opened. [DEDUCED, assumption log 27] -/
def State.armWindow (s : State) : State :=
  let s := { s with lig := { s.lig with robin := [] } }
  let p := s.crs.run.map (·.plan)
  let s1 := (List.range 72).foldl (fun s i => s.armSpar p i) s.armWindows.armClearAll
  let s2 := s1.armEngines p
  let s3 := { s2 with btx := s2.btx.arm }
  match s3.crs.run with
  | none => s3.ligClear
  | some r =>
    let s4 := (List.range 64).foldl (fun s b =>
      if r.plan.uses b then (s.armStore r b).armModes r b else s) s3
    let s5 := (s4.runReads r r.plan.img [(r.plan.linkOff, 8 * r.plan.nlink)]).1
    match s5.ligArm (s5.linkTable r) with
    | (s6, bad) => (if bad then s6.linkDoom r.plan else s6).armParked r.plan

/-! ## The run phase (R28, R132) -/

/-- Copy one committed page into a shadow page; an uncorrectable error in it is the plan's own read. A stack that completes no access reads as zero, and takes no write (R712). -/
def State.copyIn (s : State) (src dst : Nat) : State :=
  let off := s.stackStopped (stackOf src)
  let s1 := if off then s else (s.struckIn src).foldl (fun s b => s.demandRead (stackOf src) b true) s
  if s1.stackStopped (stackOf dst) then s1 else if off then s1.zeroPage dst else s1.copyPage src dst

/-- R132: the shadow pages of a USE 2 output. [DEDUCED, assumption log 94] -/
def State.copyOutput (s : State) (r : Run) (h : Nat) : State :=
  match r.shadows.find? (fun e => e.1 == h) with
  | none => s
  | some (_, ps) =>
    let o := s.obj h
    if o.state = .resident then (List.range ps.length).foldl (fun s i => s.copyIn (o.pages.getD i 0) (ps.getD i 0)) s
    else ps.foldl (fun s p => s.zeroPage p) s

/-- R246: the yealm's spar reads a sealed parameter block that breaks a range. -/
def Plan.blockBad (p : Plan) (i : Nat) : Bool := decide (64 ≤ i) && decide (i < 68) && p.domain != 0 && p.sealedBad

/-- R28, R407, R409: the spar of an engine of the plan starts its first stint, or halts at it, unless the course was frozen before (`froze`): all engines start in one cycle, so that none waits for what another finds. [DESIGN CHOICE, assumption log 29] -/
def State.startSpar (s : State) (p : Plan) (froze : Bool) (i : Nat) : State :=
  if !p.stintsOn i || s.bit (pgSPR i) SPR_STAT_HALTED then s
  else if (s.sp i).doom ≠ 0 then s.haltSpar i (s.sp i).doom
  else if froze then s
  else if i < 64 then s.stintEnter i 0
  else if p.blockBad i then s.haltSpar i 12
  else (s.setSp i { s.sp i with next := Config.engineEntry i % 7680 }).wf (pgSPR i) SPR_STAT_RUNNING 1

/-- RUN_PHASE_START. -/
def execRunPhaseStart (s : State) : Host.Outcome State Fault Refusal :=
  done s (if !s.crs.running || s.phase != 1 then s
    else
      let s1 := s.wf pgCRS CRS_STAT_PHASE 2
      match s1.crs.run with
      | none => s1
      | some r =>
        let outs := (r.plan.objs.filter fun u => u.use == 2).map (·.handle)
        let s2 := if s1.crs.frozen then s1 else outs.foldl (fun s h => s.copyOutput r h) s1
        (List.range 72).foldl (fun s i => s.startSpar r.plan s1.crs.frozen i) s2)

/-! ## The selection point (R29, R52, R55, R129, R150, R156) -/

/-- R53, R55, R56: an overrun plan returns to its queue, or fails at its limit. A plan that an FLR has withdrawn does neither. [DEDUCED, assumption log 31] -/
def State.requeue (s : State) (r : Run) : State :=
  let n := r.plan.ovr + 1
  let lim := s.rf pgCRS CRS_OVR_LIMIT_LIMIT
  if r.silent then s
  else if lim ≠ 0 ∧ lim ≤ n then { s with crs := { s.crs with limit := true } }
  else { s with pur := { s.pur with queue := seqInsert { r.plan with ovr := n, ready := false, passed := 0 } s.pur.queue } }

/-- R52: CRS decides whether the course is overrun. [DEDUCED, assumption log 30] -/
def State.judge (s : State) : State :=
  match s.crs.run with
  | none => s
  | some r =>
    if s.crs.trayFail then s
    else
      let s1 := if s.crs.frozen then s else if s.planEnded r then s.wf pgCRS CRS_STAT_PLAN_DONE 1 else s.overrun 1
      if s1.crs.failWhy = 0 ∧ s1.crs.cause ≠ 0 then s1.requeue r else s1

/-- R124, R140: Purlin's work of a selection point: waiting grant commands, moves to retry, HB_FULL once more in the interval to come. A retry takes its place behind the moves that commands ask for (R715), whoever asked for the move at first. [DESIGN CHOICE, assumption log 113] -/
def State.purlinPoint (s : State) : State :=
  let s1 := s.stApplyAll
  let again := s1.pur.retry.filter fun a => decide (smGet (fun _ => 0) s1.pur.tries (tryKey a.out a.handle) < 3)
  { s1 with pur := { s1.pur with asks := s1.pur.asks ++ again.filter (fun a => !s1.pur.asks.contains a), retry := s1.pur.retry.filter fun a => !again.contains a, hbFull := [] } }

/-- R129, R130: readiness of every queued plan; none is ready while Purlin is not READY (R143). -/
def State.readyPoint (s : State) : State :=
  if s.ready pgPUR then
    let s1 := s.poisonFails
    { s1 with pur := { s1.pur with queue := s1.pur.queue.map fun p => { p with ready := s1.planReady p } } }
  else { s with pur := { s.pur with queue := s.pur.queue.map fun p => { p with ready := false } } }

/-- R144: the plan that the pager serves lacks pages, and no permitted eviction is left. -/
def State.pagerStalls (s : State) : Bool :=
  s.ready pgPUR && s.pur.move.isNone && match s.served with
    | some (p, _, ns) => !ns.isEmpty && (s.victim ns (some p) true).isNone
    | none => false

/-- R166: the PUE page at a selection point: READY sets after an enable, and a drain ends. -/
def State.puePoint (s : State) : State :=
  if s.bit pgPUE PG_STAT_QUIESCING then
    let s1 := s.wf pgPUE PG_STAT_QUIESCING 0
    if s.bit pgPUE PG_STAT_EN_PEND then (s1.wf pgPUE PG_STAT_EN_PEND 0).setLevel s.depth else s1
  else if s.bit pgPUE PG_CTRL_EN then s.wf pgPUE PG_STAT_READY 1
  else s

/-- R156: a hold condition applies; also when no course follows. [DEDUCED, assumption log 49] -/
def State.hold (s : State) : Bool :=
  !s.ready pgPUR || s.bit pgCRS PG_CTRL_FREEZE || s.bit pgCRS CRS_STAT_SEQ_HOLD || s.bit pgCRS CRS_STAT_REALIGN
    || s.trayFailed || !s.ready pgPUE || s.lastCourse

/-- R160: the selection points that a reservation has stood. [DEDUCED, assumption log 49] -/
def State.resvCount (s : State) : State :=
  if s.gov.resv.isSome then
    { s with gov := { s.gov with count := s.gov.count + 1 } }.wf pgPUE PUE_RESV_COUNT (s.gov.count + 1)
  else s

/-- R157, R161: the choice is carried out: the plan is dispatched and its bound loaded, or wadding follows. -/
def State.carryOut (s : State) (c : Choice) (len : Nat) : State :=
  let (s1, ch) := s.recordChoice c len (s.ready pgPUE)
  match c with
  | .plan p k =>
    let (s2, r) := s1.dispatch p
    let s3 := if s2.gov.resv = some p.seq then s2.resvClear else s2
    { s3 with crs := { s3.crs with next := some { run := some r, op := k, charge := ch } } }.wf pgCRS CRS_BUDGET_T (p.budget k)
  | .wad _ => { s1 with crs := { s1.crs with next := some { run := none, op := s1.rf pgPUE PUE_CFG_WAD_OP, charge := ch } } }

/-- The governor's work of a selection point, for a course that ends with length `ended` µs. -/
def State.govern (s : State) (ended : Nat) : State :=
  let len := s.comingLen
  let s1 := s.sampleZones.throttle
  let s2 := if s1.ready pgPUE then s1.bucket ended else s1
  let s3 := s2.resvCheck.resvLapse.resvStart
  let c := s3.choose s3.hold len
  let s4 := (s3.passOver c len).resvCount
  s4.carryOut c len

/-- SELECTION_POINT: `actual` is the length in µs of a realigning wadding course (R39, R150); every other course has the length of CRS_LEN. Before the first tick no course is open, and CRS_STAT.PHASE stays 0. [DEDUCED, assumption log 24] -/
def execSelectionPoint (actual : Fin 65536) (s : State) : Host.Outcome State Fault Refusal :=
  done s (if !s.selPoint then s
    else
      let ended := if s.crs.first then 0 else if s.crs.realigning then actual.val else s.rf pgCRS CRS_LEN_LEN
      let s0 := s.priDone
      let s1 := if s.crs.first then s0 else s0.judge.guardBegin
      let s2 := s1.purlinPoint.readyPoint
      let s3 := { s2 with
        pur := { s2.pur with rank := s2.ranked.map fun (p : Plan) => p.seq }
        crs := { s2.crs with judged := true, realignNext := s2.bit pgCRS CRS_STAT_REALIGN } }
      let s4 := (s3.raiseIf s3.pagerStalls pgPUR 5).puePoint
      s4.govern ended)

/-- VOLTAGE_RAMP: the core voltage rises for a faster operating point (R30). -/
def execVoltageRamp (s : State) : Host.Outcome State Fault Refusal :=
  done s (if s.crs.running && s.crs.judged then
      match s.crs.next with
      | some n => if n.op < s.crs.volt then { s with crs := { s.crs with volt := n.op } } else s
      | none => s
    else s)

/-! ## The tick (R29, R41, R43, R53, R58, R133) -/

/-- R41, R133: the shadow pages return to the free pages. [DEDUCED, assumption log 94] -/
def State.discardRun (s : State) (r : Run) : State := r.shadows.foldl (fun s e => s.releasePages e.2) s

/-- R41, R133: the outputs of a run are committed in course n. [DEDUCED, assumption log 94] -/
def State.commitRun (s : State) (r : Run) (n : Nat) : State :=
  r.shadows.foldl (fun s e =>
    let o := s.obj e.1
    (s.releasePages o.pages).setObj e.1 { o with state := .resident, poison := false, pages := e.2, epoch := n, last := n }) s

/-- A dispatched plan that does not run after all returns to its queue, unless it is there, or an FLR has withdrawn it. [DEDUCED, assumption log 31] -/
def State.putBack (s : State) (r : Run) : State :=
  let s1 := s.discardRun r
  if r.silent || s1.pur.queue.any (fun p => p.seq == r.plan.seq) then s1
  else { s1 with pur := { s1.pur with queue := seqInsert { r.plan with ready := false } s1.pur.queue } }

/-- R53, R54, R58: the fault record. LIGGER holds 0 where the recorded cause is not LATE, for which R54 gives it no value. [DESIGN CHOICE, assumption log 24] -/
def State.crsFault (s : State) (cause lig id : Nat) : State :=
  if s.bit pgCRS CRS_FAULT_VALID then s
  else ((((s.wf pgCRS CRS_FAULT_VALID 1).wf pgCRS CRS_FAULT_CAUSE cause).wf pgCRS CRS_FAULT_LIGGER lig).wf pgCRS
    CRS_FAULT_CRS_NUM (low32 s.courseNum)).wf pgCRS CRS_FAULT_PLAN_ID id

/-- R43, R679: a report at the tick; a plan of a function under FLR has none (R623). -/
def State.reportRun (s : State) (r : Run) (status cause : Nat) : State :=
  if r.silent then s else s.report r.plan.fn r.plan.id status cause s.courseNum

/-- The plan of the course that ends: commit, overrun, failure, or the failed state of the tray (R21). -/
def State.endRun (s : State) : State :=
  match s.crs.run with
  | none => s
  | some r =>
    let c := s.crs
    let s0 := { s with crs := { c with run := none } }
    let s1 := if c.late then (s0.raise pgCRS 2).inc pgCRS CRS_LATE_CNT_COUNT else s0
    if c.trayFail then s1.putBack r
    else if c.failWhy ≠ 0 then
      let s2 := (((s1.discardRun r).crsFault (if c.cause = 0 then 5 else c.cause) c.lig r.plan.id).raise pgCRS 10).raiseIf
        (c.failWhy == 1) pgPUR 7
      s2.reportRun r 3 c.failWhy
    else if c.cause ≠ 0 then
      let s2 := (((s1.discardRun r).crsFault c.cause c.lig r.plan.id).raise pgCRS 1).inc pgCRS CRS_OVR_CNT_COUNT
      if c.limit then { s2 with crs := { s2.crs with limitDue := true } }.reportRun r 3 3
      else s2.reportRun r 2 c.cause
    else (s1.commitRun r s1.courseNum).reportRun r 1 0

/-- R130, R43: plans that failed at the selection point are reported. -/
def State.endFails (s : State) : State :=
  let fs := s.crs.pendFail
  let s1 := { s with crs := { s.crs with pendFail := [] } }
  (fs.foldl (fun s p => s.report p.fn p.id 3 2 s.courseNum) s1).raiseIf (!fs.isEmpty) pgPUR 7

/-- R151, R619, R716: the measured energy of the course that ends, and its charge. -/
def State.endEnergy (s : State) (uj : Nat) (valid : Bool) : State :=
  let s1 := (((s.wf pgPWR PWR_ECRS_UJ uj).wf pgPWR PWR_ECRS_VALID (bnat valid)).wf pgPUE PUE_LAST_MEAS_UJ uj).wf pgPUE
    PUE_LAST_CHG_UJ (s.crs.charge.getD 0)
  { s1 with
    pwr := { s1.pwr with energy := (s1.pwr.energy + uj) % 2 ^ 64 }
    crs := { s1.crs with recon := s1.crs.charge.map fun c => (c, uj, valid) } }

/-- R325, R397, R408, R182: the engines of the plan at the tick that ends its course. -/
def State.endSpar (s : State) (p : Option Plan) (i : Nat) : State :=
  let pg := pgSPR i
  let s1 := (s.wf pg SPR_STAT_ENDED 0).wf pg SPR_STAT_SEALED 0
  match p with
  | none => s1
  | some p =>
    if !p.stintsOn i then s1
    else (((s1.wf pg SPR_STAT_RUNNING 0).wf pg SPR_STAT_WAITING 0).setSp i { (s1.sp i).drop with hold := .none, free := false }).attnTake i

/-- POSTs that have not applied, and buffers that are held, end with the course. -/
def State.postsDrop (s : State) : State := { s with lig := { s.lig with posts := [], held := [] } }

/-- R54: the beat pairs of a frozen plan that a replay is still to complete are abandoned, with their entries in the retry buffers. -/
def State.ridgeFreeze (s : State) : State :=
  let ks := (s.lig.ports.filter fun e => decide (2 ≤ portCls e.1 ∧ portCls e.1 ≤ 5)).map (·.1)
  ks.foldl (fun s k => (s.port k).foldl (fun s b => (if b.fresh.isSome then s.creditBack (portRecv k) 1 else s).retired k b.seq) (s.setPort k [])) s

/-- Stores, arrays and pairs at the tick that ends a course. The pairs keep what they show until the next arm window (R347). -/
def State.endBlocks (s : State) (frozen : Bool) : State :=
  let s1 := (List.range 64).foldl (fun s b =>
    ((s.wf (pgBST b) BST_BOUND_D 0).wf (pgBTN b) BTN_USE_GATED 0xF).setBatten b
      { s.batten b with grants := [], stFirst := 0, stWords := 0 }) s
  let s2 := (List.range 4).foldl (fun s n =>
    (((s.wf (pgYLM n) YLM_STAT_ACTIVE 0).wf (pgYLM n) YLM_STAT_STAGE 0).wf (pgSTK n) STK_STAT_ACTIVE 0).wf (pgSTK n) STK_STAT_STAGE 0) s1
  (if frozen then s2.ridgeFreeze else s2).postsDrop

/-- R195, R197: a tick for the battens: causes take effect, passing marches count, corrected errors start from 0. [DEDUCED, assumption log 26] -/
def State.tickBattens (s : State) : State :=
  let bs := s.bst.map fun e =>
    let x := e.2
    (e.1, { x with fenceTick := x.fenceTick || x.fenceDue, fenceDue := false, backTick := x.backTick || x.passed, ceCourse := 0 })
  { s with bst := bs.filter fun e => e.2 != bstDflt e.1 }

/-- R410: park requests of spars that drove the plan. -/
def State.tickParks (s : State) : State :=
  (List.range 72).foldl (fun s i =>
    if s.bit (pgSPR i) SPR_PARK_PARK && !s.bit (pgSPR i) SPR_STAT_PARKED then s.park i else s) s

/-- Drains that end at a tick. [DEDUCED, assumption log 96] -/
def State.tickDrains (s : State) : State :=
  let pgs := [pgPUR, pgBTXC] ++ (List.range 4).map pgYLM ++ (List.range 4).map pgSTK
  { s with drainTick := pgs.foldl (fun m pg => smSet (fun _ => false) m pg (s.bit pg PG_STAT_QUIESCING)) s.drainTick }

/-- The course that ends at a tick (not at the first one). [DEDUCED, assumption log 27] -/
def State.endCourse (s : State) (uj : Nat) (valid : Bool) : State :=
  let p := s.crs.run.map (·.plan)
  let frozen := s.crs.frozen
  let s1 := s.endRun.endFails.btxTick.endEnergy uj valid
  let s2 := (List.range 72).foldl (fun s i => s.endSpar p i) s1
  let s3 := (s2.endBlocks frozen).tickParks.tickDrains
  let c := s3.crs
  { s3.setCourseNum ((s3.courseNum + 1) % 2 ^ 64) with crs := { c with
    cause := 0, lig := 0, late := false, failWhy := 0, limit := false, frozen := false, slipped := false, trayFail := false
    charges := [], charge := none, backDue := c.backDue || c.realigning } }

/-- The sync state of a tray that counts on no mark: nothing is lost, nothing is regained, and no tick stands in for a mark (R38, R39, R68). [DESIGN CHOICE, assumption log 24] -/
def State.syncForget (s : State) : State :=
  { (s.wf pgCRS CRS_STAT_HOLDOVER 0).wf pgCRS CRS_STAT_REALIGN 0 with crs := { s.crs with
      lost := false, missed := 0, valid := 0, backDue := false, realigning := false, realignNext := false } }

/-- R61: the course timer stops; a plan dispatched to a course that does not begin returns to its queue. The stop ends a regain and clears HOLDOVER and REALIGN; SEQ_HOLD stays until a valid mark agrees (R37). [DEDUCED, assumption log 31; DESIGN CHOICE, assumption log 24] -/
def State.stopCourses (s : State) : State :=
  let s1 := match s.crs.next.bind (·.run) with
    | some r => s.putBack r
    | none => s
  let s2 := ([CRS_STAT_PHASE, CRS_STAT_SYNC_OK, CRS_STAT_OP, CRS_STAT_WADDING, CRS_STAT_PLAN_DONE, PG_STAT_QUIESCING, PG_STAT_READY].foldl
    (fun s f => s.wf pgCRS f 0) s1).syncForget
  { s2 with crs := { s2.crs with running := false, first := false, judged := false, next := none, charge := none, marked := false } }

/-- R67: a staged length takes effect. [DEDUCED, assumption log 21] -/
def State.lenApply (s : State) (n : Nat) : State :=
  if s.lenStaged n then
    ((s.wf pgCRS CRS_LEN_LEN (s.rf pgCRS CRS_NEXT_LEN_LEN)).wf pgCRS CRS_STAT_NEXT_ARMED 0).raise pgCRS 8
  else s

/-- What the course that a tick opens runs: what the selection point chose; but wadding, at WAD_OP and with the charge of wadding, where the tray has failed since a plan was selected (R21, R161). [DEDUCED, assumption log 31] -/
def State.opening (s : State) : Selected :=
  let wad : Selected := { run := none, op := s.rf pgPUE PUE_CFG_WAD_OP, charge := none }
  match s.crs.next with
  | none => wad
  | some n =>
    if s.trayFailed && n.run.isSome then { wad with charge := n.charge.map fun _ => s.wadCharge s.comingLen } else n

/-- The course that a tick opens: its plan or wadding, its operating point, and its arm window. In the failed state it is wadding (R21). [DEDUCED, assumption log 24] -/
def State.openCourse (s : State) : State :=
  let n := s.opening
  let s0 := match s.trayFailed, s.crs.next.bind (·.run) with
    | true, some r => s.putBack r
    | _, _ => s
  let run := n.run
  let s1 := (((((s0.lenApply s0.courseNum).wf pgCRS CRS_STAT_OP n.op).wf pgCRS CRS_STAT_WADDING (bnat run.isNone)).wf pgCRS
    CRS_STAT_PLAN_DONE 0).wf pgCRS CRS_STAT_PHASE 1).wf pgCRS PG_STAT_READY
    (bnat !s.bit pgCRS PG_STAT_QUIESCING)
  let s2 := match run with
    | some r => s1.wf pgCRS CRS_PLAN_ID r.plan.id
    | none => s1
  let fail := (run.map (·.fail)).getD 0
  { s2 with crs := { s2.crs with
      run := run, next := none, charge := n.charge, judged := false, first := false, volt := n.op
      failWhy := fail, frozen := decide (fail ≠ 0)
      realigning := s2.crs.realignNext && !s2.crs.realigning, realignNext := false } }.armWindow

/-- R61: the course timer starts; in internal mode it is in sync. CRS_STAT.PHASE stays 0 until the first tick opens a course. [DEDUCED, assumption log 24] -/
def State.crsStart (s : State) : State :=
  let internal := !s.bit pgCRS CRS_SRC_MODE
  let s1 := s.syncForget
  { s1 with crs := { s1.crs with running := true, first := true, judged := false, marked := false } }.wf pgCRS CRS_STAT_SYNC_OK (bnat internal)

/-- R68: CRS_SRC.MODE has been written while the timer runs (in a drain, R64). Internal mode is always in sync; a tray that turns external goes on as one that has lost no mark. [DEDUCED, assumption log 24] -/
def State.modeSet (s : State) (old : Nat) : State :=
  if s.crs.running && s.rf pgCRS CRS_SRC_MODE != old && !s.bit pgCRS CRS_SRC_MODE then s.syncForget.wf pgCRS CRS_STAT_SYNC_OK 1 else s

/-- R78: the drain of CRS ends as its timer stops, and a pending enable starts the timer anew. [DEDUCED, assumption log 24] -/
def State.crsDrainEnd (s : State) : State :=
  let s1 := s.stopCourses
  if s1.bit pgCRS PG_STAT_EN_PEND then (s1.wf pgCRS PG_STAT_EN_PEND 0).crsStart else s1

/-- A tick can fall: the timer runs, and the selection point of the tick guard has passed (R25, R29); the first tick ends no course, and in external mode it needs a valid mark (R61). -/
def State.tickReady (s : State) : Bool :=
  s.crs.running && (if s.crs.first then !s.bit pgCRS CRS_SRC_MODE || s.crs.marked else s.crs.judged)

/-- TICK: `uj` is the package energy measured over the course that ends, and `valid` whether telemetry missed no sample. -/
def execTick (uj : Fin (2 ^ 31)) (valid : Bool) (s : State) : Host.Outcome State Fault Refusal :=
  done s (if !s.tickReady then s
    else
      let s0 := s.priDone
      let s1 := (if s.crs.first then s0 else s0.endCourse uj valid).tickBattens.tickClasses
      let s2 := if s.lastCourse then s1.crsDrainEnd else s1.openCourse
      s2.flrTick.raise pgCRS 0)

/-- OVR_LIMIT: raised for the plan that has failed under R56. -/
def execOvrLimit (s : State) : Host.Outcome State Fault Refusal :=
  done s (if s.crs.limitDue then { s with crs := { s.crs with limitDue := false } }.raise pgCRS 9 else s)

/-! ## Ring lockstep (R32 to R39, R641, R642) -/

/-- R33: the remainder of the 32 message bits, bit 39 first. -/
def crc8 (m : Nat) : Nat :=
  (List.range 32).foldl (fun c i =>
    let top := (c / 128 % 2 + (if m.testBit (31 - i) then 1 else 0)) % 2
    (c * 2 % 256) ^^^ (if top = 1 then 7 else 0)) 0

/-- R33: the mark of a course number and length. [DEDUCED, assumption log 32] -/
def markWord (n len : Nat) : BitVec 48 :=
  let m := n % 65536 * 65536 + len % 16384 * 4
  BitVec.ofNat 48 (0xCA * 2 ^ 40 + m * 256 + crc8 m)

/-- R33, R37: preamble and CRC check. [DEDUCED, assumption log 32] -/
def markChecks (w : Nat) : Bool := w / 2 ^ 40 == 0xCA && crc8 (w / 256 % 2 ^ 32) == w % 256

/-- R37: a valid mark is compared with the coming course. -/
def State.seqMark (s : State) (w : Nat) : State :=
  if w / 2 ^ 24 % 65536 = s.comingNum % 65536 ∧ w / 1024 % 16384 = s.comingLen then s.wf pgCRS CRS_STAT_SEQ_HOLD 0
  else (s.wf pgCRS CRS_STAT_SEQ_HOLD 1).raise pgCRS 7

/-- R65: a measurement. -/
def State.measure (s : State) (x : Nat) : State := (s.wf pgCRS CRS_SYNC_MEAS_VALID 1).wf pgCRS CRS_SYNC_MEAS_PHASE x

/-- R39: valid marks in succession after a loss. [DEDUCED, assumption log 32] -/
def State.regain (s : State) (valid : Bool) (gap : Nat) : State :=
  if !s.crs.lost then s
  else
    let l := 1000 * s.rf pgCRS CRS_LEN_LEN
    let n := if !valid then 0 else if decide (l ≤ gap + 100 ∧ gap ≤ l + 100) then s.crs.valid + 1 else 1
    let s1 := { s with crs := { s.crs with valid := n } }
    if 4 ≤ n then s1.wf pgCRS CRS_STAT_REALIGN 1
    else if s.crs.realigning || s.crs.backDue then s1 else s1.wf pgCRS CRS_STAT_REALIGN 0

/-- R37, R61: a follower's timer takes a valid mark that arrives `phase` ns from its expected time. [DEDUCED, assumption log 32] -/
def State.takeMark (s : State) (w : Nat) (phase : BitVec 16) : State :=
  if s.crs.first then
    { ((s.wf pgCRS CRS_STAT_SYNC_OK 1).wf pgCRS CRS_STAT_HOLDOVER 0) with crs := { s.crs with marked := true } }.seqMark w
  else
    let s1 := s.measure phase.toNat
    if 100 < phase.toInt.natAbs then s1
    else
      let s2 := { s1 with crs := { s1.crs with missed := 0 } }.seqMark w
      if s2.crs.lost then s2 else s2.wf pgCRS CRS_STAT_HOLDOVER 0

/-- SYNC_MARK: a mark arrives at J4 sync in. `phase` is its arrival less the expected one, or at the master the delay since its own mark left, in ns; `gap` the ns since the mark before it. An input that is not DRIVEN delivers no mark (R640). -/
def execSyncMark (w : BitVec 48) (phase : BitVec 16) (gap : Nat) (s : State) : Host.Outcome State Fault Refusal :=
  let a := w.toNat
  let b := (~~~w).toNat
  done s (if s.rf pgFSC FSC_CONN_J4_IN != 0 then s
    else
      let t := markChecks a
      let i := !t && markChecks b
      let s1 := if t then s.connSet FSC_CONN_J4_INV 17 0
        else if i then (s.connSet FSC_CONN_J4_INV 17 1).inc pgFSC FSC_J4_INV_CNT_COUNT else s
      let ext := s.bit pgCRS CRS_SRC_MODE
      let out := s.bit pgCRS CRS_SRC_SYNC_OUT_EN
      let s2 := if ext && out then s1.emit (.mark (if s1.bit pgFSC FSC_CONN_J4_INV then ~~~w else w)) else s1
      let valid := t || (i && s.bit pgFSC FSC_CONN_CFG_AUTO_INV)
      let word := if i then b else a
      if !ext then
        (if out && valid && s2.crs.sent == some (BitVec.ofNat 48 word) then s2.measure phase.toNat else s2)
      else if !s2.crs.running then s2
      else if valid then (s2.regain true gap).takeMark word phase
      else s2.regain false gap)

/-- SYNC_MARK_EMIT: the master sends the mark of the coming course. -/
def execSyncMarkEmit (s : State) : Host.Outcome State Fault Refusal :=
  done s (if s.crs.running && !s.bit pgCRS CRS_SRC_MODE && s.bit pgCRS CRS_SRC_SYNC_OUT_EN then
      let w := markWord s.comingNum s.comingLen
      { s with crs := { s.crs with sent := some w } }.emit (.mark w)
    else s)

/-- A follower's course timer runs, and its first tick has fallen. -/
def State.follows (s : State) : Bool := s.crs.running && !s.crs.first && s.bit pgCRS CRS_SRC_MODE

/-- SYNC_MISS: no valid mark has come for the coming tick. -/
def execSyncMiss (s : State) : Host.Outcome State Fault Refusal :=
  done s (if s.follows then
      ({ s with crs := { s.crs with missed := s.crs.missed + 1 } }.wf pgCRS CRS_STAT_HOLDOVER 1).raise pgCRS 4
    else s)

/-- SYNC_LOST: HOLD marks in succession have been missed. -/
def execSyncLost (s : State) : Host.Outcome State Fault Refusal :=
  done s (if s.follows && !s.crs.lost && decide (max 1 (s.rf pgCRS CRS_SRC_HOLD) ≤ s.crs.missed) then
      ({ s with crs := { s.crs with lost := true, valid := 0 } }.wf pgCRS CRS_STAT_SYNC_OK 0).raise pgCRS 5
    else s)

/-- SYNC_BACK: the realigning wadding course has ended. -/
def execSyncBack (s : State) : Host.Outcome State Fault Refusal :=
  done s (if s.crs.backDue then
      let s1 := ((s.wf pgCRS CRS_STAT_SYNC_OK 1).wf pgCRS CRS_STAT_REALIGN 0).wf pgCRS CRS_STAT_HOLDOVER 0
      { s1 with crs := { s1.crs with backDue := false, lost := false, missed := 0, valid := 0 } }.raise pgCRS 6
    else s)

/-! ## Staged lengths (R67) -/

/-- The selection point of the course before the target has passed: the target is the coming course and that point is over, or the target lies before the coming course. Numbers of 32 bits up to half the range behind the coming one are past ones. [DEDUCED, assumption log 32] -/
def State.lenLate (s : State) (at' : Nat) : Bool :=
  let d := (at' + 2 ^ 32 - low32 s.comingNum) % 2 ^ 32
  s.crs.running && ((decide (d = 0) && s.crs.judged) || decide (2 ^ 31 ≤ d))

/-- NEXT_LEN_ARM: a write of CRS_NEXT_AT. [DEDUCED, assumption log 32] -/
def State.nextAtWrite (s : State) (src : Src) (v : Word32) : State :=
  let key := pgCRS + 0x60
  s.ifWriter src key fun s =>
    if s.bit pgCRS CRS_STAT_NEXT_ARMED || s.lenLate v.toNat then s.accErr src key eSTATE
    else (s.wf pgCRS CRS_NEXT_AT_AT v.toNat).wf pgCRS CRS_STAT_NEXT_ARMED 1

/-- The command of the write above. -/
def execNextLenArm (src : Src) (v : Word32) (s : State) : Host.Outcome State Fault Refusal :=
  done s (s.nextAtWrite src v)

/-- CANCEL: a write of 1 to CRS_NEXT_CAN.CANCEL. -/
def State.nextCanWrite (s : State) (src : Src) : State :=
  let key := pgCRS + 0x8C
  s.ifWriter src key fun s =>
    if !s.bit pgCRS CRS_STAT_NEXT_ARMED || s.lenLate (s.rf pgCRS CRS_NEXT_AT_AT) then s.accErr src key eSTATE
    else s.wf pgCRS CRS_STAT_NEXT_ARMED 0

/-- The command of the write above. -/
def execCancel (src : Src) (s : State) : Host.Outcome State Fault Refusal :=
  done s (s.nextCanWrite src)

/-! ## Sway waits (R330) -/

/-- SWAY_WAIT_END: the sway dependence of the engine is met, and its marked descriptor or stint may begin. -/
def execSwayWaitEnd (e : Fin 256) (s : State) : Host.Outcome State Fault Refusal :=
  let n := e.val
  done s (if n < 0x40 then
      match (s.sp n).hold with
      | .sway idx =>
        if !s.sparGoes n then s
        else match (s.sp n).ahead with
          | [] => s
          | (ws, _) :: _ =>
            match s.swayMet n (s.stintsAcked n) with
            | (s1, true) => s1.stintTake n idx ws
            | (_, false) => s
      | _ => s
    else if 0x80 ≤ n ∧ n < 0x84 then
      let y := n - 0x80
      if (s.engRun y).isNone || !(s.yealm y).swayWait then s
      else match s.swayMet n (s.yealm y).recs.isEmpty with
        | (s1, true) => s1.setYealm y { s1.yealm y with swayWait := false, swayOk := true }
        | (_, false) => s
    else if 0x84 ≤ n ∧ n < 0x88 then
      let k := n - 0x84
      if (s.engRun (4 + k)).isNone || !(s.stook k).swayWait then s
      else match s.swayMet n true with
        | (s1, true) => s1.setStook k { s1.stook k with swayWait := false, swayOk := true }
        | (_, false) => s
    else if n = 0x88 then
      if s.live.isNone || s.phase != 2 || !s.btx.swayWait then s
      else match s.swayMet n true with
        | (s1, true) => { s1 with btx := { s1.btx with swayWait := false, swayOk := true } }
        | (_, false) => s
    else s)

end Sys2Proof.Machine
end

