-- ==== Sys2Proof/Machine/Aes.lean ====
section
/-! DEFINITION. AES-256-GCM, under which vendor patch bundles are encrypted (R563, R564). PRESUMED: the functions are those of FIPS 197 and SP 800-38D (assumption log 40). -/

namespace Sys2Proof.Machine

/-! ## AES-256 -/

/-- Multiplication by x modulo x^8 + x^4 + x^3 + x + 1. -/
def aesX (a : Nat) : Nat := (2 * (a % 256) % 256) ^^^ (0x1B * (a % 256 / 128))

def aesMul (a b : Nat) : Nat := [7, 6, 5, 4, 3, 2, 1, 0].foldl (fun acc i => aesX acc ^^^ (b / 2 ^ i % 2 * a)) 0

/-- The inverse, a^254. -/
def aesInv (a : Nat) : Nat :=
  ((List.range 7).foldl (fun p _ => (aesMul p.1 p.1, aesMul p.2 (aesMul p.1 p.1))) (a, 1)).2

/-- The S-box. -/
def aesSub (v : Nat) : Nat :=
  let i := aesInv v
  let rot k := (i * 2 ^ k + i / 2 ^ (8 - k)) % 256
  i ^^^ rot 1 ^^^ rot 2 ^^^ rot 3 ^^^ rot 4 ^^^ 0x63

/-- Bytes XORed in pairs. -/
def xorBytes (a b : List Nat) : List Nat := a.zipWith (· ^^^ ·) b

/-- Word i of the key schedule from the words before it. -/
def aesWord (ws : List (List Nat)) (i : Nat) : List Nat :=
  let t := ws.getD (i - 1) []
  let t1 := if i % 8 = 0 then xorBytes ((t.drop 1 ++ t.take 1).map aesSub) [(List.range (i / 8 - 1)).foldl (fun a _ => aesX a) 1, 0, 0, 0]
    else if i % 8 = 4 then t.map aesSub else t
  xorBytes (ws.getD (i - 8) []) t1

/-- The 60 words of the key schedule. -/
def aesSchedule (key : List Nat) : List (List Nat) :=
  (List.range 52).foldl (fun ws i => ws ++ [aesWord ws (8 + i)]) ((List.range 8).map fun k => (key.drop (4 * k)).take 4)

/-- The 16 bytes of round key r. -/
def roundKey (ws : List (List Nat)) (r : Nat) : List Nat := ((ws.drop (4 * r)).take 4).flatten

/-- SubBytes and ShiftRows of a block, column by column. -/
def aesShift (b : List Nat) : List Nat :=
  (List.range 16).map fun k => aesSub (b.getD (k % 4 + 4 * ((k / 4 + k % 4) % 4)) 0)

def aesMix (b : List Nat) : List Nat :=
  (List.range 16).map fun k =>
    let g i := b.getD (k / 4 * 4 + (k + i) % 4) 0
    aesMul (g 0) 2 ^^^ aesMul (g 1) 3 ^^^ g 2 ^^^ g 3

/-- A block of 16 bytes enciphered under a key of 32 bytes. [PRESUMED, assumption log 40] -/
def aesBlock (key b : List Nat) : List Nat :=
  let ws := aesSchedule key
  let b1 := (List.range 13).foldl (fun b r => xorBytes (aesMix (aesShift b)) (roundKey ws (r + 1))) (xorBytes b (roundKey ws 0))
  xorBytes (aesShift b1) (roundKey ws 14)

/-! ## GCM -/

/-- The big-endian number of a block. -/
def blockNat (b : List Nat) : Nat := b.foldl (fun a v => 256 * a + v) 0
def natBlock (n : Nat) : List Nat := ((List.range 16).map fun i => n / 256 ^ i % 256).reverse

/-- Multiplication in GCM's field: bit 127 is the coefficient of x^0. -/
def gcmMul (x y : Nat) : Nat :=
  ((List.range 128).foldl (fun (p : Nat × Nat) i =>
    (if x.testBit (127 - i) then p.1 ^^^ p.2 else p.1, (p.2 / 2) ^^^ (p.2 % 2 * (0xE1 * 2 ^ 120)))) (0, y)).1

/-- Bytes in blocks of 16, the last one filled with zeros. -/
def gcmBlocks (bs : List Nat) : List (List Nat) :=
  (List.range ((bs.length + 15) / 16)).map fun k => ((bs.drop (16 * k)).take 16 ++ List.replicate 16 0).take 16

/-- GHASH of additional data and ciphertext. -/
def ghash (h : Nat) (aad ct : List Nat) : Nat :=
  let len := natBlock (8 * aad.length * 2 ^ 64 + 8 * ct.length)
  (gcmBlocks aad ++ gcmBlocks ct ++ [len]).foldl (fun y b => gcmMul (y ^^^ blockNat b) h) 0

/-- Counter block k under a 12-byte nonce. -/
def gcmCounter (iv : List Nat) (k : Nat) : List Nat := iv ++ (natBlock k).drop 12

/-- The 16-byte tag. [PRESUMED, assumption log 40] -/
def gcmTag (key iv aad ct : List Nat) : List Nat :=
  xorBytes (natBlock (ghash (blockNat (aesBlock key (List.replicate 16 0))) aad ct)) (aesBlock key (gcmCounter iv 1))

/-- The plaintext of a ciphertext. [PRESUMED, assumption log 40] -/
def gcmPlain (key iv ct : List Nat) : List Nat :=
  (List.range ((ct.length + 15) / 16)).flatMap fun k => xorBytes ((ct.drop (16 * k)).take 16) (aesBlock key (gcmCounter iv (2 + k)))

end Sys2Proof.Machine
end

