-- ==== Sys2Proof/Machine/Bundle.lean ====
section
/-! DEFINITION. Vendor patch bundles and owner bundles: their layout, the checks that boot firmware makes, which bundle it takes, the register writes that load a section, and its entry into recovery (R563, R565 to R570). Boot firmware is software of the boot image: its register writes reach the machine as gable 0's. [DESIGN CHOICE, assumption log 119] -/

namespace Sys2Proof.Machine

/-! ## Headers (R563, R568) -/

/-- First byte of the vendor bundle of partition i, and of its owner bundle. -/
def bndBase (i : Nat) : Nat := 0x1000000 + i * 0x800000
def ownBase (i : Nat) : Nat := bndBase i + 0x400000

/-- Bytes of the header that R563 lists. -/
def bndListed (o : Nat) : Bool :=
  decide (o < 7) || (decide (8 ≤ o) && decide (o < 0x11)) || (decide (0x18 ≤ o) && decide (o < 0x2C))
    || (decide (0x30 ≤ o) && decide (o < 0xA1)) || (decide (0x100 ≤ o) && decide (o < 0x160))

/-- MAGIC, FORMAT, NSEC and BODY_LEN are in range, and every unlisted byte is 0. -/
def State.bndHdrOk (s : State) (b magic : Nat) : Bool :=
  let n := s.flashNat (b + 0x18) 4
  let l := s.flashNat (b + 0x1C) 4
  s.flashNat b 4 == magic && s.flashNat (b + 4) 2 == 1 && decide (1 ≤ n) && decide (n ≤ 8) && decide (16 ≤ l) && decide (l ≤ 4190208)
    && (List.range 4096).all fun o => bndListed o || s.flashByte (b + o) == 0

/-- The body as it stands in flash. -/
def State.bndBody (s : State) (b : Nat) : List Byte := s.flashBytes (b + 0x1000) (s.flashNat (b + 0x1C) 4)

/-- The signature over header bytes 0x000 to 0x0FF and the body verifies under the key that the header carries (R557). -/
def State.bndSigned (s : State) (b : Nat) : Bool :=
  ecdsaOk (s.flashBytes (b + 0x40) 97) (sha384 (s.flashBytes b 0x100 ++ s.bndBody b)) (s.flashBytes (b + 0x100) 96)

/-- R557: the header's key is the one whose hash is fused. -/
def State.bndKeyOk (s : State) (b : Nat) (f : Fld) : Bool := sha384 (s.flashBytes (b + 0x40) 97) == s.hashBytes f

/-- R564: the patch key, in eight words of the boot ROM, the least significant byte of each first. [DESIGN CHOICE, assumption log 119] -/
def patchKey : List Nat := (List.range 32).map fun k => (Config.bootRomWord (Config.patchKeyAt + k / 4)).toNat / 256 ^ (k % 4) % 256

/-- Bytes of flash as numbers. -/
def State.flashNats (s : State) (a n : Nat) : List Nat := (s.flashBytes a n).map (·.toNat)

/-- The GCM tag of the body, with header bytes 0x000 to 0x01F as additional data. -/
def State.bndTag (s : State) (b : Nat) : List Nat :=
  gcmTag patchKey (s.flashNats (b + 0x20) 12) (s.flashNats b 32) ((s.bndBody b).map (·.toNat))

/-- The plaintext of a vendor bundle's body. -/
def State.bndPlain (s : State) (b : Nat) : List Nat := gcmPlain patchKey (s.flashNats (b + 0x20) 12) ((s.bndBody b).map (·.toNat))

/-! ## Sections (R565) -/

/-- A section: its patch-match entries hold MATCH in [15:0] and the RAM word in [31:16]. -/
structure BndSec where
  target : Nat
  first : Nat
  pms : List Nat
  words : List Nat
deriving DecidableEq, Repr

/-- A little-endian number of n bytes. -/
def natAt (bs : List Nat) (o n : Nat) : Nat := ((bs.drop o).take n).foldr (fun b a => b + 256 * a) 0

/-- `n` sections, one after another, and no more; none where the body ends before them. [DEDUCED, assumption log 119] -/
def sections : Nat → List Nat → Option (List BndSec)
  | 0, bs => if bs.isEmpty then some [] else none
  | n + 1, bs =>
    let npm := natAt bs 1 1
    let nw := natAt bs 6 2
    let len := 16 + 4 * npm + 16 * nw
    if bs.length < len then none
    else (sections n (bs.drop len)).map ({
      target := natAt bs 0 1, first := natAt bs 4 2
      pms := (List.range npm).map fun k => natAt bs (16 + 4 * k) 4
      words := (List.range nw).map fun k => natAt bs (16 + 4 * npm + 16 * k) 16 } :: ·)

/-- The words of a section lie in `lo` to `hi - 1`, and there is one at least. -/
def BndSec.within (x : BndSec) (lo hi : Nat) : Bool :=
  decide (1 ≤ x.words.length) && decide (lo ≤ x.first) && decide (x.first + x.words.length ≤ hi)

/-- R565: a section of a vendor bundle keeps its ranges. -/
def BndSec.ok (x : BndSec) : Bool :=
  if x.target ≤ 2 then decide (x.pms.length ≤ 16) && x.within 6144 7680
  else decide (x.target ≤ 4) && decide (x.pms.length ≤ 32) && x.within 12288 16384

/-- R565: every section keeps its ranges, and no TARGET appears twice. -/
def sectionsOk (xs : List BndSec) : Bool := xs.all BndSec.ok && (xs.map (·.target)).eraseDups.length == xs.length

/-- The sections of the vendor bundle at b. -/
def State.bndSections (s : State) (b : Nat) : Option (List BndSec) := sections (s.flashNat (b + 0x18) 4) (s.bndPlain b)

/-! ## Checks and choice (R566, R569) -/

/-- R566: the first failing check of the vendor bundle at b; 0 none. -/
def State.bndCheck (s : State) (b : Nat) : Nat :=
  if !s.bndHdrOk b 0x0440BA7C then 0x201
  else if s.flashNat (b + 6) 1 ≠ Config.revision % 256 then 0x202
  else if !s.bndKeyOk b FLS_VHASH_HASH then 0x203
  else if !s.bndSigned b then 0x204
  else if s.bndTag b ≠ s.flashNats (b + 0x30) 16 then 0x205
  else if s.flashNat (b + 0x10) 1 < s.rf pgFLS FLS_RB_VALUE 1 then 0x206
  else if !((s.bndSections b).map sectionsOk).getD false then 0x207
  else 0

/-- R566: the partitions in the order in which boot firmware takes them: the higher BND_VER first, A when the two are equal. -/
def State.bndOrder (s : State) : List Nat := if s.flashNat (bndBase 0 + 8) 8 < s.flashNat (bndBase 1 + 8) 8 then [1, 0] else [0, 1]

/-- R566: the partition of the bundle that is loaded, or the code of the last failure. -/
def State.bndChoice (s : State) : Option Nat × Nat :=
  match s.bndOrder.find? fun i => s.bndCheck (bndBase i) == 0 with
  | some i => (some i, 0)
  | none => (none, s.bndCheck (bndBase (s.bndOrder.getLastD 0)))

/-- R568: the one section of an owner bundle's body, which is not encrypted: TARGET 0, NPM 0, words in the customer region. -/
def State.ownSection (s : State) (b : Nat) : Option BndSec :=
  match sections (s.flashNat (b + 0x18) 4) ((s.bndBody b).map (·.toNat)) with
  | some [x] => if x.target = 0 ∧ x.pms = [] ∧ x.within 7680 8192 then some x else none
  | _ => none

/-- R568, R569: what the load of the owner bundle of partition i comes to: 0, or the code that boot firmware logs. REV, IV and TAG that are not 0 break the header. [DEDUCED, assumption log 119] -/
def State.ownCheck (s : State) (i : Nat) : Nat :=
  let b := ownBase i
  if !s.bit pgFLS FLS_SEC_CUST_EN || !s.bit pgFLS FLS_SEC_OKEY then 0x300
  else if !s.bndHdrOk b 0x0440C057 || s.flashNat (b + 6) 1 != 0 || s.flashNat (b + 0x20) 12 != 0 || s.flashNat (b + 0x30) 16 != 0 then 0x301
  else if !s.bndKeyOk b FLS_OHASH_HASH then 0x302
  else if !s.bndSigned b then 0x303
  else if s.flashNat (b + 0x10) 1 < s.rf pgFLS FLS_RB_VALUE 2 then 0x304
  else if (s.ownSection b).isNone then 0x305
  else 0

/-! ## Loading (R567, R569) -/

/-- Word k of a 128-bit micro-word. -/
def wordPart (w k : Nat) : Word32 := BitVec.ofNat 32 (w / 2 ^ (32 * k))

/-- Spars of a TARGET. -/
def targetSpars (t : Nat) : List Nat :=
  if t = 0 then List.range 64 else if t = 1 then (List.range 4).map (64 + ·) else if t = 2 then (List.range 4).map (68 + ·) else []

/-- The patch-match entry as its register takes it, from `at'` on: entry k goes to register k. -/
def BndSec.pmWrites (x : BndSec) (at' : Nat) : List (Nat × Word32) :=
  (List.range x.pms.length).map fun k =>
    let e := x.pms.getD k 0
    (at' + 4 * k, BitVec.ofNat 32 (2 ^ 31 + e / 65536 * 65536 + e % 65536))

/-- R567, R569: the register writes that load a section on spar i, in order: park; the words, with INC = 1; a march of the region; the patch-match registers; the lock; release. The PARKED state and the PASS of the march are awaited between them. -/
def BndSec.sparWrites (x : BndSec) (i region : Nat) : List (Nat × Word32) :=
  let pg := pgSPR i
  [(pg + 0x50, 1), (pg + 0x60, BitVec.ofNat 32 (2 ^ 31 + x.first))]
    ++ x.words.flatMap (fun w => (List.range 4).map fun k => (pg + 0x64 + 4 * k, wordPart w k))
    ++ [(pg + 0x74, BitVec.ofNat 32 (2 ^ 31 + region))] ++ x.pmWrites (pg + 0x80) ++ [(pg + 0x2C, 1), (pg + 0x50, 0)]

/-- R567: the same for gable g: its RAM through its control-store window, a preserving march of TARGET 9, and its GAB_PMm. -/
def BndSec.gableWrites (x : BndSec) (g : Nat) : List (Nat × Word32) :=
  let base := 0x10C0000 + 0x100000 * g + 16 * x.first
  (List.range x.words.length).flatMap (fun j => (List.range 4).map fun k => (base + 16 * j + 4 * k, wordPart (x.words.getD j 0) k))
    ++ [(pgGAB g + 0x60, 0x80000109)] ++ x.pmWrites (pgGAB g + 0x80)

/-- R567: the register writes of a section, target by target. -/
def BndSec.writes (x : BndSec) : List (Nat × Word32) :=
  if x.target = 3 then x.gableWrites 0
  else if x.target = 4 then x.gableWrites 1
  else (targetSpars x.target).flatMap fun i => x.sparWrites i 1

/-! ## At U10 (R556, R573) -/

/-- R556: the security versions of the two objects that counter n guards; none where one fails its checks. Counter 3 guards nothing. -/
def State.svns (s : State) (n : Nat) : Option (Nat × Nat) :=
  match n with
  | 0 => if s.imgCandidate 0 && s.imgCandidate 1 && s.imgCheck 0 == 0 && s.imgCheck 1 == 0 then some (s.bootImg 0 0x10 1, s.bootImg 1 0x10 1)
    else none
  | 1 => if s.bndCheck (bndBase 0) = 0 ∧ s.bndCheck (bndBase 1) = 0 then
      some (s.flashNat (bndBase 0 + 0x10) 1, s.flashNat (bndBase 1 + 0x10) 1) else none
  | 2 => if s.ownCheck 0 = 0 ∧ s.ownCheck 1 = 0 then some (s.flashNat (ownBase 0 + 0x10) 1, s.flashNat (ownBase 1 + 0x10) 1) else none
  | _ => none

/-- R573: the ADV_RB commands that raise counter n to the lower of the two. -/
def State.raises (s : State) (n : Nat) : Nat :=
  match s.svns n with
  | some (a, b) => min a b - s.rf pgFLS FLS_RB_VALUE n
  | none => 0

/-- R573: the locks that boot firmware of a KIND 0 image sets at U10, by the running image and the loaded bundle. -/
def readyLocks (image bundle : Nat) : List (Nat × Word32) :=
  [(pgFLS + 0x60, 0x1C), (pgFLS + 0x60, 0x100), (pgSFC + 0x44, BitVec.ofNat 32 (0x10 + 2 ^ image + 4 * 2 ^ bundle))]

/-! ## Recovery by boot firmware (R566, R567, R571) -/

/-- GLB_SCRATCH0 has been written by gable 0: with PHASE 0xF in U7, boot firmware enters recovery with the code that it has recorded. [DESIGN CHOICE, assumption log 119] -/
def State.bootStatusWrite (s : State) : State :=
  if s.tray = tRISING ∧ s.trayStep = 7 ∧ !s.sfc.recovery ∧ s.rf pgGLB GLB_SCRATCH_DATA 0 / 2 ^ 28 = 0xF then s.recover else s

end Sys2Proof.Machine
end

