-- ==== Sys2Proof/Machine/CalStore.lean ====
section
/-! DEFINITION. Calibration records: their layout, which slot is valid and which is loaded, what a loaded record sets, and how a new one is written (R544 to R548, R620). Boot firmware is software: its flash commands and register writes reach the machine as gable 0's. [DESIGN CHOICE, assumption log 121] -/

namespace Sys2Proof.Machine

/-! ## Slots (R543, R544, R546) -/

/-- First byte of slot A (0) or B (1), and the place of its commit mark. -/
def calBase (i : Nat) : Nat := 0x2000000 + i * 0x40000
def calMarkAt (i : Nat) : Nat := calBase i + 0x3FFFC
def calMark : Nat := 0x0440CA1B

def State.calSeqOf (s : State) (i : Nat) : Nat := s.flashNat (calBase i + 8) 4
def State.calBodyLen (s : State) (i : Nat) : Nat := s.flashNat (calBase i + 0x0C) 4

/-- R544: BODY_LEN is within range. -/
def State.calLenOk (s : State) (i : Nat) : Bool := s.calBodyLen i % 4 == 0 && decide (s.calBodyLen i ≤ 262072)

/-- The CRC-32 over header and body matches. -/
def State.calCrcOk (s : State) (i : Nat) : Bool :=
  crc32 (s.flashBytes (calBase i) (64 + s.calBodyLen i)) == s.flashNat (calBase i + 64 + s.calBodyLen i) 4

/-- GLB_SERIAL. -/
def State.serial (s : State) : Nat := s.rf pgGLB GLB_SERIAL_LO_SERIAL + 2 ^ 32 * s.rf pgGLB GLB_SERIAL_HI_SERIAL

/-- R546: the slot is valid. -/
def State.calValid (s : State) (i : Nat) : Bool :=
  s.flashNat (calBase i) 4 == 0x0440CA1A && s.flashNat (calBase i + 4) 2 == 1 && s.calLenOk i
    && s.flashNat (calBase i + 0x10) 8 == s.serial && s.calCrcOk i && s.flashNat (calMarkAt i) 4 == calMark

/-- R546: the slot that gable 0 loads; none where neither is valid (CAL_NONE). -/
def State.calChoice (s : State) : Option Nat :=
  match s.calValid 0, s.calValid 1 with
  | true, true => some (if s.calSeqOf 0 < s.calSeqOf 1 then 1 else 0)
  | true, false => some 0
  | false, true => some 1
  | false, false => none

/-! ## Entries (R545) -/

/-- A body entry: its type and its data. -/
abbrev CalEnt := Nat × List Byte

/-- Up to `n` entries of a body, one after another. -/
def calParse : Nat → List Byte → List CalEnt
  | 0, _ => []
  | n + 1, bs =>
    let len := leNat ((bs.drop 2).take 2)
    if bs.length < 4 + len then []
    else (leNat (bs.take 2), (bs.drop 4).take len) :: calParse n (bs.drop (4 + (len + 3) / 4 * 4))

/-- The entries of slot i's record. -/
def State.calEntries (s : State) (i : Nat) : List CalEnt :=
  calParse (s.flashNat (calBase i + 0x20) 4) (s.flashBytes (calBase i + 64) (s.calBodyLen i))

/-- Numbers of n bytes each, one after another. -/
def calNums (n : Nat) (bs : List Byte) : List Nat := (List.range (bs.length / n)).map fun k => leNat ((bs.drop (n * k)).take n)

/-- R545, R620: the register writes that apply an entry; a type that the loader does not know has none. A regulator's trim is a PMBus write of VOUT_TRIM, two bytes. -/
def State.calWrites (s : State) (e : CalEnt) : List (Nat × Word32) :=
  let at4 := fun (base step : Nat) (xs : List Nat) => (List.range xs.length).map fun k => (base + step * k, BitVec.ofNat 32 (xs.getD k 0))
  match e.1 with
  | 1 => at4 (pgBTXT + 0x100) 16 ((calNums 4 e.2).take 9)
  | 2 => at4 (pgBTXR + 0x100) 32 ((calNums 4 e.2).take 9)
  | 3 => at4 (pgSNS + 0x200) 4 ((calNums 2 e.2).take 66)
  | 4 => (List.range 6).flatMap fun r => [(pgPWR + 0x74, BitVec.ofNat 32 ((calNums 2 e.2).getD r 0)),
      (pgPWR + 0x70, BitVec.ofNat 32 (2 ^ 31 + r * 65536 + 2 * 256 + 0x22))]
  | 5 => (List.range 16).map fun z => (pgPUE + 0x180 + 4 * z, fieldSet (s.reg (pgPUE + 0x180 + 4 * z)) 16 16 ((calNums 2 e.2).getD z 0))
  | _ => []

/-- R572, R546: what F5 applies of the loaded record, its sensor, regulator and zone entries; the optical trims (`optical`) wait for U9. -/
def State.calApply (s : State) (optical : Bool) : List (Nat × Word32) :=
  match s.calChoice with
  | none => []
  | some i => ((s.calEntries i).filter fun e => (e.1 == 1 || e.1 == 2) == optical).flatMap s.calWrites

/-! ## A new record (R544, R547, R548) -/

/-- An entry's bytes, padded with zeros to a multiple of 4. -/
def calBytes (e : CalEnt) : List Byte :=
  leBytes 2 e.1 ++ leBytes 2 e.2.length ++ e.2 ++ List.replicate ((4 - e.2.length % 4) % 4) 0

/-- The values that R545 covers, as the registers hold them; `vtrim` are the trims of regulators 0 to 5, which no register holds. -/
def State.calNow (s : State) (vtrim : List Nat) : List CalEnt :=
  [(1, (List.range 9).flatMap fun p => leBytes 4 (s.reg (pgBTXT + 0x100 + 16 * p)).toNat),
   (2, (List.range 9).flatMap fun p => leBytes 4 (s.reg (pgBTXR + 0x100 + 32 * p)).toNat),
   (3, (List.range 66).flatMap fun k => leBytes 2 (s.rf pgSNS SNS_OFF_OFF k)),
   (4, (List.range 6).flatMap fun r => leBytes 2 (vtrim.getD r 0)),
   (5, (List.range 16).flatMap fun z => leBytes 2 (s.rf pgPUE PUE_ZLIM_K z))]

/-- R548: a value differs from the loaded record. -/
def State.calDiffers (s : State) (vtrim : List Nat) : Bool :=
  match s.calChoice with
  | none => true
  | some i => (s.calNow vtrim).any fun e => !(s.calEntries i).contains e

/-- R547: the slot of a new record, and its SEQ. -/
def State.calTarget (s : State) : Nat × Nat :=
  match s.calChoice with
  | none => (0, 1)
  | some i => (1 - i, s.calSeqOf i + 1)

/-- R544: a record's header, body and CRC-32. -/
def State.calRecord (s : State) (seq : Nat) (es : List CalEnt) : List Byte :=
  let body := es.flatMap calBytes
  let r := leBytes 4 0x0440CA1A ++ leBytes 2 1 ++ leBytes 2 64 ++ leBytes 4 seq ++ leBytes 4 body.length ++ leBytes 8 s.serial
    ++ leBytes 8 s.dmr.sec ++ leBytes 4 es.length ++ List.replicate 28 0 ++ body
  r ++ leBytes 4 (crc32 r)

/-- R547, step 1: the slot's sectors, that of the commit mark first. -/
def calErases (i : Nat) : List SfcCmd := [3, 0, 1, 2].map fun k => .erase (calBase i + 0x10000 * k)

/-- R547, step 2: a record, page by page. -/
def calProgs (i : Nat) (r : List Byte) : List SfcCmd :=
  (List.range ((r.length + 255) / 256)).map fun k => .prog (calBase i + 256 * k) ((r.drop (256 * k)).take 256)

/-- R547, step 4: the commit mark, once step 3 has found the CRC-32 right. -/
def State.calCommit (s : State) (i : Nat) : List SfcCmd := if s.calCrcOk i then [.prog (calMarkAt i) (leBytes 4 calMark)] else []

/-- R547: all four steps, each flash command ending as it should. -/
def State.calStore (s : State) (vtrim : List Nat) : State :=
  let i := s.calTarget.1
  let s1 := (calErases i ++ calProgs i (s.calRecord s.calTarget.2 (s.calNow vtrim))).foldl (fun s c => s.sfcEffect c false) s
  (s1.calCommit i).foldl (fun s c => s.sfcEffect c false) s1

end Sys2Proof.Machine
end

