-- ==== Sys2Proof/Machine/Gable.lean ====
section
/-! DEFINITION. Control of the gables from their pages: stop, start, reset, march, patch match (R446 to R450, R455). -/

namespace Sys2Proof.Machine

/-! ## Stop, start, reset (R446) -/

/-- STOP takes effect at the next instruction boundary; a stopped gable stays so. [DEDUCED, assumption log 85] -/
def State.gabStop (s : State) (g : Nat) : State :=
  let x := s.gable g
  if x.stopped then s else s.setGab g { x with stopReq := true }

/-- RESET of a stopped or halted gable; of a running one only behind a STOP. [DEDUCED, assumption log 85] -/
def State.gabCtlReset (s : State) (g : Nat) : State :=
  let x := s.gable g
  if x.stopped || x.halted then s.gabReset g
  else if x.stopReq then s.setGab g { x with resetReq := true }
  else s

/-- START of a stopped or halted gable. -/
def State.gabStart (s : State) (g : Nat) : State :=
  let x := s.gable g
  if x.stopped || x.halted then s.setGab g { x with stopped := false, halted := false } else s

/-- A write of GAB_CTL: its commands in the order STOP, RESET, START. [DEDUCED, assumption log 85] -/
def State.gabCtl (s : State) (src : Src) (g : Nat) (v : Word32) : State :=
  let key := pgGAB g + 0x48
  let stop := v.getLsbD 0
  let rst := v.getLsbD 2
  if src = .gable 1 then s.accErr src key eWRITER
  else if src = .gable 0 ∧ g = 0 then (if stop || rst then s.accErr src key eSTATE else s)
  else
    let s1 := if stop then s.gabStop g else s
    let s2 := if rst then s1.gabCtlReset g else s1
    if v.getLsbD 1 then s2.gabStart g else s2

/-- STOP. -/
def execStop (src : Src) (g : Fin 2) (s : State) : Host.Outcome State Fault Refusal :=
  done s (s.ifWriter src (pgGAB g + 0x48) fun s => s.gabCtl src g 1)

/-- START. -/
def execStart (src : Src) (g : Fin 2) (s : State) : Host.Outcome State Fault Refusal :=
  done s (s.ifWriter src (pgGAB g + 0x48) fun s => s.gabCtl src g 2)

/-- GABLE_RESET. -/
def execGableReset (src : Src) (g : Fin 2) (s : State) : Host.Outcome State Fault Refusal :=
  done s (s.ifWriter src (pgGAB g + 0x48) fun s => s.gabCtl src g 4)

/-- A stop takes effect: it ends a WFI, and a RESET accepted behind it follows. -/
def State.gabStopped (s : State) (g : Nat) : State :=
  let x := s.gable g
  let s1 := (s.setGab g { x with stopped := true, stopReq := false, wfi := false, resetReq := false }).raise (pgGAB g) 1
  if x.resetReq then s1.gabReset g else s1

/-- STOPPED: an instruction boundary of a gable with a stop request. A FENCE in progress completes first. -/
def execStopped (g : Fin 2) (s : State) : Host.Outcome State Fault Refusal :=
  let x := s.gable g
  done s (if x.stopReq && !x.stopped && !x.halted && !x.fence then s.gabStopped g else s)

/-! ## Marches (R449, R450) -/

/-- The code-store bank that holds a gable's PC. -/
def GabSt.pcBank (x : GabSt) : Option Nat :=
  if x.pc.toNat < 0x80000 then some (x.pc.toNat / 0x10000) else none

def State.gabPatched (s : State) (g : Nat) : Bool := (List.range 32).any fun m => s.bit (pgGAB g) GAB_PM_VALID m

/-- The target is in use by gable x: the code bank of its PC, or its control-store RAM while a match entry is VALID. -/
def State.gabUses (s : State) (x t : Nat) : Bool := (s.gable x).pcBank == some t || (t == 9 && s.gabPatched x)

/-- R450: the status of a request by gable `by'` for a store of gable g. -/
def State.gabMarchStatus (s : State) (by' g t : Nat) (pres : Bool) : Nat :=
  if by' = g ∧ s.gabUses g t then 0x8
  else if (s.gable g).march.isSome then 0x121
  else if by' = g ∧ t = 8 ∧ !pres then 0x122
  else if by' = 0 ∧ g = 1 ∧ s.gabUses 1 t ∧ !(s.gable 1).stopped then 0x123
  else if 9 < t then 0x124
  else 0

/-- A write of GAB_MARCH. -/
def State.gabMarch (s : State) (src : Src) (g : Nat) (v : Word32) : State :=
  let pg := pgGAB g
  let key := pg + 0x60
  let t := bits v.toNat 3 0
  let pres := v.getLsbD 8
  match src with
  | .gable b =>
    if !v.getLsbD 31 then s
    else
      let st := s.gabMarchStatus b g t pres
      let s1 := s.wf pg GAB_MARCH_STAT_STATUS st
      if st = 0x8 then s1.accErr src key eBUSY_SELF
      else if st ≠ 0 then s1
      else (((s1.wf pg GAB_MARCH_STAT_RUN 1).wf pg GAB_MARCH_STAT_PASS 0).wf pg GAB_MARCH_STAT_DONE 0).setGab g
        { s1.gable g with march := some (t, pres) }
  | _ => s.accErr src key eWRITER

/-- GABLE_MARCH. -/
def execGableMarch (src : Src) (g : Fin 2) (v : Word32) (s : State) : Host.Outcome State Fault Refusal :=
  done s (s.ifWriter src (pgGAB g + 0x60) fun s => s.gabMarch src g v)

/-- R199, R449: a store that a destructive march has passed holds zeros. -/
def State.gabZero (s : State) (g t : Nat) : State :=
  if t < 8 then
    let k := codeKey g (t * 0x10000)
    { s with gcode := smDrop (fun a => decide (k ≤ a) && decide (a < k + 0x4000)) s.gcode }
  else if t = 8 then { s with gdata := smDrop (fun a => a / 2 ^ 15 == g) s.gdata }
  else { s with gcs := smDrop (fun a => a / 2 ^ 14 == g) s.gcs }

/-- GABLE_MARCH_DONE: the march of a gable's store ends; `pass` says what it found. [DEDUCED, assumption log 85] -/
def execGableMarchDone (g : Fin 2) (pass : Bool) (s : State) : Host.Outcome State Fault Refusal :=
  let pg := pgGAB g
  done s (match (s.gable g).march with
    | none => s
    | some (t, pres) =>
      let s1 := s.setGab g { s.gable g with march := none }
      let s2 := if pass && !pres then s1.gabZero g t else s1
      (((s2.wf pg GAB_MARCH_STAT_RUN 0).wf pg GAB_MARCH_STAT_PASS (bnat pass)).wf pg GAB_MARCH_STAT_DONE 1).raise pg 7)

/-! ## Patch match (R455) -/

/-- A write of GAB_PMm. TARGET and MATCH are judged whether or not the entry is written VALID. [DEDUCED, assumption log 11, 83] -/
def State.gabPatch (s : State) (src : Src) (g m : Nat) (v : Word32) : State :=
  let pg := pgGAB g
  let key := pg + 0x80 + 4 * m
  let t := bits v.toNat 29 16
  let a := bits v.toNat 13 0
  if src = .gable 1 then s.accErr src key eWRITER
  else if decide (t < 12288 ∨ 12287 < a) then s.accErr src key eRANGE
  else if s.lockBad pg .gab g (0x80 + 4 * m) v then s.accErr src key eLOCKED
  else if g = 1 ∧ !(s.gable 1).stopped then s.accErr src key eSTATE
  else ((s.wf pg GAB_PM_VALID (bits v.toNat 31 31) m).wf pg GAB_PM_TARGET t m).wf pg GAB_PM_MATCH a m

/-- GABLE_PATCH_WRITE. -/
def execGablePatchWrite (src : Src) (g : Fin 2) (m : Fin 32) (v : Word32) (s : State) : Host.Outcome State Fault Refusal :=
  done s (s.ifWriter src (pgGAB g + 0x80 + 4 * m) fun s => s.gabPatch src g m v)

end Sys2Proof.Machine
end

