-- ==== Sys2Proof/Machine/Dormer.lean ====
section
/-! DEFINITION. The dormer: supply, cell, oscillator, time, alarms and the supply-fault log (R577 to R596). -/

namespace Sys2Proof.Machine

/-! ## The calendar (R584) -/

/-- Year, month and day of a number of days since 2000-01-01, proleptic Gregorian: years begin in March, in eras of 400 years. -/
def civil (days : Nat) : Nat × Nat × Nat :=
  let z := days + 730425
  let era := z / 146097
  let doe := z % 146097
  let yoe := (doe - doe / 1460 + doe / 36524 - doe / 146096) / 365
  let doy := doe - (365 * yoe + yoe / 4 - yoe / 100)
  let mp := (5 * doy + 2) / 153
  let d := doy - (153 * mp + 2) / 5 + 1
  let m := if mp < 10 then mp + 3 else mp - 9
  (yoe + 400 * era + (if m ≤ 2 then 1 else 0), m, d)

/-- Two decimal digits as BCD. -/
def bcd (n : Nat) : Nat := n / 10 * 16 + n % 10

/-- R585: latch the snapshot registers. -/
def State.dmrLatch (s : State) : State :=
  let pg := pgDMR
  let sec := s.dmr.sec
  let sub := s.dmr.sub
  let (y, m, d) := civil (sec / 86400)
  let ok := decide (y ≤ 9999)
  let v := fun n => if ok then n else 0
  let t := sec % 86400
  let s1 := ((((s.wf pg DMR_SNAP_TIME_VALID (s.rf pg DMR_STAT_TIME_VALID)).wf pg DMR_SNAP_SUB sub).wf pg DMR_SEC_LO_SEC
    (sec % 2 ^ 32)).wf pg DMR_SEC_HI_SEC (sec / 2 ^ 32)).wf pg DMR_SUB_SUB sub
  let s2 := (((s1.wf pg DMR_DATE_YEAR (v (bcd (y / 100) * 256 + bcd (y % 100)))).wf pg DMR_DATE_VALID (bnat ok)).wf pg
    DMR_DATE_MONTH (v (bcd m))).wf pg DMR_DATE_DAY (v (bcd d))
  (((s2.wf pg DMR_TIME_WDAY (v ((sec / 86400 + 6) % 7))).wf pg DMR_TIME_HOUR (v (bcd (t / 3600)))).wf pg DMR_TIME_MIN
    (v (bcd (t / 60 % 60)))).wf pg DMR_TIME_SEC (v (bcd (t % 60)))

/-! ## The log (R593, R594) -/

/-- Write an entry at HEAD. -/
def State.logWrite (s : State) (code detail : Nat) : State :=
  let pg := pgDMR
  let h := s.rf pg DMR_LOG_STAT_HEAD
  let sec := s.dmr.sec
  let s1 := ((((s.wf pg DMR_LOG_A_SEC (sec % 2 ^ 32) h).wf pg DMR_LOG_B_VALID 1 h).wf pg DMR_LOG_B_DETAIL detail h).wf pg
    DMR_LOG_B_CODE code h).wf pg DMR_LOG_B_SEC (sec / 2 ^ 32) h
  let n := s1.rf pg DMR_LOG_STAT_COUNT
  let s2 := if n = 16 then s1.wf pg DMR_LOG_STAT_OVF 1 else s1.wf pg DMR_LOG_STAT_COUNT (n + 1)
  (s2.wf pg DMR_LOG_STAT_HEAD ((h + 1) % 16)).raise pg 7

/-- An event is logged in OFF and DORMANT only, by a dormer that runs. -/
def State.dmrLog (s : State) (code detail : Nat) : State :=
  if !s.dmr.stopped && decide (s.tray ≤ tDORMANT) then s.logWrite code detail else s

/-- The entries and counts of the ring cleared. -/
def State.logClear (s : State) : State :=
  let s1 := (List.range 16).foldl (fun a e => a.wf pgDMR DMR_LOG_B_VALID 0 e) s
  ((s1.wf pgDMR DMR_LOG_STAT_OVF 0).wf pgDMR DMR_LOG_STAT_COUNT 0).wf pgDMR DMR_LOG_STAT_HEAD 0

/-- LOG_CLR: a write of DMR_LOG_CLR. -/
def execLogClr (src : Src) (clr : Bool) (s : State) : Host.Outcome State Fault Refusal :=
  done s (s.ifWriter src (pgDMR + 0x9C) fun s => if clr then s.logClear else s)

/-! ## Supply and cell (R577 to R580) -/

/-- R578: the state of a cell by its voltage under load, in mV. -/
def cellState (mv : Int) : Nat := if 2600 ≤ mv then 0 else if 500 ≤ mv then 1 else if -500 < mv then 2 else 3

/-- A measurement of the cell. [DEDUCED, assumption log 46] -/
def State.measureCell (s : State) (mv : BitVec 16) : State :=
  let st := cellState mv.toInt
  let s1 := s.wf pgDMR DMR_CELL_MV mv.toNat
  if s.rf pgDMR DMR_CELL_STATE = st then s1 else ((s1.wf pgDMR DMR_CELL_STATE st).raise pgDMR 6).dmrLog 6 st

/-- CELL: the hourly measurement. -/
def execCell (mv : BitVec 16) (s : State) : Host.Outcome State Fault Refusal :=
  done s (if s.dmr.stopped then s else s.measureCell mv)

/-- SUPPLY: the aux rail passes 2.90 V. A change to the cell measures it first; a cell that is absent or reversed is not used (R579). -/
def execSupply (cell : Bool) (mv : BitVec 16) (s : State) : Host.Outcome State Fault Refusal :=
  done s (if s.dmr.stopped || s.bit pgDMR DMR_STAT_SUPPLY == cell then s
    else if cell then
      let s1 := s.measureCell mv
      let st := cellState mv.toInt
      if 2 ≤ st then s1 else ((s1.wf pgDMR DMR_STAT_SUPPLY 1).raise pgDMR 5).dmrLog 4 st
    else ((s.wf pgDMR DMR_STAT_SUPPLY 0).raise pgDMR 5).dmrLog 5 0)

/-- DORMER_STOP: the dormer supply falls below 1.80 V. -/
def execDormerStop (s : State) : Host.Outcome State Fault Refusal :=
  done s { s with dmr := { s.dmr with stopped := true, wake := none } }

/-- LOST_PWR: a supply returns to a stopped dormer; a dormer reset. -/
def execLostPwr (cell : Bool) (s : State) : Host.Outcome State Fault Refusal :=
  done s (if !s.dmr.stopped then s
    else
      let s1 := { s.coldPages (fun k _ => k == .dmr) with dmr := {} }
      (s1.wf pgDMR PG_EVT_RAW 0x100).wf pgDMR DMR_STAT_SUPPLY (bnat cell))

/-! ## The oscillator (R581, R582) -/

/-- OSC_FAULT: the crystal is open or shorted. -/
def execOscFault (short : Bool) (s : State) : Host.Outcome State Fault Refusal :=
  let kind := if short then 2 else 1
  done s (if s.dmr.stopped || s.rf pgDMR DMR_STAT_OSC_FAULT == kind then s
    else ((((s.wf pgDMR DMR_STAT_OSC_FAULT kind).wf pgDMR DMR_STAT_OSC_RC 1).wf pgDMR DMR_STAT_TIME_VALID 0).raise pgDMR 3).dmrLog 7 kind)

/-- OSC_BACK: the seconds rollover after 2 s of good crystal. -/
def execOscBack (s : State) : Host.Outcome State Fault Refusal :=
  done s (if s.dmr.stopped || !s.bit pgDMR DMR_STAT_OSC_RC then s
    else ((s.wf pgDMR DMR_STAT_OSC_FAULT 0).wf pgDMR DMR_STAT_OSC_RC 0).raise pgDMR 4)

/-! ## Alarms (R588, R589, R591) -/

def State.alarm (s : State) (n : Nat) : Nat := s.rf pgDMR DMR_ALM_LO_ALM n + 2 ^ 32 * s.rf pgDMR DMR_ALM_HI_ALM n

/-- The alarm moves on by an amount, or a one-shot alarm is disarmed. -/
def State.alarmNext (s : State) (n add : Nat) : State :=
  if s.rf pgDMR DMR_ALM_PER_PER n = 0 then s.wf pgDMR DMR_ALM_CTL_EN 0 n
  else
    let a := (s.alarm n + add) % 2 ^ 40
    (s.wf pgDMR DMR_ALM_LO_ALM (a % 2 ^ 32) n).wf pgDMR DMR_ALM_HI_ALM (a / 2 ^ 32) n

/-- ALARM: it fires at the edge at which SEC takes its value; in DORMANT with WAKE it sends a wake request. -/
def State.alarmFire (s : State) (n : Nat) : State :=
  let s1 := ((s.wf pgDMR DMR_ALM_CTL_FIRED 1 n).raise pgDMR n).alarmNext n (s.rf pgDMR DMR_ALM_PER_PER n)
  if s.bit pgDMR DMR_ALM_CTL_WAKE n && s.tray == tDORMANT && s.dmr.wake.isNone then
    { s1 with dmr := { s1.dmr with wake := some n } }
  else s1

/-- MISSED: it lies below SEC. It advances by the smallest multiple of its period that takes it above SEC. [DEDUCED, assumption log 46] -/
def State.alarmMiss (s : State) (n : Nat) : State :=
  let p := s.rf pgDMR DMR_ALM_PER_PER n
  ((s.wf pgDMR DMR_ALM_CTL_MISSED 1 n).raise pgDMR 2).alarmNext n (((s.dmr.sec - s.alarm n) / p + 1) * p)

/-- The alarms at an oscillator edge at which SEC takes a value. [DEDUCED, assumption log 46] -/
def State.alarms (s : State) : State :=
  (List.range 2).foldl (fun s n =>
    if !s.bit pgDMR DMR_ALM_CTL_EN n then s
    else if s.alarm n = s.dmr.sec then s.alarmFire n
    else if s.alarm n < s.dmr.sec then s.alarmMiss n
    else s) s

/-- SECOND_ROLLOVER. -/
def execSecondRollover (s : State) : Host.Outcome State Fault Refusal :=
  done s (if s.dmr.stopped then s
    else ({ s with dmr := { s.dmr with sec := (s.dmr.sec + 1) % 2 ^ 40, sub := 0 } }).alarms)

/-- R583, R589: n further edges within the second, short of its rollover; after any edge an armed alarm below SEC is missed. [DEDUCED, assumption log 46] -/
def State.edges (s : State) (n : Nat) : State :=
  if s.dmr.stopped || n == 0 then s
  else
    (List.range 2).foldl (fun s k => if s.bit pgDMR DMR_ALM_CTL_EN k && decide (s.alarm k < s.dmr.sec) then s.alarmMiss k else s)
      { s with dmr := { s.dmr with sub := min 32767 (s.dmr.sub + n) } }

/-- R585: a read of DMR_SNAP, `n` edges after the last row that showed SUB. -/
def State.dmrSnapRead (s : State) (n : Nat) : State := (s.edges n).dmrLatch

/-- DMR_SNAP: a read of DMR_SNAP; `edges` is the number of oscillator edges since SUB was last seen or set. -/
def execDmrSnap (src : Src) (edges : Fin 32768) (s : State) : Host.Outcome State Fault Refusal :=
  let s1 := s.dmrSnapRead edges
  done s (if reaches src (pgDMR + 0x44) && s.admits src then s1.answer src (s1.reg (pgDMR + 0x44)).toNat else s.turnedAway src)

/-! ## Setting time (R586, R587) -/

/-- A write of DMR_COMMIT by a writer. [DEDUCED, assumption log 46] -/
def State.dmrCommit (s : State) (src : Src) (go : Bool) : State :=
  if s.bit pgDMR DMR_STAT_COMMIT_PEND then s.accErr src (pgDMR + 0x68) eSTATE
  else if go then s.wf pgDMR DMR_STAT_COMMIT_PEND 1 else s

/-- DMR_COMMIT. -/
def execDmrCommit (src : Src) (go : Bool) (s : State) : Host.Outcome State Fault Refusal :=
  done s (s.ifWriter src (pgDMR + 0x68) fun s => s.dmrCommit src go)

/-- COMMITTED: the oscillator edge of a commit. -/
def execCommitted (s : State) : Host.Outcome State Fault Refusal :=
  done s (if s.dmr.stopped || !s.bit pgDMR DMR_STAT_COMMIT_PEND then s
    else
      let sec := s.rf pgDMR DMR_SET_LO_SEC + 2 ^ 32 * s.rf pgDMR DMR_SET_HI_SEC
      let s1 := { s with dmr := { s.dmr with sec := sec, sub := 0 } }
      (((s1.wf pgDMR DMR_STAT_TIME_VALID 1).wf pgDMR DMR_STAT_COMMIT_PEND 0).raise pgDMR 9).alarms)

end Sys2Proof.Machine
end

