-- ==== Sys2Proof/Machine/Header.lean ====
section
/-! DEFINITION. The common header of a register page: enable, drain, soft reset, freeze, events, errors, lock (R76 to R90), with what each block's chapter makes of it. -/

namespace Sys2Proof.Machine

/-! ## Enable and drain (R77, R78) -/

/-- What the start of a block does when EN is written 1 (R61, R115, R143, R166, R290, R318, R517, R664). [DEDUCED, assumption log 23] -/
def State.startBegin (s : State) (pg : Nat) (k : PgKind) (i : Nat) : State :=
  match k with
  | .crs => s.crsStart
  | .pur => if s.pur.formatted then s else s.otFormat
  | .pue => s.setLevel s.depth
  | .ylm => if s.bit pg YLM_CFG_KAT_ON_EN then s.katStart i else s.setYealm i { s.yealm i with starting := true }
  | .stk => { s with stk := smErase s.stk i }
  | .btxc => s.btxStart
  | .fsc => s.fscStart
  | _ => s

/-- R77: EN of a page is written. [DEDUCED, assumption log 22] -/
def State.enWrite (s : State) (pg : Nat) (k : PgKind) (i : Nat) (en : Bool) : State :=
  let on := s.bit pg PG_CTRL_EN
  let draining := s.bit pg PG_STAT_QUIESCING
  if en then
    if on then s
    else if draining then (s.wf pg PG_CTRL_EN 1).wf pg PG_STAT_EN_PEND 1
    else (s.wf pg PG_CTRL_EN 1).startBegin pg k i
  else if !on then s
  else if draining then (s.wf pg PG_CTRL_EN 0).wf pg PG_STAT_EN_PEND 0
  else
    let s0 := { s with drainReady := smSet (fun _ => false) s.drainReady pg (s.ready pg) }
    let s1 := ((s0.wf pg PG_CTRL_EN 0).wf pg PG_STAT_READY 0).wf pg PG_STAT_QUIESCING 1
    if k = .crs ∧ s.crs.first then s1.stopCourses else s1

/-- R78: a drain completes, and a pending enable starts the block. [DEDUCED, assumption log 96] -/
def State.drainEnd (s : State) (pg : Nat) (k : PgKind) (i : Nat) : State :=
  let s1 := s.wf pg PG_STAT_QUIESCING 0
  if s.bit pg PG_STAT_EN_PEND then (s1.wf pg PG_STAT_EN_PEND 0).startBegin pg k i else s1


/-- The work that a page's drain waits for is done. The drains of CRS and PUE end within TICK and SELECTION_POINT. [DEDUCED, assumption log 23] -/
def State.drained (s : State) (pg : Nat) (k : PgKind) : Bool :=
  match k with
  | .crs | .pue => false
  | .pur => (!s.crs.running || s.drainTicked pg) && s.pur.move.isNone && s.crs.run.isNone && (s.crs.next.bind (·.run)).isNone
  | .ylm => !s.bit pg YLM_STAT_ACTIVE || s.drainTicked pg
  | .stk => !s.bit pg STK_STAT_ACTIVE || s.drainTicked pg
  | .btxc => !s.crs.running || s.drainTicked pg
  | .gut => s.eav.gut.isEmpty
  | _ => true

/-- R614: once the four stacks are in self-refresh the tray is IDLE, at OP3; once they are ready again it is in RUN. [DEDUCED, assumption log 23] -/
def State.idleCheck (s : State) : State :=
  if s.pwr.idle = 1 ∧ (List.range 4).all (fun n => s.bit (pgHBM n) HBM_STAT_SREF) then
    let s1 := s.setTray tIDLE 0 false
    { s1 with pwr := { s1.pwr with idle := 0 }, crs := { s1.crs with volt := 3 } }
  else if s.pwr.idle = 2 ∧ (List.range 4).all (fun n => s.ready (pgHBM n)) then
    let s1 := s.setTray tRUN 0 false
    { s1 with pwr := { s1.pwr with idle := 0 } }
  else s

/-- The page whose base a command names, if it has an enable. -/
def enPage (pg : Nat) : Option (PgKind × Nat) :=
  if pg % 0x1000 = 0 then
    match pageOf pg with
    | some (k, i) => if k.enables then some (k, i) else none
    | none => none
  else none

/-- DRAIN_COMPLETE: a freeze that has taken effect pauses a drain (R80). -/
def execDrainComplete (pg : Nat) (s : State) : Host.Outcome State Fault Refusal :=
  done s (match enPage pg with
    | none => s
    | some (k, i) =>
      if !s.bit pg PG_STAT_QUIESCING || s.frozenPage pg || !s.drained pg k then s
      else
        let s1 := if k = .hbm then s.wf pg HBM_STAT_SREF 1 else s
        (s1.drainEnd pg k i).idleCheck)

/-- The start that a page's enable waits for is complete. That of CRS falls at its first tick, that of PUE at a selection point, that of a yealm with KAT_ON_EN, or in which a test has begun since, at the end of its test (R290, R291). [DEDUCED, assumption log 23] -/
def State.started (s : State) (pg : Nat) (k : PgKind) : Bool :=
  match k with
  | .crs | .pue => false
  | .pur => s.pur.formatted
  | .ylm => (s.yealm (pg / 0x4000 % 4)).starting && !s.gated
  | .stk => !s.gated
  | .btxc => s.bit pgBTXC BTX_STAT_LINK_UP && s.bit pgBTXC BTX_STAT_RING_OK
  | .fsc => !s.fsc.supply || !s.fsc.due
  | _ => true

/-- START_COMPLETE. -/
def execStartComplete (pg : Nat) (s : State) : Host.Outcome State Fault Refusal :=
  done s (match enPage pg with
    | none => s
    | some (k, _) =>
      if !s.bit pg PG_CTRL_EN || s.bit pg PG_STAT_QUIESCING || s.ready pg || !s.started pg k then s
      else
        let s1 := if k = .hbm then s.wf pg HBM_STAT_SREF 0 else s
        (s1.wf pg PG_STAT_READY 1).idleCheck)

/-! ## Soft reset (R79) -/

/-- The block's own state returns to its reset value. -/
def State.blockReset (s : State) (k : PgKind) (i : Nat) : State :=
  match k with
  | .crs => { s with crs := { volt := s.crs.volt, recon := s.crs.recon } }
  | .pur => s.purReset
  | .pue => { s with gov := {}, crs := { s.crs with recon := none } }
  | .ylm => { s with ylm := smErase s.ylm i }
  | .stk => { s with stk := smErase s.stk i }
  | .btxc => s.btxReset
  | _ => s

/-- R79: SRST is written 1; `ok` holds its conditions, judged on the state before the write. [DEDUCED, assumption log 22] -/
def State.srst (s : State) (src : Src) (pg : Nat) (k : PgKind) (i : Nat) (ok : Bool) : State :=
  if !ok then s.accErr src (pg + 8) eSTATE
  else ((s.blockReset k i).warmPages (fun k' i' => k' == k && i' == i) true).wf pg PG_CTRL_SRST 1

/-- SRST_DONE. -/
def execSrstDone (pg : Nat) (s : State) : Host.Outcome State Fault Refusal :=
  done s (if pg % 0x1000 = 0 ∧ (pageOf pg).isSome then s.wf pg PG_CTRL_SRST 0 else s)

/-! ## A write of PG_CTRL -/

/-- FREEZE is written: a request that takes effect at the next work boundary; its end is at once (R80). [DEDUCED, assumption log 22] -/
def State.freezeWrite (s : State) (pg : Nat) (on : Bool) : State :=
  let s1 := s.wf pg PG_CTRL_FREEZE (bnat on)
  if on then s1 else { s1 with frz := smErase s1.frz pg }

/-- A write of PG_CTRL by a writer: the parts that the page has, each under its own rule. -/
def State.ctrlWrite (s : State) (src : Src) (pg : Nat) (k : PgKind) (i : Nat) (v : Word32) : State :=
  let idle := !s.bit pg PG_CTRL_EN && !s.bit pg PG_STAT_QUIESCING && !s.bit pg PG_STAT_EN_PEND
  let en := v.getLsbD 0
  let s1 := if k.srsts && v.getLsbD 1 then s.srst src pg k i idle else s
  let s2 := if k.freezes then s1.freezeWrite pg (v.getLsbD 2) else s1
  if !k.enables then s2
  else if k = .hbm ∧ s2.bit pgCRS PG_CTRL_EN then s2.accErr src (pg + 8) eSTATE
  else s2.enWrite pg k i en

/-- A command that writes PG_CTRL of a page: the value is made from the bits that the page now holds. [DEDUCED, assumption log 22] -/
def State.ctrlCmd (s : State) (src : Src) (pg : Nat) (f : Nat → Nat) : State :=
  if pg % 0x1000 ≠ 0 then s
  else s.ifWriter src (pg + 8) fun s =>
    match pageOf pg with
    | none => s
    | some (k, i) => s.ctrlWrite src pg k i (BitVec.ofNat 32 (f (s.rf pg PG_CTRL_EN + 4 * s.rf pg PG_CTRL_FREEZE)))

/-- ENABLE. -/
def execEnable (src : Src) (pg : Nat) (s : State) : Host.Outcome State Fault Refusal :=
  done s (s.ctrlCmd src pg fun x => x / 2 * 2 + 1)

/-- DISABLE. -/
def execDisable (src : Src) (pg : Nat) (s : State) : Host.Outcome State Fault Refusal :=
  done s (s.ctrlCmd src pg fun x => x / 2 * 2)

/-- SRST. -/
def execSrst (src : Src) (pg : Nat) (s : State) : Host.Outcome State Fault Refusal :=
  done s (s.ctrlCmd src pg fun x => x + 2)

/-- FREEZE. -/
def execFreeze (src : Src) (pg : Nat) (on : Bool) (s : State) : Host.Outcome State Fault Refusal :=
  done s (s.ctrlCmd src pg fun x => x % 4 + 4 * bnat on)

/-- FREEZE_EFFECT: a freeze request takes effect at the block's work boundary. -/
def execFreezeEffect (pg : Nat) (s : State) : Host.Outcome State Fault Refusal :=
  done s (match enPage pg with
    | some (k, _) => if k.freezes && s.bit pg PG_CTRL_FREEZE then { s with frz := smSet (fun _ => false) s.frz pg true } else s
    | none => s)

/-! ## Events, errors, lock (R81 to R90) -/

/-- A write of PG_EVT_SET by a writer. -/
def State.evtSet (s : State) (src : Src) (pg : Nat) (k : PgKind) (i : Nat) (v : Word32) : State :=
  if s.locked pg then s.accErr src (pg + 0x1C) eLOCKED
  else s.wf pg PG_EVT_RAW (s.rf pg PG_EVT_RAW ||| (v.toNat &&& evtMask k i))

/-- EVT_SET. -/
def execEvtSet (src : Src) (pg : Nat) (v : Word32) (s : State) : Host.Outcome State Fault Refusal :=
  done s (if pg % 0x1000 ≠ 0 then s
    else s.ifWriter src (pg + 0x1C) fun s =>
      match pageOf pg with
      | some (k, i) => s.evtSet src pg k i v
      | none => s)

/-- R87: the whole error record is cleared. -/
def State.errClear (s : State) (pg : Nat) : State :=
  [0x20, 0x24, 0x28].foldl (fun s o => s.setReg (pg + o) 0) s

/-- ERR_CLEAR. -/
def execErrClear (src : Src) (pg : Nat) (s : State) : Host.Outcome State Fault Refusal :=
  done s (if pg % 0x1000 ≠ 0 then s else s.ifWriter src (pg + 0x20) fun s => s.errClear pg)

/-- A write of PG_LOCK by a writer. -/
def State.lockWrite (s : State) (pg : Nat) (k : PgKind) (v : Word32) : State :=
  if k.lockable && v.getLsbD 0 then s.wf pg PG_LOCK_LOCK 1 else s

/-- LOCK. -/
def execLock (src : Src) (pg : Nat) (s : State) : Host.Outcome State Fault Refusal :=
  done s (if pg % 0x1000 ≠ 0 then s
    else s.ifWriter src (pg + 0x2C) fun s =>
      match pageOf pg with
      | some (k, _) => s.lockWrite pg k 1
      | none => s)

/-- A write of a header register by a writer. -/
def State.hdrWrite (s : State) (src : Src) (pg off : Nat) (k : PgKind) (i : Nat) (v : Word32) : State :=
  match off with
  | 0x08 => s.ctrlWrite src pg k i v
  | 0x10 => s.wf pg PG_EVT_RAW (s.rf pg PG_EVT_RAW &&& (s.rf pg PG_EVT_RAW ^^^ v.toNat))
  | 0x14 => s.wf pg PG_EVT_EN (v.toNat &&& evtMask k i)
  | 0x1C => s.evtSet src pg k i v
  | 0x20 => if v.getLsbD 31 then s.errClear pg else s
  | 0x2C => s.lockWrite pg k v
  | _ => s

end Sys2Proof.Machine
end

