-- ==== Sys2Proof/Machine/Resets.lean ====
section
/-! DEFINITION. What each reset and each loss of power leaves (R602, R606, R621 to R624). -/

namespace Sys2Proof.Machine

/-- Keep the registers of the pages that satisfy `p` (by page number); the others return to their Cold values. A page's PG_LOCK is cleared (R89). -/
def State.onlyPages (s : State) (p : Nat → Bool) : SMap Word32 :=
  smDrop (fun key => !p (key / 0x1000) || key % 0x1000 == 0x2C) s.regs

/-- The cold reset: everything but the dormer and the PWR page, and what fuses and flash hold for good. A fuse or flash command in progress is cut. [DEDUCED, assumption log 1, 43] -/
def State.coldReset (s : State) : State :=
  let s0 := s.flsCut.sfcCut
  let regs := s0.onlyPages fun p => p == 1 || p == 3
  let pwr := { s0.pwr with cold := true, core := false, idle := 0, hot := [] }
  { pending := s0.pending, out := s0.out, free := s0.free, host := s0.host, regs := regs, dmr := s0.dmr, pwr := pwr
    fls := { margin := s0.fls.margin, normal := s0.fls.normal }, sfc := { flash := s0.sfc.flash } }

/-- The loss of VAUX: the PWR page goes too. Only the dormer, fuses and flash keep what they hold. -/
def State.auxLoss (s : State) : State :=
  let s1 := s.coldReset
  { s1 with regs := s1.onlyPages (· == 3), pwr := { core := false, j1 := s.pwr.j1 } }

/-- R602: the cold reset is asserted, unless it is held already; PWR_RST records it (R624). -/
def State.coldHold (s : State) (cause : Nat) : State :=
  if s.pwr.cold then s
  else
    let st := s.tray
    let stp := s.trayStep
    let s1 := ((s.coldReset.wf pgPWR PWR_RST_CAUSE cause).wf pgPWR PWR_RST_PREV_STATE st).wf pgPWR PWR_RST_PREV_STEP stp
    (s1.wf pgGLB GLB_STATE_STATE st).wf pgGLB GLB_STATE_STEP stp

/-- PWR_WAKE records the source of a rise. -/
def State.wake (s : State) (src : Nat) : State := (s.wf pgPWR PWR_WAKE_VALID 1).wf pgPWR PWR_WAKE_SRC src

/-- R601: a rise begins at U1, U2 or U3; the requests that led to it are spent. -/
def State.beginRise (s : State) (k cause src : Nat) : State :=
  let s0 := if k = 3 then { s with pwr := { s.pwr with cold := false } } else s
  let s1 := if k = 2 then s0 else s0.coldHold cause
  let s2 := (((s1.wf pgPWR PWR_STAT_ON_PEND 0).wf pgPWR PWR_STAT_OFF_PEND 0).wf pgPWR PWR_STAT_TGT 0).riseAt k
  let s3 := { s2 with pwr := { s2.pwr with onSrc := src, pgLost := [] } }
  if k = 1 then s3 else s3.wake src

/-! ## Warm reset (R621, R622, R624) -/

/-- The registers after a warm reset: those of PWR and DMR, but for PG_LOCK, stay; every other page takes its Warm column. -/
def State.warmRegs (s : State) : State :=
  let s1 := s.warmPages (fun k _ => k != .pwr && k != .dmr) false
  (s1.wf pgPWR PG_LOCK_LOCK 0).wf pgDMR PG_LOCK_LOCK 0

/-- What lies beyond the registers: gable and batten stores, fuses and flash, the lamp supply, the module's light, the test access port and the core voltage stay. -/
def State.warmRest (s : State) : State :=
  { pending := s.pending, out := s.out, free := s.free, host := s.host, regs := s.regs
    store := s.store, gcode := s.gcode, gdata := s.gdata
    crs := { volt := s.crs.volt }, fls := { s.fls with cmd := none }
    sfc := { flash := s.sfc.flash }, fsc := { supply := s.fsc.supply, due := s.fsc.supply }
    dmr := s.dmr, pwr := { s.pwr with idle := 0, hot := [] }
    btx := { light := s.btx.light, retTx := s.btx.retTx, retRx := s.btx.retRx }, tap := { s.tap with svc := [] } }

/-- A warm reset while the tray rises beyond U6, or in RUN or IDLE: back to U7. [DEDUCED, assumption log 43] -/
def State.warmReset (s : State) (cause : Nat) : State :=
  let st := s.tray
  let stp := s.trayStep
  let s1 := s.flsCut.sfcCut.warmRegs.warmRest
  let s2 := ((s1.wf pgPWR PWR_RST_CAUSE cause).wf pgPWR PWR_RST_PREV_STATE st).wf pgPWR PWR_RST_PREV_STEP stp
  (((s2.wf pgGLB GLB_STATE_STATE st).wf pgGLB GLB_STATE_STEP stp).riseAt 7).bootRom

/-- R622: what a warm or watchdog reset comes to in each state; in STANDBY it acts as an ON request. -/
def State.warmIn (s : State) (cause : Nat) : State :=
  let t := s.tray
  if t = tRUN ∨ t = tIDLE ∨ (t = tRISING ∧ 7 ≤ s.trayStep) then s.warmReset cause
  else if t = tSTANDBY then s.beginRise 3 7 5
  else if t = tRISING ∨ t = tFALLING then
    ((s.wf pgPWR PWR_RST_CAUSE cause).wf pgPWR PWR_RST_PREV_STATE t).wf pgPWR PWR_RST_PREV_STEP s.trayStep
  else s

/-- WARM_RESET: TRAY_RST#, or the host's write of 0xA55A to EAV_WRST (R684). The tray watchdog's is WDOG_RESET. -/
def execWarmReset (by' : WarmBy) (s : State) : Host.Outcome State Fault Refusal :=
  done s (match by' with
    | .pin => s.warmIn 3
    | .write src v => s.ifWriter src (pgEAV + 0x48) fun s => if src = .host ∧ v = 0xA55A then s.warmIn 4 else s)

/-! ## PERST# and function-level resets (R621, R623, R624, R684) -/

/-- The plans of the functions that satisfy `p` leave the queues; a running or dispatched one stays, and reports nothing. -/
def State.withdraw (s : State) (p : Nat → Bool) : State :=
  let keep := fun (x : Plan) => !p x.fn
  let quiet := fun (r : Run) => if p r.plan.fn then { r with silent := true } else r
  let c := s.crs
  let next := c.next.map fun x => { x with run := x.run.map quiet }
  { s with
    pur := { s.pur with queue := s.pur.queue.filter keep }
    crs := { c with pendFail := c.pendFail.filter keep, run := c.run.map quiet, next := next } }.resvCheck

/-- The gutter transfer of a channel is abandoned, and its descriptors with it. -/
def State.gutAbandon (s : State) (c : Nat) : State :=
  let d := s.gutDesc c
  let s1 := if smGet (fun _ => 0) s.eav.gut c = 0 then s else (s.setGut c 0).setWriting c d.target false
  (s1.wf pgGUT GUT_CH_CFG_EN 0 c).wf pgGUT GUT_CH_TAIL_TAIL (s1.rf pgGUT GUT_CH_HEAD_HEAD c) c

/-- R621: the eave, the gutter engines, every function's pages, MSI-X tables and plan queues. The PF's sealed bindings and the resets of VFs that wait for a tick stay. [DEDUCED, assumption log 43] -/
def State.perst (s : State) : State :=
  let s1 := (List.range 8).foldl State.gutAbandon s
  let s2 := (s1.withdraw fun _ => true).warmPages (fun k _ => k == .eav || k == .gut || k == .vfc || k == .vdb || k == .vmb) true
  let s3 := { s2 with eav := { pfDom := s2.eav.pfDom, flr := s2.eav.flr } }
  ((List.range 256).filter fun n => decide (32 ≤ n) && irqExists n && s.rf pgIRQ IRQ_SRC_TARGET n == 2).foldl (fun s n => s.irqIdle 0 n) s3

/-- PERST. -/
def execPerst (s : State) : Host.Outcome State Fault Refusal := done s (if s.pwr.core then s.perst else s)

/-- R623, R684: the reset of VF v. [DEDUCED, assumption log 43] -/
def State.vfReset (s : State) (v : Nat) : State :=
  let s1 := match s.vfChan v with
    | some c => s.gutAbandon c
    | none => s
  let s2 := ((s1.withdraw (· == v)).wf pgEAV EAV_MB_PEND_PEND (setBit (s.rf pgEAV EAV_MB_PEND_PEND) (v - 1) false)).wf (pgVMB v)
    VMB_STAT_BUSY 0
  if s2.fnRuns v then { s2 with eav := { s2.eav with flr := smSet (fun _ => false) s2.eav.flr v true } } else s2.flrEnd v

/-- R623: the reset of the PF acts as PERST#, but the link stays up. [DEDUCED, assumption log 43] -/
def State.pfReset (s : State) : State :=
  let s1 := s.perst
  (((s1.wf pgEAV EAV_LINK_UP (s.rf pgEAV EAV_LINK_UP)).wf pgEAV EAV_LINK_WIDTH (s.rf pgEAV EAV_LINK_WIDTH)).wf pgEAV EAV_LINK_GEN
    (s.rf pgEAV EAV_LINK_GEN)).wf pgEAV EAV_LINK_FLIT (s.rf pgEAV EAV_LINK_FLIT)

/-- FLR. -/
def execFlr (fn : Fin 9) (s : State) : Host.Outcome State Fault Refusal :=
  done s (if !s.pwr.core || !s.ready pgEAV || decide (s.eav.vfs < fn.val) then s
    else if fn.val = 0 then s.pfReset
    else s.vfReset fn)

end Sys2Proof.Machine
end

