-- ==== Sys2Proof/Machine/Power.lean ====
section
/-! DEFINITION. The power sequencer: requests, rises, falls, forced falls, IDLE, and the input at J1 (R597 to R615, R631, R632). -/

namespace Sys2Proof.Machine

/-! ## What the steps of a fall do (R606) -/

/-- D8: every controller stops, and the stacks are in reset; their contents are abandoned. -/
def State.hbmDown (s : State) : State :=
  let s1 := (List.range 4).foldl (fun s n =>
    ((((s.wf (pgHBM n) PG_STAT_READY 0).wf (pgHBM n) HBM_STAT_SREF 0).wf (pgHBM n) HBM_STAT_TRAINED 0).wf (pgPHY n)
      PHY_TRAIN_STAT_RUN 0)) s
  { s1 with hbm := { stop := [(0, true), (1, true), (2, true), (3, true)] } }

/-- D7: the eave is disabled and its link down, gutter transfers are abandoned, and gable 1 is stopped. -/
def State.hostDown (s : State) : State :=
  let s1 := (List.range 8).foldl State.gutAbandon s
  let s2 := [PG_CTRL_EN, PG_STAT_READY, PG_STAT_QUIESCING, PG_STAT_EN_PEND, EAV_LINK_UP, EAV_LINK_WIDTH, EAV_LINK_GEN,
    EAV_LINK_FLIT].foldl (fun s f => s.wf pgEAV f 0) s1
  let x := s2.gable 1
  if x.stopped || x.halted then s2 else s2.gabStopped 1

/-- D3: the core rails are off: every core-domain item is lost, and core pages feed no interrupt. What the aux domain holds stays. -/
def State.coreDown (s : State) : State :=
  let s1 := ((List.range 164).filter fun n => decide (32 ≤ n) && (irqFeeds n).any fun p => match pageOf p with
    | some (k, _) => !k.aux
    | none => false).foldl (fun s n => s.irqIdle 0 n) s
  let s2 := (List.range 64).foldl (fun s n => s.wf pgSNS SNS_BAT_VALID 0 n) s1
  let s3 := (s2.coldPages fun k _ => !k.aux).connSet FSC_CONN_J4_OUT 18 3
  { pending := s3.pending, out := s3.out, free := s3.free, host := s3.host, regs := s3.regs, irq := s3.irq
    gab := s3.gab, gcode := s3.gcode, gdata := s3.gdata, gcs := s3.gcs, gstage := s3.gstage, fls := s3.fls, sfc := s3.sfc
    fsc := s3.fsc, tap := s3.tap, dmr := s3.dmr, btx := { light := s3.btx.light }
    pwr := { s3.pwr with core := false, idle := 0, hot := [] } }

/-- D2: both gables are stopped, and PWR_WAKE is cleared. -/
def State.auxHandover (s : State) : State :=
  let s1 := [0, 1].foldl (fun s g => let x := s.gable g; if x.stopped then s else s.gabStopped g) s
  (s1.wf pgPWR PWR_WAKE_VALID 0).wf pgPWR PWR_WAKE_SRC 0

def State.onPend (s : State) : Bool := s.bit pgPWR PWR_STAT_ON_PEND

/-- D3 ends in STANDBY, or goes on to DORMANT; a latched ON request turns it (R611). -/
def State.coreOff (s : State) : State :=
  let s1 := s.coreDown
  if s.onPend then (s1.setTray tSTANDBY 0 false).beginRise 3 2 s.pwr.onSrc
  else if s.bit pgPWR PWR_STAT_TGT then s1.fallAt 2
  else s1.setTray tSTANDBY 0 false

/-- The tray takes DORMANT: everything but the dormer is lost. -/
def State.goDormant (s : State) : State := s.auxLoss.wf pgGLB GLB_STATE_STATE tDORMANT

/-- FALL_STEP_DONE: a step that the sequencer drives, D8 to D1, completes. Stacks that R609 has stopped already take no further action. -/
def execFallStepDone (s : State) : Host.Outcome State Fault Refusal :=
  done s (if s.tray ≠ tFALLING then s
    else match s.trayStep with
      | 8 => (if s.pwr.hbmOff then s else s.hbmDown).fallAt 7
      | 7 => s.hostDown.fallAt 6
      | 6 => s.fallAt 5
      | 5 => s.fallAt 4
      | 4 => s.fallAt 3
      | 3 => s.coreOff
      | 2 => if s.onPend then s.auxHandover.beginRise 2 1 s.pwr.onSrc else s.auxHandover.fallAt 1
      | 1 => if s.onPend then s.goDormant.beginRise 1 1 s.pwr.onSrc else s.goDormant
      | _ => s)

/-! ## Forced falls (R608) -/

/-- D10 and D9 of a forced fall: every engine freezes, the course in progress is never committed, and the lasers are off. -/
def State.freezeAll (s : State) : State :=
  let s1 := match s.crs.run with
    | some r => s.discardRun r
    | none => s
  let s2 := { s1.stopCourses with crs := { s1.stopCourses.crs with run := none, frozen := true } }
  (List.range 72).foldl (fun s i => (s.wf (pgSPR i) SPR_STAT_RUNNING 0).wf (pgSPR i) SPR_STAT_WAITING 0) s2.lasersOff

/-- A forced fall to STANDBY (0) or DORMANT (1). From STANDBY, or before U3, only D2 and D1 are left; a fall that has passed D9 goes on where it is. [DEDUCED, assumption log 42] -/
def State.forcedFall (s : State) (tgt : Nat) : State :=
  let t := s.tray
  let k := s.trayStep
  let s0 := { s with pwr := { s.pwr with idle := 0 } }
  let s1 := ((s0.wf pgPWR PWR_STAT_FORCED 1).raise pgPWR 2).wf pgPWR PWR_STAT_TGT tgt
  if t = tSTANDBY ∨ (t = tRISING ∧ (k = 1 ∨ k = 2)) then (s1.wf pgPWR PWR_STAT_TGT 1).fallAt 2
  else if t = tFALLING ∧ k ≤ 8 then s1
  else (s1.freezeAll).fallAt 8

/-- STEP_TMO: a step of U7 to U10, D10 or D9 exceeds its limit. -/
def execStepTmo (s : State) : Host.Outcome State Fault Refusal :=
  done s (if (s.tray = tRISING ∧ 7 ≤ s.trayStep) ∨ (s.tray = tFALLING ∧ 9 ≤ s.trayStep) then (s.raise pgPWR 1).forcedFall 0 else s)

/-- The rail is up: 0 and 1 with the core rails, 2 and 3 as well while R609 has not switched them off, 4 with VAUX, 5 (VOPT) with the core rails while a module is seated (R637), 6 the input stage. -/
def State.railUp (s : State) (r : Nat) : Bool :=
  let t := s.tray
  let k := if t = tRISING ∧ s.trayStep = 0 then 6 else s.trayStep
  let core := s.pwr.core
  match r with
  | 0 | 1 => core
  | 2 | 3 => core && !s.pwr.hbmOff && !(t == tRISING && decide (k < 5)) && !(t == tFALLING && decide (k < 4))
  | 4 => decide (tSTANDBY ≤ t) && !(t == tRISING && decide (k < 2)) && !(t == tFALLING && decide (k < 1))
  | 5 => core && s.bit pgFSC FSC_CONN_J3_MOD
  | _ => t != tOFF

/-- PWR_VRr.PG as it reads. [DEDUCED, assumption log 42] -/
def State.railGood (s : State) (r : Nat) : Bool := s.railUp r && !smGet (fun _ => false) s.pwr.pgLost r

/-- POWER_GOOD_LOSS: a rail that the state requires loses power good. -/
def execPowerGoodLoss (r : Fin 6) (s : State) : Host.Outcome State Fault Refusal :=
  done s (if !s.railGood r then s
    else { s with pwr := { s.pwr with pgLost := smSet (fun _ => false) s.pwr.pgLost r true } }.forcedFall (if r.val = 4 then 1 else 0))

/-- TRIP: a batten sensor has read above SNS_CFG.TRIP twice in a row. -/
def execTrip (b : Fin 64) (s : State) : Host.Outcome State Fault Refusal :=
  done s (if !s.pwr.core || decide (smGet (fun _ => 0) s.pwr.hot b < 2) then s
    else
      let s1 := if s.bit pgSNS SNS_TRIP_REC_VALID then s
        else (s.wf pgSNS SNS_TRIP_REC_VALID 1).wf pgSNS SNS_TRIP_REC_BATTEN b
      (s1.raise pgSNS 0).forcedFall 0)

/-- HBM_OFF: at an emergency stop, the sequencer carries out D8 and D4 for all four stacks (R609). -/
def execHbmOff (s : State) : Host.Outcome State Fault Refusal :=
  done s (if !s.pwr.core || !s.bit pgGLB GLB_FAIL_HBM_TEMP || s.pwr.hbmOff then s
    else
      let s1 := s.hbmDown
      ({ s1 with pwr := { s1.pwr with hbmOff := true, idle := 0 } }.wf pgPWR PWR_STAT_HBM_OFF 1).raise pgPWR 8)

/-! ## Requests (R600, R610 to R612) -/

/-- A request that the state does not accept. While PWR has no power there is nothing to raise. -/
def State.ignored (s : State) : State := s.raiseIf (decide (tSTANDBY ≤ s.tray)) pgPWR 7

/-- An ON request from a source of PWR_WAKE. -/
def State.onReq (s : State) (src : Nat) : State :=
  let t := s.tray
  if t = tDORMANT then s.beginRise 1 1 src
  else if t = tSTANDBY then s.beginRise 3 2 src
  else if t = tFALLING then { s.wf pgPWR PWR_STAT_ON_PEND 1 with pwr := { s.pwr with onSrc := src } }
  else s.ignored

/-- ON_REQUEST. An alarm asks only while its request stands (R591); TRAY_ON is powered from AUX_D. -/
def execOnRequest (by' : OnBy) (s : State) : Host.Outcome State Fault Refusal :=
  done s (match by' with
    | .alarm n => if s.dmr.wake == some n.val && s.tray != tOFF then { s with dmr := { s.dmr with wake := none } }.onReq (n.val + 1) else s
    | .trayOn => if s.tray = tOFF then s else s.onReq 3
    | .req src => s.ifWriter src (pgPWR + 0x44) fun s => s.onReq 4)

/-- R610: an OFF request while the tray rises waits for the step in progress; U8's training is aborted, and the boot ROM in recovery ends U7. [DEDUCED, assumption log 42] -/
def State.offRising (s : State) (tgt : Nat) : State :=
  let k := s.trayStep
  let s1 := (s.wf pgPWR PWR_STAT_OFF_PEND 1).wf pgPWR PWR_STAT_TGT (if k = 1 ∨ k = 2 then 1 else tgt)
  if k = 8 then ((List.range 4).foldl State.trainAbort (s1.wf pgPWR PWR_STAT_WAIT_ADV 0)).u8Check
  else if k = 7 ∧ s.sfc.recovery then { s1 with sfc := { s1.sfc with recovery := false, stage := none } }.fallAt 7
  else s1

/-- R612: an OFF request while the tray falls. [DEDUCED, assumption log 42] -/
def State.offFalling (s : State) (tgt : Nat) : State :=
  let s1 := s.wf pgPWR PWR_STAT_ON_PEND 0
  if tgt = 1 ∧ 3 ≤ s.trayStep then s1.wf pgPWR PWR_STAT_TGT 1 else s1

/-- An OFF request with its target, 0 STANDBY or 1 DORMANT. -/
def State.offReq (s : State) (tgt : Nat) (force : Bool) : State :=
  let t := s.tray
  if t = tRUN ∨ t = tIDLE then
    if force then s.forcedFall tgt
    else
      let s1 := (s.wf pgPWR PWR_STAT_TGT tgt).fallAt 10
      { s1 with pwr := { s1.pwr with idle := 0 } }
  else if t = tRISING then (if force then s.forcedFall tgt else s.offRising tgt)
  else if t = tFALLING then (if force ∧ 9 ≤ s.trayStep then s.forcedFall tgt else s.offFalling tgt)
  else if t = tSTANDBY ∧ tgt = 1 then (if force then s.forcedFall 1 else (s.wf pgPWR PWR_STAT_TGT 1).fallAt 2)
  else s.ignored

/-- OFF_REQUEST. -/
def execOffRequest (by' : OffBy) (s : State) : Host.Outcome State Fault Refusal :=
  done s (match by' with
    | .trayOff => if s.tray = tOFF then s else s.offReq 1 false
    | .req src dormant force => s.ifWriter src (pgPWR + 0x44) fun s => s.offReq (bnat dormant) force)

/-- EN is written on the four HBM controllers (R614). -/
def State.hbmEnable (s : State) (en : Bool) : State := (List.range 4).foldl (fun s n => s.enWrite (pgHBM n) .hbm n en) s

/-- An IDLE request: in RUN, with the course timer stopped. -/
def State.idleReq (s : State) : State :=
  if s.tray = tRUN ∧ !s.bit pgCRS PG_CTRL_EN ∧ !s.bit pgCRS PG_STAT_QUIESCING ∧ s.pwr.idle = 0 then
    let s1 := s.hbmEnable false
    { s1 with pwr := { s1.pwr with idle := 1 } }.idleCheck
  else s.ignored

/-- IDLE_REQUEST. -/
def execIdleRequest (src : Src) (s : State) : Host.Outcome State Fault Refusal :=
  done s (s.ifWriter src (pgPWR + 0x44) State.idleReq)

/-- A RUN request: in IDLE. -/
def State.runReq (s : State) : State :=
  if s.tray = tIDLE ∧ s.pwr.idle = 0 then
    let s1 := s.hbmEnable true
    { s1 with pwr := { s1.pwr with idle := 2 } }.idleCheck
  else s.ignored

/-- RUN_REQUEST. -/
def execRunRequest (src : Src) (s : State) : Host.Outcome State Fault Refusal :=
  done s (s.ifWriter src (pgPWR + 0x44) State.runReq)

/-- A write of PWR_REQ by a writer. -/
def State.pwrReq (s : State) (v : Word32) : State :=
  if !v.getLsbD 31 then s
  else match v.toNat % 4 with
    | 0 => s.onReq 4
    | 1 => s.offReq (bnat (v.getLsbD 4)) (v.getLsbD 8)
    | 2 => s.idleReq
    | _ => s.runReq

/-! ## Steps (R601, R605, R610) -/

/-- A step Uk of a rise has completed: the fall that an OFF request waits for begins at its mirror, or the next step. [DEDUCED, assumption log 1] -/
def State.riseNext (s : State) (k : Nat) : State := if s.bit pgPWR PWR_STAT_OFF_PEND then s.fallAt k else s.riseAt (k + 1)

/-- U6 completes: fuses are loaded, the cold reset is released, and gable 0 runs its boot ROM. -/
def State.fuseStep (s : State) : State :=
  let s1 := s.fuseLoad
  let s2 := { s1 with pwr := { s1.pwr with cold := false } }
  if s2.bit pgPWR PWR_STAT_OFF_PEND then s2.fallAt 6 else (s2.riseAt 7).bootRom

/-- U2 completes: the cold reset is asserted if it is not already. -/
def State.auxStep (s : State) : State :=
  if s.bit pgPWR PWR_STAT_OFF_PEND then s.fallAt 2 else (s.coldHold 2).riseAt 3

/-- RISE_STEP_DONE: a step that the sequencer drives, U1 to U6, completes. A machine fresh from State.reset stands at the end of U6. -/
def execRiseStepDone (s : State) : Host.Outcome State Fault Refusal :=
  done s (if s.tray ≠ tRISING then s
    else match s.trayStep with
      | 1 => if s.bit pgPWR PWR_STAT_OFF_PEND then s.fallAt 1 else (s.riseAt 2).wake s.pwr.onSrc
      | 2 => s.auxStep
      | 3 => { s with pwr := { s.pwr with core := true } }.riseNext 3
      | 4 => { s.wf pgPWR PWR_STAT_HBM_OFF 0 with pwr := { s.pwr with hbmOff := false } }.riseNext 4
      | 5 => s.riseNext 5
      | 6 | 0 => s.fuseStep
      | _ => s)

/-- A firmware step of a rise completes. -/
def State.riseAdv (s : State) (k : Nat) : State :=
  if k = 10 then
    let s1 := s.wf pgPWR PWR_STAT_FORCED 0
    if s1.bit pgPWR PWR_STAT_OFF_PEND then s1.fallAt 10 else s1.setTray tRUN 0 false
  else s.riseNext k

/-- A write of PWR_ADV by a writer: it completes the step it names. -/
def State.pwrAdv (s : State) (src : Src) (v : Word32) : State :=
  let key := pgPWR + 0x48
  let k := v.toNat % 16
  let d := v.getLsbD 4
  if k < 7 ∨ 10 < k then s.accErr src key eRANGE
  else if !v.getLsbD 31 then s
  else if s.trayStep = k ∧ s.tray = tRISING ∧ !d then s.riseAdv k
  else if s.trayStep = k ∧ s.tray = tFALLING ∧ d ∧ 9 ≤ k then (if k = 10 then s.fallAt 9 else s.lasersOff.fallAt 8)
  else s.accErr src key eSTATE

/-- PWR_ADV. -/
def execPwrAdv (src : Src) (v : Word32) (s : State) : Host.Outcome State Fault Refusal :=
  done s (s.ifWriter src (pgPWR + 0x48) fun s => s.pwrAdv src v)

/-- U9_TIMEOUT. -/
def execU9Timeout (s : State) : Host.Outcome State Fault Refusal := done s s.u9Done

/-! ## The input at J1 (R599, R613, R631, R632) -/

def State.setJ1 (s : State) (c : Nat) : State := { s with pwr := { s.pwr with j1 := c } }

/-- INPUT_VALID: AUX_D is up, and the dormer runs on it. -/
def execInputValid (s : State) : Host.Outcome State Fault Refusal :=
  done s (if s.tray = tOFF ∧ s.pwr.j1 ≠ 1 ∧ !s.dmr.stopped ∧ !s.bit pgDMR DMR_STAT_SUPPLY then s.wf pgGLB GLB_STATE_STATE tDORMANT else s)

/-- STANDBY, IDLE and RUN report the input on the PWR page. -/
def State.reports (s : State) : Bool := s.tray == tSTANDBY || s.tray == tIDLE || s.tray == tRUN

/-- IN_UV. -/
def execInUv (s : State) : Host.Outcome State Fault Refusal :=
  done s (if s.pwr.j1 = 1 ∨ s.pwr.j1 = 2 then s else ((s.setJ1 2).raiseIf s.reports pgPWR 3).dmrLog 2 0)

/-- IN_OV. -/
def execInOv (s : State) : Host.Outcome State Fault Refusal :=
  done s (if s.pwr.j1 = 1 ∨ s.pwr.j1 = 3 then s else ((s.setJ1 3).raiseIf s.reports pgPWR 4).dmrLog 3 0)

/-- J1_REVERSE: the tray stays OFF. -/
def execJ1Reverse (s : State) : Host.Outcome State Fault Refusal :=
  done s (if s.tray ≠ tOFF ∨ s.pwr.j1 = 1 then s else (s.setJ1 1).dmrLog 1 0)

/-- J1_CLEAR: the input is back in its normal range. -/
def execJ1Clear (s : State) : Host.Outcome State Fault Refusal :=
  done s (if s.pwr.j1 = 0 then s else (s.setJ1 0).dmrLog 8 0)

/-- INPUT_LOSS: below 36 V for 50 µs, or above 64 V (`ov`) for 10 µs; it overrides every request and step, and all but the dormer is lost. -/
def execInputLoss (ov : Bool) (s : State) : Host.Outcome State Fault Refusal :=
  done s (if s.tray = tOFF then s
    else
      let s1 := s.auxLoss.wf pgGLB GLB_STATE_STATE tOFF
      if ov then (s1.setJ1 3).dmrLog 3 0 else s1)

end Sys2Proof.Machine
end

