-- ==== Sys2Proof/Machine/RegView.lean ====
section
/-! DEFINITION. What a register reads as. A register that copies other state, or that is counted from it, is a view and holds nothing of its own (R73, R76, R81, R105, R145, R237, R347, R412, R417, R456, R458, R476, R477, R626, R653, R683, R690 to R692). -/

namespace Sys2Proof.Machine

/-- A field of a word replaced. -/
def putFld (x : Word32) (f : Fld) (v : Nat) : Word32 := fieldSet x f.lo f.width v

/-! ## The header (R73, R76, R81) -/

/-- R73: PG_ID. -/
def pgIdOf (k : PgKind) (i : Nat) : Nat := k.type * 65536 + i * 256 + Config.pgVersion k.type % 256

/-- R73, R417: PG_CAP; the SPR pages alone state their BLOCK. -/
def pgCapOf (k : PgKind) (i : Nat) : Nat :=
  let blk := if k = .spr then (if i < 64 then 0 else if i < 68 then 1 else 2) else Config.pgBlockCap k.type % 2 ^ 24
  2 ^ 31 * bnat k.lockable + 2 ^ 30 * bnat k.events + 2 ^ 29 * bnat k.freezes + 2 ^ 28 * bnat k.srsts + 2 ^ 27 * bnat k.enables + blk

/-- R76: the block has accepted work that is not complete. [DEDUCED, assumption log 17] -/
def State.busyBlock (s : State) (pg : Nat) (k : PgKind) (i : Nat) : Bool :=
  match k with
  | .crs => s.crs.running
  | .pur => s.pur.move.isSome || !s.pur.asks.isEmpty || !s.pur.stWait.isEmpty || !s.pur.queue.isEmpty
  | .gut => !s.eav.gut.isEmpty
  | .eav => !s.eav.backlog.isEmpty
  | .ylm => s.bit pg YLM_STAT_ACTIVE || s.bit pg YLM_KAT_STAT_RUN
  | .stk => s.bit pg STK_STAT_ACTIVE
  | .phy => s.bit pg PHY_TRAIN_STAT_RUN
  | .hbm => !(smGet (fun _ => []) s.hbm.scrub i).isEmpty
  | .bst => (s.batten i).march.isSome
  | .slt => (List.range 4).any fun a => (s.arr (arrNo i a)).queue != 0
  | .spr => s.bit pg SPR_STAT_RUNNING || s.bit pg SPR_CS_TSTAT_RUN
  | .gab => (s.gable i).march.isSome
  | .fls => s.bit pg FLS_CMD_STAT_BUSY
  | .sfc => s.bit pg SFC_STAT_BUSY
  | .pwr => s.bit pg PWR_PMB_STAT_BUSY
  | .fsc => s.bit pg FSC_TEST_STAT_RUN
  | .dmr => s.bit pg DMR_STAT_COMMIT_PEND
  | .btxc => !s.btx.msgOut.isEmpty || !s.btx.fwd.isEmpty || !s.btx.rx.isEmpty || !s.btx.ready.isEmpty
  | .vmb => s.bit pg VMB_STAT_BUSY
  | .glb | .sns | .irq | .irqb | .pue | .rdg | .lig | .btxt | .btxr | .btxl | .btn | .vfc | .vdb => false

/-- A header register. [DEDUCED, assumption log 17] -/
def State.hdrView (s : State) (pg off : Nat) (k : PgKind) (i : Nat) (x : Word32) : Word32 :=
  match off with
  | 0x00 => BitVec.ofNat 32 (pgIdOf k i)
  | 0x04 => BitVec.ofNat 32 (pgCapOf k i)
  | 0x0C => putFld x PG_STAT_BUSY (bnat (s.busyBlock pg k i))
  | 0x18 => BitVec.ofNat 32 (s.pend pg)
  | _ => x

/-! ## The IRQ page (R462, R476, R477) -/

/-- The private bank that a source reads. -/
def srcBank : Src → Option Nat
  | .gable g => some g.val
  | _ => none

/-- A private IRQ_SRCn or IRQ_LOSTn register of gable g; TARGET shows the gable, and reserved sources read 0. -/
def State.irqPrivate (s : State) (g n off : Nat) : Word32 :=
  if n < 1 ∨ 8 < n then 0
  else
    let x := s.reg (pgIRQB g + off + 4 * n)
    if off = 0x400 then putFld x IRQ_SRC_TARGET g else x

/-- IRQ_PENDk and IRQ_ACTIVEk: the sources of a group of 32 that are in a state, as a bank sees them. -/
def State.irqGroup (s : State) (bank : Option Nat) (k st : Nat) : Nat :=
  (List.range 32).foldl (fun a i =>
    let n := 32 * k + i
    let on := match bank with
      | some g => s.rf (irqPage g n) IRQ_SRC_STATE n == st
      | none => decide (32 ≤ n) && s.rf pgIRQ IRQ_SRC_STATE n == st
    if irqExists n && on then a + 2 ^ i else a) 0

/-- The registers of the IRQ page as a source reads them. -/
def State.irqView (s : State) (src : Src) (off : Nat) (x : Word32) : Word32 :=
  let bank := srcBank src
  let priv := fun (n o : Nat) => match bank with
    | some g => s.irqPrivate g n o
    | none => 0
  if off = 0x4C then (match bank with
    | some g => s.reg (pgIRQB g + 0x4C)
    | none => 0)
  else if 0x60 ≤ off ∧ off < 0x80 then BitVec.ofNat 32 (s.irqGroup bank ((off - 0x60) / 4) srcPending)
  else if 0x80 ≤ off ∧ off < 0xA0 then BitVec.ofNat 32 (s.irqGroup bank ((off - 0x80) / 4) srcActive)
  else if 0x400 ≤ off ∧ off < 0xC00 then
    let n := off % 0x400 / 4
    if n < 32 then priv n (off / 0x400 * 0x400) else if irqExists n then x else 0
  else if 0xC00 ≤ off ∧ off < 0xE00 then
    s.irqPrivate (off / 0x80 % 2) (off % 0x80 / 4) (if off < 0xD00 then 0x400 else 0x800)
  else x

/-! ## The other pages -/

/-- R456: an item of the spar snapshot of gable g. -/
def State.snapItem (s : State) (g : Nat) : Nat := (s.gable g).snap.getD (s.rf (pgGAB g) GAB_SDBG_IDX_ITEM) 0

/-- R412: the stored word at SPR_CS_ADDR. -/
def State.csStored (s : State) (i : Nat) : BitVec 128 :=
  let a := s.rf (pgSPR i) SPR_CS_ADDR_ADDR
  if a < 6144 then romAt i a else s.csWord i a

/-- LIG_ACTIVE: the active pairs of a group of 32. -/
def State.ligGroup (s : State) (p0 : Nat) : Nat :=
  (List.range 32).foldl (fun a i => if s.ligActive (p0 + i) then a + 2 ^ i else a) 0

/-- PUR_FENCE: the fenced battens of a group of 32. -/
def State.fenceGroup (s : State) (b0 : Nat) : Nat :=
  (List.range 32).foldl (fun a i => if s.bit (pgBST (b0 + i)) BST_FENCE_FENCED then a + 2 ^ i else a) 0

/-- BTN_USE.PLAN: from the arm window to the tick of a plan that uses the batten. -/
def State.btnPlan (s : State) (b : Nat) : Bool := s.planUses b

/-- R626: PWR_STAT.IN_OK: the input lies within its range. -/
def State.inOk (s : State) : Bool := s.tray != tOFF && s.pwr.j1 == 0

/-- A register past the header, on the stored word `x`. What the tray measures at the read is a free value. -/
def State.pageView (s : State) (src : Src) (pg off : Nat) (k : PgKind) (i : Nat) (x : Word32) : Word32 :=
  let n32 := fun v => BitVec.ofNat 32 v
  match k with
  | .glb => if off = 0x40 then n32 (0x0440 * 65536 + Config.revision % 256 * 256) else x
  | .irq => s.irqView src off x
  | .pwr =>
    if off = 0x40 then putFld x PWR_STAT_IN_OK (bnat s.inOk)
    else if off = 0x58 then n32 (Config.freeValue s.free)
    else if off = 0x60 then n32 (s.pwr.energy % 2 ^ 32)
    else if off = 0x64 then n32 s.pwr.energyLatch
    else if 0x80 ≤ off ∧ off < 0x9C then putFld x PWR_VR_PG (bnat (s.railGood ((off - 0x80) / 4)))
    else x
  | .crs => if off = 0x58 then n32 s.crs.numLatch else x
  | .pur =>
    if off = 0x54 then n32 s.slotsFree
    else if off = 0x60 then n32 s.pinnedPages
    else if off = 0x64 then n32 s.objCount
    else if 0x80 ≤ off ∧ off < 0x90 then n32 (s.freeCount ((off - 0x80) / 4))
    else if off = 0x90 then n32 (s.fenceGroup 0)
    else if off = 0x94 then n32 (s.fenceGroup 32)
    else x
  | .ylm => if off = 0x48 then n32 ((s.yealm i).bytes % 2 ^ 32) else x
  | .spr =>
    if off = 0x50 then putFld x SPR_PARK_PARKED (s.rf pg SPR_STAT_PARKED)
    else if 0x64 ≤ off ∧ off < 0x74 then n32 ((s.csStored i).toNat / 2 ^ (8 * (off - 0x64)))
    else x
  | .lig => if off = 0x40 then n32 (s.ligGroup (64 * i)) else if off = 0x44 then n32 (s.ligGroup (64 * i + 32)) else x
  | .btn =>
    if off = 0x40 then n32 i
    else if off = 0x44 then (putFld (putFld x BTN_USE_PLAN (bnat (s.btnPlan i))) BTN_USE_FENCED (s.rf (pgBST i) BST_FENCE_FENCED))
    else x
  | .gab =>
    if off = 0x40 then n32 (s.gable i).stat
    else if off = 0x44 then n32 (s.gable i).pc.toNat
    else if off = 0x48 then n32 (bnat (s.gable i).stopReq)
    else if off = 0x104 then n32 (s.snapItem i)
    else if off = 0x108 then n32 (s.snapItem i / 2 ^ 32 % 16)
    else x
  | .fsc => if off = 0x210 then n32 s.dbgLevel else x
  | .eav =>
    if 0xF0 ≤ off ∧ off < 0xF8 then n32 (s.msixPba 0 ((off - 0xF0) / 4))
    else if 0x100 ≤ off ∧ off < 0x900 ∧ off % 0x100 < 0x40 then n32 (s.rf (pgVMB (off / 0x100)) VMB_REQ_DATA (off % 0x100 / 4))
    else x
  | .gut => if off = 0x80 then n32 (if s.pur.move.isSome then 2 ^ (Config.freeValue s.free % 4) else 0) else x
  | .vfc => if off = 0x40 then n32 i else x
  | .vdb =>
    if off = 0x58 then n32 (match s.vfChan i with
      | some c => s.rf pgGUT GUT_CH_TAIL_TAIL c
      | none => 0)
    else if off = 0x5C then n32 (match s.vfChan i with
      | some c => s.rf pgGUT GUT_CH_HEAD_HEAD c
      | none => 0)
    else x
  | .vmb => if 0xC00 ≤ off ∧ off < 0xC08 then n32 (s.msixPba i ((off - 0xC00) / 4)) else x
  | .sns | .dmr | .fls | .sfc | .pue | .hbm | .phy | .stk | .rdg | .btxc | .btxt | .btxr | .btxl | .bst | .slt | .irqb => x

/-- What a register that exists reads as. [DESIGN CHOICE, assumption log 18] -/
def State.regView (s : State) (src : Src) (key : Nat) : Word32 :=
  match pageOf key with
  | none => 0
  | some (k, i) =>
    let pg := pgBaseOf key
    let off := key % 0x1000
    if off < 0x40 then s.hdrView pg off k i (s.reg key) else s.pageView src pg off k i (s.reg key)

end Sys2Proof.Machine
end

