-- ==== Sys2Proof/Machine/Windows.lean ====
section
/-! DEFINITION. The gable store windows (R100 to R103, R448, R450). -/

namespace Sys2Proof.Machine

/-- The gable that owns the store window at a BAR0 offset, and the offset within its window. -/
def windowOf (key : Nat) : Option (Nat × Nat) :=
  if 0x1000000 ≤ key ∧ key < 0x1200000 then some ((key - 0x1000000) / 0x100000, key % 0x100000) else none

/-- R100, R530: the source may access the windows. -/
def State.windowOpen (s : State) : Src → Bool
  | .gable g => g.val == 0
  | .host => s.dbgLevel == 0
  | .debug => decide (s.dbgLevel ≤ 1)
  | .vf _ => false

/-- An error that the GAB page of gable g records about a window access. [DEDUCED, assumption log 12] -/
def State.windowErr (s : State) (src : Src) (g key code : Nat) : State := s.err (pgGAB g) code key (srcCode src)

/-- A control-store word as its window shows it (R101, R102). -/
def State.ctlWord (s : State) (g w : Nat) : BitVec 128 :=
  if w < 12288 then romAt (72 + g) w else smGet (fun _ => 0) s.gcs (g * 2 ^ 14 + w)

/-- Read a register of a window; `up` strikes the store word. The data of an uncorrectable word is a free value. [DESIGN CHOICE, assumption log 13] -/
def State.windowGet (s : State) (g o : Nat) (up : StErr) : State × Word32 :=
  if o < 0x80000 then
    match s.codeRead g o up with
    | (s1, some w) => (s1, w)
    | (s1, none) => let (v, s2) := s1.fresh; (s2, BitVec.ofNat 32 v)
  else if o < 0xC0000 then
    match s.dataRead g o up with
    | (s1, some d) => (s1, BitVec.ofNat 32 (d.toNat / 2 ^ (8 * (o % 8))))
    | (s1, none) => let (v, s2) := s1.fresh; (s2, BitVec.ofNat 32 v)
  else (s, BitVec.ofNat 32 ((s.ctlWord g ((o - 0xC0000) / 16)).toNat / 2 ^ (8 * (o % 16))))

/-- A read through a window. [DESIGN CHOICE, assumption log 13] -/
def State.windowRead (s : State) (src : Src) (key g o : Nat) (up : StErr) : State × Word32 :=
  if s.windowOpen src then s.windowGet g o up else (s.windowErr src g key eWINDOW_LOCKED, 0)

/-- R103: gable 0 executes from the array region that it would write. -/
def State.selfRegion (s : State) (src : Src) (g t : Nat) : Bool := decide (src = .gable 0) && g == 0 && s.gabUses 0 t

/-- R101: word w of the control store of gable g takes the staged registers and this last one. -/
def State.ctlCommit (s : State) (g w : Nat) (v : Word32) : State :=
  let st := fun k => (smGet (fun _ => (0 : Word32)) s.gstage (4 * g + k)).toNat
  let x := st 0 + 2 ^ 32 * st 1 + 2 ^ 64 * st 2 + 2 ^ 96 * v.toNat
  { s with gcs := smSet (fun _ => 0) s.gcs (g * 2 ^ 14 + w) (BitVec.ofNat 128 x) }

/-- A write of register r of a control-store word: +0, +4 and +8 are staged, and +12 commits. A gable's control store has one staging set, shared by all its words and kept after a commit. [DESIGN CHOICE, assumption log 111] -/
def State.ctlWrite (s : State) (src : Src) (key g w r : Nat) (v : Word32) : State :=
  if w < 12288 then s.windowErr src g key eREAD_ONLY
  else if s.selfRegion src g 9 then s.windowErr src g key eBUSY_SELF
  else if r < 3 then { s with gstage := smSet (fun _ => 0) s.gstage (4 * g + r) v }
  else s.ctlCommit g w v

/-- A write through a window. -/
def State.windowWrite (s : State) (src : Src) (key g o : Nat) (v : Word32) : State :=
  if !s.windowOpen src then s.windowErr src g key eWINDOW_LOCKED
  else if o < 0x80000 then
    if s.selfRegion src g (o / 0x10000) then s.windowErr src g key eBUSY_SELF
    else s.setCode g o { data := v }
  else if o < 0xC0000 then s.dataWrite g o 4 v.toNat
  else s.ctlWrite src key g ((o - 0xC0000) / 16) (o % 16 / 4) v

/-- STORE_WINDOW_ACCESS: one whole register of a window, by its offset from the first window. -/
def execStoreWindowAccess (src : Src) (reg : Fin 0x80000) (wr : Option Word32) (up : StErr) (s : State) :
    Host.Outcome State Fault Refusal :=
  let key := 0x1000000 + 4 * reg.val
  let g := reg.val / 0x40000
  let o := 4 * (reg.val % 0x40000)
  done s (if !reaches src key || !s.admits src then s.turnedAway src
    else match wr with
      | some v => s.windowWrite src key g o v
      | none => let (s1, v) := s.windowRead src key g o up; s1.answer src v.toNat)

/-- CONTROL_WORD_COMMIT: a write to +12 of a control-store word. -/
def execControlWordCommit (src : Src) (g : Fin 2) (w : Fin 16384) (v : Word32) (s : State) : Host.Outcome State Fault Refusal :=
  let o := 0xC0000 + 16 * w.val + 12
  let key := 0x1000000 + 0x100000 * g.val + o
  done s (if !reaches src key || !s.admits src then s else s.windowWrite src key g o v)

end Sys2Proof.Machine
end

