-- ==== Sys2Proof/Machine/RegRead.lean ====
section
/-! DEFINITION. Reads of registers, with their side effects (R11, R66, R71, R92, R94, R97, R466, R585, R598). -/

namespace Sys2Proof.Machine

/-- R11, R97: the RC counters of a register are cleared. [DESIGN CHOICE, assumption log 19] -/
def State.rcClear (s : State) (pg : Nat) (k : PgKind) (i off : Nat) : State :=
  (fieldsAt k i off).foldl (fun s (r, n) => if r.acc = .rc then s.wf pg r.f 0 n else s) s

/-- What a whole read of a register does beside returning its value: it latches the high half of a 64-bit value, or clears a counter. [DESIGN CHOICE, assumption log 18] -/
def State.readEffect (s : State) (pg : Nat) (k : PgKind) (i off : Nat) : State :=
  if k = .crs ∧ off = 0x54 then { s with crs := { s.crs with numLatch := s.rf pgCRS CRS_NUM_HI_NUM } }
  else if k = .ylm ∧ off = 0x48 then s.wf pg YLM_BYTES_HI_BYTES ((s.yealm i).bytes / 2 ^ 32)
  else if k = .pwr ∧ off = 0x60 then { s with pwr := { s.pwr with energyLatch := s.pwr.energy / 2 ^ 32 % 2 ^ 32 } }
  else if k = .pue ∧ (off = 0x118 ∨ off = 0x128) then s.wf pgPUE PUE_PRI_STAT_BUSY 0 ((off - 0x118) / 0x10)
  else if (k = .pwr ∧ off = 0x58) ∨ (k = .gut ∧ off = 0x80) then { s with free := s.free + 1 }
  else s.rcClear pg k i off

/-- A whole read of a register that exists: claims, the calendar snapshot, the power that a lane's monitor measures (R503: a free value), and all others. [DESIGN CHOICE, assumption log 118] -/
def State.regRead (s : State) (src : Src) (key : Nat) (k : PgKind) (i : Nat) : State × Word32 :=
  let pg := pgBaseOf key
  let off := key % 0x1000
  if k = .irq ∧ off < 0x48 ∧ 0x40 ≤ off then
    match src with
    | .gable g => let (s1, n) := s.irqClaim g (off / 4 % 2); (s1, BitVec.ofNat 32 n)
    | _ => (s, 0)
  else if k = .dmr ∧ off = 0x44 then
    let (v, s1) := s.fresh
    let s2 := s1.dmrSnapRead (v % 32768)
    (s2, s2.reg key)
  else if k = .btxt ∧ 0x100 ≤ off ∧ off % 0x10 = 4 then
    let p := (off - 0x100) / 0x10
    let (v, s1) := s.fresh
    let s2 := s1.wf pgBTXT BTX_TX_MON_PWR (if s.laserOn p then v % 4096 else 0) p
    (s2, s2.reg key)
  else (s.readEffect pg k i off, s.regView src key)

/-- A read of a register: whole, or with partial byte enables (R94). `key` is a multiple of 4. -/
def State.busRead (s : State) (src : Src) (key : Nat) (whole : Bool) (up : StErr) : State × Word32 :=
  if !reaches src key || !s.admits src then (s, 0)
  else match windowOf key with
    | some (g, o) =>
      let (s1, v) := s.windowRead src key g o up
      (if whole || !s.windowOpen src then s1 else s1.windowErr src g key eWIDTH, v)
    | none =>
      match pageOf key with
      | none => (s.accErr src key eUNMAPPED, 0)
      | some (k, i) =>
        if s.pageOff k then (s.err pgGLB eSTATE (errAddr key) (srcCode src), 0)
        else if !regExists k i (key % 0x1000) then (s.accErr src key eUNMAPPED, 0)
        else if !whole then (s.accErr src key eWIDTH, s.regView src key)
        else s.regRead src key k i

/-- CRS_NUM_READ: a whole read of CRS_NUM_LO (R66). -/
def execCrsNumRead (src : Src) (s : State) : Host.Outcome State Fault Refusal :=
  let (s1, v) := s.busRead src (pgCRS + 0x54) true .clean
  done s (if reaches src (pgCRS + 0x54) && s.admits src then s1.answer src v.toNat else s.turnedAway src)

/-- The register at a key holds an RC counter. [DESIGN CHOICE, assumption log 19] -/
def holdsRc (key : Nat) : Bool :=
  match pageOf key with
  | some (k, i) => (fieldsAt k i (key % 0x1000)).any fun (r, _) => decide (r.acc = .rc)
  | none => false

/-- RC_READ: a whole read of a register that holds an RC counter, by its offset in the source's BAR0. -/
def execRcRead (src : Src) (off : Fin 0x4000000) (s : State) : Host.Outcome State Fault Refusal :=
  let key := srcKey src (off / 4 * 4)
  let (s1, v) := s.busRead src key true .clean
  done s (if holdsRc key && s.admits src then s1.answer src v.toNat else s.turnedAway src)

end Sys2Proof.Machine
end

