-- ==== Sys2Proof/Machine/Sensors.lean ====
section
/-! DEFINITION. The regulators over PMBus, and the temperature sensors (R616 to R619, R627 to R629). -/

namespace Sys2Proof.Machine

/-! ## PMBus (R616 to R618) -/

/-- R617: commands a direct write of which ends with DENIED: OPERATION, ON_OFF_CONFIG, VOUT_COMMAND, 0xD0 to 0xFF, and VOUT_TRIM beyond ±20 mV. The codes are those of the PMBus standard (PRESUMED). [PRESUMED, assumption log 41] -/
def pmbDenied (r code data : Nat) : Bool :=
  code == 0x01 || code == 0x02 || code == 0x21 || decide (0xD0 ≤ code) || (code == 0x22 && Config.vtrimOver r data)

/-- A direct transaction ends. -/
def State.pmbEnd (s : State) (st : Nat) : State :=
  ({ s with pwr := { s.pwr with pmb := none } }.wf pgPWR PWR_PMB_STAT_BUSY 0 |>.wf pgPWR PWR_PMB_STAT_STATUS st).raise pgPWR 6

/-- A write of PWR_PMB_CMD by a writer. -/
def State.pmbCmd (s : State) (src : Src) (v : Word32) : State :=
  let key := pgPWR + 0x70
  let x := v.toNat
  let p : Pmb := { rd := v.getLsbD 30, r := bits x 18 16, len := bits x 10 8, code := bits x 7 0 }
  if 6 < p.r ∨ 4 < p.len then s.accErr src key eRANGE
  else if s.bit pgPWR PWR_PMB_STAT_BUSY then s.accErr src key eSTATE
  else if !v.getLsbD 31 then s
  else if !p.rd && pmbDenied p.r p.code (s.rf pgPWR PWR_PMB_DATA_DATA % 256 ^ p.len) then s.pmbEnd 3
  else { s with pwr := { s.pwr with pmb := some p } }.wf pgPWR PWR_PMB_STAT_BUSY 1

/-- PMB_TRANSACTION. -/
def execPmbTransaction (src : Src) (v : Word32) (s : State) : Host.Outcome State Fault Refusal :=
  done s (s.ifWriter src (pgPWR + 0x70) fun s => s.pmbCmd src v)

/-- PMB_DONE: the transaction ends with OK, NACK, PEC or TIMEOUT; a read that ends with OK delivers its data. -/
def execPmbDone (st : Fin 5) (data : Word32) (s : State) : Host.Outcome State Fault Refusal :=
  done s (match s.pwr.pmb with
    | none => s
    | some p =>
      if st.val = 3 then s
      else (if p.rd && st.val == 0 then s.wf pgPWR PWR_PMB_DATA_DATA (data.toNat % 256 ^ p.len) else s).pmbEnd st)

/-! ## Readings (R627, R628) -/

/-- A reading is stored; WARN is raised when it rises above SNS_CFG.WARN. [DEDUCED, assumption log 48] -/
def State.reading (s : State) (valid temp : Fld) (i : Nat) (t : BitVec 16) : State :=
  let warm := fun (x : BitVec 16) => decide ((16 * s.rf pgSNS SNS_CFG_WARN : Int) < x.toInt)
  let was := s.bit pgSNS valid i && warm (BitVec.ofNat 16 (s.rf pgSNS temp i))
  ((s.wf pgSNS valid 1 i).wf pgSNS temp t.toNat i).raiseIf (warm t && !was) pgSNS 2

/-- A reading that was valid becomes invalid: SENSOR_BAD while the core rails are up. -/
def State.noReading (s : State) (valid : Fld) (i : Nat) : State :=
  (s.wf pgSNS valid 0 i).raiseIf (s.bit pgSNS valid i && s.pwr.core) pgSNS 1

/-- SNS holds readings while VAUX is up. [DEDUCED, assumption log 48] -/
def State.snsUp (s : State) : Bool := s.railUp 4

/-- The offset of sensor k applied to a raw reading. -/
def State.snsOffset (s : State) (k : Nat) (raw : BitVec 16) : BitVec 16 := raw + BitVec.ofNat 16 (s.rf pgSNS SNS_OFF_OFF k)

/-- Readings of batten b in a row above the trip. [DEDUCED, assumption log 48] -/
def State.tripCount (s : State) (b : Nat) (t : BitVec 16) : State :=
  let n := if (16 * s.rf pgSNS SNS_CFG_TRIP : Int) < t.toInt then min 2 (smGet (fun _ => 0) s.pwr.hot b + 1) else 0
  { s with pwr := { s.pwr with hot := smSet (fun _ => 0) s.pwr.hot b n } }

/-- SENSOR_UPDATE: sensor k, 0 to 63 the battens, 64 the input stage, 65 the optical engines, reads `raw` in 1/16 °C. -/
def execSensorUpdate (k : Fin 66) (raw : BitVec 16) (s : State) : Host.Outcome State Fault Refusal :=
  let n := k.val
  let t := s.snsOffset n raw
  done s (if !s.snsUp then s
    else if n < 64 then (if s.pwr.core then (s.reading SNS_BAT_VALID SNS_BAT_TEMP n t).tripCount n t else s)
    else if n = 64 then s.reading SNS_INPUT_VALID SNS_INPUT_TEMP 0 t
    else if s.railUp 5 then s.reading SNS_OPT_VALID SNS_OPT_TEMP 0 t
    else s)

/-- SNS_READING_INVALID: sensor k, numbered as above, 66 to 72 the regulators. -/
def execSnsReadingInvalid (k : Fin 73) (s : State) : Host.Outcome State Fault Refusal :=
  let n := k.val
  done s (if !s.snsUp then s
    else if n < 64 then
      let s1 := s.noReading SNS_BAT_VALID n
      { s1 with pwr := { s1.pwr with hot := smErase s1.pwr.hot n } }
    else if n = 64 then s.noReading SNS_INPUT_VALID 0
    else if n = 65 then s.noReading SNS_OPT_VALID 0
    else s.noReading SNS_VR_VALID (n - 66))

/-! ## The poller (R618) -/

/-- The fault bits of STATUS_WORD: all but POWER_GOOD#, BUSY and OFF of the PMBus standard (PRESUMED). [PRESUMED, assumption log 41] -/
def vrFaultMask : Nat := 0xF73F

/-- One regulator's answer. -/
def State.pollOne (s : State) (r : Nat) (sw t : BitVec 16) : State :=
  let f := sw.toNat &&& vrFaultMask != 0
  (((s.wf pgPWR PWR_VR_SW sw.toNat r).wf pgPWR PWR_VR_FAULT (bnat f) r).raiseIf f pgPWR 5).reading SNS_VR_VALID SNS_VR_TEMP r t

/-- PMBUS_POLL: STATUS_WORD and READ_TEMPERATURE_1 (in 1/16 °C) of the regulators that answer; from U2 on. -/
def execPmbusPoll (rs : List (Fin 7 × BitVec 16 × BitVec 16)) (s : State) : Host.Outcome State Fault Refusal :=
  done s (if s.snsUp then rs.foldl (fun s e => s.pollOne e.1 e.2.1 e.2.2) s else s)

end Sys2Proof.Machine
end

