-- ==== Sys2Proof/Machine/RegWrite.lean ====
section
/-! DEFINITION. Writes of registers, page by page: which command a write starts, and what else restricts it (R63 to R67, R87, R91, R92, R96, R117, R145, R163, R178, R189, R206, R210, R238, R379, R412, R446, R462, R476, R477, R497, R505, R519, R551, R555, R587, R590, R626, R663, R666, R684, R686, R690, R692, R711). Each function takes a write of a register that exists, by a writer of its page. -/

namespace Sys2Proof.Machine

/-- The part of a written value that falls on the first instance of a field in a register. -/
def fldOf (f : Fld) (v : Word32) : Nat := fieldGet v f.lo f.width

/-- A write that only updates fields. -/
def State.plainWrite (s : State) (src : Src) (key : Nat) (v : Word32) : State := s.regWrite src key v fun _ s1 => s1

/-- A write that only updates fields, refused with STATE while `busy`; a value out of range comes first (R711). -/
def State.guardedWrite (s : State) (src : Src) (key : Nat) (v : Word32) (busy : Bool) : State :=
  match pageOf key with
  | none => s
  | some (k, i) =>
    if busy && !rangeBad k i (key % 0x1000) v then s.accErr src key eSTATE else s.plainWrite src key v

/-! ## Records that a write of 1 to VALID clears -/

/-- The registers of the record whose VALID bit a register holds, by page offset. [DEDUCED, assumption log 16] -/
def recordRegs (k : PgKind) (off : Nat) : List Nat :=
  match k with
  | .bst => if off = 0x94 then [off] else []
  | .slt => if off = 0x50 then [off] else []
  | .ylm => if off = 0x50 then [off, 0x54] else []
  | .stk => if off = 0x60 then [off, 0x64] else []
  | .rdg => if off = 0x6C ∨ off = 0x70 ∨ off = 0x74 then [off] else []
  | .hbm => if off = 0x60 then [off] else []
  | .spr => if off = 0x44 ∨ off = 0x48 then [off] else []
  | .btxc => if off = 0x6C then [off, 0x70] else if off = 0x78 then [off] else []
  | .btxl => if off = 0x4C then [off] else []
  | .irq | .irqb => if 0x800 ≤ off ∧ off < 0xC00 then [off] else []
  | _ => []

/-- A write that updates fields, and clears the record whose VALID bit it writes 1. [DEDUCED, assumption log 16] -/
def State.recWrite (s : State) (src : Src) (key : Nat) (v : Word32) : State :=
  let off := key % 0x1000
  let rs := match pageOf key with
    | some (k, _) => recordRegs k off
    | none => []
  s.regWrite src key v fun _ s1 => if v.getLsbD 31 then rs.foldl (fun s o => s.setReg (pgBaseOf key + o) 0) s1 else s1

/-! ## CRS, PUR, PUE -/

/-- CRS_SRC: MODE keeps its value while EN = 1 (R64); an output that is switched off reads DISABLED (R639). [DEDUCED, assumption log 21] -/
def State.crsSrcWrite (s : State) (src : Src) (key : Nat) (v : Word32) : State :=
  s.regWrite src key v fun old new =>
    let m := old.rf pgCRS CRS_SRC_MODE
    let s1 := if old.bit pgCRS PG_CTRL_EN then new.wf pgCRS CRS_SRC_MODE m else new.modeSet m
    if s1.bit pgCRS CRS_SRC_SYNC_OUT_EN then (if old.bit pgCRS CRS_SRC_SYNC_OUT_EN then s1 else s1.connRead 18)
    else s1.connSet FSC_CONN_J4_OUT 18 3

def State.crsRegWrite (s : State) (src : Src) (key off : Nat) (v : Word32) : State :=
  match off with
  | 0x40 => if s.bit pgCRS PG_CTRL_EN || s.bit pgCRS PG_STAT_QUIESCING then s.accErr src key eRANGE else s.plainWrite src key v
  | 0x44 => s.crsSrcWrite src key v
  | 0x54 | 0x58 => if s.crs.running then s else s.plainWrite src key v
  | 0x5C =>
    let n := fldOf CRS_NEXT_LEN_LEN v
    if n < 250 ∨ 16000 < n then s.accErr src key eRANGE
    else s.guardedWrite src key v (s.bit pgCRS CRS_STAT_NEXT_ARMED)
  | 0x60 => s.nextAtWrite src v
  | 0x8C => if v.getLsbD 0 then s.nextCanWrite src else s
  | _ => s.plainWrite src key v

/-- R119: OP of a command slot; other values complete with RANGE. -/
def State.purOp (s : State) (src : Src) (slot op : Nat) : State :=
  match op with
  | 1 => s.createCmd src slot
  | 2 => s.freeCmd src slot
  | 3 => s.pinCmd src slot
  | 4 => s.unpinCmd src slot
  | 5 => s.evictCmd src slot
  | 6 => s.fetchCmd src slot
  | 7 => s.queryCmd src slot
  | 8 => s.stGrantCmd src slot
  | 9 => s.stFreeCmd src slot
  | _ => s.purCmd src slot (fun _ => true) fun s => (s, 0, none)

def State.purRegWrite (s : State) (src : Src) (key off : Nat) (v : Word32) : State :=
  if 0xC0 ≤ off ∧ off < 0x100 then
    let slot := (off - 0xC0) / 0x20
    if off % 0x20 = 0x10 then s.purOp src slot (fldOf PUR_CMD_OP v) else s.ifSlot src slot key fun s => s.plainWrite src key v
  else
    let busy := s.bit pgPUR PG_CTRL_EN || s.bit pgPUR PG_STAT_QUIESCING
    s.guardedWrite src key v (busy && (off == 0x40 || off == 0x48 || off == 0x4C || off == 0x50))

def State.pueRegWrite (s : State) (src : Src) (key off : Nat) (v : Word32) : State :=
  if 0x110 ≤ off ∧ off < 0x130 then
    let slot := (off - 0x110) / 0x10
    if off % 0x10 = 4 then s.priWrite src slot (fldOf PUE_PRI_FUNC v) (fldOf PUE_PRI_PRIO v)
    else s.ifSlot src slot key fun s => s.guardedWrite src key v (off % 0x10 == 0 && s.bit pgPUE PUE_PRI_STAT_BUSY slot)
  else s.plainWrite src key v

/-! ## Batten stores, slates, yealms -/

/-- R189, R209, R210: the registers of a batten's windows; a write of one returns the window's P to 0. -/
def State.winRegWrite (s : State) (src : Src) (key b off : Nat) (v : Word32) : State :=
  let pg := pgBST b
  let w := (off - 0xA0) % 0x20 / 4

  let bad := (decide (0xE0 ≤ off ∧ off < 0x100) && decide (s.rf pg BST_CW_LEN_LEN w ≤ fldOf BST_CW_STRIDE_STRIDE v))
    || (decide (0x100 ≤ off) && !groupOk v.toNat)
  if bad then s.accErr src key eRANGE
  else s.regWrite src key v fun _ s1 =>
    let s2 := s1.winReset b w
    if 0x100 ≤ off then s2.wf pg BST_CW_GROUP_USER (ownByte (s2.rf pg BST_CW_GROUP_USER w)) w else s2

def State.bstRegWrite (s : State) (src : Src) (key b off : Nat) (v : Word32) : State :=
  if off < 0x60 then s.ownerWrite src b ((off - 0x40) / 4) v
  else if off = 0x68 then (if fldOf BST_FENCE_REQ v = 1 then s.fenceWrite src b else s)
  else if off = 0x70 then (if fldOf BST_MARCH_GO v = 1 then s.marchWrite src b (fldOf BST_MARCH_MODE v) else s)
  else if 0xA0 ≤ off ∧ off < 0x120 then s.winRegWrite src key b off v
  else if 0x200 ≤ off ∧ off < 0x280 then s.repairWrite src b ((off - 0x200) / 4) v
  else s.recWrite src key v

def State.sltRegWrite (s : State) (src : Src) (key b off : Nat) (v : Word32) : State :=
  if 0x400 ≤ off then
    let e := (off - 0x400) / 32
    let k := off % 32 / 4
    if k < 4 then s.modValWrite src b e k v else s.modCtlWrite src b e v
  else if 0x60 ≤ off ∧ off < 0x80 then s.guardedWrite src key v (s.planUses b)
  else s.recWrite src key v

def State.ylmRegWrite (s : State) (src : Src) (key y off : Nat) (v : Word32) : State :=
  if off = 0x5C then s.katWrite src y v else s.recWrite src key v

/-! ## Stacked memory, spars, gables -/

/-- R371, R379. -/
def State.phyRegWrite (s : State) (src : Src) (key n off : Nat) (v : Word32) : State :=
  if off = 0x44 then
    let s1 := if fldOf PHY_TRAIN_GO v = 1 then s.trainStart n else s
    if fldOf PHY_TRAIN_ABORT v = 1 then s1.trainAbort n else s1
  else s.guardedWrite src key v (off == 0x40 && (s.bit (pgPHY n) PHY_TRAIN_STAT_RUN || s.bit (pgHBM n) HBM_STAT_TRAINED))

/-- A write of SPR_ATTN that meets a WAIT leaves open what remains of its limit: a free value. [DESIGN CHOICE, assumption log 18] -/
def State.sprRegWrite (s : State) (src : Src) (key i off : Nat) (v : Word32) : State :=
  match off with
  | 0x50 => s.parkWrite src i v
  | 0x54 => s.runGoWrite src i v
  | 0x58 => let (left, s1) := s.fresh; s1.attnWrite src i v left
  | 0x70 => s.csCommitWrite src i v
  | 0x74 => s.csTestWrite src i v
  | _ => if 0x80 ≤ off ∧ off < 0xC0 then s.pmWrite src i ((off - 0x80) / 4) v else s.recWrite src key v

/-- R446, R449, R455: gable 1 may not write GAB_ENTRY of its own page. -/
def State.gabRegWrite (s : State) (src : Src) (key g off : Nat) (v : Word32) : State :=
  match off with
  | 0x48 => s.gabCtl src g v
  | 0x4C => if src = .gable 1 then s.accErr src key eWRITER else s.plainWrite src key v
  | 0x60 => s.gabMarch src g v
  | _ => if 0x80 ≤ off ∧ off < 0x100 then s.gabPatch src g ((off - 0x80) / 4) v else s.recWrite src key v

/-! ## Interrupt controller -/

/-- A banked register: a gable reaches its own bank, and nobody else has one (R476). -/
def State.bankWrite (s : State) (src : Src) (key : Nat) (f : Nat → State → State) : State :=
  match src with
  | .gable g => f g s
  | _ => s.accErr src key eWRITER

def State.irqRegWrite (s : State) (src : Src) (key off : Nat) (v : Word32) : State :=
  let num := v.toNat % 256
  match off with
  | 0x40 | 0x44 => s.bankWrite src key fun _ s => s
  | 0x48 => s.irqCompleteWrite src num
  | 0x4C => s.bankWrite src key fun g s => s.wf (pgIRQB g) IRQ_LEVEL_LEVELS (v.toNat % 65536)
  | 0x50 => s.irqSetWrite src (v.toNat % 16)
  | 0x54 => s.irqXsetWrite src (bits v.toNat 8 8) (v.toNat % 16)
  | 0x58 => s.irqHCompleteWrite src num
  | _ =>
    if off < 0x400 then s
    else if 0xC00 ≤ off then s.accErr src key eWRITER
    else
      let n := off % 0x400 / 4
      if off < 0x800 then s.irqSrcWrite src n v
      else if 32 ≤ n then (if irqExists n then s.recWrite src key v else s)
      else s.bankWrite src key fun g s => if v.getLsbD 31 then s.setReg (pgIRQB g + off) 0 else s

/-! ## Batrix -/

/-- R480, R505: the lane of a trim carries data, or shadows one that does. -/
def laneBusy (st : Nat) : Bool := st == lnSERVICE || st == lnSHADOW

def State.btxcRegWrite (s : State) (src : Src) (key off : Nat) (v : Word32) : State :=
  if off = 0x40 then
    if fldOf BTX_CFG_NRING v ≤ fldOf BTX_CFG_POS v then s.accErr src key eRANGE
    else (s.plainWrite src key v).calEnable (s.bit pgBTXC BTX_CFG_CAL_EN)
  else if 0x100 ≤ off ∧ off < 0x200 then
    let g := (off - 0x100) / 0x80
    let o := off % 0x80
    s.ifBlock src g key fun s =>
      if o = 0x20 then (if fldOf BTX_MSG_TXCTL_GO v = 1 then s.msgSendWrite src g (fldOf BTX_MSG_TXCTL_DEST v) else s)
      else if o = 0x64 then (if v.getLsbD 0 then s.rxPopWrite src g else s)
      else s.plainWrite src key v
  else if 0x400 ≤ off then
    let q := (off - 0x400) / 0x10
    if off % 0x10 = 4 then s.postWrite src q (v.getLsbD 31) (v.toNat % 2 ^ 24)
    else s.guardedWrite src key v (off % 0x10 == 0 && s.postBusy q)
  else s.recWrite src key v

def State.btxtRegWrite (s : State) (src : Src) (key off : Nat) (v : Word32) : State :=
  s.guardedWrite src key v (off % 0x10 == 0 && laneBusy (s.rf pgBTXT BTX_TX_STAT_STATE ((off - 0x100) / 0x10)))

def State.btxrRegWrite (s : State) (src : Src) (key off : Nat) (v : Word32) : State :=
  s.guardedWrite src key v (off % 0x20 == 0 && laneBusy (s.rf pgBTXR BTX_RX_STAT_STATE ((off - 0x100) / 0x20)))

/-! ## Fuses, flash, dormer, power, lamps -/

def State.flsRegWrite (s : State) (src : Src) (key off : Nat) (v : Word32) : State :=
  match off with
  | 0x64 => s.flsArm v
  | 0x68 => s.flsCmd src v
  | _ => s.plainWrite src key v

def State.sfcRegWrite (s : State) (src : Src) (key off : Nat) (v : Word32) : State :=
  if off = 0x50 then s.sfcCmd src (fldOf SFC_CMD_OP v) else s.plainWrite src key v

/-- R587, R590. -/
def State.dmrRegWrite (s : State) (src : Src) (key off : Nat) (v : Word32) : State :=
  match off with
  | 0x60 | 0x64 => s.guardedWrite src key v (s.bit pgDMR DMR_STAT_COMMIT_PEND)
  | 0x68 => s.dmrCommit src (v.getLsbD 0)
  | 0x9C => if v.getLsbD 0 then s.logClear else s
  | _ =>
    let n := (off - 0x70) / 0x10
    s.guardedWrite src key v (decide (0x70 ≤ off ∧ off < 0x90) && off % 0x10 != 0xC && s.bit pgDMR DMR_ALM_CTL_EN n)

def State.pwrRegWrite (s : State) (src : Src) (key off : Nat) (v : Word32) : State :=
  match off with
  | 0x44 => s.pwrReq v
  | 0x48 => s.pwrAdv src v
  | 0x70 => s.pmbCmd src v
  | _ => s.plainWrite src key v

def State.fscRegWrite (s : State) (src : Src) (key off : Nat) (v : Word32) : State :=
  if 0x80 ≤ off ∧ off < 0xC0 ∧ off % 0x10 = 0 then s.peWrite src ((off - 0x80) / 0x10) v
  else if off = 0xD0 then (if v.getLsbD 0 then s.testStart else s)
  else s.guardedWrite src key v (s.autoBad off)

/-! ## Eave and gutter -/

/-- The host's bind command; nobody else writes EAV_BIND (R690). -/
def State.bindRegWrite (s : State) (src : Src) (key : Nat) (v : Word32) : State :=
  s.ifHost src key fun s =>
    let fn := fldOf EAV_BIND_FUNC v
    let d := fldOf EAV_BIND_DOMAIN v
    if fldOf EAV_BIND_GO v = 0 then s
    else if fldOf EAV_BIND_OP v = 0 then s.bindWrite src fn d
    else s.unbindWrite src fn d

/-- The view of VF v + 1 (R690): its response words and DONE are gable 1's. -/
def State.mbRegWrite (s : State) (src : Src) (key v o : Nat) (x : Word32) : State :=
  if o < 0x80 then s
  else if src ≠ .gable 1 then s.accErr src key eWRITER
  else if o < 0xC0 then s.plainWrite src key x
  else if x.getLsbD 31 then s.mbDoneWrite src v (x.toNat % 65536)
  else s

def State.eavRegWrite (s : State) (src : Src) (key off : Nat) (v : Word32) : State :=
  if off = 0x48 then (if src = .host ∧ v = 0xA55A then s.warmIn 4 else s)
  else if off = 0x50 then s.bindRegWrite src key v
  else if 0x60 ≤ off ∧ off < 0x80 then
    let slot := (off - 0x60) / 0x10
    s.ifSlot src slot key fun s =>
      if off % 0x10 = 4 then (if v.getLsbD 31 then s.submitWrite src slot (v.toNat % 16) else s) else s.plainWrite src key v
  else if 0xC0 ≤ off ∧ off < 0xE0 then s.winWrite src ((off - 0xC0) / 4) (v.getLsbD 31) (v.toNat % 2 ^ 24)
  else if 0x100 ≤ off ∧ off < 0x900 then s.mbRegWrite src key ((off - 0x100) / 0x100) (off % 0x100) v
  else s.plainWrite src key v

/-- R686: the settings of a function channel. [DEDUCED, assumption log 15] -/
def State.chanWrite (s : State) (src : Src) (key c o : Nat) (v : Word32) : State :=
  let en := s.bit pgGUT GUT_CH_CFG_EN c
  let fn := s.rf pgGUT GUT_CH_CFG_FUNC c
  let new := fldOf GUT_CH_CFG_FUNC v
  match o with
  | 0x08 =>
    s.ifChannel src key (new != 0 && !(en && fn == 0)) fun s =>
      if new ≠ 0 ∧ (List.range 8).any (fun d => d != c && s.rf pgGUT GUT_CH_CFG_FUNC d == new) then s.accErr src key eRANGE
      else s.guardedWrite src key v (en && fldOf GUT_CH_CFG_LOG2 v != s.rf pgGUT GUT_CH_CFG_LOG2 c)
  | 0x0C => s.gutTailWrite src c (v.toNat % 4096)
  | _ => s.ifChannel src key (fn != 0) fun s => s.guardedWrite src key v (en && decide (o < 8))

/-- The first error of a channel is cleared whole. -/
def State.gutRegWrite (s : State) (src : Src) (key off : Nat) (v : Word32) : State :=
  if off < 0x100 then s.plainWrite src key v
  else
    let s1 := s.chanWrite src key ((off - 0x100) / 0x20) (off % 0x20) v
    if off % 0x20 = 0x14 ∧ v.getLsbD 31 ∧ !s1.bit pgGUT GUT_CH_ERR_VALID ((off - 0x100) / 0x20) then s1.setReg key 0 else s1

/-- R692. [DEDUCED, assumption log 15] -/
def State.vdbRegWrite (s : State) (src : Src) (key v' off : Nat) (v : Word32) : State :=
  let pg := pgVDB v'
  let en := s.bit pg VDB_CQ_CFG_EN
  match off with
  | 0x40 | 0x44 => s.guardedWrite src key v en
  | 0x48 => s.guardedWrite src key v (en && fldOf VDB_CQ_CFG_LOG2 v != s.rf pg VDB_CQ_CFG_LOG2)
  | 0x58 => s.gutTailWrite src 0 (v.toNat % 4096)
  | _ => s.plainWrite src key v

/-- R681, R693. -/
def State.vmbRegWrite (s : State) (src : Src) (key off : Nat) (v : Word32) : State :=
  match src with
  | .vf n => if off = 0x80 then s.vmbDoorWrite n (v.toNat % 256) else s.plainWrite src key v
  | _ => s

/-! ## All pages -/

/-- A write by a writer of the page: a header register, a reserved offset (R92), or a register of the block. [DEDUCED, assumption log 11] -/
def State.pageWrite (s : State) (src : Src) (key : Nat) (k : PgKind) (i : Nat) (v : Word32) : State :=
  let pg := pgBaseOf key
  let off := key % 0x1000
  if isHeader off then s.hdrWrite src pg off k i v
  else if !regExists k i off then s.accErr src key eUNMAPPED
  else match k with
    | .glb =>
      let s1 := s.recWrite src key v
      if off = 0x58 ∧ src = .gable 0 then s1.bootStatusWrite else s1
    | .sns | .stk | .rdg | .lig | .hbm | .btn | .btxl | .vfc | .irqb => s.recWrite src key v
    | .crs => s.crsRegWrite src key off v
    | .pur => s.purRegWrite src key off v
    | .pue => s.pueRegWrite src key off v
    | .bst => s.bstRegWrite src key i off v
    | .slt => s.sltRegWrite src key i off v
    | .ylm => s.ylmRegWrite src key i off v
    | .phy => s.phyRegWrite src key i off v
    | .spr => s.sprRegWrite src key i off v
    | .gab => s.gabRegWrite src key i off v
    | .irq => s.irqRegWrite src key off v
    | .btxc => s.btxcRegWrite src key off v
    | .btxt => s.btxtRegWrite src key off v
    | .btxr => s.btxrRegWrite src key off v
    | .fls => s.flsRegWrite src key off v
    | .sfc => s.sfcRegWrite src key off v
    | .dmr => s.dmrRegWrite src key off v
    | .pwr => s.pwrRegWrite src key off v
    | .fsc => s.fscRegWrite src key off v
    | .eav => s.eavRegWrite src key off v
    | .gut => s.gutRegWrite src key off v
    | .vdb => s.vdbRegWrite src key i off v
    | .vmb => s.vmbRegWrite src key off v

/-- R94, R96: a write with partial byte enables is ignored; a source that is not a writer comes first. -/
def State.partWrite (s : State) (src : Src) (key : Nat) : State :=
  s.ifWriter src key fun s => match pageOf key with
    | some (k, i) => s.accErr src key (if regExists k i (key % 0x1000) then eWIDTH else eUNMAPPED)
    | none => s

/-- A write of a register: whole, or with partial byte enables. `key` is a multiple of 4. [DEDUCED, assumption log 11] -/
def State.busWrite (s : State) (src : Src) (key : Nat) (whole : Bool) (v : Word32) : State :=
  match windowOf key with
  | some (g, o) =>
    if !reaches src key || !s.admits src then s
    else if whole || !s.windowOpen src then s.windowWrite src key g o v
    else s.windowErr src g key eWIDTH
  | none =>
    if !whole then s.partWrite src key
    else s.ifWriter src key fun s => match pageOf key with
      | some (k, i) => s.pageWrite src key k i v
      | none => s

/-! ## The commands of the family -/

/-- REGISTER_WRITE: a whole write of a register, by its offset in the source's BAR0. -/
def execRegisterWrite (src : Src) (off : Fin 0x4000000) (v : Word32) (s : State) : Host.Outcome State Fault Refusal :=
  done s (s.busWrite src (srcKey src (off / 4 * 4)) true v)

/-- R93: the registers that a request touches: page-space keys, and which of their bytes it enables, lowest first. Bit i of `be` enables byte i of the request. -/
def touched (addr n : Nat) (be : BitVec 8) : List (Nat × List Bool) :=
  (List.range ((addr + n - 1) / 4 - addr / 4 + 1)).map fun r =>
    let a := addr / 4 * 4 + 4 * r
    (a, (List.range 4).map fun j => decide (addr ≤ a + j ∧ a + j < addr + n) && be.getLsbD (a + j - addr))

/-- The size of a source's BAR0 (R99, R104). -/
def barSize : Src → Nat
  | .vf _ => 0x10000
  | _ => 0x4000000

/-- Reads of registers one after another, and their values. -/
def State.readAll (s : State) (src : Src) (ups : List StErr) : List (Nat × List Bool) → State × List Nat
  | [] => (s, [])
  | (a, bs) :: r =>
    let (s1, v) := s.busRead src (srcKey src a) (bs.all id) (ups.headD .clean)
    let (s2, vs) := s1.readAll src (ups.drop 1) r
    (s2, v.toNat :: vs)

/-- The bytes of a read request, from the registers it touched. -/
def gatherRead (addr n : Nat) (vs : List Nat) : Nat :=
  ((List.range vs.length).foldl (fun a r => a + vs.getD r 0 * 2 ^ (32 * r)) 0) / 2 ^ (8 * (addr % 4)) % 2 ^ (8 * n)

/-- Writes of registers one after another. -/
def State.writeAll (s : State) (src : Src) (addr d : Nat) (ts : List (Nat × List Bool)) : State :=
  ts.foldl (fun s (a, bs) => s.busWrite src (srcKey src a) (bs.all id) (BitVec.ofNat 32 (d * 2 ^ (8 * (addr % 4)) / 2 ^ (8 * (a - addr / 4 * 4))))) s

/-- BAR0_REQUEST: a request of n + 1 bytes at an offset of the source's BAR0; `ups` strike the store words that a window read meets. -/
def execBar0Request (src : Src) (addr : Fin 0x4000000) (n : Fin 8) (be : BitVec 8) (wr : Option Word64) (ups : List StErr) (s : State) :
    Host.Outcome State Fault Refusal :=
  let len := n.val + 1
  let ts := touched addr len be
  done s (if !s.admits src then s.turnedAway src
    else if barSize src < addr + len then s
    else match wr with
      | some d => s.writeAll src addr d.toNat ts
      | none => let (s1, vs) := s.readAll src ups ts; s1.answer src (gatherRead addr len vs))

/-- OVERSIZE_REQUEST: a request longer than 8 bytes to BAR0 (R95). -/
def execOversizeRequest (src : Src) (addr : Fin 0x4000000) (s : State) : Host.Outcome State Fault Refusal :=
  done s (if !s.admits src then s.turnedAway src
    else if barSize src ≤ addr then s
    else (s.err pgGLB eWIDTH addr (srcCode src)).emit (.abort src))

end Sys2Proof.Machine
end

