-- ==== Sys2Proof/Machine/GableMem.lean ====
section
/-! DEFINITION. What a gable's instructions share: access to its ranges, trap entry, control registers, the shadow stack (R420, R421, R423, R425, R431 to R438, R441 to R443, R448). -/

namespace Sys2Proof.Machine

/-! ## Accesses (R420, R421, R425, R427, R448) -/

/-- The march of a gable's stores runs on the store that holds an address. -/
def State.gabMarching (s : State) (g a : Nat) : Bool :=
  match (s.gable g).march with
  | none => false
  | some (t, _) => match gabRange g a with
    | .code => t == a / 0x10000
    | .data => t == 8
    | _ => false

/-- PROT_CODE of the bank of an address: execute level, read level. -/
def GabSt.codeExec (x : GabSt) (a : Nat) : Nat := x.protCode / 2 ^ (4 * (a / 0x10000)) % 4
def GabSt.codeRd (x : GabSt) (a : Nat) : Nat := x.protCode / 2 ^ (4 * (a / 0x10000) + 2) % 4

/-- PROT_DATA of the region of an address: read level, write level. -/
def GabSt.dataRd (x : GabSt) (a : Nat) : Nat := x.protData / 2 ^ (4 * (a % 0x40000 / 0x4000)) % 4
def GabSt.dataWr (x : GabSt) (a : Nat) : Nat := x.protData / 2 ^ (4 * (a % 0x40000 / 0x4000) + 2) % 4

/-- PROT_REG: read level, write level. -/
def GabSt.regRd (x : GabSt) : Nat := x.protReg % 4
def GabSt.regWr (x : GabSt) : Nat := x.protReg / 4 % 4

/-- An address may be executed at a level. -/
def State.execOk (s : State) (g lvl a : Nat) : Bool :=
  match gabRange g a with
  | .code => levelOk lvl ((s.gable g).codeExec a)
  | .rom => lvl == 2
  | _ => false

/-- An address may be read at a level. -/
def State.readOk (s : State) (g lvl a : Nat) : Bool :=
  match gabRange g a with
  | .code => levelOk lvl ((s.gable g).codeRd a)
  | .rom => lvl == 2
  | .data => levelOk lvl ((s.gable g).dataRd a)
  | .window => levelOk lvl (s.gable g).regRd
  | .none => false

/-- An address may be written at a level. -/
def State.writeOk (s : State) (g lvl a : Nat) : Bool :=
  match gabRange g a with
  | .data => levelOk lvl ((s.gable g).dataWr a)
  | .window => levelOk lvl (s.gable g).regWr
  | _ => false

/-- R421: a window access of n bytes that reaches a register. -/
def windowFits (a n : Nat) : Bool := (n == 4 || n == 8) && a % n == 0

/-- What an access comes to. -/
inductive GabLoad where
  | ok (v : Nat)
  | access
  | align
  | ue
  | wait
deriving DecidableEq, Repr

/-- Read n bytes of the code store. -/
def State.codeLoad (s : State) (g a n : Nat) (up : StErr) : State × GabLoad :=
  match s.codeRead g a up with
  | (s1, none) => (s1, .ue)
  | (s1, some w) =>
    if n < 8 then (s1, .ok (w.toNat / 2 ^ (8 * (a % 4)) % 2 ^ (8 * n)))
    else match s1.codeRead g (a + 4) .clean with
      | (s2, none) => (s2, .ue)
      | (s2, some v) => (s2, .ok (w.toNat + 2 ^ 32 * v.toNat))

/-- Read n bytes of the data store. -/
def State.dataLoad (s : State) (g a n : Nat) (up : StErr) : State × GabLoad :=
  match s.dataRead g a up with
  | (s1, none) => (s1, .ue)
  | (s1, some w) => (s1, .ok (w.toNat / 2 ^ (8 * (a % 8)) % 2 ^ (8 * n)))

/-- Read 4 or 8 bytes of the register window, the lower register first (R93). -/
def State.windowLoad (s : State) (g : Fin 2) (a n : Nat) (up : StErr) : State × Nat :=
  let key := a - 0x40000000
  let (s1, v) := s.busRead (.gable g) key true up
  if n < 8 then (s1, v.toNat)
  else let (s2, w) := s1.busRead (.gable g) (key + 4) true .clean; (s2, v.toNat + 2 ^ 32 * w.toNat)

/-- The boot ROM's word at an address (R448, R560). -/
def bootWord (a : Nat) : Word32 := Config.bootRomWord ((a - 0x100000) / 4)

/-- Read n bytes of the boot ROM. The words of the patch key read 0 but to loads that are fetched from the boot ROM (R564). [DESIGN CHOICE, assumption log 6] -/
def State.romLoad (s : State) (g a n : Nat) : Nat :=
  let secret k := decide (Config.patchKeyAt ≤ k) && decide (k < Config.patchKeyAt + 8) && gabRange g (s.gable g).pc.toNat != .rom
  let w b := if secret ((b - 0x100000) / 4) then 0 else (bootWord b).toNat
  (w a + 2 ^ 32 * w (a + 4)) / 2 ^ (8 * (a % 4)) % 2 ^ (8 * n)

/-- A load of n bytes at a level: `up` strikes the store word. Range and protection come before alignment. -/
def State.gabLoad (s : State) (g : Fin 2) (lvl a n : Nat) (up : StErr) : State × GabLoad :=
  if !s.readOk g lvl a then (s, .access)
  else if gabRange g a = .window then
    if windowFits a n then let (s1, v) := s.windowLoad g a n up; (s1, .ok v) else (s, .access)
  else if a % n ≠ 0 then (s, .align)
  else if s.gabMarching g a then (s, .wait)
  else match gabRange g a with
    | .code => s.codeLoad g a n up
    | .data => s.dataLoad g a n up
    | _ => (s, .ok (s.romLoad g a n))

/-- A store of n bytes at a level. [DEDUCED, assumption log 84] -/
def State.gabStore (s : State) (g : Fin 2) (lvl a n v : Nat) : State × GabLoad :=
  if !s.writeOk g lvl a then (s, .access)
  else if gabRange g a = .window then
    if !windowFits a n then (s, .access)
    else
      let key := a - 0x40000000
      let s1 := s.busWrite (.gable g) key true (BitVec.ofNat 32 v)
      (if n < 8 then s1 else s1.busWrite (.gable g) (key + 4) true (BitVec.ofNat 32 (v / 2 ^ 32)), .ok 0)
  else if a % n ≠ 0 then (s, .align)
  else (s.dataWrite g a n v, .ok 0)

/-! ## Trap entry (R431, R434 to R436, R438) -/

abbrev vILLEGAL : Nat := 1
abbrev vPRIV : Nat := 2
abbrev vFETCH_ACCESS : Nat := 3
abbrev vFETCH_ALIGN : Nat := 4
abbrev vLOAD_ACCESS : Nat := 5
abbrev vSTORE_ACCESS : Nat := 6
abbrev vLOAD_ALIGN : Nat := 7
abbrev vSTORE_ALIGN : Nat := 8
abbrev vDIV_ZERO : Nat := 9
abbrev vOVERFLOW : Nat := 10
abbrev vCFI : Nat := 11
abbrev vSS_FAULT : Nat := 12
abbrev vSVC : Nat := 13
abbrev vBRK : Nat := 16
abbrev vWDOG : Nat := 17
abbrev vMEM_UE : Nat := 18
abbrev vCODE_UE : Nat := 19
abbrev vDOUBLE : Nat := 20
abbrev vIRQ : Nat := 32
abbrev vFIRQ : Nat := 33

/-- The trap that a jump to an address raises at a level; none if it may be taken. -/
def State.jumpBad (s : State) (g lvl a : Nat) : Option Nat :=
  if a % 4 ≠ 0 then some vFETCH_ALIGN else if s.execOk g lvl a then none else some vFETCH_ACCESS

/-- The address of an exception-table entry. -/
def GabSt.entryAddr (x : GabSt) (v : Nat) : Nat := x.excBase.toNat + 8 * v

/-- Read an exception-table entry, at level M. [DEDUCED, assumption log 80] -/
def State.gabTable (s : State) (g : Fin 2) (v : Nat) (up : StErr) : State × GabLoad :=
  s.gabLoad g 2 ((s.gable g).entryAddr v) 8 up

/-- The store that holds the exception table is under march, so that an entry must wait (R449). -/
def State.tableBusy (s : State) (g : Nat) : Bool := s.gabMarching g (s.gable g).excBase.toNat

/-- Gable cycles pass: CYCLE and the watchdog count them. -/
def GabSt.pass (x : GabSt) (n : Nat) : GabSt := { x with cycle := (x.cycle + n) % 2 ^ 64, wdCyc := x.wdCyc + n }

/-- R445: the gable cycles left before the watchdog expires. -/
def GabSt.wdLeft (x : GabSt) : Nat := x.wdFrom * 1024 - x.wdCyc

/-- R445: the count of the watchdog has run out. -/
def GabSt.wdDue (x : GabSt) : Bool := x.wdLeft == 0

/-- R438: a trap while ENEST = 1 enters DOUBLE, with EPC and ESTAT unchanged, or halts the gable. -/
def State.gabDouble (s : State) (g : Fin 2) (up : StErr) : State :=
  let x := s.gable g
  if x.dbl then s.gabHalt g 3 0
  else
    let s1 := (s.setGab g { x with dbl := true, lvl := 2, ie := false }).raise (pgGAB g) 4
    match s1.gabTable g vDOUBLE up with
    | (s2, .ok a) =>
      if (s2.jumpBad g 2 a).isSome then s2.gabHalt g 3 0 else s2.setGab g { s2.gable g with pc := BitVec.ofNat 64 a }
    | (s2, .ue) => s2.gabHalt g 4 0
    | (s2, _) => s2.gabHalt g 3 0

/-- R435: ESTAT. -/
def GabSt.estatOf (x : GabSt) (vec tval info : Nat) : Word64 :=
  BitVec.ofNat 64 (tval % 2 ^ 32 * 2 ^ 32 + info % 2 ^ 16 * 2 ^ 16 + bnat x.bank * 2 ^ 11 + bnat x.ie * 2 ^ 10 + x.lvl * 2 ^ 8 + vec)

/-- R434: trap entry. A bad handler address, and a table entry that cannot be loaded, are traps inside the entry. An interrupt is no trap in the sense of R438. [DEDUCED, assumption log 80] -/
def State.gabTrap (s : State) (g : Fin 2) (vec epc tval info : Nat) (tab : List StErr) : State :=
  let x := (s.gable g).pass 10
  let s0 := s.setGab g x
  if x.enest && vec != vIRQ then s0.gabDouble g (tab.headD .clean)
  else
    let e := x.estatOf vec tval info
    let s1 := s0.setGab g { x with estat := e, epc := BitVec.ofNat 64 epc, lvl := 2, ie := false, enest := true }
    match s1.gabTable g vec (tab.headD .clean) with
    | (s2, .ok a) =>
      if (s2.jumpBad g 2 a).isSome then s2.gabDouble g ((tab.drop 1).headD .clean)
      else s2.setGab g { s2.gable g with pc := BitVec.ofNat 64 a }
    | (s2, .ue) => s2.gabHalt g 4 0
    | (s2, _) => s2.gabDouble g ((tab.drop 1).headD .clean)

/-! ## Control registers (R423) -/

/-- The levels that a CSR's read and write need; none where it has no such access. WDOG_KICK and WDOG_FIRE state no read: one needs level M and returns a free value. [DEDUCED, assumption log 83] -/
def csrLevels (n : Nat) : Option (Nat × Option Nat) :=
  match n with
  | 0x000 => some (0, some 2)
  | 0x001 | 0x002 | 0x003 | 0x005 | 0x010 | 0x011 | 0x012 | 0x020 | 0x021 | 0x023 | 0x030 | 0x031 | 0x032 => some (2, some 2)
  | 0x004 => some (0, some 1)
  | 0x006 => some (1, some 1)
  | 0x022 => some (2, none)
  | 0x040 | 0x041 | 0x042 | 0x050 => some (0, none)
  | _ => none

/-- STATUS. -/
def GabSt.status (x : GabSt) : Nat :=
  x.lvl + 4 * bnat x.ie + 8 * bnat x.fie + 16 * bnat x.bank + 32 * bnat x.enest + 64 * bnat x.dbl

/-- The value of a CSR. -/
def State.csrGet (s : State) (g n : Nat) : Nat :=
  let x := s.gable g
  match n with
  | 0x000 => x.status
  | 0x001 => x.epc.toNat
  | 0x002 => x.estat.toNat
  | 0x003 => x.excBase.toNat
  | 0x004 => bnat x.dz + 2 * bnat x.ov
  | 0x005 => x.scrM.toNat
  | 0x006 => x.scrS.toNat
  | 0x010 => x.ss.length + 65536 * (x.spilled % 65536)
  | 0x011 => x.ssBase.toNat
  | 0x012 => x.ssLimit.toNat
  | 0x020 => x.wdLoad
  | 0x022 => x.wdFrom - x.wdCyc / 1024
  | 0x030 => x.protCode
  | 0x031 => x.protData
  | 0x032 => x.protReg
  | 0x040 => x.cycle
  | 0x041 => x.instret
  | 0x042 => s.courseNum
  | 0x050 => g
  | _ => Config.freeValue s.free % 2 ^ 64

/-- Reading a CSR: the read of WDOG_KICK or WDOG_FIRE takes a free value. [DEDUCED, assumption log 83] -/
def State.csrRead (s : State) (g n : Nat) : State × Nat :=
  (if n = 0x021 ∨ n = 0x023 then { s with free := s.free + 1 } else s, s.csrGet g n)

/-- R445: the watchdog reset of a gable: gable 0's resets the tray, for a cause of R621; gable 1's resets gable 1. -/
def State.wdogReset (s : State) (g cause : Nat) : State :=
  if g = 0 then s.warmIn cause else (s.gabReset 1).raise (pgGAB 1) 3

/-- R445: a kick. -/
def State.wdogKick (s : State) (g : Nat) : State :=
  let x := s.gable g
  (s.setGab g { x with wdFrom := x.wdLoad, wdCyc := 0 }).wf (pgGAB g) GAB_WDOG_STAGE 0

/-- Writing a CSR. [DEDUCED, assumption log 83] -/
def State.csrWrite (s : State) (g n : Nat) (w : Word64) : State :=
  let x := s.gable g
  let v := w.toNat
  match n with
  | 0x000 => s.setGab g { x with ie := bitOf v 2, fie := bitOf v 3, enest := bitOf v 5, dbl := bitOf v 6 }
  | 0x001 => s.setGab g { x with epc := w }
  | 0x002 => s.setGab g { x with estat := w &&& 0xFFFFFFFFFFFF0FFF }
  | 0x003 => s.setGab g { x with excBase := w &&& 0xFFFFFFFFFFFFFE00 }
  | 0x004 => s.setGab g { x with dz := bitOf v 0, ov := bitOf v 1 }
  | 0x005 => s.setGab g { x with scrM := w }
  | 0x006 => s.setGab g { x with scrS := w }
  | 0x010 => s.setGab g { x with ss := [], spilled := 0 }
  | 0x011 => s.setGab g { x with ssBase := w &&& 0xFFFFFFFFFFFFFFF8 }
  | 0x012 => s.setGab g { x with ssLimit := w }
  | 0x020 => if v % 2 ^ 24 = 0 then s else s.setGab g { x with wdLoad := v % 2 ^ 24 }
  | 0x021 => if v = 0xA5 then s.wdogKick g else s
  | 0x023 => s.wdogReset g 6
  | 0x030 => s.setGab g { x with protCode := v % 2 ^ 32 }
  | 0x031 => s.setGab g { x with protData := v }
  | 0x032 => s.setGab g { x with protReg := v % 16 }
  | _ => s

/-! ## The shadow stack (R441 to R443) -/

/-- Where the next spill goes. -/
def GabSt.spillAt (x : GabSt) : Nat := x.ssBase.toNat + 8 * x.spilled

/-- R443: the spill area takes 32 more entries: below SS_LIMIT, in the data store, in regions that M alone may write. -/
def GabSt.spillFits (x : GabSt) (g : Nat) : Bool :=
  let a := x.spillAt
  decide (a + 256 ≤ x.ssLimit.toNat) && decide (gabRange g a = .data) && decide (gabRange g (a + 255) = .data)
    && decide (2 ≤ x.dataWr a) && decide (2 ≤ x.dataWr (a + 255))

/-- The oldest 32 entries are spilled, in order from the oldest. -/
def State.spill (s : State) (g : Nat) : State :=
  let x := s.gable g
  let s1 := (List.range 32).foldl (fun s i => s.dataWrite g (x.spillAt + 8 * i) 8 (x.ss.getD (63 - i) 0).toNat) s
  s1.setGab g { x with ss := x.ss.take 32, spilled := x.spilled + 32 }

/-- A push finds the hardware full. -/
def GabSt.ssFull (x : GabSt) : Bool := decide (64 ≤ x.ss.length)

/-- Push an entry; the spill that it needs has been found to fit. -/
def State.ssPush (s : State) (g : Nat) (v : Word64) : State :=
  let s1 := if (s.gable g).ssFull then s.spill g else s
  s1.setGab g { s1.gable g with ss := v :: (s1.gable g).ss }

/-- The words of a fill, oldest first. -/
def State.fillWords (s : State) (g : Fin 2) (a : Nat) (up : StErr) : Nat → State × List Word64 × Option (Nat × Nat)
  | 0 => (s, [], none)
  | n + 1 =>
    match s.gabLoad g 2 a 8 up with
    | (s1, .ok v) => let (s2, vs, e) := s1.fillWords g (a + 8) .clean n; (s2, BitVec.ofNat 64 v :: vs, e)
    | (s1, .ue) => (s1, [], some (vMEM_UE, a))
    | (s1, _) => (s1, [], some (vLOAD_ACCESS, a))

/-- R442: a RET that finds no entries in hardware and some spilled first fills the newest 32 back. A filled word that cannot be read traps. -/
def State.ssFill (s : State) (g : Fin 2) (up : StErr) : State × Option (Nat × Nat) :=
  let x := s.gable g
  if !x.ss.isEmpty || x.spilled == 0 then (s, none)
  else
    let n := min 32 x.spilled
    match s.fillWords g (x.ssBase.toNat + 8 * (x.spilled - n)) up n with
    | (s1, vs, none) => (s1.setGab g { s1.gable g with ss := vs.reverse, spilled := x.spilled - n }, none)
    | (s1, _, e) => (s1, e)

end Sys2Proof.Machine
end

