-- ==== Sys2Proof/Machine/GableInstr.lean ====
section
/-! DEFINITION. The instruction set of the gables, interrupts and the watchdog (R426 to R445). -/

namespace Sys2Proof.Machine

/-! ## Instruction fields (R426) -/

def iOp (w : Word32) : Nat := bits w.toNat 7 0
def iRd (w : Word32) : Nat := bits w.toNat 12 8
def iRa (w : Word32) : Nat := bits w.toNat 17 13
def iRb (w : Word32) : Nat := bits w.toNat 22 18
def iFn (w : Word32) : Nat := bits w.toNat 31 23
def iCsr (w : Word32) : Nat := bits w.toNat 29 18
def iCond (w : Word32) : Nat := bits w.toNat 20 18
/-- Format C holds its first compared register at [12:8] and its second at [17:13]. -/
def cRa (w : Word32) : Nat := bits w.toNat 12 8
def cRb (w : Word32) : Nat := bits w.toNat 17 13
def iImm14 (w : Word32) : Word64 := BitVec.ofInt 64 (sext 14 (bits w.toNat 31 18))
def iZimm14 (w : Word32) : Word64 := BitVec.ofNat 64 (bits w.toNat 31 18)
def iOff11 (w : Word32) : Word64 := BitVec.ofInt 64 (4 * sext 11 (bits w.toNat 31 21))
/-- 4 times the signed imm19, and imm19 shifted by 13, sign-extended. -/
def iOff19 (w : Word32) : Word64 := BitVec.ofInt 64 (4 * sext 19 (bits w.toNat 31 13))
def iHigh19 (w : Word32) : Word64 := BitVec.ofInt 64 (8192 * sext 19 (bits w.toNat 31 13))

/-- The row of R427 that a word names: its opcode, or 0x100 and fn9 for the ALU. -/
def gabKey (w : Word32) : Nat := if iOp w = 1 then 0x100 + iFn w else iOp w

/-- R427, R428: the word is an instruction: its opcode and fn9 are listed, and its unused fields are 0. -/
def gabWord (w : Word32) : Bool :=
  let op := iOp w
  let top := bits w.toNat 31 30
  if op = 0x01 then decide (iFn w < 22) || (iFn w == 22 && iRb w == 0)
  else if 0x06 ≤ op ∧ op ≤ 0x08 then bits w.toNat 31 24 == 0
  else if op = 0x2C then iFn w == 0 && iRb w == 0 && iRd w == 0
  else if op = 0x30 then top == 0 && iRa w == 0 && iRd w == 0
  else if op = 0x34 then top == 0 && iRa w == 0
  else if 0x35 ≤ op ∧ op ≤ 0x37 then top == 0
  else if op = 0x31 ∨ op = 0x32 ∨ op = 0x33 ∨ op = 0x38 ∨ op = 0x39 then w.toNat / 256 == 0
  else decide ((0x02 ≤ op ∧ op ≤ 0x0B) ∨ (0x10 ≤ op ∧ op ≤ 0x16) ∨ (0x18 ≤ op ∧ op ≤ 0x1B) ∨ op = 0x20 ∨ (0x28 ≤ op ∧ op ≤ 0x2B))

/-- R435: INFO of an instruction that traps on itself: the CSR number of a CSR instruction. -/
def gabInfo (w : Word32) : Nat := if 0x34 ≤ iOp w ∧ iOp w ≤ 0x37 then iCsr w else 0

/-! ## The instruction boundary (R432, R433) -/

/-- R433: IRQ is pending. [DEDUCED, assumption log 81] -/
def State.gabIrq (s : State) (g : Nat) : Bool := (s.gable g).ie && s.irqLine g 0

/-- R433: FIRQ is pending. [DEDUCED, assumption log 81] -/
def State.gabFirq (s : State) (g : Nat) : Bool := (s.gable g).fie && !(s.gable g).bank && s.irqLine g 1

/-- R419: the gable clock runs and the gables are out of reset. [DEDUCED, assumption log 81] -/
def State.gabLive (s : State) : Bool := decide (2 ≤ s.tray) && !s.pwr.cold

/-- Gable g runs on: it is neither stopped, halted, waiting nor in the debug service, and no expiry of its watchdog is due, which would come first (R445). -/
def State.gabFree (s : State) (g : Nat) : Bool :=
  let x := s.gable g
  s.gabLive && !x.stopped && !x.halted && !x.wfi && !x.fence && !x.wdDue && !smGet (fun _ => false) s.tap.svc g

/-- The gable stands at an instruction boundary at which no stop request comes first. -/
def State.gabAt (s : State) (g : Nat) : Bool := s.gabFree g && !(s.gable g).stopReq

/-- R445: the entry of WDOG at an instruction boundary. -/
def State.gabWdog (s : State) (g : Fin 2) (tab : List StErr) : State :=
  if s.tableBusy g then s
  else (s.setGab g { s.gable g with wdPend := false, wfi := false }).gabTrap g vWDOG (s.gable g).pc.toNat 0 0 tab

/-! ## Fetch and retirement -/

/-- What a fetch at PC comes to. -/
inductive GabFetch where
  | word (s : State) (w : Word32)
  | trap (s : State) (vec : Nat)
  | wait

/-- R420, R425, R448: fetch at PC; a boot ROM word is fixed. [DEDUCED, assumption log 80] -/
def State.gabFetch (s : State) (g : Fin 2) (x : GabIn) : GabFetch :=
  let a := (s.gable g).pc.toNat
  match s.jumpBad g (s.gable g).lvl a with
  | some v => .trap s v
  | none =>
    if s.gabMarching g a then .wait
    else if gabRange g a = .code then
      match s.codeRead g a x.up with
      | (s1, some w) => .word s1 w
      | (s1, none) => .trap s1 vCODE_UE
    else .word s (bootWord a)

/-- What an instruction comes to: its effect but for the boundary, with its cycles, the PC after it and what follows its retirement; a trap, with EPC, TVAL and INFO; or a wait. -/
inductive GabRes where
  | done (s : State) (cyc : Nat) (next : Word64) (fin : State → State)
  | trap (s : State) (vec epc tval info : Nat)
  | wait

/-- The meaning of an instruction: the gable, the level, the word and what the surroundings give. -/
abbrev GabBody := State → Fin 2 → Nat → Word32 → GabIn → GabRes

/-- An instruction retires: its cycles pass, INSTRET counts it, PC moves. [DEDUCED, assumption log 82] -/
def State.gabRetire (s : State) (g cyc : Nat) (next : Word64) : State :=
  let x := (s.gable g).pass cyc
  s.setGab g { x with pc := next, instret := (x.instret + 1) % 2 ^ 64 }

/-- What an instruction comes to, done; none if it waits, or if the exception table that it needs is under march (R449). [DEDUCED, assumption log 82] -/
def State.gabFinish (s : State) (g : Fin 2) (tab : List StErr) : GabRes → State
  | .done s1 cyc next fin => fin (s1.gabRetire g cyc next)
  | .trap s1 vec epc tval info => if s.tableBusy g then s else s1.gabTrap g vec epc tval info tab
  | .wait => s

/-- A row of R427 at an instruction boundary of gable g: the word at PC must be that row's; a word that is no instruction raises ILLEGAL whatever the row. WDOG, FIRQ and IRQ come before the instruction (R432). [DEDUCED, assumption log 81, 84] -/
def State.gabRow (s : State) (g : Fin 2) (x : GabIn) (key : Nat) (body : GabBody) : State :=
  if !s.gabAt g then s
  else if (s.gable g).wdPend then s.gabWdog g x.tab
  else if s.gabFirq g || s.gabIrq g then s
  else
    let pc := (s.gable g).pc.toNat
    match s.gabFetch g x with
    | .wait => s
    | .trap s1 vec => s.gabFinish g x.tab (.trap s1 vec pc pc 0)
    | .word s1 w =>
      if !gabWord w then s.gabFinish g x.tab (.trap s1 vILLEGAL pc w.toNat (gabInfo w))
      else if gabKey w ≠ key then s
      else s.gabFinish g x.tab (body s1 g (s1.gable g).lvl w x)

/-- Register n as the instruction reads it. -/
def State.gRd (s : State) (g n : Nat) : Word64 := (s.gable g).rd n
def State.gWr (s : State) (g n : Nat) (v : Word64) : State := s.setGab g ((s.gable g).wr n v)
def State.gPc (s : State) (g : Nat) : Word64 := (s.gable g).pc

/-- An instruction that writes a register and goes on. -/
def GabRes.to (s : State) (g rd cyc : Nat) (v : Word64) : GabRes := .done (s.gWr g rd v) cyc (s.gPc g + 4) id

/-! ## Arithmetic (R428, R429) -/

/-- The result of an ALU function, or the trap that it raises. -/
inductive AluOut where
  | val (v : Word64)
  | trap (vec : Nat)
deriving DecidableEq, Repr

/-- The exact result fits in 64 signed bits. -/
def fits64 (i : Int) : Bool := decide (-(2 ^ 63) ≤ i ∧ i < 2 ^ 63)

/-- R429: an exact result, with signed overflow detected. -/
def GabSt.exact (x : GabSt) (i : Int) : AluOut := if x.ov && !fits64 i then .trap vOVERFLOW else .val (BitVec.ofInt 64 i)

/-- R429: a division, with division by zero detected. -/
def GabSt.divide (x : GabSt) (b zero : Word64) (r : AluOut) : AluOut :=
  if b = 0 then (if x.dz then .trap vDIV_ZERO else .val zero) else r

/-- 1 if a comparison holds; otherwise 0. -/
def flag64 (c : Bool) : Word64 := if c then 1 else 0

/-- The number of 1 bits. -/
def popc64 (a : Word64) : Nat := ((List.range 64).filter fun i => a.getLsbD i).length

abbrev AluFn := GabSt → Word64 → Word64 → AluOut

def fnAdd : AluFn := fun x a b => x.exact (a.toInt + b.toInt)
def fnSub : AluFn := fun x a b => x.exact (a.toInt - b.toInt)
def fnAnd : AluFn := fun _ a b => .val (a &&& b)
def fnOr : AluFn := fun _ a b => .val (a ||| b)
def fnXor : AluFn := fun _ a b => .val (a ^^^ b)
def fnAndn : AluFn := fun _ a b => .val (a &&& ~~~b)
def fnShl : AluFn := fun _ a b => .val (a <<< (b.toNat % 64))
def fnShr : AluFn := fun _ a b => .val (a >>> (b.toNat % 64))
def fnShra : AluFn := fun _ a b => .val (a.sshiftRight (b.toNat % 64))
def fnClt : AluFn := fun _ a b => .val (flag64 (decide (a.toInt < b.toInt)))
def fnCltu : AluFn := fun _ a b => .val (flag64 (decide (a.toNat < b.toNat)))
def fnMul : AluFn := fun x a b => x.exact (a.toInt * b.toInt)
def fnMulhs : AluFn := fun _ a b => .val (BitVec.ofInt 64 (a.toInt * b.toInt / 2 ^ 64))
def fnMulhu : AluFn := fun _ a b => .val (BitVec.ofNat 64 (a.toNat * b.toNat / 2 ^ 64))
def fnDivs : AluFn := fun x a b => x.divide b (-1) (x.exact (a.toInt.tdiv b.toInt))
def fnDivu : AluFn := fun x a b => x.divide b (-1) (.val (BitVec.ofNat 64 (a.toNat / b.toNat)))
def fnMods : AluFn := fun x a b => x.divide b a (.val (BitVec.ofInt 64 (a.toInt.tmod b.toInt)))
def fnModu : AluFn := fun x a b => x.divide b a (.val (BitVec.ofNat 64 (a.toNat % b.toNat)))
def fnMins : AluFn := fun _ a b => .val (if a.toInt ≤ b.toInt then a else b)
def fnMaxs : AluFn := fun _ a b => .val (if a.toInt ≤ b.toInt then b else a)
def fnMinu : AluFn := fun _ a b => .val (if a.toNat ≤ b.toNat then a else b)
def fnMaxu : AluFn := fun _ a b => .val (if a.toNat ≤ b.toNat then b else a)
def fnPopc : AluFn := fun _ a _ => .val (BitVec.ofNat 64 (popc64 a))

/-- The end of an ALU function. -/
def aluRes (s : State) (g rd cyc : Nat) : AluOut → GabRes
  | .val v => .to s g rd cyc v
  | .trap vec => .trap s vec (s.gPc g).toNat 0 0

/-- Opcode 0x01: g[rd] = g[ra] fn g[rb]. -/
def bodyR (cyc : Nat) (f : AluFn) : GabBody := fun s g _ w _ =>
  aluRes s g (iRd w) cyc (f (s.gable g) (s.gRd g (iRa w)) (s.gRd g (iRb w)))

/-- Opcodes 0x02 to 0x09: as the function, on an immediate. -/
def bodyK (imm : Word32 → Word64) (f : AluFn) : GabBody := fun s g _ w _ =>
  aluRes s g (iRd w) 1 (f (s.gable g) (s.gRd g (iRa w)) (imm w))

def bodyLdh : GabBody := fun s g _ w _ => .to s g (iRd w) 1 (iHigh19 w)
def bodyLdpc : GabBody := fun s g _ w _ => .to s g (iRd w) 1 (s.gPc g + iHigh19 w)

/-! ## Loads and stores (R427) -/

/-- The address of a load or a store. -/
def State.gabEa (s : State) (g : Nat) (w : Word32) : Nat := (s.gRd g (iRa w) + iImm14 w).toNat

/-- A load of n bytes, signed or unsigned. -/
def bodyLoad (n : Nat) (signed : Bool) : GabBody := fun s g lvl w x =>
  let a := s.gabEa g w
  let pc := (s.gPc g).toNat
  match s.gabLoad g lvl a n x.mem with
  | (s1, .ok v) =>
    .to s1 g (iRd w) (if gabRange g a = .window then 40 + x.wait else 2)
      (if signed then BitVec.ofInt 64 (sext (8 * n) v) else BitVec.ofNat 64 v)
  | (s1, .access) => .trap s1 vLOAD_ACCESS pc a 0
  | (s1, .align) => .trap s1 vLOAD_ALIGN pc a 0
  | (s1, .ue) => .trap s1 vMEM_UE pc a 0
  | (_, .wait) => .wait

/-- A store of n bytes of the register at the rd field. [DEDUCED, assumption log 84] -/
def bodyStore (n : Nat) : GabBody := fun s g lvl w _ =>
  let a := s.gabEa g w
  let pc := s.gPc g
  match s.gabStore g lvl a n (s.gRd g (iRd w)).toNat with
  | (s1, .ok _) => .done s1 (if gabRange g a = .window then 8 else 1) (pc + 4) id
  | (s1, .align) => .trap s1 vSTORE_ALIGN pc.toNat a 0
  | (s1, _) => .trap s1 vSTORE_ACCESS pc.toNat a 0

/-! ## Jumps (R427, R441 to R443) -/

/-- The test of a JC. -/
def jcHolds (cond : Nat) (a b : Word64) : Bool :=
  match cond with
  | 0 => a == b
  | 1 => a != b
  | 2 => decide (a.toInt < b.toInt)
  | 3 => decide (b.toInt ≤ a.toInt)
  | 4 => decide (a.toNat < b.toNat)
  | 5 => decide (b.toNat ≤ a.toNat)
  | 6 => a &&& b != 0
  | _ => a &&& b == 0

/-- A jump to a target: the trap that the target raises at the jumping instruction, or what the jump does. -/
def State.gabJump (s : State) (g lvl : Nat) (t : Word64) (r : GabRes) : GabRes :=
  match s.jumpBad g lvl t.toNat with
  | some v => .trap s v (s.gPc g).toNat t.toNat 0
  | none => r

def bodyJc : GabBody := fun s g lvl w _ =>
  let t := s.gPc g + iOff11 w
  if jcHolds (iCond w) (s.gRd g (cRa w)) (s.gRd g (cRb w)) then s.gabJump g lvl t (.done s 2 t id)
  else .done s 1 (s.gPc g + 4) id

/-- A jump that links. -/
def State.gabLink (s : State) (g lvl : Nat) (w : Word32) (t : Word64) : GabRes :=
  s.gabJump g lvl t (.done (s.gWr g (iRd w) (s.gPc g + 4)) 2 t id)

def bodyJl : GabBody := fun s g lvl w _ => s.gabLink g lvl w (s.gPc g + iOff19 w)
def bodyJlr : GabBody := fun s g lvl w _ => s.gabLink g lvl w (s.gRd g (iRa w) + iImm14 w)

/-- A jump that links and pushes; a push that finds the hardware full spills first. -/
def State.gabCall (s : State) (g lvl : Nat) (w : Word32) (t : Word64) : GabRes :=
  let x := s.gable g
  let ret := x.pc + 4
  s.gabJump g lvl t
    (if x.ssFull && !x.spillFits g then .trap s vSS_FAULT x.pc.toNat x.spillAt 0
     else .done ((s.ssPush g ret).gWr g (iRd w) ret) (if x.ssFull then 36 else 2) t id)

def bodyCall : GabBody := fun s g lvl w _ => s.gabCall g lvl w (s.gPc g + iOff19 w)
def bodyCallr : GabBody := fun s g lvl w _ => s.gabCall g lvl w (s.gRd g (iRa w) + iImm14 w)

/-- R442: a RET fills the hardware first. -/
def GabSt.mustFill (x : GabSt) : Bool := x.ss.isEmpty && x.spilled != 0

def bodyRet : GabBody := fun s g lvl w x =>
  let t := s.gRd g (iRa w)
  let pc := (s.gPc g).toNat
  let fill := (s.gable g).mustFill
  if fill && s.gabMarching g (s.gable g).ssBase.toNat then .wait
  else match s.ssFill g x.mem with
    | (s1, some (vec, a)) => .trap s1 vec pc a 0
    | (s1, none) =>
      match (s1.gable g).ss with
      | [] => .trap s1 vCFI pc t.toNat 0
      | e :: r =>
        if e ≠ t then .trap s1 vCFI pc t.toNat 0
        else s1.gabJump g lvl t (.done (s1.setGab g { s1.gable g with ss := r }) (if fill then 36 else 2) t id)

/-! ## Traps, returns and waits (R427, R437, R440) -/

/-- SVC completes: it retires, and its trap returns to the next instruction. -/
def bodySvc : GabBody := fun s g lvl w _ =>
  let x := s.gable g
  .trap (s.setGab g { x with instret := (x.instret + 1) % 2 ^ 64 }) (vSVC + lvl) (x.pc + 4).toNat 0 (iCsr w)

/-- R437: what ERET sets. -/
def GabSt.eret (x : GabSt) : GabSt :=
  let e := x.estat.toNat
  { x with lvl := min 2 (bits e 9 8), ie := e.testBit 10, bank := e.testBit 11, enest := false, dbl := false }

/-- R440: what FIRET sets from shadow g30. -/
def GabSt.firet (x : GabSt) : GabSt :=
  let e := (smGet (fun _ => (0 : Word64)) x.r 46).toNat
  { x with
    lvl := min 2 (bits e 1 0), ie := e.testBit 2, fie := e.testBit 3, bank := false, enest := e.testBit 5, dbl := e.testBit 6 }

/-- The trap of an instruction that its level does not allow, or that is none. -/
def gabPriv (s : State) (g : Nat) (w : Word32) : GabRes := .trap s vPRIV (s.gPc g).toNat w.toNat (gabInfo w)
def gabIllegal (s : State) (g : Nat) (w : Word32) : GabRes := .trap s vILLEGAL (s.gPc g).toNat w.toNat (gabInfo w)

def bodyEret : GabBody := fun s g lvl w _ =>
  let x := s.gable g
  if lvl < 2 then gabPriv s g w else .done (s.setGab g x.eret) 6 x.epc id

def bodyFiret : GabBody := fun s g lvl w _ =>
  let x := s.gable g
  if lvl < 2 then gabPriv s g w
  else if !x.bank then gabIllegal s g w
  else .done (s.setGab g x.firet) 3 (smGet (fun _ => 0) x.r 47) id

def bodyWfi : GabBody := fun s g lvl w _ =>
  if lvl = 0 then gabPriv s g w else .done (s.setGab g { s.gable g with wfi := true }) 1 (s.gPc g + 4) id

def bodyBrk : GabBody := fun s g _ _ _ => .trap s vBRK (s.gPc g).toNat 0 0

def bodyFence : GabBody := fun s g _ _ _ => .done (s.setGab g { s.gable g with fence := true }) 1 (s.gPc g + 4) id

/-! ## Control registers (R423, R427) -/

def bodyCrd : GabBody := fun s g lvl w _ =>
  match csrLevels (iCsr w) with
  | none => gabIllegal s g w
  | some (r, _) =>
    if lvl < r then gabPriv s g w
    else
      let (s1, v) := s.csrRead g (iCsr w)
      .to s1 g (iRd w) 2 (BitVec.ofNat 64 v)

/-- g[rd] takes the CSR, and the CSR takes `f` of its value and g[ra]. -/
def bodyCsr (f : Word64 → Word64 → Word64) : GabBody := fun s g lvl w _ =>
  let n := iCsr w
  match csrLevels n with
  | none => gabIllegal s g w
  | some (_, none) => gabIllegal s g w
  | some (r, some wl) =>
    if lvl < r ∨ lvl < wl then gabPriv s g w
    else
      let (s1, v) := s.csrRead g n
      let old := BitVec.ofNat 64 v
      let new := f old (s.gRd g (iRa w))
      .done (s1.gWr g (iRd w) old) 2 (s.gPc g + 4) fun s => s.csrWrite g n new

/-! ## The rows -/

/-- The meaning of the instruction that a word names. -/
def gabBody (key : Nat) : GabBody :=
  match key with
  | 0x100 => bodyR 1 fnAdd
  | 0x101 => bodyR 1 fnSub
  | 0x102 => bodyR 1 fnAnd
  | 0x103 => bodyR 1 fnOr
  | 0x104 => bodyR 1 fnXor
  | 0x105 => bodyR 1 fnAndn
  | 0x106 => bodyR 1 fnShl
  | 0x107 => bodyR 1 fnShr
  | 0x108 => bodyR 1 fnShra
  | 0x109 => bodyR 1 fnClt
  | 0x10A => bodyR 1 fnCltu
  | 0x10B => bodyR 3 fnMul
  | 0x10C => bodyR 3 fnMulhs
  | 0x10D => bodyR 3 fnMulhu
  | 0x10E => bodyR 34 fnDivs
  | 0x10F => bodyR 34 fnDivu
  | 0x110 => bodyR 34 fnMods
  | 0x111 => bodyR 34 fnModu
  | 0x112 => bodyR 1 fnMins
  | 0x113 => bodyR 1 fnMaxs
  | 0x114 => bodyR 1 fnMinu
  | 0x115 => bodyR 1 fnMaxu
  | 0x116 => bodyR 1 fnPopc
  | 0x02 => bodyK iImm14 fnAdd
  | 0x03 => bodyK iZimm14 fnAnd
  | 0x04 => bodyK iZimm14 fnOr
  | 0x05 => bodyK iZimm14 fnXor
  | 0x06 => bodyK iZimm14 fnShl
  | 0x07 => bodyK iZimm14 fnShr
  | 0x08 => bodyK iZimm14 fnShra
  | 0x09 => bodyK iImm14 fnClt
  | 0x0A => bodyLdh
  | 0x0B => bodyLdpc
  | 0x10 => bodyLoad 1 true
  | 0x11 => bodyLoad 1 false
  | 0x12 => bodyLoad 2 true
  | 0x13 => bodyLoad 2 false
  | 0x14 => bodyLoad 4 true
  | 0x15 => bodyLoad 4 false
  | 0x16 => bodyLoad 8 false
  | 0x18 => bodyStore 1
  | 0x19 => bodyStore 2
  | 0x1A => bodyStore 4
  | 0x1B => bodyStore 8
  | 0x20 => bodyJc
  | 0x28 => bodyJl
  | 0x29 => bodyJlr
  | 0x2A => bodyCall
  | 0x2B => bodyCallr
  | 0x2C => bodyRet
  | 0x30 => bodySvc
  | 0x31 => bodyEret
  | 0x32 => bodyFiret
  | 0x33 => bodyWfi
  | 0x34 => bodyCrd
  | 0x35 => bodyCsr fun _ a => a
  | 0x36 => bodyCsr fun old a => old ||| a
  | 0x37 => bodyCsr fun old a => old &&& ~~~a
  | 0x38 => bodyBrk
  | _ => bodyFence

/-- ADD. -/
def execAdd (g : Fin 2) (x : GabIn) (s : State) : Host.Outcome State Fault Refusal := done s (s.gabRow g x 0x100 (bodyR 1 fnAdd))

/-- SUB. -/
def execSub (g : Fin 2) (x : GabIn) (s : State) : Host.Outcome State Fault Refusal := done s (s.gabRow g x 0x101 (bodyR 1 fnSub))

/-- AND. -/
def execAnd (g : Fin 2) (x : GabIn) (s : State) : Host.Outcome State Fault Refusal := done s (s.gabRow g x 0x102 (bodyR 1 fnAnd))

/-- OR. -/
def execOr (g : Fin 2) (x : GabIn) (s : State) : Host.Outcome State Fault Refusal := done s (s.gabRow g x 0x103 (bodyR 1 fnOr))

/-- XOR. -/
def execXor (g : Fin 2) (x : GabIn) (s : State) : Host.Outcome State Fault Refusal := done s (s.gabRow g x 0x104 (bodyR 1 fnXor))

/-- ANDN. -/
def execAndn (g : Fin 2) (x : GabIn) (s : State) : Host.Outcome State Fault Refusal := done s (s.gabRow g x 0x105 (bodyR 1 fnAndn))

/-- SHL. -/
def execShl (g : Fin 2) (x : GabIn) (s : State) : Host.Outcome State Fault Refusal := done s (s.gabRow g x 0x106 (bodyR 1 fnShl))

/-- SHR. -/
def execShr (g : Fin 2) (x : GabIn) (s : State) : Host.Outcome State Fault Refusal := done s (s.gabRow g x 0x107 (bodyR 1 fnShr))

/-- SHRA. -/
def execShra (g : Fin 2) (x : GabIn) (s : State) : Host.Outcome State Fault Refusal := done s (s.gabRow g x 0x108 (bodyR 1 fnShra))

/-- CLT. -/
def execClt (g : Fin 2) (x : GabIn) (s : State) : Host.Outcome State Fault Refusal := done s (s.gabRow g x 0x109 (bodyR 1 fnClt))

/-- CLTU. -/
def execCltu (g : Fin 2) (x : GabIn) (s : State) : Host.Outcome State Fault Refusal := done s (s.gabRow g x 0x10A (bodyR 1 fnCltu))

/-- MUL. -/
def execMul (g : Fin 2) (x : GabIn) (s : State) : Host.Outcome State Fault Refusal := done s (s.gabRow g x 0x10B (bodyR 3 fnMul))

/-- MULHS. -/
def execMulhs (g : Fin 2) (x : GabIn) (s : State) : Host.Outcome State Fault Refusal := done s (s.gabRow g x 0x10C (bodyR 3 fnMulhs))

/-- MULHU. -/
def execMulhu (g : Fin 2) (x : GabIn) (s : State) : Host.Outcome State Fault Refusal := done s (s.gabRow g x 0x10D (bodyR 3 fnMulhu))

/-- DIVS. -/
def execDivs (g : Fin 2) (x : GabIn) (s : State) : Host.Outcome State Fault Refusal := done s (s.gabRow g x 0x10E (bodyR 34 fnDivs))

/-- DIVU. -/
def execDivu (g : Fin 2) (x : GabIn) (s : State) : Host.Outcome State Fault Refusal := done s (s.gabRow g x 0x10F (bodyR 34 fnDivu))

/-- MODS. -/
def execMods (g : Fin 2) (x : GabIn) (s : State) : Host.Outcome State Fault Refusal := done s (s.gabRow g x 0x110 (bodyR 34 fnMods))

/-- MODU. -/
def execModu (g : Fin 2) (x : GabIn) (s : State) : Host.Outcome State Fault Refusal := done s (s.gabRow g x 0x111 (bodyR 34 fnModu))

/-- MINS. -/
def execMins (g : Fin 2) (x : GabIn) (s : State) : Host.Outcome State Fault Refusal := done s (s.gabRow g x 0x112 (bodyR 1 fnMins))

/-- MAXS. -/
def execMaxs (g : Fin 2) (x : GabIn) (s : State) : Host.Outcome State Fault Refusal := done s (s.gabRow g x 0x113 (bodyR 1 fnMaxs))

/-- MINU. -/
def execMinu (g : Fin 2) (x : GabIn) (s : State) : Host.Outcome State Fault Refusal := done s (s.gabRow g x 0x114 (bodyR 1 fnMinu))

/-- MAXU. -/
def execMaxu (g : Fin 2) (x : GabIn) (s : State) : Host.Outcome State Fault Refusal := done s (s.gabRow g x 0x115 (bodyR 1 fnMaxu))

/-- POPC. -/
def execPopc (g : Fin 2) (x : GabIn) (s : State) : Host.Outcome State Fault Refusal := done s (s.gabRow g x 0x116 (bodyR 1 fnPopc))

/-- ADDK. -/
def execAddk (g : Fin 2) (x : GabIn) (s : State) : Host.Outcome State Fault Refusal := done s (s.gabRow g x 0x02 (bodyK iImm14 fnAdd))

/-- ANDK. -/
def execAndk (g : Fin 2) (x : GabIn) (s : State) : Host.Outcome State Fault Refusal := done s (s.gabRow g x 0x03 (bodyK iZimm14 fnAnd))

/-- ORK. -/
def execOrk (g : Fin 2) (x : GabIn) (s : State) : Host.Outcome State Fault Refusal := done s (s.gabRow g x 0x04 (bodyK iZimm14 fnOr))

/-- XORK. -/
def execXork (g : Fin 2) (x : GabIn) (s : State) : Host.Outcome State Fault Refusal := done s (s.gabRow g x 0x05 (bodyK iZimm14 fnXor))

/-- SHLK. -/
def execShlk (g : Fin 2) (x : GabIn) (s : State) : Host.Outcome State Fault Refusal := done s (s.gabRow g x 0x06 (bodyK iZimm14 fnShl))

/-- SHRK. -/
def execShrk (g : Fin 2) (x : GabIn) (s : State) : Host.Outcome State Fault Refusal := done s (s.gabRow g x 0x07 (bodyK iZimm14 fnShr))

/-- SHRAK. -/
def execShrak (g : Fin 2) (x : GabIn) (s : State) : Host.Outcome State Fault Refusal := done s (s.gabRow g x 0x08 (bodyK iZimm14 fnShra))

/-- CLTK. -/
def execCltk (g : Fin 2) (x : GabIn) (s : State) : Host.Outcome State Fault Refusal := done s (s.gabRow g x 0x09 (bodyK iImm14 fnClt))

/-- LDH. -/
def execLdh (g : Fin 2) (x : GabIn) (s : State) : Host.Outcome State Fault Refusal := done s (s.gabRow g x 0x0A bodyLdh)

/-- LDPC. -/
def execLdpc (g : Fin 2) (x : GabIn) (s : State) : Host.Outcome State Fault Refusal := done s (s.gabRow g x 0x0B bodyLdpc)

/-- LD8. -/
def execLd8 (g : Fin 2) (x : GabIn) (s : State) : Host.Outcome State Fault Refusal := done s (s.gabRow g x 0x10 (bodyLoad 1 true))

/-- LD8U. -/
def execLd8u (g : Fin 2) (x : GabIn) (s : State) : Host.Outcome State Fault Refusal := done s (s.gabRow g x 0x11 (bodyLoad 1 false))

/-- LD16. -/
def execLd16 (g : Fin 2) (x : GabIn) (s : State) : Host.Outcome State Fault Refusal := done s (s.gabRow g x 0x12 (bodyLoad 2 true))

/-- LD16U. -/
def execLd16u (g : Fin 2) (x : GabIn) (s : State) : Host.Outcome State Fault Refusal := done s (s.gabRow g x 0x13 (bodyLoad 2 false))

/-- LD32. -/
def execLd32 (g : Fin 2) (x : GabIn) (s : State) : Host.Outcome State Fault Refusal := done s (s.gabRow g x 0x14 (bodyLoad 4 true))

/-- LD32U. -/
def execLd32u (g : Fin 2) (x : GabIn) (s : State) : Host.Outcome State Fault Refusal := done s (s.gabRow g x 0x15 (bodyLoad 4 false))

/-- LD64. -/
def execLd64 (g : Fin 2) (x : GabIn) (s : State) : Host.Outcome State Fault Refusal := done s (s.gabRow g x 0x16 (bodyLoad 8 false))

/-- ST8. -/
def execSt8 (g : Fin 2) (x : GabIn) (s : State) : Host.Outcome State Fault Refusal := done s (s.gabRow g x 0x18 (bodyStore 1))

/-- ST16. -/
def execSt16 (g : Fin 2) (x : GabIn) (s : State) : Host.Outcome State Fault Refusal := done s (s.gabRow g x 0x19 (bodyStore 2))

/-- ST32. -/
def execSt32 (g : Fin 2) (x : GabIn) (s : State) : Host.Outcome State Fault Refusal := done s (s.gabRow g x 0x1A (bodyStore 4))

/-- ST64. -/
def execSt64 (g : Fin 2) (x : GabIn) (s : State) : Host.Outcome State Fault Refusal := done s (s.gabRow g x 0x1B (bodyStore 8))

/-- JC. -/
def execJc (g : Fin 2) (x : GabIn) (s : State) : Host.Outcome State Fault Refusal := done s (s.gabRow g x 0x20 bodyJc)

/-- JL. -/
def execJl (g : Fin 2) (x : GabIn) (s : State) : Host.Outcome State Fault Refusal := done s (s.gabRow g x 0x28 bodyJl)

/-- JLR. -/
def execJlr (g : Fin 2) (x : GabIn) (s : State) : Host.Outcome State Fault Refusal := done s (s.gabRow g x 0x29 bodyJlr)

/-- CALL. -/
def execCall (g : Fin 2) (x : GabIn) (s : State) : Host.Outcome State Fault Refusal := done s (s.gabRow g x 0x2A bodyCall)

/-- CALLR. -/
def execCallr (g : Fin 2) (x : GabIn) (s : State) : Host.Outcome State Fault Refusal := done s (s.gabRow g x 0x2B bodyCallr)

/-- RET. -/
def execRet (g : Fin 2) (x : GabIn) (s : State) : Host.Outcome State Fault Refusal := done s (s.gabRow g x 0x2C bodyRet)

/-- SVC. -/
def execSvc (g : Fin 2) (x : GabIn) (s : State) : Host.Outcome State Fault Refusal := done s (s.gabRow g x 0x30 bodySvc)

/-- ERET. -/
def execEret (g : Fin 2) (x : GabIn) (s : State) : Host.Outcome State Fault Refusal := done s (s.gabRow g x 0x31 bodyEret)

/-- FIRET. -/
def execFiret (g : Fin 2) (x : GabIn) (s : State) : Host.Outcome State Fault Refusal := done s (s.gabRow g x 0x32 bodyFiret)

/-- WFI. -/
def execWfi (g : Fin 2) (x : GabIn) (s : State) : Host.Outcome State Fault Refusal := done s (s.gabRow g x 0x33 bodyWfi)

/-- CRD. -/
def execCrd (g : Fin 2) (x : GabIn) (s : State) : Host.Outcome State Fault Refusal := done s (s.gabRow g x 0x34 bodyCrd)

/-- CXCH. -/
def execCxch (g : Fin 2) (x : GabIn) (s : State) : Host.Outcome State Fault Refusal := done s (s.gabRow g x 0x35 (bodyCsr fun _ a => a))

/-- CBSET. -/
def execCbset (g : Fin 2) (x : GabIn) (s : State) : Host.Outcome State Fault Refusal := done s (s.gabRow g x 0x36 (bodyCsr fun old a => old ||| a))

/-- CBCLR. -/
def execCbclr (g : Fin 2) (x : GabIn) (s : State) : Host.Outcome State Fault Refusal := done s (s.gabRow g x 0x37 (bodyCsr fun old a => old &&& ~~~a))

/-- BRK. -/
def execBrk (g : Fin 2) (x : GabIn) (s : State) : Host.Outcome State Fault Refusal := done s (s.gabRow g x 0x38 bodyBrk)

/-- FENCE. -/
def execFence (g : Fin 2) (x : GabIn) (s : State) : Host.Outcome State Fault Refusal := done s (s.gabRow g x 0x39 bodyFence)

/-- R474: WFI_END, after `wait` cycles, within which the watchdog does not expire. -/
def execWfiEnd (g : Fin 2) (wait : Nat) (s : State) : Host.Outcome State Fault Refusal :=
  let x := s.gable g
  done s (if s.gabLive && x.wfi && !x.stopped && !x.halted && s.irqWake g && decide (wait ≤ x.wdLeft) then
    s.setGab g { x.pass wait with wfi := false } else s)

/-- R427: FENCE_COMPLETE, after `wait` cycles, within which the watchdog does not expire. -/
def execFenceComplete (g : Fin 2) (wait : Nat) (s : State) : Host.Outcome State Fault Refusal :=
  let x := s.gable g
  done s (if s.gabLive && x.fence && !x.stopped && !x.halted && decide (wait ≤ x.wdLeft) then
    s.setGab g { x.pass wait with fence := false } else s)

/-! ## Interrupts (R432, R439, R440) -/

/-- IRQ: the entry of vector 32. -/
def execIrq (g : Fin 2) (tab : List StErr) (s : State) : Host.Outcome State Fault Refusal :=
  done s (if s.gabAt g && !(s.gable g).wdPend && !s.gabFirq g && s.gabIrq g && !s.tableBusy g then
    s.gabTrap g vIRQ (s.gable g).pc.toNat 0 0 tab else s)

/-- R440: what a FIRQ entry sets before the handler's address. -/
def GabSt.firq (x : GabSt) : GabSt :=
  let y := { x.pass 4 with bank := true, lvl := 2, ie := false, fie := false }
  (y.wr 31 x.pc).wr 30 (BitVec.ofNat 64 x.status)

/-- R440: FIRQ entry. A bad handler address, or a table entry that may not be read, is an ordinary trap in the shadow bank; a table entry that is uncorrectable halts the gable (R436). [DEDUCED, assumption log 80] -/
def State.gabFirqEnter (s : State) (g : Fin 2) (tab : List StErr) : State :=
  let s1 := s.setGab g (s.gable g).firq
  match s1.gabTable g vFIRQ (tab.headD .clean) with
  | (s2, .ok a) =>
    match s2.jumpBad g 2 a with
    | some v => s2.gabTrap g v a a 0 (tab.drop 1)
    | none => s2.setGab g { s2.gable g with pc := BitVec.ofNat 64 a }
  | (s2, .ue) => s2.gabHalt g 4 0
  | (s2, _) => s2.gabTrap g vLOAD_ACCESS (s.gable g).pc.toNat ((s.gable g).entryAddr vFIRQ) 0 (tab.drop 1)

/-- FIRQ. -/
def execFirq (g : Fin 2) (tab : List StErr) (s : State) : Host.Outcome State Fault Refusal :=
  done s (if s.gabAt g && !(s.gable g).wdPend && s.gabFirq g && !s.tableBusy g then s.gabFirqEnter g tab else s)

/-! ## The watchdog (R445) -/

/-- A first expiry: the stage, the count, the event and the reload; WDOG is pending and ends a WFI. -/
def State.wdogExpire (s : State) (g : Nat) : State :=
  let pg := pgGAB g
  let x := s.gable g
  ((s.setGab g { x with wdFrom := x.wdLoad, wdCyc := x.wdCyc - x.wdFrom * 1024, wdPend := true, wfi := false }).wf pg GAB_WDOG_STAGE 1
    |>.inc pg GAB_WDOG_CNT_COUNT).raise pg 2

/-- Time passes for gable g although no row of its own shows it: it is halted or in the debug service, or it waits: in WFI or FENCE, in a micro-word, or for a march of a store of its own. [DEDUCED, assumption log 82] -/
def State.gabIdles (s : State) (g : Nat) : Bool :=
  let x := s.gable g
  x.halted || x.wfi || x.fence || smGet (fun _ => false) s.tap.svc g || x.u.q.hold != .none || x.march.isSome

/-- The watchdog of gable g expires now: the gable is not stopped, and its count has run out, or runs out while the gable idles. -/
def State.wdogRuns (s : State) (g : Nat) : Bool := s.gabLive && !(s.gable g).stopped && ((s.gable g).wdDue || s.gabIdles g)

/-- The cycles up to an expiry pass. -/
def State.wdogPass (s : State) (g : Nat) : State := s.setGab g ((s.gable g).pass (s.gable g).wdLeft)

/-- WDOG_TRAP: the first expiry; its entry follows at once if the gable stands at an instruction boundary. -/
def execWdogTrap (g : Fin 2) (tab : List StErr) (s : State) : Host.Outcome State Fault Refusal :=
  done s (if s.wdogRuns g && !s.bit (pgGAB g) GAB_WDOG_STAGE then
    let s1 := (s.wdogPass g).wdogExpire g
    if s1.gabAt g then s1.gabWdog g tab else s1
  else s)

/-- WDOG_RESET: the second expiry with no kick since the first. -/
def execWdogReset (g : Fin 2) (s : State) : Host.Outcome State Fault Refusal :=
  done s (if s.wdogRuns g && s.bit (pgGAB g) GAB_WDOG_STAGE then s.wdogReset g 5 else s)

end Sys2Proof.Machine
end

