-- ==== Sys2Proof/Machine/GableMicro.lean ====
section
/-! DEFINITION. The micro-level of the gables: the micro-word, conditions, patch matching, micro-traps, the ALU and the micro-operations (R383 to R387, R400 to R403, R451 to R455). -/

namespace Sys2Proof.Machine

/-! ## Datapath fields (R452), of bits [95:0] of a gable micro-word -/

def guUOP (d : BitVec 96) : Nat := bits d.toNat 95 88
def guALU (d : BitVec 96) : Nat := bits d.toNat 87 84
def guASEL (d : BitVec 96) : Nat := bits d.toNat 83 81
def guBSEL (d : BitVec 96) : Nat := bits d.toNat 80 78
def guDSEL (d : BitVec 96) : Nat := bits d.toNat 77 75
def guFMT (d : BitVec 96) : Nat := bits d.toNat 74 72
def guCSRN (d : BitVec 96) : Nat := bits d.toNat 71 60
def guSIZE (d : BitVec 96) : Nat := 2 ^ bits d.toNat 57 56
def guSIGN (d : BitVec 96) : Bool := d.toNat.testBit 58
def guVEC (d : BitVec 96) : Nat := bits d.toNat 55 48
def guUIMM (d : BitVec 96) : Nat := bits d.toNat 31 0


/-- The immediate of IR that FMT selects; 6 and 7 are not listed and give 0. [DEDUCED, assumption log 86] -/
def irImm (fmt : Nat) (ir : Word32) : Word64 :=
  match fmt with
  | 0 => iImm14 ir
  | 1 => iZimm14 ir
  | 2 => iOff11 ir
  | 3 => iOff19 ir
  | 4 => iHigh19 ir
  | 5 => BitVec.ofNat 64 (iCsr ir)
  | _ => 0

/-- Source A or B. -/
def GabSt.src (x : GabSt) (sel : Nat) (d : BitVec 96) : Word64 :=
  match sel with
  | 0 => x.rd (iRa x.u.ir)
  | 1 => x.rd (iRb x.u.ir)
  | 2 => x.rd (iRd x.u.ir)
  | 3 => x.u.t0
  | 4 => x.u.t1
  | 5 => x.pc
  | 6 => irImm (guFMT d) x.u.ir
  | _ => BitVec.ofNat 64 (guUIMM d)

def GabSt.srcA (x : GabSt) (d : BitVec 96) : Word64 := x.src (guASEL d) d
def GabSt.srcB (x : GabSt) (d : BitVec 96) : Word64 := x.src (guBSEL d) d

/-- The CSR that a word names. -/
def GabSt.csrOf (x : GabSt) (d : BitVec 96) : Nat := if guCSRN d = 0xFFF then iCsr x.u.ir else guCSRN d

/-! ## Conditions (R454) -/

/-- Condition 42: the CSR exists, and the level suffices to read it and, unless IR is a CRD, to write it. -/
def GabSt.csrOk (x : GabSt) (n : Nat) : Bool :=
  match csrLevels n with
  | none => false
  | some (r, w) => decide (r ≤ x.lvl) && (iOp x.u.ir == 0x34 || (match w with | some l => decide (l ≤ x.lvl) | none => true))

/-- Condition 43. -/
def csrReadOnly (n : Nat) : Bool := match csrLevels n with | some (_, none) => true | _ => false

/-- The value of condition c for gable g in the word w. [DEDUCED, assumption log 86] -/
def State.gabCond (s : State) (g : Nat) (w : BitVec 128) (c : Nat) : Bool :=
  let x := s.gable g
  let u := x.u
  let q := u.q
  let d := w.truncate 96
  let a := x.srcA d
  let b := x.srcB d
  match c with
  | 0 => true
  | 1 => q.cl
  | 2 => q.lc0 != 0
  | 3 => q.lc1 != 0
  | 4 => q.fz
  | 5 => q.fn
  | 6 => q.fc
  | 7 => q.fv
  | 8 => q.stack.isEmpty
  | 9 => !q.frame.isEmpty
  | 10 => x.lvl == 2
  | 11 => x.lvl == 1
  | 12 => x.lvl == 0
  | 13 => s.gabIrq g
  | 14 => s.gabFirq g
  | 15 => x.wdPend
  | 16 => x.stopReq
  | 17 => u.attn
  | 18 => x.enest
  | 19 => x.dbl
  | 20 => x.bank
  | 21 => x.ssFull
  | 22 => x.ss.isEmpty
  | 23 => x.spilled != 0
  | 24 => u.matched
  | 25 => u.acc
  | 26 => u.refused
  | 27 => u.mar.toNat % guSIZE d == 0
  | 28 => u.prot
  | 29 => x.dz
  | 30 => x.ov
  | 31 => b == 0
  | 32 => u.ovf
  | 33 => a == b
  | 34 => decide (a.toInt < b.toInt)
  | 35 => decide (a.toNat < b.toNat)
  | 36 => iRd u.ir == 0
  | 37 => iRa u.ir == 0
  | 38 => gabRange g u.mar.toNat == .window
  | 39 => gabRange g u.mar.toNat == .data
  | 40 => gabRange g u.mar.toNat == .code
  | 41 => gabRange g u.mar.toNat == .rom
  | 42 => x.csrOk (x.csrOf d)
  | 43 => csrReadOnly (x.csrOf d)
  | 44 => s.irqWake g
  | 45 => u.corr
  | 46 => u.uncorr
  | 47 => u.spillOk
  | _ => false

/-! ## Fetch, micro-traps, halts (R384, R400 to R403, R451, R455) -/

/-- R455: where a fetch from an address goes. -/
def State.gabFetchAt (s : State) (g a : Nat) : Nat :=
  let pg := pgGAB g
  if a < 12288 then
    match (List.range 32).find? fun m => s.bit pg GAB_PM_VALID m && s.rf pg GAB_PM_MATCH m == a with
    | some m => s.rf pg GAB_PM_TARGET m
    | none => a
  else a

/-- R401: a micro-trap of a gable: a frame entry, and word 8 * cause. Of the word that traps nothing takes effect any more, but for a TRAP word, whose sequencing the trap is (R385, R400). [DEDUCED, assumption log 62] -/
def State.gabMicroTrap (s : State) (g cause saved : Nat) (residue : Nat := 0) : State :=
  let q := (s.gable g).u.q
  if 4 ≤ q.frame.length then s.gabHalt g 5 0
  else
    let f : SprFrame := { saved := saved, cl := q.cl, lc0 := q.lc0, lc1 := q.lc1, residue := residue }
    let q' := { (if cause = 6 then q else q.drop) with frame := f :: q.frame, next := 8 * cause, hold := .none }
    let x := (s.gable g).pass 4
    s.setGab g { x with u := { x.u with q := q', causes := cause :: x.u.causes } }

/-- A HALT word: in a micro-trap handler for its cause. Outside one no code of WHY is stated: a free value. [DEDUCED, assumption log 86] -/
def State.gabHaltWord (s : State) (g : Nat) : State :=
  let s := s.setGu g fun u => { u with q := u.q.drop }
  match (s.gable g).u.causes with
  | c :: _ => s.gabHalt g 1 c
  | [] => let (v, s1) := s.fresh; s1.gabHalt g v 0

/-- The micro-level of gable g runs words. [DEDUCED, assumption log 82] -/
def State.gabMicroGoes (s : State) (g : Nat) : Bool := s.gabFree g

/-- The datapath of the present word of gable g may take effect. -/
def State.gabWordFree (s : State) (g : Nat) : Bool := s.gabMicroGoes g && (s.gable g).u.q.hold == .none

/-- R395, R453: a word of gable g that raises ILLEGAL. -/
def State.gabIllegalWord (s : State) (g : Nat) (w : BitVec 128) : Bool :=
  let d : BitVec 96 := w.truncate 96
  let q := bits w.toNat 113 110
  (q != 11 && decide (0x0E < guUOP d)) || (q == 11 && decide (8 < guUIMM d % 16)) || (q == 14 && (s.gable g).u.q.frame.isEmpty)

/-- The fetch of the next word by gable g, once the word before it has taken effect whole, whose SEQ must be `q`, and what the word does; its condition is sampled before its cycle passes. `bad` says that a RAM word fails parity. [DEDUCED, assumption log 86] -/
def State.gabSeqRow (s : State) (g : Nat) (bad : Bool) (q : Nat) (eff : State → Nat → BitVec 128 → State) : State :=
  let x := s.gable g
  if !s.gabWordFree g || x.u.q.busy then s
  else
    let a := x.u.q.next % 16384
    let f := s.gabFetchAt g a
    let ram := decide (12288 ≤ f)
    let w := if ram then smGet (fun _ => 0) s.gcs (g * 2 ^ 14 + f) else romAt (72 + g) f
    if ram && (match x.march with | some (t, _) => t == 9 | none => false) then s
    else if ram && bad then (s.setGu g fun u => { u with upc := a }).gabHalt g 2 0
    else if bits w.toNat 113 110 ≠ q then s
    else
      let q1 := { x.u.q with pre := none, word := w, phys := f }
      let s1 := s.setGab g { x with u := { x.u with q := q1, upc := a, pre := none } }
      let s2 := if s1.gabIllegalWord g w then s1.gabMicroTrap g 3 a
        else eff (s1.setGu g fun u => { u with q := { q1 with
          residue := 0, next := (a + 1) % 16384, aluDue := guALU (w.truncate 96) != 0, opDue := guUOP (w.truncate 96) != 0 && q != 11 } }) a w
      s2.setGab g ((s2.gable g).pass 1)

/-! ## The ALU (R389 on 64 bits, R452) -/

/-- The flags of R389 on 64 bits: Z and N of a result, C and V given. -/
structure GabFlags where
  v : Word64
  c : Bool := false
  o : Bool := false

def gAdd (a b : Word64) : GabFlags := { v := a + b, c := decide (2 ^ 64 ≤ a.toNat + b.toNat), o := !fits64 (a.toInt + b.toInt) }
def gSub (a b : Word64) : GabFlags := { v := a - b, c := decide (a.toNat < b.toNat), o := !fits64 (a.toInt - b.toInt) }
def gLogic (v : Word64) : GabFlags := { v := v }
def gShl (a b : Word64) : GabFlags := gLogic (a <<< (b.toNat % 64))
def gShr (a b : Word64) : GabFlags := gLogic (a >>> (b.toNat % 64))
def gMul16 (a b : Word64) : GabFlags := gLogic (BitVec.ofNat 64 (a.toNat % 2 ^ 16 * (b.toNat % 2 ^ 16)))
def gMin (a b : Word64) : GabFlags := gLogic (if a.toNat ≤ b.toNat then a else b)
def gMax (a b : Word64) : GabFlags := gLogic (if a.toNat ≤ b.toNat then b else a)

/-- The destination that DSEL selects takes a value. -/
def State.gabDest (s : State) (g : Nat) (d : BitVec 96) (v : Word64) : State :=
  let x := s.gable g
  match guDSEL d with
  | 1 => s.gWr g (iRd x.u.ir) v
  | 2 => s.setGu g fun u => { u with t0 := v }
  | 3 => s.setGu g fun u => { u with t1 := v }
  | 4 => s.setGab g { x with pc := v }
  | 5 => s.setGu g fun u => { u with mar := v }
  | 6 => s.setGu g fun u => { u with mdr := v }
  | 7 => s.csrWrite g (x.csrOf d) v
  | _ => s

/-- What a micro-operation reads, as it stands. -/
def State.gabPre (s : State) (g : Nat) (d : BitVec 96) : GabPre :=
  let x := s.gable g
  { pc := x.pc, mar := x.u.mar, mdr := x.u.mdr, a := x.srcA d, csr := s.csrGet g (x.csrOf d) }

/-- R650: micro-trap ATTN in a gable at a micro-word boundary, whose handler enters the service. `left` is what remains of the limit of a WAIT that it interrupts. [DEDUCED, assumption log 87] -/
def State.attnEnter (s : State) (g left : Nat) : State :=
  let q := (s.gable g).u.q
  let s := s.setGu g fun u => { u with attn := false }
  if 4 ≤ q.frame.length then s.gabMicroTrap g 7 q.next
  else
    let s1 := match q.hold with
      | .wait lim => s.gabMicroTrap g 7 (s.gable g).u.upc (if lim = 0 then 0 else min left lim)
      | _ => s.gabMicroTrap g 7 q.next
    { s1 with tap := { s1.tap with svc := smSet (fun _ => false) s1.tap.svc g true } }

/-- A held ATTN request is taken once the present word has taken effect whole. -/
def State.gabWordEnd (s : State) (g : Nat) : State :=
  if (s.gable g).u.attn && !(s.gable g).u.q.busy && !(s.gable g).halted then s.attnEnter g 0 else s

/-- The ALU operation of the word last fetched by gable g is next to take effect: its datapath fields are `d`, and its ALU field is `code` (R389, R452). -/
def SprSt.gabAluTurn (q : SprSt) (d : BitVec 96) (code : Nat) : Bool := q.aluDue && q.word.truncate 96 == d && guALU d == code

/-- The micro-operation of that word is next to take effect: its datapath fields are `d`, and its UOP field is `code` (R453). -/
def SprSt.gabOpTurn (q : SprSt) (d : BitVec 96) (code : Nat) : Bool :=
  q.opDue && !q.aluDue && q.word.truncate 96 == d && guUOP d == code

/-- The ALU operation of the present word of gable g, with these datapath fields and code; what the word's micro-operation reads is kept as it stood before (R387). -/
def State.gabAlu (s : State) (g : Nat) (d : BitVec 96) (code : Nat) (f : State → State) : State :=
  if s.gabWordFree g && (s.gable g).u.q.gabAluTurn d code then
    let p := s.gabPre g d
    (f (s.setGu g fun u => { u with pre := some p, q := { u.q with aluDue := false } })).gabWordEnd g
  else s

/-- Operations 1 to 12: flags and destination. -/
def State.gabAlu2 (s : State) (g : Nat) (d : BitVec 96) (code : Nat) (f : Word64 → Word64 → GabFlags) : State :=
  s.gabAlu g d code fun s =>
    let x := s.gable g
    let r := f (x.srcA d) (x.srcB d)
    let q := { x.u.q with fz := r.v == 0, fn := r.v.msb, fc := r.c, fv := r.o }
    (s.setGu g fun u => { u with q := q, ovf := r.o }).gabDest g d r.v

/-! ## Micro-operations (R453) -/

/-- The micro-operation of the present word of gable g, with these datapath fields and code, and with what it reads; one that must wait (none) stays due. [DEDUCED, assumption log 86] -/
def State.gabOp (s : State) (g : Nat) (d : BitVec 96) (code : Nat) (f : State → GabPre → Option State) : State :=
  if s.gabWordFree g && (s.gable g).u.q.gabOpTurn d code then
    let p := (s.gable g).u.pre.getD (s.gabPre g d)
    match f (s.setGu g fun u => { u with q := { u.q with opDue := false } }) p with
    | some s1 => s1.gabWordEnd g
    | none => s
  else s

/-- Before a read: neither condition 45 nor 46 holds of it yet. -/
def State.readClear (s : State) (g : Nat) : State := s.setGu g fun u => { u with corr := false, uncorr := false }

/-- UOP_NOP: the word has no micro-operation that has still to take effect. -/
def execUopNop (g : Fin 2) (d : BitVec 96) (s : State) : Host.Outcome State Fault Refusal := done s (s.gabOp g d 0 fun s _ => some s)

/-- UOP_FETCH: IR from PC, with the execute check. -/
def State.uopFetch (s : State) (g : Fin 2) (x : GabIn) (p : GabPre) : Option State :=
  match ((s.readClear g).setGab g { (s.readClear g).gable g with pc := p.pc }).gabFetch g x with
  | .wait => none
  | .trap s1 v =>
    let ue := v == vCODE_UE
    some ((s1.setGab g { s1.gable g with pc := (s.gable g).pc }).setGu g fun u =>
      { u with prot := ue, acc := false, refused := !ue, uncorr := ue })
  | .word s1 w =>
    some ((s1.setGab g { s1.gable g with pc := (s.gable g).pc }).setGu g fun u =>
      { u with ir := w, prot := true, acc := true, refused := false })

/-- The command. -/
def execUopFetch (g : Fin 2) (d : BitVec 96) (x : GabIn) (s : State) : Host.Outcome State Fault Refusal :=
  done s (s.gabOp g d 0x01 fun s p => s.uopFetch g x p)

/-- LOAD: SIZE bytes at MAR to MDR at the present level. -/
def State.uopLoad (s : State) (g : Fin 2) (d : BitVec 96) (x : GabIn) (p : GabPre) : Option State :=
  let a := p.mar.toNat
  let n := guSIZE d
  let ok := s.readOk g (s.gable g).lvl a
  match (s.readClear g).gabLoad g (s.gable g).lvl a n x.mem with
  | (s1, .ok v) =>
    let m := if guSIGN d then BitVec.ofInt 64 (sext (8 * n) v) else BitVec.ofNat 64 v
    some (s1.setGu g fun u => { u with mdr := m, prot := ok, acc := true, refused := false })
  | (_, .wait) => none
  | (s1, .ue) => some (s1.setGu g fun u => { u with prot := ok, acc := false, refused := false, uncorr := true })
  | (s1, _) => some (s1.setGu g fun u => { u with prot := ok, acc := false, refused := true })

/-- The command. -/
def execLoad (g : Fin 2) (d : BitVec 96) (x : GabIn) (s : State) : Host.Outcome State Fault Refusal :=
  done s (s.gabOp g d 0x02 fun s p => s.uopLoad g d x p)

/-- STORE: SIZE bytes of MDR at MAR at the present level. -/
def State.uopStore (s : State) (g : Fin 2) (d : BitVec 96) (p : GabPre) : State :=
  let a := p.mar.toNat
  let ok := s.writeOk g (s.gable g).lvl a
  match s.gabStore g (s.gable g).lvl a (guSIZE d) p.mdr.toNat with
  | (s1, .ok _) => s1.setGu g fun u => { u with prot := ok, acc := true, refused := false }
  | (s1, _) => s1.setGu g fun u => { u with prot := ok, acc := false, refused := true }

/-- The command. -/
def execStore (g : Fin 2) (d : BitVec 96) (s : State) : Host.Outcome State Fault Refusal :=
  done s (s.gabOp g d 0x03 fun s p => some (s.uopStore g d p))

/-- CSRRD: MDR takes the CSR that the word names, as it stood before the word (R387). -/
def execCsrrd (g : Fin 2) (d : BitVec 96) (s : State) : Host.Outcome State Fault Refusal :=
  done s (s.gabOp g d 0x04 fun s p =>
    some ((s.csrRead g ((s.gable g).csrOf d)).1.setGu g fun u => { u with mdr := BitVec.ofNat 64 p.csr }))

/-- CSRWR: the CSR that the word names takes MDR. -/
def execCsrwr (g : Fin 2) (d : BitVec 96) (s : State) : Host.Outcome State Fault Refusal :=
  done s (s.gabOp g d 0x05 fun s p => some (s.csrWrite g ((s.gable g).csrOf d) p.mdr))

/-- The vectors that R434's entry serves. -/
def trapVec (v : Nat) : Bool := decide (1 ≤ v ∧ v ≤ 19) || v == vIRQ

/-- R431: the TVAL and INFO that an entry with a vector takes from IR, MAR and the shadow stack. [DEDUCED, assumption log 80] -/
def GabSt.trapArgs (x : GabSt) (vec mar : Nat) : Nat × Nat :=
  if vec ≤ 2 then (x.u.ir.toNat, gabInfo x.u.ir)
  else if vec ≤ 8 ∨ vec = vCFI ∨ vec = vMEM_UE ∨ vec = vCODE_UE then (mar, 0)
  else if vec = vSS_FAULT then (x.spillAt, 0)
  else if 13 ≤ vec ∧ vec ≤ 15 then (0, iCsr x.u.ir)
  else (0, 0)

/-- UOP_TRAP: the entry of R434 with VEC; EPC is PC as it stands. A vector that is reserved is not raised. -/
def execUopTrap (g : Fin 2) (d : BitVec 96) (x : GabIn) (s : State) : Host.Outcome State Fault Refusal :=
  done s (s.gabOp g d 0x06 fun s p =>
    let (tval, info) := (s.gable g).trapArgs (guVEC d) p.mar.toNat
    if !trapVec (guVEC d) then some s
    else if s.tableBusy g then none
    else some (s.gabTrap g (guVEC d) p.pc.toNat tval info x.tab))

/-- XRET: R437. -/
def execXret (g : Fin 2) (d : BitVec 96) (s : State) : Host.Outcome State Fault Refusal :=
  done s (s.gabOp g d 0x07 fun s _ => some (s.setGab g { (s.gable g).eret with pc := (s.gable g).epc }))

/-- FENT: the entry of R440. -/
def execFent (g : Fin 2) (d : BitVec 96) (x : GabIn) (s : State) : Host.Outcome State Fault Refusal :=
  done s (s.gabOp g d 0x08 fun s p =>
    if s.tableBusy g then none else some ((s.setGab g { s.gable g with pc := p.pc }).gabFirqEnter g x.tab))

/-- FRET: the return of R440. -/
def execFret (g : Fin 2) (d : BitVec 96) (s : State) : Host.Outcome State Fault Refusal :=
  done s (s.gabOp g d 0x09 fun s _ => some (s.setGab g { (s.gable g).firet with pc := smGet (fun _ => 0) (s.gable g).r 47 }))

/-- SSPUSH: source A is pushed; a push that needs a spill does nothing if the spill area does not pass its check. -/
def execSspush (g : Fin 2) (d : BitVec 96) (s : State) : Host.Outcome State Fault Refusal :=
  done s (s.gabOp g d 0x0A fun s p =>
    let ok := !(s.gable g).ssFull || (s.gable g).spillFits g
    some ((if ok then s.ssPush g p.a else s).setGu g fun u => { u with spillOk := ok }))

/-- SSCHK: source A is compared with the top entry, after a fill if one is needed; a match pops. -/
def State.ssCheck (s : State) (g : Fin 2) (x : GabIn) (p : GabPre) : Option State :=
  if (s.gable g).mustFill && s.gabMarching g (s.gable g).ssBase.toNat then none
  else match (if (s.gable g).mustFill then s.readClear g else s).ssFill g x.mem with
    | (s1, some (v, _)) => some (s1.setGu g fun u => { u with matched := false, uncorr := v == vMEM_UE })
    | (s1, none) =>
      match (s1.gable g).ss with
      | [] => some (s1.setGu g fun u => { u with matched := false })
      | e :: r =>
        some (if e = p.a then (s1.setGab g { s1.gable g with ss := r }).setGu g fun u => { u with matched := true }
        else s1.setGu g fun u => { u with matched := false })

/-- The command. -/
def execSschk (g : Fin 2) (d : BitVec 96) (x : GabIn) (s : State) : Host.Outcome State Fault Refusal :=
  done s (s.gabOp g d 0x0B fun s p => s.ssCheck g x p)

/-- WKICK: the watchdog is kicked (R445). -/
def execWkick (g : Fin 2) (d : BitVec 96) (s : State) : Host.Outcome State Fault Refusal := done s (s.gabOp g d 0x0C fun s _ => some (s.wdogKick g))

/-- UOP_WFI: the words that follow wait as WFI does. -/
def execUopWfi (g : Fin 2) (d : BitVec 96) (s : State) : Host.Outcome State Fault Refusal :=
  done s (s.gabOp g d 0x0D fun s _ => some (s.setGab g { s.gable g with wfi := true }))

/-- UOP_FENCE: the words that follow wait for the earlier window writes. -/
def execUopFence (g : Fin 2) (d : BitVec 96) (s : State) : Host.Outcome State Fault Refusal :=
  done s (s.gabOp g d 0x0E fun s _ => some (s.setGab g { s.gable g with fence := true }))

end Sys2Proof.Machine
end

