-- ==== Sys2Proof/Machine/Seq.lean ====
section
/-! DEFINITION. The sequencing operations and the ALU operations of every micro-engine: sequencers 0 to 71 are the spars, 72 and 73 the gables (R382, R384 to R389, R402, R451, R452). -/

namespace Sys2Proof.Machine

/-! ## One sequencer -/

/-- The state of sequencer i. -/
def State.sq (s : State) (i : Nat) : SprSt := if i < 72 then s.sp i else (s.gable (i - 72)).u.q

def State.setSq (s : State) (i : Nat) (p : SprSt) : State :=
  if i < 72 then s.setSp i p else s.setGu (i - 72) fun u => { u with q := p }

/-- The words of a control store (R381, R451). -/
def sqSize (i : Nat) : Nat := if i < 72 then 8192 else 16384

def State.sqCond (s : State) (i : Nat) (w : BitVec 128) : Bool :=
  if i < 72 then s.cond i w (wCSEL w) else s.gabCond (i - 72) w (wCSEL w)

def State.sqTrap (s : State) (i cause saved : Nat) (residue : Nat := 0) : State :=
  if i < 72 then s.microTrap i cause saved residue else s.gabMicroTrap (i - 72) cause saved residue

/-- The address of the word last fetched. -/
def State.sqUpc (s : State) (i : Nat) : Nat := if i < 72 then s.rf (pgSPR i) SPR_STAT_UPC else (s.gable (i - 72)).u.upc

/-- Sequencer i runs, whether or not it waits. -/
def State.sqGoes (s : State) (i : Nat) : Bool := if i < 72 then s.sparGoes i else s.gabMicroGoes (i - 72)

/-- A spar shows its waits in SPR_STAT. -/
def State.sqWaiting (s : State) (i v : Nat) : State := if i < 72 then s.wf (pgSPR i) SPR_STAT_WAITING v else s

/-- The fetch of the next word, whose SEQ must be `q`, and what the word does. -/
def State.sqRow (s : State) (i : Nat) (bad : Bool) (q : Nat) (eff : State → Nat → BitVec 128 → State) : State :=
  if i < 72 then s.seqRow i bad q eff else s.gabSeqRow (i - 72) bad q eff

/-- Go to a word. -/
def State.sqGo (s : State) (i a : Nat) : State := s.setSq i { s.sq i with next := a % sqSize i }

def State.setCl (s : State) (i : Nat) (b : Bool) : State := s.setSq i { s.sq i with cl := b }

/-- CALL: a ninth push traps with STACK. -/
def State.sqCall (s : State) (i a na : Nat) : State :=
  let p := s.sq i
  if 8 ≤ p.stack.length then s.sqTrap i 4 a
  else s.setSq i { p with stack := ((a + 1) % sqSize i) :: p.stack, next := na }

/-- RET: a pop of an empty stack traps with STACK. -/
def State.sqRet (s : State) (i a : Nat) : State :=
  let p := s.sq i
  match p.stack with
  | [] => s.sqTrap i 4 a
  | t :: r => s.setSq i { p with stack := r, next := t }

/-- What DISPATCH adds to NA: v[RA], or source A, masked. -/
def State.sqIndex (s : State) (i : Nat) (w : BitVec 128) : Nat :=
  if i < 72 then ((s.sp i).rd (dpRA (wDP w))).toNat % 2 ^ dpOPT (wDP w)
  else ((s.gable (i - 72)).srcA (wDP w)).toNat % 2 ^ (guUIMM (wDP w) % 16)

/-- R402: the end of a micro-trap: the frame's values come back. -/
def State.sqTrapret (s : State) (i : Nat) : State :=
  let p := s.sq i
  match p.frame with
  | [] => s
  | f :: r =>
    let s1 := s.setSq i { p with frame := r, cl := f.cl, lc0 := f.lc0, lc1 := f.lc1, next := f.saved, residue := f.residue }
    if i < 72 then s1.showFrame i
    else
      let s2 := s1.setGu (i - 72) fun u => { u with causes := u.causes.drop 1 }
      s2.setGab (i - 72) ((s2.gable (i - 72)).pass 3)

/-! ## The sequencing operations (R384) -/

/-- SEQ_HALT. -/
def execSeqHalt (i : Fin 74) (bad : Bool) (s : State) : Host.Outcome State Fault Refusal :=
  done s (s.sqRow i bad 0 fun s _ _ =>
    if i.val < 72 then s.haltSpar i (if (s.sp i).frame.isEmpty then 1 else 2) else s.gabHaltWord (i.val - 72))

/-- SEQ_NEXT. -/
def execSeqNext (i : Fin 74) (bad : Bool) (s : State) : Host.Outcome State Fault Refusal :=
  done s (s.sqRow i bad 1 fun s _ _ => s)

/-- SEQ_JUMP. -/
def execSeqJump (i : Fin 74) (bad : Bool) (s : State) : Host.Outcome State Fault Refusal :=
  done s (s.sqRow i bad 2 fun s _ w => s.sqGo i (wNA w))

/-- JCOND. -/
def execJcond (i : Fin 74) (bad : Bool) (s : State) : Host.Outcome State Fault Refusal :=
  done s (s.sqRow i bad 3 fun s _ w =>
    let c := s.sqCond i w
    let s1 := s.setCl i c
    if c then s1.sqGo i (wNA w) else s1)

/-- JNCOND. -/
def execJncond (i : Fin 74) (bad : Bool) (s : State) : Host.Outcome State Fault Refusal :=
  done s (s.sqRow i bad 4 fun s _ w =>
    let c := s.sqCond i w
    let s1 := s.setCl i c
    if c then s1 else s1.sqGo i (wNA w))

/-- SEQ_CALL. -/
def execSeqCall (i : Fin 74) (bad : Bool) (s : State) : Host.Outcome State Fault Refusal :=
  done s (s.sqRow i bad 5 fun s a w => s.sqCall i a (wNA w))

/-- CALLC. A word that traps with STACK has no other effect. -/
def execCallc (i : Fin 74) (bad : Bool) (s : State) : Host.Outcome State Fault Refusal :=
  done s (s.sqRow i bad 6 fun s a w =>
    let c := s.sqCond i w
    if !c then s.setCl i false
    else if 8 ≤ (s.sq i).stack.length then s.sqTrap i 4 a
    else (s.setCl i true).sqCall i a (wNA w))

/-- SEQ_RET. -/
def execSeqRet (i : Fin 74) (bad : Bool) (s : State) : Host.Outcome State Fault Refusal :=
  done s (s.sqRow i bad 7 fun s a _ => s.sqRet i a)

/-- RETC. -/
def execRetc (i : Fin 74) (bad : Bool) (s : State) : Host.Outcome State Fault Refusal :=
  done s (s.sqRow i bad 8 fun s a w =>
    let c := s.sqCond i w
    if !c then s.setCl i false
    else if (s.sq i).stack.isEmpty then s.sqTrap i 4 a
    else (s.setCl i true).sqRet i a)

/-- LOOP0. -/
def execLoop0 (i : Fin 74) (bad : Bool) (s : State) : Host.Outcome State Fault Refusal :=
  done s (s.sqRow i bad 9 fun s _ w =>
    let p := s.sq i
    if p.lc0 = 0 then s else s.setSq i { p with lc0 := p.lc0 - 1, next := wNA w })

/-- LOOP1. -/
def execLoop1 (i : Fin 74) (bad : Bool) (s : State) : Host.Outcome State Fault Refusal :=
  done s (s.sqRow i bad 10 fun s _ w =>
    let p := s.sq i
    if p.lc1 = 0 then s else s.setSq i { p with lc1 := p.lc1 - 1, next := wNA w })

/-- DISPATCH_WORD: NA plus the masked index; the sum keeps the bits of an address. -/
def execDispatchWord (i : Fin 74) (bad : Bool) (s : State) : Host.Outcome State Fault Refusal :=
  done s (s.sqRow i bad 11 fun s _ w =>
    s.sqGo i (wNA w + s.sqIndex i w))

/-- SEQ_WAIT: the wait begins, with the residue of a resumed one as its limit (R402). -/
def execSeqWait (i : Fin 74) (bad : Bool) (s : State) : Host.Outcome State Fault Refusal :=
  let res := (s.sq i).residue
  done s (s.sqRow i bad 12 fun s _ w =>
    (s.setSq i { s.sq i with hold := .wait (if res = 0 then waitLimit (wWLIM w) else res) }).sqWaiting i 1)

/-- WAIT_END: the awaited condition holds. The word's ALU operation and micro-operation follow. -/
def execWaitEnd (i : Fin 74) (s : State) : Host.Outcome State Fault Refusal :=
  let p := s.sq i
  done s (match p.hold with
    | .wait _ =>
      if s.sqGoes i && s.sqCond i p.word then
        (s.setSq i { p with hold := .none, cl := true, next := wNA p.word % sqSize i }).sqWaiting i 0
      else s
    | _ => s)

/-- WAIT_TIMEOUT: the limit passes first; a condition that holds now wins (R385). -/
def execWaitTimeout (i : Fin 74) (s : State) : Host.Outcome State Fault Refusal :=
  let p := s.sq i
  done s (match p.hold with
    | .wait lim =>
      if s.sqGoes i && lim != 0 && !s.sqCond i p.word then
        (s.setCl i false).sqTrap i 1 (s.sqUpc i)
      else s
    | _ => s)

/-- SEQ_TRAP: micro-trap SWTRAP, which saves NA. -/
def execSeqTrap (i : Fin 74) (bad : Bool) (s : State) : Host.Outcome State Fault Refusal :=
  done s (s.sqRow i bad 13 fun s _ w => s.sqTrap i 6 (wNA w))

/-- TRAPRET (R402). -/
def execTrapret (i : Fin 74) (bad : Bool) (s : State) : Host.Outcome State Fault Refusal :=
  done s (s.sqRow i bad 14 fun s _ _ => s.sqTrapret i)

/-! ## Stints (R405 to R408) -/

/-- ENDSTINT: the stint ends once the word's ALU operation and micro-operation have taken effect. A gable has no stints, and its word only goes on to the next. -/
def execEndstint (i : Fin 74) (bad : Bool) (s : State) : Host.Outcome State Fault Refusal :=
  done s (s.sqRow i bad 15 fun s _ _ =>
    if 72 ≤ i.val then s
    else if !(s.sp i).busy then s.endStint i
    else s.setSp i { s.sp i with hold := .ending })

/-! ## The ALU operations (R389, R452) -/

/-- An ALU operation of the present word of sequencer i on the fields of its datapath `d`: registers RA and RB of a spar, sources A and B of a gable. [DEDUCED, assumption log 62] -/
def State.aluRow (s : State) (i : Nat) (d : BitVec 96) (code : Nat) (f : BitVec 36 → BitVec 36 → BitVec 36)
    (fl : BitVec 36 → BitVec 36 → AluFlags) (h : Word64 → Word64 → GabFlags) : State :=
  if i < 72 then s.alu2 i d code f fl else s.gabAlu2 (i - 72) d code h

/-- ALU_NOP: the word has no ALU operation that has still to take effect. -/
def execAluNop (i : Fin 74) (d : BitVec 96) (s : State) : Host.Outcome State Fault Refusal :=
  done s (if i.val < 72 then s.alu i d 0 fun _ p => p else s.gabAlu (i.val - 72) d 0 fun s => s)

/-- ALU_ADD. -/
def execAluAdd (i : Fin 74) (d : BitVec 96) (s : State) : Host.Outcome State Fault Refusal :=
  done s (s.aluRow i d 1 (· + ·) addFlags gAdd)

/-- ALU_SUB. -/
def execAluSub (i : Fin 74) (d : BitVec 96) (s : State) : Host.Outcome State Fault Refusal :=
  done s (s.aluRow i d 2 (· - ·) subFlags gSub)

/-- ALU_AND. -/
def execAluAnd (i : Fin 74) (d : BitVec 96) (s : State) : Host.Outcome State Fault Refusal :=
  done s (s.aluRow i d 3 (· &&& ·) (logicFlags (· &&& ·)) fun a b => gLogic (a &&& b))

/-- ALU_OR. -/
def execAluOr (i : Fin 74) (d : BitVec 96) (s : State) : Host.Outcome State Fault Refusal :=
  done s (s.aluRow i d 4 (· ||| ·) (logicFlags (· ||| ·)) fun a b => gLogic (a ||| b))

/-- ALU_XOR. -/
def execAluXor (i : Fin 74) (d : BitVec 96) (s : State) : Host.Outcome State Fault Refusal :=
  done s (s.aluRow i d 5 (· ^^^ ·) (logicFlags (· ^^^ ·)) fun a b => gLogic (a ^^^ b))

/-- ALU_SHL: amounts above 35 give 0 in a spar. -/
def execAluShl (i : Fin 74) (d : BitVec 96) (s : State) : Host.Outcome State Fault Refusal :=
  done s (s.aluRow i d 6 shlOp (logicFlags shlOp) gShl)

/-- ALU_SHR. -/
def execAluShr (i : Fin 74) (d : BitVec 96) (s : State) : Host.Outcome State Fault Refusal :=
  done s (s.aluRow i d 7 shrOp (logicFlags shrOp) gShr)

/-- MUL16. -/
def execMul16 (i : Fin 74) (d : BitVec 96) (s : State) : Host.Outcome State Fault Refusal :=
  done s (s.aluRow i d 10 mul16Op (logicFlags mul16Op) gMul16)

/-- MIN. -/
def execMin (i : Fin 74) (d : BitVec 96) (s : State) : Host.Outcome State Fault Refusal :=
  done s (s.aluRow i d 11 minOp (logicFlags minOp) gMin)

/-- MAX. -/
def execMax (i : Fin 74) (d : BitVec 96) (s : State) : Host.Outcome State Fault Refusal :=
  done s (s.aluRow i d 12 maxOp (logicFlags maxOp) gMax)

/-- LDI: IMM or UIMM, zero-extended. -/
def execLdi (i : Fin 74) (d : BitVec 96) (s : State) : Host.Outcome State Fault Refusal :=
  let v := BitVec.ofNat 36 (dpIMM d)
  done s (s.aluRow i d 8 (fun _ _ => v) (fun _ _ => aluFlags v false false) fun _ _ => gLogic (BitVec.ofNat 64 (guUIMM d)))

/-- ADDI. -/
def execAddi (i : Fin 74) (d : BitVec 96) (s : State) : Host.Outcome State Fault Refusal :=
  let v := BitVec.ofNat 36 (dpIMM d)
  done s (s.aluRow i d 9 (fun x _ => x + v) (fun x _ => addFlags x v) fun a _ => gAdd a (BitVec.ofNat 64 (guUIMM d)))

/-- SETLC0. -/
def execSetlc0 (i : Fin 74) (d : BitVec 96) (s : State) : Host.Outcome State Fault Refusal :=
  done s (if i.val < 72 then s.alu i d 13 fun _ p => { p with lc0 := (p.rd (dpRA d)).truncate 16 }
    else s.gabAlu (i.val - 72) d 13 fun s =>
      s.setGu (i.val - 72) fun u => { u with q := { u.q with lc0 := ((s.gable (i.val - 72)).srcA d).truncate 16 } })

/-- SETLC1. -/
def execSetlc1 (i : Fin 74) (d : BitVec 96) (s : State) : Host.Outcome State Fault Refusal :=
  done s (if i.val < 72 then s.alu i d 14 fun _ p => { p with lc1 := (p.rd (dpRA d)).truncate 16 }
    else s.gabAlu (i.val - 72) d 14 fun s =>
      s.setGu (i.val - 72) fun u => { u with q := { u.q with lc1 := ((s.gable (i.val - 72)).srcA d).truncate 16 } })

/-- The pointer of window RA[2:0] of a spar's batten. A yealm's or stook's spar has no windows, and what it reads is open: a free value. [DESIGN CHOICE, assumption log 66] -/
def State.getp (s : State) (i : Nat) (d : BitVec 96) : State :=
  if i < 64 then s.alu i d 15 fun s p => p.wr (dpRD d) (BitVec.ofNat 36 (s.rf (pgBST i) BST_CW_PTR_P (dpRA d % 8)))
  else if !s.sparFree i || !(s.sp i).aluTurn d 15 then s
  else
    let (v, s1) := s.fresh
    s1.alu i d 15 fun _ p => p.wr (dpRD d) (BitVec.ofNat 36 v)

/-- GETP: it reads 0 in a gable. -/
def execGetp (i : Fin 74) (d : BitVec 96) (s : State) : Host.Outcome State Fault Refusal :=
  done s (if i.val < 72 then s.getp i d else s.gabAlu (i.val - 72) d 15 fun s => s.gabDest (i.val - 72) d 0)

end Sys2Proof.Machine
end

