-- ==== Sys2Proof/Machine/Debug.lean ====
section
/-! DEFINITION. Debug access through the test access port: registers, and the debug service of a gable (R649, R650). -/

namespace Sys2Proof.Machine

/-- The debug lock level allows debug access (R648). -/
def State.dbgOpen (s : State) : Bool := decide (s.dbgLevel ≤ 1)

/-- A data register shifts out what it captured, lowest bit first. -/
def State.tapShift (s : State) (ir w v : Nat) : State :=
  { s with tap := { s.tap with ir := ir, pins := .normal } }.emit (.scan ((List.range w).map fun i => v.testBit i))

/-! ## Registers (R649) -/

/-- The access that an Update-DR of DBG_REG starts, and its status: 0 DONE, 2 FORBIDDEN. [DEDUCED, assumption log 87] -/
def State.dbgAccess (s : State) (key : Nat) (wr : Option Word32) : State :=
  let st := if (windowOf key).isSome && !s.windowOpen .debug then 2 else 0
  match wr with
  | some v => let s1 := s.busWrite .debug key true v; { s1 with tap := { s1.tap with data := 0, status := st } }
  | none => let (s1, v) := s.busRead .debug key true .clean; { s1 with tap := { s1.tap with data := v.toNat, status := st } }

/-- DBG_REG: what comes out is the data and the status of the access before. `addr` counts registers. -/
def execDbgReg (addr : Fin 0x1000000) (wr : Option Word32) (data : List Bool) (s : State) : Host.Outcome State Fault Refusal :=
  done s (if !s.watched then s
    else if !s.dbgOpen then s.tapForbidden data
    else (s.tapShift 0x20 64 (s.tap.data + 2 ^ 32 * s.tap.status)).dbgAccess (4 * addr.val) wr)

/-! ## The debug service of a gable (R650) -/

def State.inSvc (s : State) (g : Nat) : Bool := smGet (fun _ => false) s.tap.svc g
def State.setSvc (s : State) (g : Nat) (b : Bool) : State :=
  { s with tap := { s.tap with svc := smSet (fun _ => false) s.tap.svc g b } }

/-- Micro-trap ATTN in a gable: at once, but for a word in mid-effect, which first takes effect whole; a WAIT is interrupted. [DEDUCED, assumption log 87] -/
def State.svcEnter (s : State) (g left : Nat) : State :=
  let q := (s.gable g).u.q
  if !s.gabLive || (s.gable g).halted || s.inSvc g then s
  else if q.busy && q.hold == .none then s.setGu g fun u => { u with attn := true }
  else s.attnEnter g left

/-- The service ends with TRAPRET. -/
def State.svcLeave (s : State) (g : Nat) : State :=
  if s.inSvc g then (s.setSvc g false).sqTrapret (72 + g) else s

/-- DBG_GATTN: what its 3 bits capture is open. -/
def execDbgGattn (g : Fin 2) (cmd : Fin 4) (left : Nat) (data : List Bool) (s : State) : Host.Outcome State Fault Refusal :=
  done s (if !s.watched then s
    else if !s.dbgOpen then s.tapForbidden data
    else
      let (v, s1) := s.fresh
      let s2 := s1.tapShift 0x21 3 v
      if cmd = 1 then s2.svcEnter g left else if cmd = 2 then s2.svcLeave g else s2)

/-- R650: the opcodes that the service refuses. [DEDUCED, assumption log 87] -/
def svcRefuses (w : Word32) : Bool :=
  let op := iOp w
  decide (0x20 ≤ op ∧ op ≤ 0x2C) || decide (0x30 ≤ op ∧ op ≤ 0x33) || op == 0x38

/-- What the last instruction of the service left: g[rd] and the vector. -/
def State.svcResult (s : State) (g rd vec : Nat) : State :=
  { s with tap := { s.tap with gData := s.gRd g rd, gVec := vec } }

/-- R650: the service executes an instruction at level M; PC stays. One that raises a vector has no effect. [DEDUCED, assumption log 87] -/
def State.svcExec (s : State) (g : Fin 2) (w : Word32) (x : GabIn) : State :=
  if svcRefuses w || !gabWord w then s.svcResult g (iRd w) vILLEGAL
  else match gabBody (gabKey w) s g 2 w x with
    | .done s1 cyc _ fin => (fin (s1.gabRetire g cyc (s.gPc g))).svcResult g (iRd w) 0
    | .trap _ vec _ _ _ => s.svcResult g (iRd w) vec
    | .wait => s

/-- DBG_GINSN: what comes out is the result of the instruction before. -/
def execDbgGinsn (g : Fin 2) (w : Word32) (x : GabIn) (data : List Bool) (s : State) : Host.Outcome State Fault Refusal :=
  done s (if !s.watched then s
    else if !s.dbgOpen then s.tapForbidden data
    else
      let s1 := s.tapShift 0x22 72 (s.tap.gData.toNat + 2 ^ 64 * s.tap.gVec)
      if s1.inSvc g then s1.svcExec g w x else s1)

end Sys2Proof.Machine
end

