-- ==== Sys2Proof/Machine/Dispatch.lean ====
section
/-! DEFINITION. The meaning of every command, one arm per constructor. -/

namespace Sys2Proof.Machine

def exec (i : Instr) (s : State) : Host.Outcome State Fault Refusal :=
  match i with
  | .tick uj valid => Sys2Proof.Machine.execTick uj valid s
  | .runPhaseStart => Sys2Proof.Machine.execRunPhaseStart s
  | .planDone => Sys2Proof.Machine.execPlanDone s
  | .budgetSlip => Sys2Proof.Machine.execBudgetSlip s
  | .selectionPoint actual => Sys2Proof.Machine.execSelectionPoint actual s
  | .resvStart => Sys2Proof.Machine.execResvStart s
  | .resvLapse => Sys2Proof.Machine.execResvLapse s
  | .ovrLimit => Sys2Proof.Machine.execOvrLimit s
  | .voltageRamp => Sys2Proof.Machine.execVoltageRamp s
  | .syncMark w phase gap => Sys2Proof.Machine.execSyncMark w phase gap s
  | .syncMarkEmit => Sys2Proof.Machine.execSyncMarkEmit s
  | .syncMiss => Sys2Proof.Machine.execSyncMiss s
  | .syncLost => Sys2Proof.Machine.execSyncLost s
  | .syncBack => Sys2Proof.Machine.execSyncBack s
  | .nextLenArm src v => Sys2Proof.Machine.execNextLenArm src v s
  | .cancel src => Sys2Proof.Machine.execCancel src s
  | .crsNumRead src => Sys2Proof.Machine.execCrsNumRead src s
  | .rcRead src off => Sys2Proof.Machine.execRcRead src off s
  | .enable src pg => Sys2Proof.Machine.execEnable src pg s
  | .disable src pg => Sys2Proof.Machine.execDisable src pg s
  | .startComplete pg => Sys2Proof.Machine.execStartComplete pg s
  | .drainComplete pg => Sys2Proof.Machine.execDrainComplete pg s
  | .srst src pg => Sys2Proof.Machine.execSrst src pg s
  | .srstDone pg => Sys2Proof.Machine.execSrstDone pg s
  | .freeze src pg on => Sys2Proof.Machine.execFreeze src pg on s
  | .freezeEffect pg => Sys2Proof.Machine.execFreezeEffect pg s
  | .evtSet src pg v => Sys2Proof.Machine.execEvtSet src pg v s
  | .errClear src pg => Sys2Proof.Machine.execErrClear src pg s
  | .lock src pg => Sys2Proof.Machine.execLock src pg s
  | .registerWrite src off v => Sys2Proof.Machine.execRegisterWrite src off v s
  | .bar0Request src addr n be wr ups => Sys2Proof.Machine.execBar0Request src addr n be wr ups s
  | .oversizeRequest src addr => Sys2Proof.Machine.execOversizeRequest src addr s
  | .storeWindowAccess src reg wr up => Sys2Proof.Machine.execStoreWindowAccess src reg wr up s
  | .controlWordCommit src g w v => Sys2Proof.Machine.execControlWordCommit src g w v s
  | .create src slot => Sys2Proof.Machine.execCreate src slot s
  | .free src slot => Sys2Proof.Machine.execFree src slot s
  | .pin src slot => Sys2Proof.Machine.execPin src slot s
  | .unpin src slot => Sys2Proof.Machine.execUnpin src slot s
  | .evict src slot => Sys2Proof.Machine.execEvict src slot s
  | .fetch src slot => Sys2Proof.Machine.execFetch src slot s
  | .query src slot => Sys2Proof.Machine.execQuery src slot s
  | .stGrant src slot => Sys2Proof.Machine.execStGrant src slot s
  | .stFree src slot => Sys2Proof.Machine.execStFree src slot s
  | .standingGrantApply => Sys2Proof.Machine.execStandingGrantApply s
  | .pageOut => Sys2Proof.Machine.execPageOut s
  | .pageIn => Sys2Proof.Machine.execPageIn s
  | .pageMove ok => Sys2Proof.Machine.execPageMove ok s
  | .pagerPoison h out => Sys2Proof.Machine.execPagerPoison h out s
  | .otRepaired => Sys2Proof.Machine.execOtRepaired s
  | .gutterResume c e => Sys2Proof.Machine.execGutterResume c e s
  | .priorityChange src slot fn prio => Sys2Proof.Machine.execPriorityChange src slot fn prio s
  | .ownerWrite src b j v => Sys2Proof.Machine.execOwnerWrite src b j v s
  | .handoverComplete b bank => Sys2Proof.Machine.execHandoverComplete b bank s
  | .correctionWriteBack b => Sys2Proof.Machine.execCorrectionWriteBack b s
  | .ceFence b => Sys2Proof.Machine.execCeFence b s
  | .fenceRequest src b => Sys2Proof.Machine.execFenceRequest src b s
  | .fenced b => Sys2Proof.Machine.execFenced b s
  | .unfenced b => Sys2Proof.Machine.execUnfenced b s
  | .marchRequest src b mode => Sys2Proof.Machine.execMarchRequest src b mode s
  | .marchStart b => Sys2Proof.Machine.execMarchStart b s
  | .marchDone b faults => Sys2Proof.Machine.execMarchDone b faults s
  | .repairWrite src b bank v => Sys2Proof.Machine.execRepairWrite src b bank v s
  | .modeChange b a => Sys2Proof.Machine.execModeChange b a s
  | .modeChangeDone b a => Sys2Proof.Machine.execModeChangeDone b a s
  | .modulusEntryCheck src b e v => Sys2Proof.Machine.execModulusEntryCheck src b e v s
  | .modValid b e => Sys2Proof.Machine.execModValid b e s
  | .modulusValueWrite src b e k v => Sys2Proof.Machine.execModulusValueWrite src b e k v s
  | .ksDescriptor y => Sys2Proof.Machine.execKsDescriptor y s
  | .preStages y => Sys2Proof.Machine.execPreStages y s
  | .keyStream y bad => Sys2Proof.Machine.execKeyStream y bad s
  | .postStages y => Sys2Proof.Machine.execPostStages y s
  | .outputWrite y => Sys2Proof.Machine.execOutputWrite y s
  | .kat src y v => Sys2Proof.Machine.execKat src y v s
  | .katDone y fail => Sys2Proof.Machine.execKatDone y fail s
  | .pillar n ce ue => Sys2Proof.Machine.execPillar n ce ue s
  | .sort3 n ce ue => Sys2Proof.Machine.execSort3 n ce ue s
  | .ball n ce ue => Sys2Proof.Machine.execBall n ce ue s
  | .knn n ce ue => Sys2Proof.Machine.execKnn n ce ue s
  | .beatPairArrival recv issuer cls seq half hbm eng pair rivals => Sys2Proof.Machine.execBeatPairArrival recv issuer cls seq half hbm eng pair rivals s
  | .splitTimeout recv issuer cls n ch => Sys2Proof.Machine.execSplitTimeout recv issuer cls n ch s
  | .hbmRead n b errs planReads => Sys2Proof.Machine.execHbmRead n b errs planReads s
  | .partialWrite n b first bs errs => Sys2Proof.Machine.execPartialWrite n b first bs errs s
  | .parity n pc kind => Sys2Proof.Machine.execParity n pc kind s
  | .retryCheck n pc ok => Sys2Proof.Machine.execRetryCheck n pc ok s
  | .lane n pc => Sys2Proof.Machine.execLane n pc s
  | .repair n pc lane ok => Sys2Proof.Machine.execRepair n pc lane ok s
  | .stackLost n => Sys2Proof.Machine.execStackLost n s
  | .tempReading n valid t => Sys2Proof.Machine.execTempReading n valid t s
  | .classDown n => Sys2Proof.Machine.execClassDown n s
  | .scrub n errs => Sys2Proof.Machine.execScrub n errs s
  | .trainStart src n => Sys2Proof.Machine.execTrainStart src n s
  | .trainPhaseDone n fail lanes => Sys2Proof.Machine.execTrainPhaseDone n fail lanes s
  | .abort src n => Sys2Proof.Machine.execAbort src n s
  | .seqHalt ix bad => Sys2Proof.Machine.execSeqHalt ix bad s
  | .seqNext ix bad => Sys2Proof.Machine.execSeqNext ix bad s
  | .seqJump ix bad => Sys2Proof.Machine.execSeqJump ix bad s
  | .jcond ix bad => Sys2Proof.Machine.execJcond ix bad s
  | .jncond ix bad => Sys2Proof.Machine.execJncond ix bad s
  | .seqCall ix bad => Sys2Proof.Machine.execSeqCall ix bad s
  | .callc ix bad => Sys2Proof.Machine.execCallc ix bad s
  | .seqRet ix bad => Sys2Proof.Machine.execSeqRet ix bad s
  | .retc ix bad => Sys2Proof.Machine.execRetc ix bad s
  | .loop0 ix bad => Sys2Proof.Machine.execLoop0 ix bad s
  | .loop1 ix bad => Sys2Proof.Machine.execLoop1 ix bad s
  | .dispatchWord ix bad => Sys2Proof.Machine.execDispatchWord ix bad s
  | .seqWait ix bad => Sys2Proof.Machine.execSeqWait ix bad s
  | .waitEnd ix => Sys2Proof.Machine.execWaitEnd ix s
  | .waitTimeout ix => Sys2Proof.Machine.execWaitTimeout ix s
  | .seqTrap ix bad => Sys2Proof.Machine.execSeqTrap ix bad s
  | .trapret ix bad => Sys2Proof.Machine.execTrapret ix bad s
  | .endstint ix bad => Sys2Proof.Machine.execEndstint ix bad s
  | .swayWaitEnd e => Sys2Proof.Machine.execSwayWaitEnd e s
  | .aluNop ix d => Sys2Proof.Machine.execAluNop ix d s
  | .aluAdd ix d => Sys2Proof.Machine.execAluAdd ix d s
  | .aluSub ix d => Sys2Proof.Machine.execAluSub ix d s
  | .aluAnd ix d => Sys2Proof.Machine.execAluAnd ix d s
  | .aluOr ix d => Sys2Proof.Machine.execAluOr ix d s
  | .aluXor ix d => Sys2Proof.Machine.execAluXor ix d s
  | .aluShl ix d => Sys2Proof.Machine.execAluShl ix d s
  | .aluShr ix d => Sys2Proof.Machine.execAluShr ix d s
  | .ldi ix d => Sys2Proof.Machine.execLdi ix d s
  | .addi ix d => Sys2Proof.Machine.execAddi ix d s
  | .mul16 ix d => Sys2Proof.Machine.execMul16 ix d s
  | .min ix d => Sys2Proof.Machine.execMin ix d s
  | .max ix d => Sys2Proof.Machine.execMax ix d s
  | .setlc0 ix d => Sys2Proof.Machine.execSetlc0 ix d s
  | .setlc1 ix d => Sys2Proof.Machine.execSetlc1 ix d s
  | .getp ix d => Sys2Proof.Machine.execGetp ix d s
  | .nop ix => Sys2Proof.Machine.execNop ix s
  | .clear b d => Sys2Proof.Machine.execClear b d s
  | .lload b d ups => Sys2Proof.Machine.execLload b d ups s
  | .mac b d upsA upsB par => Sys2Proof.Machine.execMac b d upsA upsB par s
  | .drain b d par => Sys2Proof.Machine.execDrain b d par s
  | .pload b d ups => Sys2Proof.Machine.execPload b d ups s
  | .pstore b d par => Sys2Proof.Machine.execPstore b d par s
  | .modAdd b d par => Sys2Proof.Machine.execModAdd b d par s
  | .modSub b d par => Sys2Proof.Machine.execModSub b d par s
  | .neg b d par => Sys2Proof.Machine.execNeg b d par s
  | .ewmul b d ups par => Sys2Proof.Machine.execEwmul b d ups par s
  | .ewmac b d ups par => Sys2Proof.Machine.execEwmac b d ups par s
  | .tom b d par => Sys2Proof.Machine.execTom b d par s
  | .mulp b d par => Sys2Proof.Machine.execMulp b d par s
  | .ntt b d par => Sys2Proof.Machine.execNtt b d par s
  | .intt b d par => Sys2Proof.Machine.execIntt b d par s
  | .rqload b d ups => Sys2Proof.Machine.execRqload b d ups s
  | .modload b d ups => Sys2Proof.Machine.execModload b d ups s
  | .colmap b d ups => Sys2Proof.Machine.execColmap b d ups s
  | .wset b d => Sys2Proof.Machine.execWset b d s
  | .wgroup b d => Sys2Proof.Machine.execWgroup b d s
  | .acquire m => Sys2Proof.Machine.execAcquire m s
  | .acquireResume m => Sys2Proof.Machine.execAcquireResume m s
  | .post m => Sys2Proof.Machine.execPost m s
  | .postApply p => Sys2Proof.Machine.execPostApply p s
  | .take m => Sys2Proof.Machine.execTake m s
  | .release m => Sys2Proof.Machine.execRelease m s
  | .srd b d up => Sys2Proof.Machine.execSrd b d up s
  | .swr b d => Sys2Proof.Machine.execSwr b d s
  | .storeTest b d => Sys2Proof.Machine.execStoreTest b d s
  | .storeRepair b d => Sys2Proof.Machine.execStoreRepair b d s
  | .csTest ix d => Sys2Proof.Machine.execCsTest ix d s
  | .engineMicroOperation ix d => Sys2Proof.Machine.execEngineMicroOperation ix d s
  | .park src ix v => Sys2Proof.Machine.execPark src ix v s
  | .parked ix => Sys2Proof.Machine.execParked ix s
  | .sprRun src ix v => Sys2Proof.Machine.execSprRun src ix v s
  | .attn src ix v left => Sys2Proof.Machine.execAttn src ix v left s
  | .csCommit src ix v => Sys2Proof.Machine.execCsCommit src ix v s
  | .patchMatchWrite src ix m v => Sys2Proof.Machine.execPatchMatchWrite src ix m v s
  | .csTestRequest src ix v => Sys2Proof.Machine.execCsTestRequest src ix v s
  | .csTestDone ix bad => Sys2Proof.Machine.execCsTestDone ix bad s
  | .add g x => Sys2Proof.Machine.execAdd g x s
  | .sub g x => Sys2Proof.Machine.execSub g x s
  | .and g x => Sys2Proof.Machine.execAnd g x s
  | .or g x => Sys2Proof.Machine.execOr g x s
  | .xor g x => Sys2Proof.Machine.execXor g x s
  | .andn g x => Sys2Proof.Machine.execAndn g x s
  | .shl g x => Sys2Proof.Machine.execShl g x s
  | .shr g x => Sys2Proof.Machine.execShr g x s
  | .shra g x => Sys2Proof.Machine.execShra g x s
  | .clt g x => Sys2Proof.Machine.execClt g x s
  | .cltu g x => Sys2Proof.Machine.execCltu g x s
  | .mul g x => Sys2Proof.Machine.execMul g x s
  | .mulhs g x => Sys2Proof.Machine.execMulhs g x s
  | .mulhu g x => Sys2Proof.Machine.execMulhu g x s
  | .divs g x => Sys2Proof.Machine.execDivs g x s
  | .divu g x => Sys2Proof.Machine.execDivu g x s
  | .mods g x => Sys2Proof.Machine.execMods g x s
  | .modu g x => Sys2Proof.Machine.execModu g x s
  | .mins g x => Sys2Proof.Machine.execMins g x s
  | .maxs g x => Sys2Proof.Machine.execMaxs g x s
  | .minu g x => Sys2Proof.Machine.execMinu g x s
  | .maxu g x => Sys2Proof.Machine.execMaxu g x s
  | .popc g x => Sys2Proof.Machine.execPopc g x s
  | .addk g x => Sys2Proof.Machine.execAddk g x s
  | .andk g x => Sys2Proof.Machine.execAndk g x s
  | .ork g x => Sys2Proof.Machine.execOrk g x s
  | .xork g x => Sys2Proof.Machine.execXork g x s
  | .shlk g x => Sys2Proof.Machine.execShlk g x s
  | .shrk g x => Sys2Proof.Machine.execShrk g x s
  | .shrak g x => Sys2Proof.Machine.execShrak g x s
  | .cltk g x => Sys2Proof.Machine.execCltk g x s
  | .ldh g x => Sys2Proof.Machine.execLdh g x s
  | .ldpc g x => Sys2Proof.Machine.execLdpc g x s
  | .ld8 g x => Sys2Proof.Machine.execLd8 g x s
  | .ld8u g x => Sys2Proof.Machine.execLd8u g x s
  | .ld16 g x => Sys2Proof.Machine.execLd16 g x s
  | .ld16u g x => Sys2Proof.Machine.execLd16u g x s
  | .ld32 g x => Sys2Proof.Machine.execLd32 g x s
  | .ld32u g x => Sys2Proof.Machine.execLd32u g x s
  | .ld64 g x => Sys2Proof.Machine.execLd64 g x s
  | .st8 g x => Sys2Proof.Machine.execSt8 g x s
  | .st16 g x => Sys2Proof.Machine.execSt16 g x s
  | .st32 g x => Sys2Proof.Machine.execSt32 g x s
  | .st64 g x => Sys2Proof.Machine.execSt64 g x s
  | .jc g x => Sys2Proof.Machine.execJc g x s
  | .jl g x => Sys2Proof.Machine.execJl g x s
  | .jlr g x => Sys2Proof.Machine.execJlr g x s
  | .call g x => Sys2Proof.Machine.execCall g x s
  | .callr g x => Sys2Proof.Machine.execCallr g x s
  | .ret g x => Sys2Proof.Machine.execRet g x s
  | .svc g x => Sys2Proof.Machine.execSvc g x s
  | .eret g x => Sys2Proof.Machine.execEret g x s
  | .firet g x => Sys2Proof.Machine.execFiret g x s
  | .wfi g x => Sys2Proof.Machine.execWfi g x s
  | .wfiEnd g wait => Sys2Proof.Machine.execWfiEnd g wait s
  | .crd g x => Sys2Proof.Machine.execCrd g x s
  | .cxch g x => Sys2Proof.Machine.execCxch g x s
  | .cbset g x => Sys2Proof.Machine.execCbset g x s
  | .cbclr g x => Sys2Proof.Machine.execCbclr g x s
  | .brk g x => Sys2Proof.Machine.execBrk g x s
  | .fence g x => Sys2Proof.Machine.execFence g x s
  | .fenceComplete g wait => Sys2Proof.Machine.execFenceComplete g wait s
  | .irq g tab => Sys2Proof.Machine.execIrq g tab s
  | .firq g tab => Sys2Proof.Machine.execFirq g tab s
  | .wdogTrap g tab => Sys2Proof.Machine.execWdogTrap g tab s
  | .wdogReset g => Sys2Proof.Machine.execWdogReset g s
  | .stop src g => Sys2Proof.Machine.execStop src g s
  | .stopped g => Sys2Proof.Machine.execStopped g s
  | .start src g => Sys2Proof.Machine.execStart src g s
  | .gableReset src g => Sys2Proof.Machine.execGableReset src g s
  | .gableMarch src g v => Sys2Proof.Machine.execGableMarch src g v s
  | .gableMarchDone g pass => Sys2Proof.Machine.execGableMarchDone g pass s
  | .gablePatchWrite src g m v => Sys2Proof.Machine.execGablePatchWrite src g m v s
  | .uopNop g d => Sys2Proof.Machine.execUopNop g d s
  | .uopFetch g d x => Sys2Proof.Machine.execUopFetch g d x s
  | .load g d x => Sys2Proof.Machine.execLoad g d x s
  | .store g d => Sys2Proof.Machine.execStore g d s
  | .csrrd g d => Sys2Proof.Machine.execCsrrd g d s
  | .csrwr g d => Sys2Proof.Machine.execCsrwr g d s
  | .uopTrap g d x => Sys2Proof.Machine.execUopTrap g d x s
  | .xret g d => Sys2Proof.Machine.execXret g d s
  | .fent g d x => Sys2Proof.Machine.execFent g d x s
  | .fret g d => Sys2Proof.Machine.execFret g d s
  | .sspush g d => Sys2Proof.Machine.execSspush g d s
  | .sschk g d x => Sys2Proof.Machine.execSschk g d x s
  | .wkick g d => Sys2Proof.Machine.execWkick g d s
  | .uopWfi g d => Sys2Proof.Machine.execUopWfi g d s
  | .uopFence g d => Sys2Proof.Machine.execUopFence g d s
  | .irqClaim src => Sys2Proof.Machine.execIrqClaim src s
  | .irqFclaim src => Sys2Proof.Machine.execIrqFclaim src s
  | .irqComplete src n => Sys2Proof.Machine.execIrqComplete src n s
  | .irqHcomplete src n => Sys2Proof.Machine.execIrqHcomplete src n s
  | .irqSet src n => Sys2Proof.Machine.execIrqSet src n s
  | .irqXset src g n => Sys2Proof.Machine.execIrqXset src g n s
  | .irqSrcWrite src n v => Sys2Proof.Machine.execIrqSrcWrite src n v s
  | .msixSend => Sys2Proof.Machine.execMsixSend s
  | .superframe => Sys2Proof.Machine.execSuperframe s
  | .ctrlFrame p ce f => Sys2Proof.Machine.execCtrlFrame p ce f s
  | .ringTimeout => Sys2Proof.Machine.execRingTimeout s
  | .dataFrame p ce v first last seq bs => Sys2Proof.Machine.execDataFrame p ce v first last seq bs s
  | .eocFrame p ce course ovr => Sys2Proof.Machine.execEocFrame p ce course ovr s
  | .eocSend => Sys2Proof.Machine.execEocSend s
  | .msgFrame p ce g seq dest src hops data => Sys2Proof.Machine.execMsgFrame p ce g seq dest src hops data s
  | .idleFrame p ce zeros => Sys2Proof.Machine.execIdleFrame p ce zeros s
  | .j3Map => Sys2Proof.Machine.execJ3Map s
  | .consignmentSend => Sys2Proof.Machine.execConsignmentSend s
  | .postingWrite src q valid h => Sys2Proof.Machine.execPostingWrite src q valid h s
  | .msgSend src g dest => Sys2Proof.Machine.execMsgSend src g dest s
  | .msgTransmit g => Sys2Proof.Machine.execMsgTransmit g s
  | .rxpop src g => Sys2Proof.Machine.execRxpop src g s
  | .calibrationStep c => Sys2Proof.Machine.execCalibrationStep c s
  | .shadowStart => Sys2Proof.Machine.execShadowStart s
  | .verdict same ce skew => Sys2Proof.Machine.execVerdict same ce skew s
  | .rejoin => Sys2Proof.Machine.execRejoin s
  | .calTimeout => Sys2Proof.Machine.execCalTimeout s
  | .retired side => Sys2Proof.Machine.execRetired side s
  | .laneDown => Sys2Proof.Machine.execLaneDown s
  | .failover => Sys2Proof.Machine.execFailover s
  | .bringupLock side lock runs => Sys2Proof.Machine.execBringupLock side lock runs s
  | .flsArm src v => Sys2Proof.Machine.execFlsArm src v s
  | .burn src word => Sys2Proof.Machine.execBurn src word s
  | .mread src word => Sys2Proof.Machine.execMread src word s
  | .nread src word => Sys2Proof.Machine.execNread src word s
  | .advRb src n => Sys2Proof.Machine.execAdvRb src n s
  | .raiseDbg src level => Sys2Proof.Machine.execRaiseDbg src level s
  | .flsLock src v => Sys2Proof.Machine.execFlsLock src v s
  | .read src => Sys2Proof.Machine.execRead src s
  | .prog src => Sys2Proof.Machine.execProg src s
  | .erase src => Sys2Proof.Machine.execErase src s
  | .readId src => Sys2Proof.Machine.execReadId src s
  | .recoveryErase fail => Sys2Proof.Machine.execRecoveryErase fail s
  | .recoveryWrite fail => Sys2Proof.Machine.execRecoveryWrite fail s
  | .restart => Sys2Proof.Machine.execRestart s
  | .secondRollover => Sys2Proof.Machine.execSecondRollover s
  | .dmrSnap src sub => Sys2Proof.Machine.execDmrSnap src sub s
  | .dmrCommit src go => Sys2Proof.Machine.execDmrCommit src go s
  | .committed => Sys2Proof.Machine.execCommitted s
  | .supply cell mv => Sys2Proof.Machine.execSupply cell mv s
  | .cell mv => Sys2Proof.Machine.execCell mv s
  | .dormerStop => Sys2Proof.Machine.execDormerStop s
  | .lostPwr cell => Sys2Proof.Machine.execLostPwr cell s
  | .oscFault short => Sys2Proof.Machine.execOscFault short s
  | .oscBack => Sys2Proof.Machine.execOscBack s
  | .logClr src clr => Sys2Proof.Machine.execLogClr src clr s
  | .inputValid => Sys2Proof.Machine.execInputValid s
  | .inUv => Sys2Proof.Machine.execInUv s
  | .inOv => Sys2Proof.Machine.execInOv s
  | .j1Reverse => Sys2Proof.Machine.execJ1Reverse s
  | .inputLoss ov => Sys2Proof.Machine.execInputLoss ov s
  | .onRequest by' => Sys2Proof.Machine.execOnRequest by' s
  | .offRequest by' => Sys2Proof.Machine.execOffRequest by' s
  | .idleRequest src => Sys2Proof.Machine.execIdleRequest src s
  | .runRequest src => Sys2Proof.Machine.execRunRequest src s
  | .riseStepDone => Sys2Proof.Machine.execRiseStepDone s
  | .fallStepDone => Sys2Proof.Machine.execFallStepDone s
  | .pwrAdv src v => Sys2Proof.Machine.execPwrAdv src v s
  | .stepTmo => Sys2Proof.Machine.execStepTmo s
  | .u9Timeout => Sys2Proof.Machine.execU9Timeout s
  | .powerGoodLoss r => Sys2Proof.Machine.execPowerGoodLoss r s
  | .hbmOff => Sys2Proof.Machine.execHbmOff s
  | .pmbTransaction src v => Sys2Proof.Machine.execPmbTransaction src v s
  | .pmbDone st data => Sys2Proof.Machine.execPmbDone st data s
  | .pmbusPoll rs => Sys2Proof.Machine.execPmbusPoll rs s
  | .sensorUpdate k raw => Sys2Proof.Machine.execSensorUpdate k raw s
  | .trip b => Sys2Proof.Machine.execTrip b s
  | .warmReset by' => Sys2Proof.Machine.execWarmReset by' s
  | .perst => Sys2Proof.Machine.execPerst s
  | .flr fn => Sys2Proof.Machine.execFlr fn s
  | .j4In st => Sys2Proof.Machine.execJ4In st s
  | .j4Out st => Sys2Proof.Machine.execJ4Out st s
  | .j5 idA idB => Sys2Proof.Machine.execJ5 idA idB s
  | .supplyReturn => Sys2Proof.Machine.execSupplyReturn s
  | .j3Plug module plug => Sys2Proof.Machine.execJ3Plug module plug s
  | .laserEnable => Sys2Proof.Machine.execLaserEnable s
  | .extest cap data => Sys2Proof.Machine.execExtest cap data s
  | .idcode => Sys2Proof.Machine.execIdcode s
  | .samplePreload cap data => Sys2Proof.Machine.execSamplePreload cap data s
  | .clamp data => Sys2Proof.Machine.execClamp data s
  | .highz data => Sys2Proof.Machine.execHighz data s
  | .bypass data => Sys2Proof.Machine.execBypass data s
  | .dbgReg addr wr data => Sys2Proof.Machine.execDbgReg addr wr data s
  | .dbgGattn g cmd left data => Sys2Proof.Machine.execDbgGattn g cmd left data s
  | .dbgGinsn g w x data => Sys2Proof.Machine.execDbgGinsn g w x data s
  | .patternStep e => Sys2Proof.Machine.execPatternStep e s
  | .patternRestart src e v => Sys2Proof.Machine.execPatternRestart src e v s
  | .regulation loc => Sys2Proof.Machine.execRegulation loc s
  | .lampTest why => Sys2Proof.Machine.execLampTest why s
  | .testDone stat loc nsS nsL => Sys2Proof.Machine.execTestDone stat loc nsS nsL s
  | .bar2Access addr len wr => Sys2Proof.Machine.execBar2Access addr len wr s
  | .windowMap src w valid h => Sys2Proof.Machine.execWindowMap src w valid h s
  | .bind src fn d => Sys2Proof.Machine.execBind src fn d s
  | .unbind src fn d => Sys2Proof.Machine.execUnbind src fn d s
  | .submit src slot fn => Sys2Proof.Machine.execSubmit src slot fn s
  | .cqBacklogWrite fn => Sys2Proof.Machine.execCqBacklogWrite fn s
  | .vmbDoor v code => Sys2Proof.Machine.execVmbDoor v code s
  | .mbDone src v status => Sys2Proof.Machine.execMbDone src v status s
  | .gutterDoorbell src c tail => Sys2Proof.Machine.execGutterDoorbell src c tail s
  | .hostToObject c e => Sys2Proof.Machine.execHostToObject c e s
  | .objectToHost c e => Sys2Proof.Machine.execObjectToHost c e s
  | .hostToStore c e => Sys2Proof.Machine.execHostToStore c e s
  | .storeToHost c e ups => Sys2Proof.Machine.execStoreToHost c e ups s
  | .configRequest op => Sys2Proof.Machine.execConfigRequest op s
  | .linkChg up width gen flit => Sys2Proof.Machine.execLinkChg up width gen flit s
  | .arrayOperationDone b a busy => Sys2Proof.Machine.execArrayOperationDone b a busy s
  | .linkUp p => Sys2Proof.Machine.execLinkUp p s
  | .uncorrectableFrame p vc => Sys2Proof.Machine.execUncorrectableFrame p vc s
  | .monFault p pwr => Sys2Proof.Machine.execMonFault p pwr s
  | .j1Clear => Sys2Proof.Machine.execJ1Clear s
  | .j7Session out => Sys2Proof.Machine.execJ7Session out s
  | .snsReadingInvalid k => Sys2Proof.Machine.execSnsReadingInvalid k s
  | .flashCommandDone fail => Sys2Proof.Machine.execFlashCommandDone fail s
  | .flsCmdDone res => Sys2Proof.Machine.execFlsCmdDone res s

end Sys2Proof.Machine
end

