-- ==== Sys2Proof/WellFormed.lean ====
section
/-! DEFINITION. Which commands are well-formed, beyond what the types of their operands say. -/

namespace Sys2Proof

/-- A page number names a page of the map (R99, R104), by its base. -/
def wfPage (pg : Nat) : Bool := pg % 0x1000 == 0 && (Machine.pageOf pg).isSome

/-- The fields of a relay entry fit (R487). -/
def RelayEnt.wf (e : RelayEnt) : Bool :=
  e.cred.length == 4 && e.cred.all (fun c => decide (c < 2 ^ 16)) && decide (e.stamp < 256) && decide (e.verdict < 256)
    && decide (e.down < 256) && decide (e.calseq < 256)

/-- The fields of a CTRL payload fit (R486). -/
def CtrlFrame.wf (f : CtrlFrame) : Bool :=
  decide (f.sfn < 2 ^ 32) && decide (f.pos < 256) && decide (f.nring < 256) && decide (f.calseq < 256) && decide (f.out < 16)
    && decide (f.phase < 16) && f.map.length == 9 && f.map.all (fun l => decide (l < 16)) && decide (f.step < 256)
    && f.relay.length == 16 && f.relay.all RelayEnt.wf

/-- A beat pair of one stack's share of the page pool (R353). -/
def wfBeat (b : Nat) : Bool := decide (b < Machine.poolBeats)

/-- The command is one that its sender can send. [DESIGN CHOICE, assumption log 75] -/
def Instr.wf : Instr → Bool
  | .enable _ pg => wfPage pg
  | .disable _ pg => wfPage pg
  | .startComplete pg => wfPage pg
  | .drainComplete pg => wfPage pg
  | .srst _ pg => wfPage pg
  | .srstDone pg => wfPage pg
  | .freeze _ pg _ => wfPage pg
  | .freezeEffect pg => wfPage pg
  | .evtSet _ pg _ => wfPage pg
  | .errClear _ pg => wfPage pg
  | .lock _ pg => wfPage pg
  | .hbmRead _ b _ _ => wfBeat b
  | .partialWrite _ b _ _ _ => wfBeat b
  | .ctrlFrame _ _ f => f.wf
  | _ => true

end Sys2Proof
end

