-- ==== Sys2Proof/Safety.lean ====
section
/-! DEFINITION. What claims are stated in: a safe run, the invariant of the interrupt sources, and the canonical form of sparse storage. -/

namespace Sys2Proof.Machine

/-- An outcome is a next state. -/
def goesOn : Host.Outcome State Fault Refusal → Bool
  | .next _ => true
  | _ => false

/-- n steps from s neither fault nor are refused. -/
def SafeRun : Nat → State → Prop
  | 0, _ => True
  | n + 1, s => ∃ t, step s = .next t ∧ SafeRun n t

/-- The command completes: exec answers a next state, of which P holds. -/
def Completes (c : Instr) (s : State) (P : State → Prop) : Prop := ∃ t, exec c s = .next t ∧ P t

/-- A REGISTER_WRITE completes, with the effect of another command. -/
def WriteRuns (s : State) (src : Src) (off : Fin 0x4000000) (v : Word32) (c : Instr) : Prop :=
  ∃ t, exec (.registerWrite src off v) s = .next t ∧ exec c s = .next t

/-- The source's write of the register at a key is taken up: the source reaches the page and its access comes through (R71, R104, R574, R648), the page exists and has power (R92, R598), and the source is a writer of it (R96). -/
def State.accepts (s : State) (src : Src) (key : Nat) : Bool :=
  reaches src key && s.admits src && match pageOf key with
    | none => false
    | some (k, inst) => !s.pageOff k && isWriter k inst src

/-- The registers that the interrupt controller itself may write after any command (R460, R469): STATE of the sources, the LOST registers, and PG_EVT_RAW of the IRQ page. -/
def irqOwn (k : Nat) : Bool := k == 0x7010 || (decide (0x7400 ≤ k) && decide (k < 0x7C00))

/-- A register lies on the page at pg. -/
def onPage (pg k : Nat) : Bool := k / 0x1000 == pg / 0x1000

/-- Registers of the page at pg, by offset. -/
def regsOf (pg : Nat) (offs : List Nat) (k : Nat) : Bool := offs.any fun o => k == pg + o

/-- The error record of the page at pg (R85, R86). -/
def errRegs (pg k : Nat) : Bool := regsOf pg [0x20, 0x24, 0x28] k

/-- A register lies on one of these pages. -/
def onPages (pgs : List Nat) (k : Nat) : Bool := pgs.any fun p => onPage p k

/-- The register that holds FLS_STAT.ARMED, which any write to the FLS page but one of FLS_ARM ends (R535). -/
def armReg (k : PgKind) (r : Nat) : Bool := k == .fls && r == pgFLS + FLS_STAT_ARMED.off

/-- What a source's write that acts on these pages may write: their registers, and the error record of GLB (R598). -/
def onOrGlb (pgs : List Nat) (k : Nat) : Bool := onPages pgs k || errRegs pgGLB k

/-- A register of a gable's page, of a stack's HBM page, of a stack's PHY page, of a yealm's page, of a ligger page. -/
def gabPages (k : Nat) : Bool := decide (0xD000 ≤ k) && decide (k < 0xF000)
def hbmPages (k : Nat) : Bool := decide (0x10000 ≤ k) && decide (k < 0x14000)
def phyPages (k : Nat) : Bool := decide (0x14000 ≤ k) && decide (k < 0x18000)
def ylmPages (k : Nat) : Bool := decide (0x20000 ≤ k) && decide (k < 0x30000)
def ligPages (k : Nat) : Bool := decide (0x41000 ≤ k) && decide (k < 0x51000)

/-- A register of a batten's SPR, BST or SLT page; a register of any SPR page; a register of a VF's pages or of an interrupt bank. -/
def bstPages (k : Nat) : Bool := decide (0x100000 ≤ k) && k / 0x1000 % 4 == 2
def sltPages (k : Nat) : Bool := decide (0x100000 ≤ k) && k / 0x1000 % 4 == 3
def sprPages (k : Nat) : Bool := (decide (0x100000 ≤ k) || (decide (0x20000 ≤ k) && decide (k < 0x40000))) && k / 0x1000 % 4 == 1
def vfPages (k : Nat) : Bool := decide (0x8000000 ≤ k)

/-- What a source's write to the page at pg may write: these registers, and the error records of the page (R96, R711) and of GLB (R598). -/
def byWrite (pg : Nat) (offs : List Nat) (k : Nat) : Bool := regsOf pg offs k || errRegs pg k || errRegs pgGLB k

/-- From s to t the page at pg records an error: the first one by its code, a further one by OVF (R85). -/
def State.records (s t : State) (pg code : Nat) : Prop :=
  t.bit pg PG_ERR_VALID = true ∧ (s.bit pg PG_ERR_VALID = false → t.rf pg PG_ERR_CODE = code) ∧
    (s.bit pg PG_ERR_VALID = true → t.bit pg PG_ERR_OVF = true ∧ t.rf pg PG_ERR_CODE = s.rf pg PG_ERR_CODE)

/-- The parts of the state beside the queue, the registers and what the interrupt controller keeps. -/
inductive Part where
  | out
  | free
  | host
  | crs
  | pur
  | gov
  | store
  | bst
  | slt
  | lig
  | spr
  | cs
  | gab
  | gcode
  | gdata
  | gcs
  | gstage
  | hbm
  | ylm
  | stk
  | fls
  | sfc
  | fsc
  | tap
  | dmr
  | pwr
  | eav
  | btx
  | frz
  | drainTick
  | drainReady
deriving DecidableEq, Repr

/-- The part is the same in both states. -/
def Part.same : Part → State → State → Prop
  | .out, s, t => t.out = s.out
  | .free, s, t => t.free = s.free
  | .host, s, t => t.host = s.host
  | .crs, s, t => t.crs = s.crs
  | .pur, s, t => t.pur = s.pur
  | .gov, s, t => t.gov = s.gov
  | .store, s, t => t.store = s.store
  | .bst, s, t => t.bst = s.bst
  | .slt, s, t => t.slt = s.slt
  | .lig, s, t => t.lig = s.lig
  | .spr, s, t => t.spr = s.spr
  | .cs, s, t => t.cs = s.cs
  | .gab, s, t => t.gab = s.gab
  | .gcode, s, t => t.gcode = s.gcode
  | .gdata, s, t => t.gdata = s.gdata
  | .gcs, s, t => t.gcs = s.gcs
  | .gstage, s, t => t.gstage = s.gstage
  | .hbm, s, t => t.hbm = s.hbm
  | .ylm, s, t => t.ylm = s.ylm
  | .stk, s, t => t.stk = s.stk
  | .fls, s, t => t.fls = s.fls
  | .sfc, s, t => t.sfc = s.sfc
  | .fsc, s, t => t.fsc = s.fsc
  | .tap, s, t => t.tap = s.tap
  | .dmr, s, t => t.dmr = s.dmr
  | .pwr, s, t => t.pwr = s.pwr
  | .eav, s, t => t.eav = s.eav
  | .btx, s, t => t.btx = s.btx
  | .frz, s, t => t.frz = s.frz
  | .drainTick, s, t => t.drainTick = s.drainTick
  | .drainReady, s, t => t.drainReady = s.drainReady

/-- From s to t, registers outside `regs` and parts outside `parts` are unchanged. -/
def Only (regs : Nat → Bool) (parts : List Part) (s t : State) : Prop :=
  (∀ k, regs k = false → t.reg k = s.reg k) ∧ ∀ p, p ∉ parts → p.same s t

/-- The frame of a command: when it completes, registers outside `regs` and the interrupt controller's own, and parts outside `parts`, are unchanged. -/
def Keeps (c : Instr) (s : State) (regs : Nat → Bool) (parts : List Part) : Prop :=
  ∀ t, exec c s = .next t → Only (fun k => regs k || irqOwn k) parts s t

/-- The word that sequencer i fetches next and carries out, `bad` where a RAM word fails parity: the present address goes to a mask ROM word or to a control-store word; none if it waits, or if the fetch traps, halts or stalls (R382, R384, R395, R397, R412, R413, R455). -/
def State.sqWord (s : State) (i : Nat) (bad : Bool) : Option (BitVec 128) :=
  let p := s.sq i
  let a := p.next % sqSize i
  if i < 72 then
    let f := s.fetchAt i a
    let w := if f < 6144 then romAt i f else s.csWord i f
    if s.sparFetch i && !(decide (7680 ≤ a) && s.custOff i) && !(csRegion f != 0 && csRegion f == p.march)
        && !(decide (6144 ≤ f) && bad) && !s.sealedBad i w && !s.illegal i f w then some w else none
  else
    let g := i - 72
    let f := s.gabFetchAt g a
    let w := if 12288 ≤ f then smGet (fun _ => 0) s.gcs (g * 2 ^ 14 + f) else romAt i f
    let marching := match (s.gable g).march with
      | some (t, _) => t == 9
      | none => false
    if s.gabWordFree g && !p.busy && !(decide (12288 ≤ f) && (marching || bad)) && !s.gabIllegalWord g w then some w else none

/-- The micro-operation with these datapath fields and this code is the present word's, and spar i issues it: the spar runs, the word's ALU operation is over, and no request of it waits for the store (R54, R175, R203, R387, R390). -/
def State.opGoes (s : State) (i : Nat) (d : BitVec 96) (code : Nat) : Bool :=
  s.sparFree i && (s.sp i).opTurn d code && !s.opWaits i d

/-- After its present word spar i enters no further stint, and takes no ATTN: none is held, and the word ends no stint of the running plan (R407, R414). -/
def State.staysOn (s : State) (i : Nat) : Bool := (s.sp i).attn.isNone && ((s.sp i).hold == .none || !s.drives i)

/-- An array operation of batten b's spar on arrays `as` is issued, enters their queues and passes the checks (R236, R391). -/
def State.issues (s : State) (b : Nat) (d : BitVec 96) (code : Nat) (as : List Nat) (c : ArrCheck) : Bool :=
  s.opGoes b d code && !as.isEmpty && !s.arrStall b as && (s.arrBad b as c).isNone

/-- Every VALID modulus entry holds a modulus that passes the check of R227. -/
def State.modulusWf (s : State) : Prop :=
  ∀ b e, b < 64 → e < 96 → s.rf (pgSLT b) SLT_MCTL_STATE e = 2 → 2 ^ 20 < s.modQ b e ∧ s.modQ b e < 2 ^ 36

/-- A move on pair p by engine e goes through: the micro-operation of this code in a spar whose slot, named by OPT[2:0], binds the pair, or a fixed engine that may move (R328, R393). -/
def State.moves (s : State) (m : Mover) (code e p : Nat) : Bool :=
  match m with
  | .spar i slot =>
    let d := wDP (s.sp i).word
    s.opGoes i d code && dpOPT d % 8 == slot.val && smGet (fun _ => 0) (s.sp i).lp slot == 1024 + p && e == engOfSpar i
  | .engine e' p' => s.engMoves e' && e == e'.val && p == p'.val

/-- Gable g stands at an instruction boundary at which nothing comes first, and its fetch gives the instruction w: a clean word of the code store, or the boot ROM's word (R420, R425, R432, R433). -/
def State.gabRuns (s : State) (g : Fin 2) (x : GabIn) (w : Word32) : Bool :=
  let a := (s.gable g).pc.toNat
  s.gabAt g && !(s.gable g).wdPend && !s.gabFirq g && !s.gabIrq g && gabWord w && (s.jumpBad g (s.gable g).lvl a).isNone
    && !s.gabMarching g a && (if gabRange g a = .code then s.codeWord g a == { data := w } && x.up == .clean else bootWord a == w)

/-- A trap of gable g with a vector is entered at h: ENEST is 0, and the exception table gives h, which level M may execute (R434, R436). `t` is what strikes the table entry. -/
def State.trapTo (s : State) (g : Fin 2) (vec h : Nat) (t : StErr) : Bool :=
  !s.tableBusy g && !(s.gable g).enest && (s.gabTable g vec t).2 == .ok h && (s.jumpBad g 2 h).isNone

/-- What a trap entry leaves (R434, R435): level M, IE 0, ENEST 1, the PC at the handler, EPC and ESTAT. -/
def State.trapped (s t : State) (g vec h epc tval info : Nat) : Prop :=
  (t.gable g).pc = BitVec.ofNat 64 h ∧ (t.gable g).lvl = 2 ∧ (t.gable g).ie = false ∧ (t.gable g).enest = true ∧
    (t.gable g).epc = BitVec.ofNat 64 epc ∧ (t.gable g).estat = (s.gable g).estatOf vec tval info

/-- Gable g has gone on from s to t, changing of itself what x has changed, its registers, PC and counters, and outside it only the parts P. -/
def State.gabWent (s t : State) (g : Fin 2) (P : List Part) (x : GabSt) : Prop :=
  Only irqOwn (.gab :: P) s t ∧ (∀ h, h ≠ g.val → t.gable h = s.gable h) ∧
    t.gable g = { x with r := (t.gable g).r, pc := (t.gable g).pc, cycle := (t.gable g).cycle, wdCyc := (t.gable g).wdCyc, instret := (t.gable g).instret }

/-- A trap entry changes, beside gable g, only what the read of its exception table changes. -/
def State.trapWent (s t : State) (g : Fin 2) (vec : Nat) (e : StErr) : Prop :=
  Only irqOwn [.gab] (s.gabTable g vec e).1 t ∧ ∀ h, h ≠ g.val → t.gable h = s.gable h

/-- R461: a page source that stands PENDING has a page that requests it. -/
def State.pendingRequested (s : State) : Prop :=
  ∀ n, 32 ≤ n → n < 164 → s.rf pgIRQ IRQ_SRC_STATE n = srcPending → s.irqRequest n = true

/-- The stores of the tray are in canonical form: registers, host memory, code, data and control stores, banked stores, stack bytes and codeword errors, flash and fuses. -/
def State.storesWf (s : State) : Bool :=
  smWf regDefault s.regs && smWf (fun _ => 0) s.host && smWf codeDflt s.gcode && smWf dataDflt s.gdata
    && smWf (fun _ => 0) s.gcs && smWf (fun _ => 0) s.cs && smWf stDflt s.store
    && smWf (fun _ => 0) s.hbm.bytes && smWf (fun _ => 0) s.hbm.syms && smWf flashDflt s.sfc.flash
    && smWf fuse0 s.fls.margin && smWf fuse0 s.fls.normal
    && smWf (fun _ => 0) s.pur.table && smWf plDflt s.pur.plist && smWf (fun _ => false) s.hbm.reserve

end Sys2Proof.Machine
end

