-- ==== Sys2Proof/Certificates/Slice0/Obligations.lean ====
section
/-! DEFINITION. The statements for the provers, family by family. -/

section

open Sys2Proof Sys2Proof.Machine

/-- The step takes the command at the front of the queue and runs it on the state with the queue's rest; on an empty queue it idles (the idling is the model's choice, log entry 3). -/
def Obligations.StepRunsTheFrontCommand : Prop := (∀ c r s, s.pending = c :: r → step s = exec c { s with pending := r }) ∧ ∀ s : State, s.pending = [] → step s = .next s

/-- Every command goes on to a next state with the same queue; but an HBM_READ or a PARTIAL_WRITE outside the page pool faults (R353: no access reaches such an address). No command is refused. Where a rule leaves a point open, the clause takes the model's reading, log entries 4 and 75. -/
def Obligations.EveryCommandGoesOn : Prop := ∀ c s,
  (∃ t, exec c s = .next t ∧ t.pending = s.pending) ∨ (exec c s = .fault .outside ∧
    ∃ n b errs, poolBeats ≤ b ∧ ((∃ p, c = .hbmRead n b errs p) ∨ ∃ first bs, c = .partialWrite n b first bs errs))

/-- PG_CTRL.EN by the table of R77, and the ends of start and drain of R78: ENABLE, DISABLE, START_COMPLETE, DRAIN_COMPLETE on every page with an enable. The other parts of PG_CTRL (R79, R80) and the header's event, error and lock registers (R84, R87, R89): SRST, SRST_DONE, FREEZE, FREEZE_EFFECT, EVT_SET, ERR_CLEAR, LOCK. Where a rule leaves a point open, the clause takes the model's reading, log entries 22, 23 and 24. -/
def Obligations.HeaderCommands : Prop := (∀ (s : State) (src : Src) (pg : Nat) (k : PgKind) (i : Nat), enPage pg = some (k, i) →
  (s.accepts src (pg + 8) = true → s.bit pg PG_CTRL_EN = false → s.bit pg PG_STAT_QUIESCING = false →
    (k = .hbm → s.bit pgCRS PG_CTRL_EN = false) →
    Completes (.enable src pg) s fun t => t.bit pg PG_CTRL_EN = true) ∧
  (s.accepts src (pg + 8) = true → s.bit pg PG_CTRL_EN = false → s.bit pg PG_STAT_QUIESCING = true →
    (k = .hbm → s.bit pgCRS PG_CTRL_EN = false) →
    Completes (.enable src pg) s fun t =>
      t.bit pg PG_CTRL_EN = true ∧ t.bit pg PG_STAT_EN_PEND = true ∧ t.bit pg PG_STAT_QUIESCING = true) ∧
  (s.accepts src (pg + 8) = true → s.bit pg PG_CTRL_EN = true → s.bit pg PG_STAT_QUIESCING = false →
    (k = .crs → s.crs.first = false) → (k = .hbm → s.bit pgCRS PG_CTRL_EN = false) →
    Completes (.disable src pg) s fun t =>
      t.bit pg PG_CTRL_EN = false ∧ t.bit pg PG_STAT_READY = false ∧ t.bit pg PG_STAT_QUIESCING = true) ∧
  (s.accepts src (pg + 8) = true → s.bit pg PG_CTRL_EN = true → s.bit pg PG_STAT_QUIESCING = true →
    (k = .hbm → s.bit pgCRS PG_CTRL_EN = false) →
    Completes (.disable src pg) s fun t =>
      t.bit pg PG_CTRL_EN = false ∧ t.bit pg PG_STAT_EN_PEND = false ∧ t.bit pg PG_STAT_QUIESCING = true) ∧
  (s.bit pg PG_CTRL_EN = true → s.bit pg PG_STAT_QUIESCING = false → s.ready pg = false → s.started pg k = true →
    Completes (.startComplete pg) s fun t => t.bit pg PG_STAT_READY = true) ∧
  (s.bit pg PG_STAT_QUIESCING = true → s.frozenPage pg = false → s.drained pg k = true →
    Completes (.drainComplete pg) s fun t => t.bit pg PG_STAT_QUIESCING = false ∧ t.bit pg PG_STAT_EN_PEND = false)) ∧
(∀ (s : State) (src : Src) (pg : Nat) (k : PgKind) (i : Nat), pg % 0x1000 = 0 →
  pageOf pg = some (k, i) →
  (k.srsts = true → s.accepts src (pg + 8) = true → s.bit pg PG_CTRL_EN = false → s.bit pg PG_STAT_QUIESCING = false →
    s.bit pg PG_STAT_EN_PEND = false →
    Completes (.srst src pg) s fun t => t.bit pg PG_CTRL_SRST = true ∧ t.rf pg PG_EVT_EN = 0) ∧
  Completes (.srstDone pg) s (fun t => t.bit pg PG_CTRL_SRST = false) ∧
  (∀ on, k.freezes = true → s.accepts src (pg + 8) = true →
    Completes (.freeze src pg on) s fun t => t.bit pg PG_CTRL_FREEZE = on) ∧
  (k.enables = true → k.freezes = true → s.bit pg PG_CTRL_FREEZE = true →
    Completes (.freezeEffect pg) s fun t => smGet (fun _ => false) t.frz pg = true) ∧
  (∀ v, s.accepts src (pg + 0x1C) = true → s.locked pg = false → pg ≠ pgIRQ →
    Completes (.evtSet src pg v) s fun t => t.rf pg PG_EVT_RAW = s.rf pg PG_EVT_RAW ||| (v.toNat &&& evtMask k i)) ∧
  (∀ v, s.accepts src (pgIRQ + 0x1C) = true → s.locked pgIRQ = false →
    Completes (.evtSet src pgIRQ v) s fun t => ∀ b, bitOf (s.rf pgIRQ PG_EVT_RAW ||| (v.toNat &&& 3)) b = true →
      bitOf (t.rf pgIRQ PG_EVT_RAW) b = true) ∧
  (s.accepts src (pg + 0x20) = true → Completes (.errClear src pg) s fun t =>
    t.reg (pg + 0x20) = 0 ∧ t.reg (pg + 0x24) = 0 ∧ t.reg (pg + 0x28) = 0) ∧
  (k.lockable = true → s.accepts src (pg + 0x2C) = true →
    Completes (.lock src pg) s fun t => t.bit pg PG_LOCK_LOCK = true))

/-- R10, R11, R66, R90 to R96, R711: REGISTER_WRITE of every register of the pages whose registers start nothing (each field takes the value by its access type; a value out of range, a locked field, a record's VALID, a reserved offset, a source that is no writer), and of the scratch registers of GLB; BAR0_REQUEST of 4 and of 8 bytes, with whole and with partial byte enables; OVERSIZE_REQUEST; CRS_NUM_READ; RC_READ of every register that holds an RC counter. Where a rule leaves a point open, the clause takes the model's reading, log entries 10, 11, 16, 18 and 19. -/
def Obligations.RegisterAccess : Prop := (∀ (s : State) (src : Src) (off : Fin 0x4000000) (v : Word32) (key pg o : Nat) (k : PgKind) (i : Nat),
  key = srcKey src (off.val / 4 * 4) → pg = pgBaseOf key → o = key % 0x1000 → pageOf key = some (k, i) →
  (s.accepts src key = true → 0x30 ≤ o → regExists k i o = true → k ∈ [PgKind.sns, .stk, .rdg, .lig, .hbm, .btn, .btxl, .vfc] →
    (rangeBad k i o v = false → s.lockBad pg k i o v = false → (recordRegs k o = [] ∨ v.getLsbD 31 = false) →
      Completes (.registerWrite src off v) s fun t => Only (fun r => r == key || irqOwn r) [] s t ∧
        ∀ e ∈ fieldsAt k i o, t.rf pg e.1.f e.2 = fieldWrite (s.locked pg) e.1.acc (s.rf pg e.1.f e.2) (partOf e.1 e.2 v)) ∧
    (rangeBad k i o v = true → Completes (.registerWrite src off v) s fun t => Only (fun r => errRegs pg r || irqOwn r) [] s t ∧ s.records t pg eRANGE) ∧
    (rangeBad k i o v = false → s.lockBad pg k i o v = true → (recordRegs k o = [] ∨ v.getLsbD 31 = false) →
      Completes (.registerWrite src off v) s fun t => Only (fun r => r == key || errRegs pg r || irqOwn r) [] s t ∧ s.records t pg eLOCKED ∧
        ∀ e ∈ fieldsAt k i o, t.rf pg e.1.f e.2 = fieldWrite true e.1.acc (s.rf pg e.1.f e.2) (partOf e.1 e.2 v)) ∧
    (rangeBad k i o v = false → s.lockBad pg k i o v = false → v.getLsbD 31 = true → recordRegs k o ≠ [] →
      Completes (.registerWrite src off v) s fun t => Only (fun r => (recordRegs k o).contains (r - pg) || irqOwn r) [] s t ∧
        ∀ o' ∈ recordRegs k o, t.reg (pg + o') = 0)) ∧
  (s.accepts src key = true → regExists k i o = false → Completes (.registerWrite src off v) s fun t =>
    Only (fun r => errRegs pg r || armReg k r || irqOwn r) [] s t ∧ s.records t pg eUNMAPPED) ∧
  (reaches src key = true → s.admits src = true → s.pageOff k = false → isWriter k i src = false →
    Completes (.registerWrite src off v) s fun t => Only (fun r => errRegs pg r || irqOwn r) [] s t ∧ s.records t pg eWRITER)) ∧
(∀ (s : State) (src : Src) (off : Fin 0x4000000),
  (∀ (m : Fin 4) (v : Word32), off.val = 0x58 + 4 * m.val → s.accepts src off = true → (m.val = 0 → src = .gable 0 → s.tray ≠ tRISING) →
    Completes (.registerWrite src off v) s fun t => t.reg (0x58 + 4 * m.val) = v) ∧
  (∀ (be : BitVec 8) (d : Word64) (ups : List StErr), off.val % 4 = 0 → off.val + 4 ≤ barSize src → s.admits src = true → be.truncate 4 = (0xF : BitVec 4) →
    ∃ t, exec (.bar0Request src off 3 be (some d) ups) s = .next t ∧ exec (.registerWrite src off (d.truncate 32)) s = .next t) ∧
  (∀ v : Word64, off.val = 0x58 → s.accepts src 0x58 = true → src = .host →
    Completes (.bar0Request src off 7 0xFF (some v) []) s fun t =>
      t.reg 0x58 = v.truncate 32 ∧ t.reg 0x5C = (v >>> 32).truncate 32) ∧
  (∀ (be : BitVec 8) (d : Word64) (ups : List StErr) (k : PgKind) (i : Nat), off.val % 4 = 0 → off.val + 4 ≤ barSize src → be.truncate 4 ≠ (0xF : BitVec 4) →
    s.accepts src (srcKey src off) = true → pageOf (srcKey src off) = some (k, i) → regExists k i (srcKey src off % 0x1000) = true →
    Completes (.bar0Request src off 3 be (some d) ups) s fun t => Only (fun r => errRegs (pgBaseOf (srcKey src off)) r || armReg k r || irqOwn r) [] s t ∧
      s.records t (pgBaseOf (srcKey src off)) eWIDTH) ∧
  (∀ (be : BitVec 8) (ups : List StErr) (k : PgKind) (i : Nat), off.val % 4 = 0 → off.val + 4 ≤ barSize src → reaches src (srcKey src off) = true →
    s.admits src = true → windowOf (srcKey src off) = none → pageOf (srcKey src off) = some (k, i) → s.pageOff k = false →
    regExists k i (srcKey src off % 0x1000) = true → (k = .irq → srcKey src off % 0x1000 ∉ [0x40, 0x44]) → (k = .dmr → srcKey src off % 0x1000 ≠ 0x44) →
    (k = .btxt → srcKey src off % 0x1000 < 0x100 ∨ srcKey src off % 0x10 ≠ 4) →
    Completes (.bar0Request src off 3 be none ups) s fun t => t.out = .data src (s.regView src (srcKey src off)).toNat :: s.out ∧
      (be.truncate 4 ≠ (0xF : BitVec 4) → s.records t (pgBaseOf (srcKey src off)) eWIDTH)) ∧
  (off.val < barSize src → s.admits src = true →
    Completes (.oversizeRequest src off) s fun t => t.out = .abort src :: s.out ∧ s.records t pgGLB eWIDTH ∧
      Only (fun r => errRegs pgGLB r || irqOwn r) [.out] s t) ∧
  (reaches src 0xA054 = true → s.admits src = true → s.pwr.core = true →
    Completes (.crsNumRead src) s fun t => t.out = .data src (s.rf pgCRS CRS_NUM_LO_NUM) :: s.out ∧ t.crs.numLatch = s.rf pgCRS CRS_NUM_HI_NUM ∧
      Only irqOwn [.crs, .out] s t) ∧
  (∀ (key : Nat) (k : PgKind) (i : Nat), key = srcKey src (off.val / 4 * 4) → pageOf key = some (k, i) → holdsRc key = true → reaches src key = true →
    s.admits src = true → s.pageOff k = false →
    Completes (.rcRead src off) s fun t => t.out = .data src (s.regView src key).toNat :: s.out ∧ Only (fun r => r == key || irqOwn r) [.out] s t ∧
      ∀ e ∈ fieldsAt k i (key % 0x1000), t.rf (pgBaseOf key) e.1.f e.2 = if e.1.acc = .rc then 0 else s.rf (pgBaseOf key) e.1.f e.2))

/-- The interrupt controller's commands (R464, R466, R467, R470, R471): claims on both lines, completions, software sources, source settings, messages. Where a rule leaves a point open, the clause takes the model's reading, log entries 20 and 25. -/
def Obligations.InterruptCommands : Prop := ∀ (s : State) (g : Fin 2),
  (s.admits (.gable g) = true →
    Completes (.irqClaim (.gable g)) s fun t => t.out = .data (.gable g) (s.irqWinner g 0) :: s.out ∧
      (1 ≤ s.irqWinner g 0 → s.irqWinner g 0 < 32 → t.rf (pgIRQB g) IRQ_SRC_STATE (s.irqWinner g 0) = srcActive)) ∧
  (s.admits (.gable g) = true →
    Completes (.irqFclaim (.gable g)) s fun t => t.out = .data (.gable g) (s.irqWinner g 1) :: s.out ∧
      (1 ≤ s.irqWinner g 1 → s.irqWinner g 1 < 32 → t.rf (pgIRQB g) IRQ_SRC_STATE (s.irqWinner g 1) = srcActive)) ∧
  (∀ src, src = .host ∨ src = .debug → s.admits src = true →
    (Completes (.irqClaim src) s fun t => t.out = .data src 0 :: s.out) ∧
    Completes (.irqFclaim src) s fun t => t.out = .data src 0 :: s.out) ∧
  (∀ n : Fin 256, s.accepts (.gable g) 0x7048 = true → 1 ≤ n.val → n.val ≤ 8 →
    s.rf (pgIRQB g) IRQ_SRC_STATE n = srcActive →
    Completes (.irqComplete (.gable g) n) s fun t => t.rf (pgIRQB g) IRQ_SRC_STATE n = srcIdle) ∧
  (∀ (n : Fin 256) (src : Src), src = .host ∨ src = .debug → s.accepts src 0x7058 = true → 32 ≤ n.val → n.val < 164 →
    s.rf pgIRQ IRQ_SRC_STATE n = srcActive → (s.irqServing n).target = 2 →
    Completes (.irqHcomplete src n) s fun t => t.rf pgIRQ IRQ_SRC_STATE n = srcIdle ∧ t.irqServing n = {}) ∧
  (∀ n : Fin 16, s.accepts (.gable g) 0x7050 = true → 1 ≤ n.val → n.val ≤ 8 → s.rf (pgIRQB g) IRQ_SRC_STATE n = srcIdle →
    Completes (.irqSet (.gable g) n) s fun t => t.rf (pgIRQB g) IRQ_SRC_STATE n = srcPending) ∧
  (∀ (n : Fin 16) (src : Src), s.accepts src 0x7054 = true → 1 ≤ n.val → n.val ≤ 8 →
    s.rf (pgIRQB g) IRQ_SRC_STATE n = srcIdle →
    Completes (.irqXset src g n) s fun t => t.rf (pgIRQB g) IRQ_SRC_STATE n = srcPending) ∧
  (∀ (n : Fin 256) (v : Word32), s.accepts (.gable g) (0x7400 + 4 * n.val) = true → 1 ≤ n.val → n.val ≤ 8 →
    Completes (.irqSrcWrite (.gable g) n v) s fun t =>
      t.rf (pgIRQB g) IRQ_SRC_EN n = fieldGet v 12 1 ∧ t.rf (pgIRQB g) IRQ_SRC_PRIO n = fieldGet v 0 4 ∧
      t.rf (pgIRQB g) IRQ_SRC_STATE n = s.rf (pgIRQB g) IRQ_SRC_STATE n) ∧
  (∀ n, s.msixNext = some n →
    Completes .msixSend s fun t =>
      t.out = .msix (s.rf pgIRQ IRQ_SRC_FUNC n) (s.rf pgIRQ IRQ_SRC_VEC n)
        (s.msixEntry (s.rf pgIRQ IRQ_SRC_FUNC n) (s.rf pgIRQ IRQ_SRC_VEC n)).1
        (s.msixEntry (s.rf pgIRQ IRQ_SRC_FUNC n) (s.rf pgIRQ IRQ_SRC_VEC n)).2.1 :: s.out)

/-- R466: a claim finds the eligible source of the highest PRIO, or 0 when none is eligible. -/
def Obligations.ClaimFindsHighestPriority : Prop := ∀ (s : State) (g : Fin 2) (line : Fin 2),
  (s.irqWinner g line = 0 ∧ ∀ n, n < 256 → s.irqEligible g line n = false) ∨
  (s.irqWinner g line < 256 ∧ s.irqEligible g line (s.irqWinner g line) = true ∧
    ∀ n, n < 256 → s.irqEligible g line n = true →
      s.rf (irqPage g n) IRQ_SRC_PRIO n ≤ s.rf (irqPage g (s.irqWinner g line)) IRQ_SRC_PRIO (s.irqWinner g line))

/-- R461: whatever the command, a page source that stands PENDING afterwards has a page that requests it. Where a rule leaves a point open, the clause takes the model's reading, log entry 25. -/
def Obligations.PendingSourcesAreRequested : Prop := ∀ s t : State, s.pendingRequested → step s = .next t → t.pendingRequested

/-- What reset leaves: the invariants of PendingSourcesAreRequested and ValidModuliStayInRange hold, every store is in canonical form, the queue is empty, the timer is stopped, the gables stand at their Cold entry points at level M (R418, R422, R423), and registers of several blocks read their Cold values (R63, R65, R107, R145, R168, R458). The state and step of a rise in which the cold reset ends (R602) are the model's reading, log entry 1. -/
def Obligations.ResetState : Prop := State.reset.pendingRequested ∧ State.reset.modulusWf ∧ State.reset.storesWf = true ∧
  State.reset.pending = [] ∧ State.reset.crs.running = false ∧ State.reset.gPc 0 = 0x100000 ∧ State.reset.gPc 1 = 0 ∧
  (State.reset.gable 0).lvl = 2 ∧ (State.reset.gable 1).lvl = 2 ∧ (State.reset.gable 0).stopped = false ∧ (State.reset.gable 1).stopped = true ∧
  State.reset.tray = tRISING ∧ State.reset.rf pgCRS CRS_LEN_LEN = 2000 ∧ State.reset.rf pgCRS CRS_NUM_LO_NUM = 0 ∧
  State.reset.rf pgCRS CRS_SYNC_LEAD_LEAD = 2000 ∧ State.reset.rf pgPUR PUR_OT_CFG_LOG2 = 16 ∧ State.reset.rf pgPUE PUE_FILL_MW = 300000 ∧
  (∀ b : Fin 64, State.reset.rf (pgBST b) BST_CFG_CE_FENCE = 8 ∧ State.reset.rf (pgBTN b) BTN_USE_GATED = 15) ∧
  (∀ g : Fin 2, State.reset.rf pgIRQ IRQ_LEVEL_LEVELS g = 65535) ∧ State.reset.rf pgPWR PWR_TMO_MS = 2000

/-- WARM_RESET, PERST, FLR (R621 to R624, R684) and CQ_BACKLOG_WRITE (R679, R680). Where a rule leaves a point open, the clause takes the model's reading, log entries 43 and 54. -/
def Obligations.ResetsAndReports : Prop := ∀ s : State,
  (s.tray = tRUN → Completes (.warmReset .pin) s fun t =>
    t.rf pgPWR PWR_RST_CAUSE = 3 ∧ t.rf pgPWR PWR_RST_PREV_STATE = tRUN ∧ t.store = s.store ∧ t.pur.queue = []) ∧
  (∀ src v, src = .host → v = 0xA55A → s.accepts src 0x8048 = true → s.tray = tRUN →
    Completes (.warmReset (.write src v)) s fun t => t.rf pgPWR PWR_RST_CAUSE = 4 ∧ t.rf pgPWR PWR_RST_PREV_STATE = tRUN) ∧
  (s.pwr.core = true → Completes .perst s fun t =>
    t.pur.queue = [] ∧ t.eav.vfs = 0 ∧ t.eav.gut = [] ∧ t.eav.backlog = [] ∧ t.eav.pfDom = s.eav.pfDom) ∧
  (s.pwr.core = true → s.ready pgEAV = true →
    Completes (.flr 0) s fun t => t.pur.queue = [] ∧ t.rf pgEAV EAV_LINK_UP = s.rf pgEAV EAV_LINK_UP) ∧
  (∀ v : Fin 9, s.pwr.core = true → s.ready pgEAV = true → 1 ≤ v.val → v.val ≤ s.eav.vfs →
    Completes (.flr v) s fun t => t.pur.queue = s.pur.queue.filter fun p => p.fn != v.val) ∧
  (∀ (fn : Fin 9) (r : Report) (l : List Report), s.backlog fn = r :: l → s.bit (ringOf fn).pg (ringOf fn).en = true →
    s.ringRoom (ringOf fn) = true → s.rf (ringOf fn).pg (ringOf fn).log2 ≤ 12 →
    Completes (.cqBacklogWrite fn) s fun t => t.backlog fn = l ∧
      t.rf (ringOf fn).pg (ringOf fn).tail =
        (s.rf (ringOf fn).pg (ringOf fn).tail % s.ringSize (ringOf fn) + 1) % s.ringSize (ringOf fn) ∧
      t.hostBytes (2 ^ 32 * s.rf (ringOf fn).pg (ringOf fn).hi + 2 ^ 12 * s.rf (ringOf fn).pg (ringOf fn).lo +
        16 * (s.rf (ringOf fn).pg (ringOf fn).tail % s.ringSize (ringOf fn))) 16
        = r.bytes (!smGet (fun _ => false) s.eav.flip fn))

/-- The sequencer's steps (R601, R604, R606, R610): FALL_STEP_DONE from D8 to D1, RISE_STEP_DONE from U1 to U5, PWR_ADV for U7 to U10, D10 and D9, U9_TIMEOUT, STEP_TMO. Requests and forced causes (R600, R607 to R609, R611, R612, R614): ON_REQUEST, OFF_REQUEST, IDLE_REQUEST, RUN_REQUEST, POWER_GOOD_LOSS, TRIP, HBM_OFF. Where a rule leaves a point open, the clause takes the model's reading, log entries 1 and 42. -/
def Obligations.PowerCommands : Prop := (∀ s : State,
  (∀ k, 4 ≤ k → k ≤ 8 → s.tray = tFALLING → s.trayStep = k →
    Completes .fallStepDone s fun t => t.tray = tFALLING ∧ t.trayStep = k - 1) ∧
  (s.tray = tFALLING → s.trayStep = 3 → s.onPend = false → s.bit pgPWR PWR_STAT_TGT = false →
    Completes .fallStepDone s fun t => t.tray = tSTANDBY ∧ t.pwr.core = false) ∧
  (s.tray = tFALLING → s.trayStep = 3 → s.onPend = false → s.bit pgPWR PWR_STAT_TGT = true →
    Completes .fallStepDone s fun t => t.tray = tFALLING ∧ t.trayStep = 2 ∧ t.pwr.core = false) ∧
  (s.tray = tFALLING → s.trayStep = 3 → s.onPend = true →
    Completes .fallStepDone s fun t => t.tray = tRISING ∧ t.trayStep = 3) ∧
  (s.tray = tFALLING → s.trayStep = 2 → s.onPend = false →
    Completes .fallStepDone s fun t => t.tray = tFALLING ∧ t.trayStep = 1 ∧ t.bit pgPWR PWR_WAKE_VALID = false) ∧
  (s.tray = tFALLING → s.trayStep = 1 → s.onPend = false → Completes .fallStepDone s fun t => t.tray = tDORMANT) ∧
  (∀ k, 1 ≤ k → k ≤ 5 → k ≠ 2 → s.tray = tRISING → s.trayStep = k → s.bit pgPWR PWR_STAT_OFF_PEND = false →
    Completes .riseStepDone s fun t => t.tray = tRISING ∧ t.trayStep = k + 1 ∧ (k = 3 → t.pwr.core = true)) ∧
  (s.tray = tRISING → s.trayStep = 2 → s.bit pgPWR PWR_STAT_OFF_PEND = false →
    Completes .riseStepDone s fun t => t.tray = tRISING ∧ t.trayStep = 3) ∧
  (∀ k, k = 1 ∨ (3 ≤ k ∧ k ≤ 5) → s.tray = tRISING → s.trayStep = k → s.bit pgPWR PWR_STAT_OFF_PEND = true →
    Completes .riseStepDone s fun t => t.tray = tFALLING ∧ t.trayStep = k ∧ t.bit pgPWR PWR_STAT_OFF_PEND = false) ∧
  (∀ src (v : Word32) k, s.accepts src 0x1048 = true → v.getLsbD 31 = true → v.getLsbD 4 = false → v.toNat % 16 = k → 7 ≤ k → k ≤ 9 →
    s.tray = tRISING → s.trayStep = k → s.bit pgPWR PWR_STAT_OFF_PEND = false →
    Completes (.pwrAdv src v) s fun t => t.tray = tRISING ∧ t.trayStep = k + 1) ∧
  (∀ src (v : Word32), s.accepts src 0x1048 = true → v.getLsbD 31 = true → v.getLsbD 4 = false → v.toNat % 16 = 10 →
    s.tray = tRISING → s.trayStep = 10 → s.bit pgPWR PWR_STAT_OFF_PEND = false →
    Completes (.pwrAdv src v) s fun t => t.tray = tRUN ∧ t.bit pgPWR PWR_STAT_FORCED = false) ∧
  (∀ src (v : Word32) k, s.accepts src 0x1048 = true → v.getLsbD 31 = true → v.getLsbD 4 = true → v.toNat % 16 = k → 9 ≤ k → k ≤ 10 →
    s.tray = tFALLING → s.trayStep = k →
    Completes (.pwrAdv src v) s fun t => t.tray = tFALLING ∧ t.trayStep = k - 1) ∧
  (s.tray = tRISING → s.trayStep = 9 → s.bit pgPWR PWR_STAT_OFF_PEND = false →
    Completes .u9Timeout s fun t => t.tray = tRISING ∧ t.trayStep = 10) ∧
  ((s.tray = tRISING ∧ 7 ≤ s.trayStep) ∨ (s.tray = tFALLING ∧ 9 ≤ s.trayStep) →
    Completes .stepTmo s fun t => t.tray = tFALLING ∧ t.trayStep = 8)) ∧
(∀ s : State,
  (s.tray = tSTANDBY → Completes (.onRequest .trayOn) s fun t =>
    t.tray = tRISING ∧ t.trayStep = 3 ∧ t.bit pgPWR PWR_WAKE_VALID = true ∧ t.rf pgPWR PWR_WAKE_SRC = 3) ∧
  (s.tray = tFALLING → Completes (.onRequest .trayOn) s fun t => t.bit pgPWR PWR_STAT_ON_PEND = true ∧ t.pwr.onSrc = 3) ∧
  (∀ n : Fin 2, s.tray = tSTANDBY → s.dmr.wake = some n.val → Completes (.onRequest (.alarm n)) s fun t =>
    t.tray = tRISING ∧ t.trayStep = 3 ∧ t.rf pgPWR PWR_WAKE_SRC = n.val + 1 ∧ t.dmr.wake = none) ∧
  (∀ src, s.accepts src 0x1044 = true → s.tray = tSTANDBY → Completes (.onRequest (.req src)) s fun t =>
    t.tray = tRISING ∧ t.trayStep = 3 ∧ t.rf pgPWR PWR_WAKE_SRC = 4) ∧
  (s.tray = tRUN ∨ s.tray = tIDLE → Completes (.offRequest .trayOff) s fun t =>
    t.tray = tFALLING ∧ t.trayStep = 10 ∧ t.bit pgPWR PWR_STAT_TGT = true ∧ t.bit pgPWR PWR_STAT_WAIT_ADV = true) ∧
  (∀ src dormant, s.accepts src 0x1044 = true → s.tray = tRUN ∨ s.tray = tIDLE →
    Completes (.offRequest (.req src dormant false)) s fun t =>
      t.tray = tFALLING ∧ t.trayStep = 10 ∧ t.bit pgPWR PWR_STAT_TGT = dormant) ∧
  (∀ src dormant, s.accepts src 0x1044 = true → s.tray = tRUN ∨ s.tray = tIDLE →
    Completes (.offRequest (.req src dormant true)) s fun t => t.tray = tFALLING ∧ t.trayStep = 8) ∧
  (∀ src, s.accepts src 0x1044 = true → s.tray = tRUN → s.bit pgCRS PG_CTRL_EN = false →
    s.bit pgCRS PG_STAT_QUIESCING = false → s.pwr.idle = 0 →
    Completes (.idleRequest src) s fun t => ∀ n : Fin 4, t.bit (pgHBM n) PG_CTRL_EN = false) ∧
  (∀ src, s.accepts src 0x1044 = true → s.tray = tIDLE → s.pwr.idle = 0 →
    Completes (.runRequest src) s fun t => ∀ n : Fin 4, t.bit (pgHBM n) PG_CTRL_EN = true) ∧
  (∀ r : Fin 6, s.railGood r = true → s.tray = tRUN →
    Completes (.powerGoodLoss r) s fun t => t.tray = tFALLING ∧ t.trayStep = 8) ∧
  (∀ b : Fin 64, s.pwr.core = true → 2 ≤ smGet (fun _ => 0) s.pwr.hot b → s.tray = tRUN →
    Completes (.trip b) s fun t => t.tray = tFALLING ∧ t.trayStep = 8) ∧
  (s.pwr.core = true → s.bit pgGLB GLB_FAIL_HBM_TEMP = true → s.pwr.hbmOff = false →
    Completes .hbmOff s fun t => t.pwr.hbmOff = true ∧ t.bit pgPWR PWR_STAT_HBM_OFF = true ∧
      ∀ n : Fin 4, t.bit (pgHBM n) PG_STAT_READY = false))

/-- The input at J1 (R599, R613, R631, R632): INPUT_VALID, IN_UV, IN_OV, J1_REVERSE, J1_CLEAR, INPUT_LOSS. The dormer (R577 to R595): snapshot, log, cell, supply, stop and reset, oscillator, seconds and alarms, the setting of time. Where a rule leaves a point open, the clause takes the model's reading, log entries 44 and 46. -/
def Obligations.InputAndDormer : Prop := (∀ s : State,
  (s.tray = tOFF → s.pwr.j1 ≠ 1 → s.dmr.stopped = false → s.bit pgDMR DMR_STAT_SUPPLY = false →
    Completes .inputValid s fun t => t.tray = tDORMANT) ∧
  (s.pwr.j1 = 0 ∨ s.pwr.j1 = 3 → s.reports = true →
    Completes .inUv s fun t => t.pwr.j1 = 2 ∧ bitOf (t.rf pgPWR PG_EVT_RAW) 3 = true) ∧
  (s.pwr.j1 = 0 ∨ s.pwr.j1 = 2 → s.reports = true →
    Completes .inOv s fun t => t.pwr.j1 = 3 ∧ bitOf (t.rf pgPWR PG_EVT_RAW) 4 = true) ∧
  (s.tray = tOFF → s.pwr.j1 ≠ 1 → Completes .j1Reverse s fun t => t.pwr.j1 = 1 ∧ t.tray = tOFF) ∧
  (s.pwr.j1 ≠ 0 → Completes .j1Clear s fun t => t.pwr.j1 = 0) ∧
  (∀ ov, s.tray ≠ tOFF → s.sfc.cmd = none → Completes (.inputLoss ov) s fun t =>
    t.tray = tOFF ∧ t.pwr.core = false ∧ t.store = [] ∧ t.hbm = {} ∧ t.dmr = s.dmr ∧ t.sfc.flash = s.sfc.flash)) ∧
(∀ s : State,
  (∀ (src : Src) (edges : Fin 32768), reaches src 0x3044 = true → s.admits src = true → s.dmr.stopped = false → s.dmr.sub < 32768 →
    Completes (.dmrSnap src edges) s fun t => t.rf pgDMR DMR_SEC_LO_SEC = s.dmr.sec % 2 ^ 32 ∧
      t.rf pgDMR DMR_SEC_HI_SEC = s.dmr.sec / 2 ^ 32 % 2 ^ 8 ∧ t.dmr.sub = min 32767 (s.dmr.sub + edges.val) ∧
      t.rf pgDMR DMR_SUB_SUB = t.dmr.sub ∧ t.out = .data src (t.reg 0x3044).toNat :: s.out) ∧
  (∀ src, s.accepts src 0x309C = true → Completes (.logClr src true) s fun t =>
    t.rf pgDMR DMR_LOG_STAT_COUNT = 0 ∧ t.rf pgDMR DMR_LOG_STAT_HEAD = 0 ∧ t.bit pgDMR DMR_LOG_STAT_OVF = false) ∧
  (∀ mv, s.dmr.stopped = false → Completes (.cell mv) s fun t =>
    t.rf pgDMR DMR_CELL_MV = mv.toNat ∧ t.rf pgDMR DMR_CELL_STATE = cellState mv.toInt) ∧
  (∀ mv, s.dmr.stopped = false → s.bit pgDMR DMR_STAT_SUPPLY = false → 500 ≤ mv.toInt →
    Completes (.supply true mv) s fun t => t.bit pgDMR DMR_STAT_SUPPLY = true) ∧
  (∀ mv, s.dmr.stopped = false → s.bit pgDMR DMR_STAT_SUPPLY = true →
    Completes (.supply false mv) s fun t => t.bit pgDMR DMR_STAT_SUPPLY = false ∧ bitOf (t.rf pgDMR PG_EVT_RAW) 5 = true) ∧
  Completes .dormerStop s (fun t => t.dmr.stopped = true ∧ t.dmr.wake = none) ∧
  (∀ cell, s.dmr.stopped = true → Completes (.lostPwr cell) s fun t =>
    t.dmr = {} ∧ bitOf (t.rf pgDMR PG_EVT_RAW) 8 = true ∧ t.bit pgDMR DMR_STAT_SUPPLY = cell) ∧
  (∀ short, s.dmr.stopped = false → s.rf pgDMR DMR_STAT_OSC_FAULT = 0 → Completes (.oscFault short) s fun t =>
    t.rf pgDMR DMR_STAT_OSC_FAULT = (if short then 2 else 1) ∧ t.bit pgDMR DMR_STAT_OSC_RC = true ∧
      t.bit pgDMR DMR_STAT_TIME_VALID = false) ∧
  (s.dmr.stopped = false → s.bit pgDMR DMR_STAT_OSC_RC = true → Completes .oscBack s fun t =>
    t.rf pgDMR DMR_STAT_OSC_FAULT = 0 ∧ t.bit pgDMR DMR_STAT_OSC_RC = false) ∧
  (s.dmr.stopped = false → Completes .secondRollover s fun t => t.dmr.sec = (s.dmr.sec + 1) % 2 ^ 40 ∧ t.dmr.sub = 0) ∧
  (∀ n : Fin 2, s.dmr.stopped = false → s.bit pgDMR DMR_ALM_CTL_EN n = true → s.alarm n = (s.dmr.sec + 1) % 2 ^ 40 →
    Completes .secondRollover s fun t => t.bit pgDMR DMR_ALM_CTL_FIRED n = true) ∧
  (∀ src, s.accepts src 0x3068 = true → s.bit pgDMR DMR_STAT_COMMIT_PEND = false →
    Completes (.dmrCommit src true) s fun t => t.bit pgDMR DMR_STAT_COMMIT_PEND = true) ∧
  (s.dmr.stopped = false → s.bit pgDMR DMR_STAT_COMMIT_PEND = true → Completes .committed s fun t =>
    t.dmr.sec = s.rf pgDMR DMR_SET_LO_SEC + 2 ^ 32 * s.rf pgDMR DMR_SET_HI_SEC ∧ t.dmr.sub = 0 ∧
      t.bit pgDMR DMR_STAT_TIME_VALID = true ∧ t.bit pgDMR DMR_STAT_COMMIT_PEND = false))

/-- The optical cage and the test access port (R637, R648), and the boot ROM's recovery commands (R576). The regulators' port and the temperature sensors (R616 to R618, R627, R628). Where a rule leaves a point open, the clause takes the model's reading, log entries 38, 41 and 48. -/
def Obligations.PortsAndSensors : Prop := (∀ s : State,
  (∀ module plug, s.watched = true → Completes (.j3Plug module plug) s fun t =>
    t.bit pgFSC FSC_CONN_J3_MOD = module ∧ t.bit pgFSC FSC_CONN_J3_PLUG = (module && plug) ∧
      ((module && plug) = false → t.btx.light = false)) ∧
  (s.watched = true → s.bit pgFSC FSC_CONN_J3_MOD = true → s.bit pgFSC FSC_CONN_J3_PLUG = true →
    Completes .laserEnable s fun t => t.btx.light = true) ∧
  (∀ data, s.watched = true → Completes (.bypass data) s fun t =>
    t.tap.ir = 0xFF ∧ t.tap.pins = .normal ∧ t.out = .scan (bypassOut data) :: s.out) ∧
  (∀ cap data, s.watched = true → s.rf pgFLS FLS_SEC_DBG ≤ 2 →
    (Completes (.extest cap data) s fun t => t.tap.pins = .scan ∧ t.tap.bsr = data ∧ t.out = .scan cap :: s.out) ∧
    (Completes (.samplePreload cap data) s fun t => t.tap.pins = .normal ∧ t.tap.bsr = data ∧ t.out = .scan cap :: s.out) ∧
    (Completes (.clamp data) s fun t => t.tap.pins = .scan ∧ t.tap.bsr = s.tap.bsr) ∧
    Completes (.highz data) s fun t => t.tap.pins = .highZ) ∧
  (∀ cap data, s.watched = true → 2 < s.rf pgFLS FLS_SEC_DBG →
    Completes (.extest cap data) s fun t => t.tap.ir = 0xFF ∧ t.tap.pins = .normal ∧ t.tap.bsr = s.tap.bsr) ∧
  (s.watched = true → Completes .idcode s fun t =>
    t.tap.ir = 1 ∧ t.out = .scan ((List.range 32).map fun i => idcode.testBit i) :: s.out) ∧
  (∀ out, s.watched = true → Completes (.j7Session out) s fun t =>
    t.bit pgFSC FSC_CONN_J7_SESSION = out ∧ (out = false → t.tap.ir = 1 ∧ t.tap.pins = .normal)) ∧
  (s.sfc.recovery = true → s.recCmd = 1 → s.recAddr < 0x2000000 →
    Completes (.recoveryErase false) s fun t => t.rf pgGLB GLB_SCRATCH_DATA 1 = 0 ∧ t.rf pgGLB GLB_SCRATCH_DATA 0 % 65536 = 0 ∧
      ∀ a, a / 65536 = s.recAddr / 65536 → smGet (fun _ => 0xFF) t.sfc.flash a = 0xFF) ∧
  (s.sfc.recovery = true → s.recCmd = 2 → s.recAddr < 0x2000000 → s.recAddr % 256 = 0 → s.sfc.stage = none →
    Completes (.recoveryWrite false) s fun t => t.sfc.stage = some (s.recAddr,
      leBytes 4 (s.rf pgGLB GLB_SCRATCH_DATA 2) ++ leBytes 4 (s.rf pgGLB GLB_SCRATCH_DATA 3)) ∧
      t.rf pgGLB GLB_SCRATCH_DATA 1 = 0) ∧
  (s.sfc.recovery = true → s.recCmd = 3 → Completes .restart s fun t =>
    t.rf pgFLS FLS_LOCK_REGION &&& 0x63 = 0x63 ∧ t.rf pgGLB GLB_SCRATCH_DATA 1 = 0)) ∧
(∀ s : State,
  (∀ (src : Src) (v : Word32), s.accepts src 0x1070 = true → v.getLsbD 31 = true → v.getLsbD 30 = true →
    bits v.toNat 18 16 ≤ 6 → bits v.toNat 10 8 ≤ 4 → s.bit pgPWR PWR_PMB_STAT_BUSY = false →
    Completes (.pmbTransaction src v) s fun t => t.bit pgPWR PWR_PMB_STAT_BUSY = true ∧
      t.pwr.pmb = some { rd := true, r := bits v.toNat 18 16, len := bits v.toNat 10 8, code := bits v.toNat 7 0 }) ∧
  (∀ (p : Pmb) (st : Fin 5) (data : Word32), s.pwr.pmb = some p → p.rd = true → st.val = 0 →
    Completes (.pmbDone st data) s fun t => t.bit pgPWR PWR_PMB_STAT_BUSY = false ∧ t.rf pgPWR PWR_PMB_STAT_STATUS = 0 ∧
      t.pwr.pmb = none ∧ t.rf pgPWR PWR_PMB_DATA_DATA = data.toNat % 256 ^ p.len % 2 ^ 32) ∧
  (∀ (k : Fin 66) (raw : BitVec 16), k.val < 64 → s.snsUp = true → s.pwr.core = true →
    Completes (.sensorUpdate k raw) s fun t => t.bit pgSNS SNS_BAT_VALID k = true ∧
      t.rf pgSNS SNS_BAT_TEMP k = (raw + BitVec.ofNat 16 (s.rf pgSNS SNS_OFF_OFF k)).toNat) ∧
  (∀ raw, s.snsUp = true → Completes (.sensorUpdate 64 raw) s fun t => t.bit pgSNS SNS_INPUT_VALID = true ∧
      t.rf pgSNS SNS_INPUT_TEMP = (raw + BitVec.ofNat 16 (s.rf pgSNS SNS_OFF_OFF 64)).toNat) ∧
  (∀ k : Fin 73, k.val < 64 → s.snsUp = true →
    Completes (.snsReadingInvalid k) s fun t => t.bit pgSNS SNS_BAT_VALID k = false) ∧
  (∀ (r : Fin 7) (sw temp : BitVec 16), s.snsUp = true →
    Completes (.pmbusPoll [(r, sw, temp)]) s fun t => t.rf pgPWR PWR_VR_SW r = sw.toNat ∧
      t.bit pgPWR PWR_VR_FAULT r = (sw.toNat &&& 0xF73F != 0) ∧ t.rf pgSNS SNS_VR_TEMP r = temp.toNat))

/-- The flashing fuses (R535 to R542, R552): FLS_ARM, the commands of FLS_CMD that are armed, in range and not held off, and FLS_CMD_DONE. The flash (R553, R554): READ, PROG, ERASE, READ_ID start; FLASH_COMMAND_DONE ends each of them. Where a rule leaves a point open, the clause takes the model's reading, log entries 33, 34 and 35. -/
def Obligations.FuseAndFlash : Prop := (∀ (s : State) (src : Src),
  (∀ v, s.accepts src (pgFLS + 0x64) = true → Completes (.flsArm src v) s fun t => t.bit pgFLS FLS_STAT_ARMED = (v == 0xF1A5)) ∧
  (∀ (w : Fin 1024) r, s.accepts src (pgFLS + 0x68) = true → s.bit pgFLS FLS_STAT_ARMED = true →
    s.bit pgFLS FLS_CMD_STAT_BUSY = false → fuseRegion w = some r → s.flsLocked r = false → s.burnTemp = false →
    Completes (.burn src w) s fun t => t.fls.cmd = some (.burn w (s.rf pgFLS FLS_DATA_DATA)) ∧
      t.bit pgFLS FLS_CMD_STAT_BUSY = true ∧ t.bit pgFLS FLS_STAT_ARMED = false) ∧
  (∀ w : Fin 1024, s.accepts src (pgFLS + 0x68) = true → s.bit pgFLS FLS_STAT_ARMED = true →
    s.bit pgFLS FLS_CMD_STAT_BUSY = false → (fuseRegion w).isSome = true →
    (Completes (.mread src w) s fun t => t.reg (pgFLS + 0x70) = smGet (fun _ => 0) s.fls.margin w ∧ t.rf pgFLS FLS_CMD_STAT_STATUS = 0) ∧
    Completes (.nread src w) s fun t => t.reg (pgFLS + 0x70) = smGet (fun _ => 0) s.fls.normal w ∧ t.rf pgFLS FLS_CMD_STAT_STATUS = 0) ∧
  (∀ n : Fin 16, s.accepts src (pgFLS + 0x68) = true → s.bit pgFLS FLS_STAT_ARMED = true →
    s.bit pgFLS FLS_CMD_STAT_BUSY = false → n.val ≤ 3 → s.flsLocked 3 = false → s.burnTemp = false →
    s.rf pgFLS FLS_RB_VALUE n < 64 →
    Completes (.advRb src n) s fun t => t.fls.cmd = some (.advRb n) ∧ t.bit pgFLS FLS_CMD_STAT_BUSY = true) ∧
  (∀ l : Fin 16, s.accepts src (pgFLS + 0x68) = true → s.bit pgFLS FLS_STAT_ARMED = true →
    s.bit pgFLS FLS_CMD_STAT_BUSY = false → s.rf pgFLS FLS_SEC_DBG < l.val → l.val ≤ 3 → s.flsLocked 2 = false → s.burnTemp = false →
    Completes (.raiseDbg src l) s fun t => t.fls.cmd = some (.raiseDbg l) ∧ t.bit pgFLS FLS_CMD_STAT_BUSY = true) ∧
  (∀ v, s.accepts src (pgFLS + 0x60) = true → Completes (.flsLock src v) s fun t =>
    t.rf pgFLS FLS_LOCK_REGION = s.rf pgFLS FLS_LOCK_REGION ||| fieldGet v FLS_LOCK_REGION.lo FLS_LOCK_REGION.width ∧
      t.rf pgFLS FLS_LOCK_PROG = s.rf pgFLS FLS_LOCK_PROG ||| fieldGet v FLS_LOCK_PROG.lo FLS_LOCK_PROG.width) ∧
  (∀ c, s.fls.cmd = some c → Completes (.flsCmdDone []) s fun t => t.fls.cmd = none ∧
    t.bit pgFLS FLS_CMD_STAT_BUSY = false ∧ t.rf pgFLS FLS_CMD_STAT_STATUS = 0 ∧
    (s.flsBits c).all (fun e => bitOf (t.fuseM e.1) e.2) = true)) ∧
(∀ s : State,
  (∀ src, s.accepts src (pgSFC + 0x50) = true → s.bit pgSFC SFC_STAT_BUSY = false → 1 ≤ s.rf pgSFC SFC_LEN_LEN →
    s.rf pgSFC SFC_LEN_LEN ≤ 256 → s.rf pgSFC SFC_ADDR_ADDR + s.rf pgSFC SFC_LEN_LEN ≤ 0x4000000 →
    (Completes (.read src) s fun t => t.bit pgSFC SFC_STAT_BUSY = true ∧
      t.sfc.cmd = some (.read (s.rf pgSFC SFC_ADDR_ADDR) (s.rf pgSFC SFC_LEN_LEN))) ∧
    Completes (.readId src) s fun t => t.bit pgSFC SFC_STAT_BUSY = true ∧ t.sfc.cmd = some .readId) ∧
  (∀ src, s.accepts src (pgSFC + 0x50) = true → s.bit pgSFC SFC_STAT_BUSY = false → 1 ≤ s.rf pgSFC SFC_LEN_LEN →
    s.rf pgSFC SFC_ADDR_ADDR % 256 + s.rf pgSFC SFC_LEN_LEN ≤ 256 → s.rf pgSFC SFC_ADDR_ADDR + s.rf pgSFC SFC_LEN_LEN ≤ 0x4000000 →
    bitOf (s.rf pgSFC SFC_WP_WP) (flashPart (s.rf pgSFC SFC_ADDR_ADDR)) = false →
    (Completes (.prog src) s fun t => t.bit pgSFC SFC_STAT_BUSY = true ∧
      t.sfc.cmd = some (.prog (s.rf pgSFC SFC_ADDR_ADDR) ((List.range (s.rf pgSFC SFC_LEN_LEN)).map s.sfcBuf))) ∧
    Completes (.erase src) s fun t => t.bit pgSFC SFC_STAT_BUSY = true ∧
      t.sfc.cmd = some (.erase (s.rf pgSFC SFC_ADDR_ADDR / 65536 * 65536))) ∧
  (∀ a bs, s.sfc.cmd = some (.prog a bs) → Completes (.flashCommandDone false) s fun t =>
    t.sfc.cmd = none ∧ t.bit pgSFC SFC_STAT_BUSY = false ∧ t.rf pgSFC SFC_STAT_STATUS = 0 ∧
      ∀ i, i < bs.length → t.flashByte (a + i) = s.flashByte (a + i) &&& bs.getD i 0xFF) ∧
  (∀ a, s.sfc.cmd = some (.erase a) → Completes (.flashCommandDone false) s fun t =>
    t.sfc.cmd = none ∧ t.rf pgSFC SFC_STAT_STATUS = 0 ∧ ∀ x, t.flashByte x = if x / 65536 = a / 65536 then 0xFF else s.flashByte x) ∧
  (∀ a n, s.sfc.cmd = some (.read a n) → n ≤ 256 → Completes (.flashCommandDone false) s fun t =>
    t.sfc.cmd = none ∧ t.rf pgSFC SFC_STAT_STATUS = 0 ∧ ∀ i, i < n → t.sfcBuf i = s.flashByte (a + i)))

/-- The fascia lamps (R656 to R664) and the connectors that the monitor watches (R641 to R645, R652): PATTERN_STEP, PATTERN_RESTART, LAMP_TEST, TEST_DONE, REGULATION, J4_IN, J4_OUT, J5, SUPPLY_RETURN. Where a rule leaves a point open, the clause takes the model's reading, log entries 47 and 122. -/
def Obligations.LampsAndConnectors : Prop := ∀ s : State,
  (∀ (e : Fin 4) p, tDORMANT < s.tray → s.bit pgFSC PG_CTRL_FREEZE = false → s.pePat e = some p →
    Completes (.patternStep e.castSucc) s fun t => t.pe e = p.next (s.pe e) ∧
      t.rf pgFSC FSC_PE_POS_LEVEL e = (p.next (s.pe e)).level % 256) ∧
  (∀ p, tDORMANT < s.tray → s.bit pgFSC PG_CTRL_FREEZE = false → s.autoPat = some p →
    Completes (.patternStep 4) s fun t => t.pe 4 = p.next (s.pe 4)) ∧
  (∀ (src : Src) (e : Fin 4) (v : Word32), s.accepts src (pgFSC + 0x80 + 0x10 * e.val) = true → bits v.toNat 15 8 ≠ 0 →
    (e.val < 2 ∨ bits v.toNat 1 0 ≠ 2) → s.bit pgFSC FSC_CFG_AUTO = false →
    Completes (.patternRestart src e v) s fun t => t.rf pgFSC FSC_PE_CTL_MODE e = bits v.toNat 1 0 ∧
      ∀ p, t.pePat e = some p → t.pe e = p.first) ∧
  (∀ src, s.accepts src (pgFSC + 0xD0) = true → s.fsc.supply = true → s.bit pgFSC PG_CTRL_EN = true →
    Completes (.lampTest (some src)) s fun t => t.bit pgFSC FSC_TEST_STAT_RUN = true) ∧
  (s.fsc.supply = true → s.bit pgFSC PG_CTRL_EN = true →
    Completes (.lampTest none) s fun t => t.bit pgFSC FSC_TEST_STAT_RUN = true) ∧
  (∀ stat loc nsS nsL, s.bit pgFSC FSC_TEST_STAT_RUN = true → Completes (.testDone stat loc nsS nsL) s fun t =>
    t.bit pgFSC FSC_TEST_STAT_RUN = false ∧ t.fsc.sOff = nsS ∧ t.fsc.due = false ∧ bitOf (t.rf pgFSC PG_EVT_RAW) 4 = true ∧
      ∀ k, k < 8 → bitOf (s.rf pgFSC FSC_BYP_LATCH) k = false → bits stat.toNat (2 * k + 1) (2 * k) = 1 →
        s.rf pgFSC FSC_FAULT_STAT k = 0 → bitOf (t.rf pgFSC FSC_BYP_LATCH) k = true ∧ t.rf pgFSC FSC_FAULT_STAT k = 1) ∧
  (∀ loc, s.sinks = true → Completes (.regulation loc) s fun t => bitOf (t.rf pgFSC PG_EVT_RAW) 5 = true ∧
    (t.fsc.regDue = true ↔ s.fsc.regDue = true ∨ (loc = true ∧ s.locLit ≠ 0) ∨ (loc = false ∧ ∃ k, k < 8 ∧ s.statusLit k ≠ 0)) ∧
    t.bit pgFSC (if loc then FSC_REG_L_OUT else FSC_REG_S_OUT) = true) ∧
  (∀ st : Fin 4, s.watched = true → Completes (.j4In st) s fun t => t.rf pgFSC FSC_CONN_J4_IN = st.val ∧
    (smGet (fun _ => false) s.fsc.seen 16 = true → s.rf pgFSC FSC_CONN_J4_IN ≠ st.val → bitOf (t.rf pgFSC PG_EVT_RAW) 16 = true)) ∧
  (∀ st : Fin 3, s.watched = true → s.bit pgCRS CRS_SRC_SYNC_OUT_EN = true →
    Completes (.j4Out st) s fun t => t.rf pgFSC FSC_CONN_J4_OUT = st.val) ∧
  (∀ a b : Fin 4096, s.watched = true → Completes (.j5 a b) s fun t =>
    t.rf pgFSC FSC_J5_ID_ID_A = a.val ∧ t.rf pgFSC FSC_J5_ID_ID_B = b.val ∧ t.rf pgFSC FSC_CONN_J5 = ribbon a b ∧
      (ribbon a b ≠ 0 → t.fsc.supply = false)) ∧
  (s.watched = true → s.fsc.supply = false → s.rf pgFSC FSC_CONN_J5 = 0 → Completes .supplyReturn s fun t =>
    t.fsc.supply = true ∧ t.fsc.due = true ∧ bitOf (t.rf pgFSC PG_EVT_RAW) 6 = true)

/-- Debug access (R649, R650) and the gable store windows (R100, R101, R102). Where a rule leaves a point open, the clause takes the model's reading, log entries 12, 13, 45 and 87. -/
def Obligations.DebugAndWindows : Prop := ∀ s : State,
  (∀ data, s.watched = true → s.dbgOpen = true →
    (Completes (.dbgReg 0x16 none data) s fun t => t.tap.ir = 0x20 ∧ t.tap.data = (s.reg 0x58).toNat ∧ t.tap.status = 0 ∧
      t.out = .scan ((List.range 64).map fun i => (s.tap.data + 2 ^ 32 * s.tap.status).testBit i) :: s.out) ∧
    ∀ v, s.accepts .debug 0x58 = true → Completes (.dbgReg 0x16 (some v) data) s fun t => t.reg 0x58 = v ∧ t.tap.status = 0) ∧
  (∀ (g : Fin 2) left data, s.watched = true → s.dbgOpen = true → s.gabLive = true → (s.gable g).halted = false → s.inSvc g = false →
    (s.gable g).u.q.frame.length < 4 → Completes (.dbgGattn g 1 left data) s fun t => t.inSvc g = true) ∧
  (∀ (g : Fin 2) left data, s.watched = true → s.dbgOpen = true → s.inSvc g = true →
    Completes (.dbgGattn g 2 left data) s fun t => t.inSvc g = false) ∧
  (∀ (g : Fin 2) (rd rs1 rs2 : Fin 32) x data, s.watched = true → s.dbgOpen = true → s.inSvc g = true → (s.gable g).ov = false → rd.val ≠ 0 →
    Completes (.dbgGinsn g (BitVec.ofNat 32 (1 + 2 ^ 8 * rd.val + 2 ^ 13 * rs1.val + 2 ^ 18 * rs2.val)) x data) s fun t =>
      t.gRd g rd = s.gRd g rs1 + s.gRd g rs2 ∧ t.tap.gData = s.gRd g rs1 + s.gRd g rs2 ∧ t.tap.gVec = 0 ∧ t.gPc g = s.gPc g) ∧
  (∀ (src : Src) (o : Fin 0x10000) v (g : Fin 2), reaches src 0x1000000 = true → s.admits src = true → s.windowOpen src = true →
    s.selfRegion src g (4 * o.val / 0x10000) = false →
    Completes (.storeWindowAccess src ⟨0x40000 * g.val + o.val, by omega⟩ (some v) .clean) s fun t =>
      smGet codeDflt t.gcode (g.val * 2 ^ 17 + o.val) = { data := v }) ∧
  (∀ (src : Src) (k : Fin 0x80000) (g : Fin 2), reaches src 0x1000000 = true → s.admits src = true → s.windowOpen src = false →
    s.bit (pgGAB (k.val / 0x40000)) PG_ERR_VALID = false →
    Completes (.storeWindowAccess src k none .clean) s fun t => t.out = .data src 0 :: s.out ∧
      t.bit (pgGAB (k.val / 0x40000)) PG_ERR_VALID = true ∧ t.rf (pgGAB (k.val / 0x40000)) PG_ERR_CODE = eWINDOW_LOCKED) ∧
  (∀ (src : Src) (g : Fin 2) (w : Fin 16384) v, reaches src 0x1000000 = true → s.admits src = true → s.windowOpen src = true →
    12288 ≤ w.val → s.selfRegion src g 9 = false →
    Completes (.controlWordCommit src g w v) s fun t => t.ctlWord g w = BitVec.ofNat 128
      ((smGet (fun _ => (0 : Word32)) s.gstage (4 * g.val)).toNat + 2 ^ 32 * (smGet (fun _ => (0 : Word32)) s.gstage (4 * g.val + 1)).toNat +
        2 ^ 64 * (smGet (fun _ => (0 : Word32)) s.gstage (4 * g.val + 2)).toNat + 2 ^ 96 * v.toNat))

/-- Submission, domain binding, BAR2 windows and mailboxes (R669 to R671, R676, R681, R690). The gutter (R686 to R688) and the PCIe link (R574, R667, R668): doorbell, the four operations, resumption, configuration requests, LINK_CHG. Where a rule leaves a point open, the clause takes the model's reading, log entries 14, 53, 55, 56, 57 and 120. -/
def Obligations.HostCommands : Prop := (∀ s : State,
  (∀ (src : Src) (slot : Fin 2) (fn : Fin 16), s.accepts src (pgEAV + 0x64 + 0x10 * slot.val) = true → slotOwner slot src = true →
    Completes (.submit src slot fn) s fun t => t.rf pgEAV EAV_SUB_STAT_STATUS slot =
      (s.submitStatus (if slot = 0 then 0 else fn) (s.rf pgEAV EAV_SUB_HANDLE_HANDLE slot)).2.1 % 65536 ∧
      (t.rf pgEAV EAV_SUB_STAT_STATUS slot = 0 → t.pur.queue.length = s.pur.queue.length + 1)) ∧
  (∀ (fn : Fin 9) (d : Fin 64), s.accepts .host (pgEAV + 0x50) = true → s.fnOn fn = true → d.val < s.rf pgFLS FLS_SEC_D →
    (∀ f : Fin 9, f ≠ fn → s.bound f d = false) →
    Completes (.bind .host (fn.castLE (by decide)) d) s fun t => t.bound fn d = true ∧ t.rf pgEAV EAV_BIND_STAT_STATUS = 0) ∧
  (∀ (fn : Fin 9) (d : Fin 64), s.accepts .host (pgEAV + 0x50) = true → s.fnOn fn = true → d.val < s.rf pgFLS FLS_SEC_D →
    d.val ≠ 0 → (∀ p ∈ s.livePlans, p.domain ≠ d.val) →
    Completes (.unbind .host (fn.castLE (by decide)) d) s fun t => t.bound fn d = false ∧ t.rf pgEAV EAV_BIND_STAT_STATUS = 0) ∧
  (∀ (src : Src) (w : Fin 8) (h : Fin (2 ^ 24)), s.accepts src (pgEAV + 0xC0 + 4 * w.val) = true →
    (s.isObj h = true → (s.obj h).pin = true →
      Completes (.windowMap src w true h) s fun t => t.bit pgEAV EAV_WIN_VALID w = true ∧ t.rf pgEAV EAV_WIN_HANDLE w = h.val) ∧
    Completes (.windowMap src w false h) s fun t => t.bit pgEAV EAV_WIN_VALID w = false) ∧
  (∀ (addr : Fin (2 ^ 34)) (len : Nat), s.pwr.core = true → smGet (fun _ => false) s.eav.d3 0 = false → s.ready pgEAV = true →
    s.trayIdle = false → s.bit pgEAV EAV_WIN_VALID (addr.val / 2 ^ 31) = true →
    addr.val % 2 ^ 31 + len ≤ (s.obj (s.rf pgEAV EAV_WIN_HANDLE (addr.val / 2 ^ 31))).size1 + 1 →
    (s.obj (s.rf pgEAV EAV_WIN_HANDLE (addr.val / 2 ^ 31))).moving = false →
    (s.obj (s.rf pgEAV EAV_WIN_HANDLE (addr.val / 2 ^ 31))).state = .empty →
    Completes (.bar2Access addr len none) s fun t => t.out = .bytes .host (List.replicate len 0) false :: s.out) ∧
  (∀ (addr : Fin (2 ^ 34)) (b : Byte) (o : Obj) (a : Nat), s.pwr.core = true → smGet (fun _ => false) s.eav.d3 0 = false →
    s.ready pgEAV = true → s.trayIdle = false → s.bit pgEAV EAV_WIN_VALID (addr.val / 2 ^ 31) = true →
    o = s.obj (s.rf pgEAV EAV_WIN_HANDLE (addr.val / 2 ^ 31)) → addr.val % 2 ^ 31 ≤ o.size1 → o.moving = false →
    o.state = .resident → s.courseNames (s.rf pgEAV EAV_WIN_HANDLE (addr.val / 2 ^ 31)) = false →
    a = pagedAddr o.pages (addr.val % 2 ^ 31) → s.stackStopped (beatOf a).1 = false → s.hbm.syms = [] →
    Completes (.bar2Access addr 1 (some [b])) s fun t => t.hbmByte a = b) ∧
  (∀ (v : Fin 8) (code : Fin 256), s.accepts (.vf v) (pgVMB (v.val + 1) + 0x80) = true → s.bit (pgVMB (v.val + 1)) VMB_STAT_BUSY = false →
    Completes (.vmbDoor v code) s fun t => t.bit (pgVMB (v.val + 1)) VMB_STAT_BUSY = true ∧
      bitOf (t.rf pgEAV EAV_MB_PEND_PEND) v = true ∧ t.rf pgEAV EAV_MB_CODE_CODE v = code.val ∧ bitOf (t.rf pgEAV PG_EVT_RAW) 0 = true) ∧
  (∀ (v : Fin 8) (status : Fin 65536), s.accepts (.gable 1) (pgEAV + 0x1C0 + 0x100 * v.val) = true →
    s.bit (pgVMB (v.val + 1)) VMB_STAT_BUSY = true →
    Completes (.mbDone (.gable 1) v status) s fun t => t.bit (pgVMB (v.val + 1)) VMB_STAT_BUSY = false ∧
      t.rf (pgVMB (v.val + 1)) VMB_STAT_STATUS = status.val ∧ bitOf (t.rf (pgVMB (v.val + 1)) PG_EVT_RAW) 0 = true ∧
      (∀ k : Fin 16, t.rf (pgVMB (v.val + 1)) VMB_RSP_DATA k = s.rf pgEAV EAV_MB_RSP_DATA (16 * v.val + k.val)) ∧
      bitOf (t.rf pgEAV EAV_MB_PEND_PEND) v = false)) ∧
(∀ s : State,
  (∀ (src : Src) (c : Fin 8) (tail : Fin 4096), (∀ v, src ≠ .vf v) → src ≠ .gable 1 → s.accepts src (pgGUT + 0x10C + 0x20 * c.val) = true →
    Completes (.gutterDoorbell src c tail) s fun t => t.rf pgGUT GUT_CH_TAIL_TAIL c = tail.val) ∧
  (∀ (v : Fin 8) (c : Fin 8) (k : Nat) (tail : Fin 4096), s.accepts (.vf v) (pgVDB (v.val + 1) + 0x58) = true → s.vfChan (v.val + 1) = some k →
    Completes (.gutterDoorbell (.vf v) c tail) s fun t => t.rf pgGUT GUT_CH_TAIL_TAIL k = tail.val) ∧
  (∀ c : Fin 8, s.gutStarts c = true → s.rf pgGUT GUT_CH_CFG_LOG2 c ≤ 12 →
    s.gutGate (s.rf pgGUT GUT_CH_CFG_FUNC c) (s.gutDesc c) = 0 → s.gutWaits (s.gutDesc c) = false →
    ((s.gutDesc c).op = 0 → Completes (.hostToObject c .whole) s fun t =>
      t.rf pgGUT GUT_CH_HEAD_HEAD c = (s.rf pgGUT GUT_CH_HEAD_HEAD c % 2 ^ s.rf pgGUT GUT_CH_CFG_LOG2 c + 1) % 2 ^ s.rf pgGUT GUT_CH_CFG_LOG2 c ∧
        leNat (t.hostBytes (s.descAddr c + 0x1C) 4) = 0) ∧
    ((s.gutDesc c).op = 1 → (s.obj (s.gutDesc c).target).state ≠ .resident → Completes (.objectToHost c .whole) s fun t =>
      t.rf pgGUT GUT_CH_HEAD_HEAD c = (s.rf pgGUT GUT_CH_HEAD_HEAD c % 2 ^ s.rf pgGUT GUT_CH_CFG_LOG2 c + 1) % 2 ^ s.rf pgGUT GUT_CH_CFG_LOG2 c ∧
        leNat (t.hostBytes (s.descAddr c + 0x1C) 4) = 0) ∧
    ((s.gutDesc c).op = 2 → (s.gutDesc c).len = 1 → s.stWaits (s.gutDesc c).target (s.gutDesc c).offset ownGutter true = false →
      s.stDenied (s.gutDesc c).target (s.gutDesc c).offset ownGutter true false = none →
      Completes (.hostToStore c .whole) s fun t => leNat (t.hostBytes (s.descAddr c + 0x1C) 4) = 0 ∧
        t.stWord (s.gutDesc c).target (s.gutDesc c).offset = { data := BitVec.ofNat 72 (leNat (s.hostBytes (s.gutDesc c).haddr 9)) }) ∧
    ((s.gutDesc c).op = 3 → (s.gutDesc c).len = 1 → s.stWaits (s.gutDesc c).target (s.gutDesc c).offset ownGutter false = false →
      s.stDenied (s.gutDesc c).target (s.gutDesc c).offset ownGutter false false = none →
      (s.stRead (s.gutDesc c).target (s.gutDesc c).offset .clean).2.2 = false →
      Completes (.storeToHost c .whole []) s fun t => leNat (t.hostBytes (s.descAddr c + 0x1C) 4) = 0)) ∧
  (∀ c : Fin 8, smGet (fun _ => 0) s.eav.gut c ≠ 0 → s.rf pgGUT GUT_CH_CFG_LOG2 c ≤ 12 →
    s.gutGate (s.rf pgGUT GUT_CH_CFG_FUNC c) (s.gutDesc c) = 0 → s.gutWaits (s.gutDesc c) = false → (s.gutDesc c).op = 0 →
    Completes (.gutterResume c .whole) s fun t => smGet (fun _ => 0) t.eav.gut c = 0 ∧
      t.rf pgGUT GUT_CH_HEAD_HEAD c = (s.rf pgGUT GUT_CH_HEAD_HEAD c % 2 ^ s.rf pgGUT GUT_CH_CFG_LOG2 c + 1) % 2 ^ s.rf pgGUT GUT_CH_CFG_LOG2 c) ∧
  (s.pwr.core = true → s.ready pgEAV = false → ∀ op, Completes (.configRequest op) s fun t => t.out = .crs :: s.out) ∧
  (∀ (fn : Fin 9) (dw : Fin 1024), s.pwr.core = true → s.ready pgEAV = true → s.fnOn fn = true →
    Completes (.configRequest (.read fn dw)) s fun t => ∃ src v, t.out = .data src v :: s.out ∧
      (dw.val = 0 → v = 0x2C4D + 65536 * (if fn.val = 0 then 0x0440 else 0x0441))) ∧
  (s.pwr.core = true → s.ready pgEAV = true → ∀ n fn on,
    (Completes (.configRequest (.numVfs n)) s fun t => t.eav.vfs = n.val) ∧
    (Completes (.configRequest (.msix fn on)) s fun t => smGet (fun _ => false) t.eav.msix fn = on) ∧
    Completes (.configRequest (.d3hot fn on)) s fun t => smGet (fun _ => false) t.eav.d3 fn = on) ∧
  (∀ (w : Fin 17) (gen : Fin 7) flit, s.pwr.core = true → w.val = 4 ∨ w.val = 8 ∨ w.val = 16 → gen.val ≠ 0 →
    Completes (.linkChg true w gen flit) s fun t => t.bit pgEAV EAV_LINK_UP = true ∧ t.rf pgEAV EAV_LINK_WIDTH = w.val ∧
      t.rf pgEAV EAV_LINK_GEN = gen.val ∧ t.bit pgEAV EAV_LINK_FLIT = flit ∧ bitOf (t.rf pgEAV PG_EVT_RAW) 1 = true) ∧
  (∀ w gen flit, s.pwr.core = true → Completes (.linkChg false w gen flit) s fun t =>
    t.bit pgEAV EAV_LINK_UP = false ∧ t.rf pgEAV EAV_LINK_WIDTH = 0))

/-- The tick (R29, R40, R61): the course number advances once the course's selection point has passed, but not at the first tick; the coming course opens in its arm window, or the timer stops when it was disabled. Where a rule leaves a point open, the clause takes the model's reading, log entry 27. -/
def Obligations.TickAdvancesTheCourse : Prop := ∀ (s : State) (uj : Fin (2 ^ 31)) (valid : Bool), s.crs.running = true →
  (s.crs.first = false → s.crs.judged = true → s.lastCourse = false → Completes (.tick uj valid) s fun t =>
    t.courseNum = (s.courseNum + 1) % 2 ^ 64 ∧ t.phase = 1 ∧ t.crs.running = true ∧ t.crs.judged = false ∧
      bitOf (t.rf pgCRS PG_EVT_RAW) 0 = true) ∧
  (s.crs.first = true → s.lastCourse = false → (s.bit pgCRS CRS_SRC_MODE = false ∨ s.crs.marked = true) →
    Completes (.tick uj valid) s fun t => t.courseNum = s.courseNum ∧ t.phase = 1 ∧ t.crs.first = false) ∧
  (s.crs.first = false → s.crs.judged = true → s.lastCourse = true → s.bit pgCRS PG_STAT_EN_PEND = false → Completes (.tick uj valid) s fun t =>
    t.crs.running = false ∧ t.crs.run = none ∧ t.phase = 0 ∧ t.bit pgCRS PG_STAT_QUIESCING = false)

/-- The instants within a course (R27 to R30, R51, R56) and at its selection point (R52, R156): RUN_PHASE_START, PLAN_DONE, BUDGET_SLIP, SELECTION_POINT, VOLTAGE_RAMP, OVR_LIMIT. Where a rule leaves a point open, the clause takes the model's reading, log entry 30. -/
def Obligations.CourseInstants : Prop := ∀ s : State,
  (s.crs.running = true → s.phase = 1 → Completes .runPhaseStart s fun t => t.phase = 2) ∧
  (∀ r, s.live = some r → s.phase = 2 → s.planEnded r = true →
    Completes .planDone s fun t => t.bit pgCRS CRS_STAT_PLAN_DONE = true) ∧
  (∀ r, s.crs.run = some r → s.phase = 2 → s.crs.slipped = false → s.crs.trayFail = false → s.planEnded r = false →
    Completes .budgetSlip s fun t => t.crs.slipped = true ∧ bitOf (t.rf pgCRS PG_EVT_RAW) 3 = true ∧
      t.rf pgCRS CRS_SLIP_CNT_COUNT = min 65535 (s.rf pgCRS CRS_SLIP_CNT_COUNT + 1)) ∧
  (∀ actual, s.crs.running = true → s.crs.judged = false → s.crs.first = false → s.phase = 2 →
    Completes (.selectionPoint actual) s fun t => t.crs.judged = true ∧ t.phase = 3 ∧ t.crs.next.isSome = true ∧
      ((s.bit pgCRS PG_CTRL_FREEZE = true ∨ s.bit pgCRS CRS_STAT_SEQ_HOLD = true ∨ s.trayFailed = true ∨ s.lastCourse = true) →
        t.rf pgPUE PUE_LAST_SEL_REASON = 4 ∧ t.rf pgPUE PUE_LAST_SEL_WAD = 1 ∧ (t.crs.next.bind (·.run)) = none)) ∧
  (∀ n, s.crs.running = true → s.crs.judged = true → s.crs.next = some n → n.op < s.crs.volt →
    Completes .voltageRamp s fun t => t.crs.volt = n.op) ∧
  (s.crs.limitDue = true → Completes .ovrLimit s fun t => t.crs.limitDue = false ∧ bitOf (t.rf pgCRS PG_EVT_RAW) 9 = true)

/-- R156: the governor goes through the ready plans in rank order and takes the first that is eligible and fits at some operating point, at the fastest such point. -/
def Obligations.SelectionFollowsRank : Prop := ∀ (s : State) (len : Nat) (ps : List Plan) (p : Plan) (k : Nat),
  s.pick len ps = some (p, k) → ∃ l r, ps = l ++ p :: r ∧ (∀ q ∈ l, s.bestOp q len = none) ∧
    s.eligible p k len = true ∧ s.fitsEnergy p k len = true ∧ s.fitsHeat p k len = true ∧
    ∀ j, j < k → ¬ (s.eligible p j len = true ∧ s.fitsEnergy p j len = true ∧ s.fitsHeat p j len = true)

/-- Ring lockstep (R32 to R39) and staged lengths (R67): SYNC_MARK, SYNC_MARK_EMIT, SYNC_MISS, SYNC_LOST, SYNC_BACK, NEXT_LEN_ARM, CANCEL. Reservations and priority changes (R159, R160, R163 to R165; a change while BUSY is refused). Where a rule leaves a point open, the clause takes the model's reading, log entries 21, 32 and 49. -/
def Obligations.RingAndGovernor : Prop := (∀ s : State,
  (∀ (w : BitVec 48) (phase : BitVec 16) gap, s.rf pgFSC FSC_CONN_J4_IN = 0 → s.bit pgCRS CRS_SRC_MODE = true → s.crs.running = true →
    s.crs.first = false → s.crs.lost = false → markChecks w.toNat = true → phase.toInt.natAbs ≤ 100 →
    Completes (.syncMark w phase gap) s fun t => t.crs.missed = 0 ∧ t.bit pgCRS CRS_STAT_HOLDOVER = false ∧
      t.bit pgCRS CRS_SYNC_MEAS_VALID = true ∧ t.rf pgCRS CRS_SYNC_MEAS_PHASE = phase.toNat) ∧
  (s.crs.running = true → s.bit pgCRS CRS_SRC_MODE = false → s.bit pgCRS CRS_SRC_SYNC_OUT_EN = true →
    Completes .syncMarkEmit s fun t => t.out = .mark (markWord s.comingNum s.comingLen) :: s.out ∧
      t.crs.sent = some (markWord s.comingNum s.comingLen)) ∧
  (s.follows = true → Completes .syncMiss s fun t => t.crs.missed = s.crs.missed + 1 ∧ t.bit pgCRS CRS_STAT_HOLDOVER = true ∧
    bitOf (t.rf pgCRS PG_EVT_RAW) 4 = true) ∧
  (s.follows = true → s.crs.lost = false → 1 ≤ s.crs.missed → s.rf pgCRS CRS_SRC_HOLD ≤ s.crs.missed →
    Completes .syncLost s fun t => t.bit pgCRS CRS_STAT_SYNC_OK = false ∧ t.crs.lost = true ∧ bitOf (t.rf pgCRS PG_EVT_RAW) 5 = true) ∧
  (s.crs.backDue = true → Completes .syncBack s fun t => t.bit pgCRS CRS_STAT_SYNC_OK = true ∧ t.bit pgCRS CRS_STAT_REALIGN = false ∧
    t.crs.lost = false ∧ bitOf (t.rf pgCRS PG_EVT_RAW) 6 = true) ∧
  (∀ src (v : Word32), s.accepts src (pgCRS + 0x60) = true → s.bit pgCRS CRS_STAT_NEXT_ARMED = false → s.lenLate v.toNat = false →
    Completes (.nextLenArm src v) s fun t => t.bit pgCRS CRS_STAT_NEXT_ARMED = true ∧ t.rf pgCRS CRS_NEXT_AT_AT = v.toNat) ∧
  (∀ src, s.accepts src (pgCRS + 0x8C) = true → s.bit pgCRS CRS_STAT_NEXT_ARMED = true → s.lenLate (s.rf pgCRS CRS_NEXT_AT_AT) = false →
    Completes (.cancel src) s fun t => t.bit pgCRS CRS_STAT_NEXT_ARMED = false)) ∧
(∀ s : State,
  (∀ q p, s.crs.running = true → s.gov.due = some q → s.gov.resv = none → s.queued q = some p → p.ready = true →
    s.rf pgPUE PUE_CFG_STARVE ≠ 0 → Completes .resvStart s fun t => t.gov.resv = some q ∧ t.gov.due = none ∧ t.gov.count = 0 ∧
      t.bit pgPUE PUE_RESV_ACTIVE = true ∧ bitOf (t.rf pgPUE PG_EVT_RAW) 2 = true) ∧
  (∀ q, s.crs.running = true → s.gov.resv = some q → 4 * s.rf pgPUE PUE_CFG_STARVE ≤ s.gov.count →
    Completes .resvLapse s fun t => t.gov.resv = none ∧ t.bit pgPUE PUE_RESV_ACTIVE = false ∧ bitOf (t.rf pgPUE PG_EVT_RAW) 3 = true ∧
      ∀ p ∈ t.pur.queue, p.seq = q → p.passed = 0) ∧
  (∀ (src : Src) (slot : Fin 2) (fn prio : Fin 16) q, s.accepts src (pgPUE + 0x114 + 0x10 * slot.val) = true → slotOwner slot src = true →
    fn.val ≤ 8 → s.bit pgPUE PUE_PRI_STAT_BUSY slot = false → s.findPlan fn (s.rf pgPUE PUE_PRI_ID_ID slot) = some (q, true) →
    Completes (.priorityChange src slot fn prio) s fun t => t.rf pgPUE PUE_PRI_STAT_STATUS slot = 1 ∧
      t.pur.queue.length = s.pur.queue.length ∧ ∀ p ∈ t.pur.queue, p.seq = q → p.prio = prio.val) ∧
  (∀ (src : Src) (slot : Fin 2) (fn prio : Fin 16), s.accepts src (pgPUE + 0x114 + 0x10 * slot.val) = true → slotOwner slot src = true →
    fn.val ≤ 8 → s.bit pgPUE PUE_PRI_STAT_BUSY slot = false → s.findPlan fn (s.rf pgPUE PUE_PRI_ID_ID slot) = none →
    Completes (.priorityChange src slot fn prio) s fun t => t.rf pgPUE PUE_PRI_STAT_STATUS slot = 3 ∧ t.pur.queue = s.pur.queue) ∧
  (∀ (src : Src) (slot : Fin 2) (fn prio : Fin 16), s.accepts src (pgPUE + 0x114 + 0x10 * slot.val) = true → slotOwner slot src = true →
    s.bit pgPUE PUE_PRI_STAT_BUSY slot = true →
    Completes (.priorityChange src slot fn prio) s fun t => s.records t pgPUE eSTATE ∧ t.pur.queue = s.pur.queue))

/-- The object commands (R119 to R122), taken up in their slot while it is not busy, with arguments in range. The pager (R116, R137, R140): PAGE_OUT, PAGE_IN, PAGE_MOVE, PAGER_POISON, OT_REPAIRED. Where a rule leaves a point open, the clause takes the model's reading, log entries 50, 51 and 74. -/
def Obligations.ObjectsAndPager : Prop := (∀ (s : State) (src : Src) (slot : Fin 2), s.accepts src (pgPUR + 0xD0 + 0x20 * slot.val) = true →
  slotOwner slot src = true → s.bit pgPUR PUR_CMD_STAT_BUSY slot = false →
  (s.cmdGate slot false = 0 → s.arg0 slot < 2 ^ 31 → s.arg1 slot < 2 ^ 15 → bits (s.arg1 slot) 7 6 = 0 → bits (s.arg1 slot) 11 8 ≤ 4 →
    bits (s.arg1 slot) 14 12 ≤ 4 → s.domainBad (s.cmdFunc slot) (bits (s.arg1 slot) 5 0) = false → s.handleOk s.lowestFree = true →
    Completes (.create src slot) s fun t => t.rf pgPUR PUR_CMD_STAT_STATUS slot = 0 ∧ t.rf pgPUR PUR_CMD_RES0_RES slot = s.lowestFree % 2 ^ 32 ∧
      t.obj s.lowestFree = ({
          state := .empty, place := bits (s.arg1 slot) 14 12, kind := bits (s.arg1 slot) 11 8, owner := s.cmdFunc slot
          domain := bits (s.arg1 slot) 5 0, size1 := s.arg0 slot, last := s.courseNum } : Obj) ∧
      (s.tabHas 0 s.lowestFree = true → s.stackStopped 0 = false → ∃ p, t.tabEntry s.lowestFree = (t.obj s.lowestFree).entry p)) ∧
  (s.cmdGate slot false = 0 → s.arg0 slot < 2 ^ 24 → s.handleOk (s.arg0 slot) = true → (s.obj (s.arg0 slot)).state ≠ .free →
    s.cmdFunc slot = 0 ∨ (s.obj (s.arg0 slot)).owner = s.cmdFunc slot →
    (s.inPlan (s.arg0 slot) = false → Completes (.free src slot) s fun t =>
      t.rf pgPUR PUR_CMD_STAT_STATUS slot = 0 ∧ (t.obj (s.arg0 slot)).state = .free) ∧
    ((s.obj (s.arg0 slot)).pin = true ∨ s.pinnedPages + (s.obj (s.arg0 slot)).npages ≤ s.rf pgPUR PUR_PIN_MAX_PAGES →
      Completes (.pin src slot) s fun t => t.rf pgPUR PUR_CMD_STAT_STATUS slot = 0 ∧ t.obj (s.arg0 slot) = { s.obj (s.arg0 slot) with pin := true }) ∧
    (Completes (.unpin src slot) s fun t => t.rf pgPUR PUR_CMD_STAT_STATUS slot = 0 ∧
      t.obj (s.arg0 slot) = { s.obj (s.arg0 slot) with pin := false } ∧
        ∀ w : Fin 8, t.bit pgEAV EAV_WIN_VALID w = true → t.rf pgEAV EAV_WIN_HANDLE w ≠ s.arg0 slot) ∧
    (s.candidate (s.arg0 slot) = true → (s.obj (s.arg0 slot)).npages ≤ s.slotsFree → Completes (.evict src slot) s fun t =>
      t.rf pgPUR PUR_CMD_STAT_STATUS slot = 0 ∧ ({ out := true, handle := s.arg0 slot } : Ask) ∈ t.pur.asks) ∧
    ((s.obj (s.arg0 slot)).state = .evicted → (s.obj (s.arg0 slot)).moving = false → Completes (.fetch src slot) s fun t =>
      t.rf pgPUR PUR_CMD_STAT_STATUS slot = 0 ∧ ({ out := false, handle := s.arg0 slot } : Ask) ∈ t.pur.asks) ∧
    Completes (.query src slot) s fun t => t.rf pgPUR PUR_CMD_STAT_STATUS slot = 0 ∧
      t.rf pgPUR PUR_CMD_RES0_RES slot = (s.tabEntry (s.arg0 slot)).toNat % 2 ^ 32 ∧
      t.rf pgPUR PUR_CMD_RES1_RES slot = (s.tabEntry (s.arg0 slot)).toNat / 2 ^ 192 % 2 ^ 32 ∧
      (∀ p, p < 2 ^ 32 → (s.obj (s.arg0 slot)).word0 < 2 ^ 32 → (s.obj (s.arg0 slot)).size1 < 2 ^ 32 → (s.obj (s.arg0 slot)).last < 2 ^ 64 →
        (s.obj (s.arg0 slot)).slots.headD 0 < 2 ^ 32 → s.tabEntry (s.arg0 slot) = (s.obj (s.arg0 slot)).entry p →
        t.rf pgPUR PUR_CMD_RES0_RES slot = (s.obj (s.arg0 slot)).word0 % 2 ^ 32 ∧
        t.rf pgPUR PUR_CMD_RES1_RES slot = (s.obj (s.arg0 slot)).epoch % 2 ^ 32) ∧ bitOf (t.rf pgPUR PG_EVT_RAW) slot = true) ∧
  (Completes (.stGrant src slot) s fun t => t.bit pgPUR PUR_CMD_STAT_BUSY slot = true ∧ t.pur.stWait.length = s.pur.stWait.length + 1) ∧
  Completes (.stFree src slot) s (fun t => t.bit pgPUR PUR_CMD_STAT_BUSY slot = true ∧ t.pur.stWait.length = s.pur.stWait.length + 1)) ∧
(∀ s : State,
  (∀ a, s.pagerFree = true → s.pagerPick = some a → a.out = true → Completes .pageOut s fun t =>
    (t.obj a.handle).moving = true ∧ ∃ m, t.pur.move = some m ∧ m.out = true ∧ m.handle = a.handle ∧ m.pages = (s.obj a.handle).pages ∧
      m.slots.length = (s.obj a.handle).npages) ∧
  (∀ a, s.pagerFree = true → s.pagerPick = some a → a.out = false → Completes .pageIn s fun t =>
    (t.obj a.handle).moving = true ∧ ∃ m, t.pur.move = some m ∧ m.out = false ∧ m.handle = a.handle ∧ m.slots = (s.obj a.handle).slots ∧
      m.pages.length = (s.obj a.handle).npages) ∧
  (∀ m, s.frozenPage pgPUR = false → s.tray ≠ tIDLE → s.pur.move = some m → s.pur.dying = [] → s.hbm.syms = [] → m.pages.length ≤ m.next + 1 →
    (m.out = true → Completes (.pageMove true) s fun t => t.pur.move = none ∧ (t.obj m.handle).state = .evicted ∧
      (t.obj m.handle).slots = m.slots ∧ (t.obj m.handle).moving = false) ∧
    (m.out = false → Completes (.pageMove true) s fun t => t.pur.move = none ∧ (t.obj m.handle).state = .resident ∧
      (t.obj m.handle).pages = m.pages ∧ (t.obj m.handle).moving = false)) ∧
  (∀ (h : Fin (2 ^ 24)) (out : Bool), s.pur.move = none → 3 ≤ smGet (fun _ => 0) s.pur.tries (tryKey out h) →
    Completes (.pagerPoison h out) s fun t => (t.obj h).poison = true ∧ smGet (fun _ => 0) t.pur.tries (tryKey out h) = 0) ∧
  (∀ c idx, s.pur.unrep.find? (fun e => decide (0 < s.freeCount e.1)) = some (c, idx) → s.hbm.syms = [] →
    Completes .otRepaired s fun t => t.pur.unrep = s.pur.unrep.filter (· != (c, idx))))

/-- Standing grants at a selection point (R124, R125): a run of free shingles, the highest one, is granted; a grant is removed. R124, R125: the run that a grant takes lies on the batten, apart from every grant there, and no higher run is free. Where a rule leaves a point open, the clause takes the model's reading, log entry 52. -/
def Obligations.StandingGrants : Prop := (∀ (s : State) (slot : Nat) (c : StCmd), s.selPoint = true → s.frozenPage pgPUR = false →
  s.pur.stWait = [(slot, c)] → slot < 2 → s.ready pgPUR = true → c.bad = false →
  (c.free = false → (s.grant c.num).len = 0 → s.bit (pgBST c.batten) BST_FENCE_FENCED = false → ∀ f, s.grantRun c.batten c.len = some f →
    Completes .standingGrantApply s fun t => t.grant c.num = { batten := c.batten, first := f, len := c.len } ∧
      t.rf pgPUR PUR_CMD_STAT_STATUS slot = 0 ∧ t.pur.stWait = []) ∧
  (c.free = true → (s.grant c.num).len ≠ 0 → Completes .standingGrantApply s fun t => t.grant c.num = {} ∧
    t.rf pgPUR PUR_CMD_STAT_STATUS slot = 0 ∧ t.pur.stWait = [])) ∧
(∀ (s : State) (b len f : Nat), 1 ≤ len → len ≤ 1024 → s.grantRun b len = some f →
  f + len ≤ 1024 ∧ (∀ g ∈ s.grantsOn b, f + len ≤ g.first ∨ g.first + g.len ≤ f) ∧
    ∀ f', f < f' → f' + len ≤ 1024 → ∃ g ∈ s.grantsOn b, ¬ (f' + len ≤ g.first ∨ g.first + g.len ≤ f'))

/-- Batten stores: owners (R175), the check code (R190), fences and marches (R194 to R207). R190, R191, R192: a read of a store word. A clean word is delivered; a single-bit error is corrected, counted and queued for its write-back; an uncorrectable one is delivered as POISON, counted and fences the batten. Where a rule leaves a point open, the clause takes the model's reading, log entries 60 and 61. -/
def Obligations.BattenStores : Prop := (∀ (s : State) (b : Fin 64),
  (∀ (src : Src) (j : Fin 8) (v : Word32), s.accepts src (pgBST b + 0x40 + 4 * j.val) = true →
    (∀ i : Fin 4, ownValid (bits v.toNat (8 * i.val + 7) (8 * i.val)) = true) → s.planOn b = false →
    Completes (.ownerWrite src b j v) s fun t => ∀ i : Fin 4,
      ownByte (t.rf (pgBST b) BST_OWNER_BANK (4 * j.val + i.val)) = ownByte (bits v.toNat (8 * i.val + 7) (8 * i.val)) ∧
      (ownByte (s.rf (pgBST b) BST_OWNER_BANK (4 * j.val + i.val)) ≠ ownByte (bits v.toNat (8 * i.val + 7) (8 * i.val)) →
        bitOf (t.rf (pgBST b) BST_OWNER_PEND_PEND) (4 * j.val + i.val) = true)) ∧
  (∀ bank : Fin 32, Completes (.handoverComplete b bank) s fun t => bitOf (t.rf (pgBST b) BST_OWNER_PEND_PEND) bank = false) ∧
  (∀ a r, (s.batten b).writeBack = a :: r → s.bankTested b (bankOf a) = false → Completes (.correctionWriteBack b) s fun t =>
    t.stWord b a = { data := (s.stWord b a).data } ∧ a ∉ (t.batten b).writeBack) ∧
  (s.rf (pgBST b) BST_CFG_CE_FENCE ≠ 0 → s.rf (pgBST b) BST_CFG_CE_FENCE ≤ (s.batten b).ceCourse →
    s.bit (pgBST b) BST_FENCE_FENCED = false → (s.batten b).fenceDue = false → (s.batten b).fenceTick = false →
    Completes (.ceFence b) s fun t => (t.batten b).fenceDue = true ∧ t.rf (pgBST b) BST_FENCE_CAUSE = 2) ∧
  (∀ src, s.accepts src (pgBST b + 0x68) = true → s.bit (pgBST b) BST_FENCE_FENCED = false →
    Completes (.fenceRequest src b) s fun t => t.bit (pgBST b) BST_FENCE_REQ = true ∧
      ((t.batten b).fenceDue = true ∨ (t.batten b).fenceTick = true)) ∧
  ((s.batten b).fenceTick = true → Completes (.fenced b) s fun t => t.bit (pgBST b) BST_FENCE_FENCED = true ∧
    t.bit (pgBST b) BST_FENCE_REQ = false ∧ bitOf (t.rf (pgBST b) PG_EVT_RAW) 4 = true) ∧
  (s.bit (pgBST b) BST_FENCE_FENCED = true → (s.batten b).backTick = true → Completes (.unfenced b) s fun t =>
    t.bit (pgBST b) BST_FENCE_FENCED = false ∧ bitOf (t.rf (pgBST b) PG_EVT_RAW) 5 = true) ∧
  (∀ src (mode : Fin 4), s.accepts src (pgBST b + 0x70) = true → s.marchStatus b mode (s.rf (pgBST b) BST_MARCH_BANKS_BANKS) false = 0 →
    Completes (.marchRequest src b mode) s fun t => t.rf (pgBST b) BST_MARCH_STAT_STATUS = 0 ∧ t.bit (pgBST b) BST_MARCH_STAT_RUN = true ∧
      ∃ m, (t.batten b).march = some m ∧ m.mode = mode.val ∧ m.banks = s.rf (pgBST b) BST_MARCH_BANKS_BANKS ∧
        m.waiting = (s.crs.running && !s.bit (pgBST b) BST_FENCE_FENCED)) ∧
  (∀ m, (s.batten b).march = some m → m.waiting = true → s.gated = false → s.bit (pgBST b) BST_FENCE_FENCED = true →
    Completes (.marchStart b) s fun t => (t.batten b).march = some { mode := m.mode, banks := m.banks, waiting := false, fenced := true } ∧
      t.bit (pgBST b) BST_FENCE_MARCHING = true) ∧
  (∀ m, (s.batten b).march = some m → m.waiting = false → s.gated = false → s.bit (pgBST b) BST_FENCE_FENCED = false →
    Completes (.marchDone b []) s fun t => (t.batten b).march = none ∧ t.bit (pgBST b) BST_MARCH_STAT_PASS = true ∧
      t.bit (pgBST b) BST_MARCH_STAT_DONE = true ∧ t.bit (pgBST b) BST_MARCH_STAT_RUN = false ∧
      (m.mode = 0 → ∀ k : Fin 32, bitOf m.banks k = true → ∀ a, a < 2 ^ 18 → a % 32 = k.val → t.stWord b a = {})) ∧
  (∀ src (bank : Fin 32) (v : Word32), s.accepts src (pgBST b + 0x200 + 4 * bank.val) = true → s.planUses b = false →
    s.bit (pgBST b) BST_REPAIR_VALID0 bank = false → bits v.toNat 7 7 = 1 → bits v.toNat 23 16 = 0 →
    s.bit (pgBST b) BST_REPAIR_VALID1 bank = false →
    Completes (.repairWrite src b bank v) s fun t => t.bit (pgBST b) BST_REPAIR_VALID0 bank = true ∧
      t.bit (pgBST b) BST_REPAIR_SOFT0 bank = true ∧ t.rf (pgBST b) BST_REPAIR_ROW0 bank = bits v.toNat 6 0)) ∧
(∀ (s : State) (b a : Nat), a < 2 ^ 18 → b < 64 →
  ((s.stWord b a).err = .clean → (s.stRead b a .clean).1.regs = s.regs ∧ (s.stRead b a .clean).2 = ((s.stWord b a).data, false)) ∧
  ((s.stWord b a).err = .clean → (s.stRead b a .single).2 = ((s.stWord b a).data, false) ∧
    a ∈ ((s.stRead b a .single).1.batten b).writeBack ∧
    (s.stRead b a .single).1.rf (pgBST b) BST_CE_CNT_COUNT = min (2 ^ BST_CE_CNT_COUNT.width - 1) (s.rf (pgBST b) BST_CE_CNT_COUNT + 1)) ∧
  ((s.stWord b a).err = .clean → (s.stRead b a .multi).2.2 = true ∧ bitOf ((s.stRead b a .multi).1.rf (pgBST b) PG_EVT_RAW) 1 = true ∧
    (s.bit (pgBST b) BST_FENCE_FENCED = false → (s.batten b).fenceDue = false → (s.batten b).fenceTick = false →
      ((s.stRead b a .multi).1.batten b).fenceDue = true)))

/-- Modes of slate arrays (R215, R216, R237, R391) and the modulus table (R227, R228, R238): MODE_CHANGE, MODE_CHANGE_DONE, ARRAY_OPERATION_DONE, MODULUS_ENTRY_CHECK, MODULUS_VALUE_WRITE, MOD_VALID. Slate loads and stores (R212, R223, R390): CLEAR, LLOAD, PLOAD, PSTORE, DRAIN, and the tables that RQLOAD, MODLOAD and COLMAP write. Store operands pass through the batten's windows. Where a rule leaves a point open, the clause takes the model's reading, log entries 28, 65, 66 and 67. -/
def Obligations.SlateTablesAndLoads : Prop := (∀ (s : State) (b : Fin 64),
  (∀ (a : Fin 4) m r, (s.arr (arrNo b a)).want = m :: r → (s.arr (arrNo b a)).queue = 0 →
    Completes (.modeChange b a) s fun t => (t.arr (arrNo b a)).changing = true ∧ (t.arr (arrNo b a)).want = m :: r) ∧
  (∀ (a : Fin 4) m r, (s.arr (arrNo b a)).changing = true → (s.arr (arrNo b a)).want = m :: r → m < 3 → s.gated = false →
    Completes (.modeChangeDone b a) s fun t => t.arrMode (arrNo b a) = m ∧ (r = [] → (t.arr (arrNo b a)).changing = false) ∧
      (t.arr (arrNo b a)).want = r ∧ (∀ r i j, r < 32 → i < 32 → j < 32 → t.pock (arrNo b a) r i j = 0) ∧
      ∀ m n, m < 256 → n < 256 → t.accu (arrNo b a) m n = 0) ∧
  (∀ (a : Fin 4) busy, (s.arr (arrNo b a)).queue ≠ 0 → s.gated = false → Completes (.arrayOperationDone b a busy) s fun t =>
    (t.arr (arrNo b a)).queue + 1 = (s.arr (arrNo b a)).queue ∧
    smGet (fun _ => 0) t.slt.busyRest b = (smGet (fun _ => 0) s.slt.busyRest b + busy) % 1024 ∧
    t.rf (pgBTN b) BTN_BUSY_CNT_COUNT = min (2 ^ BTN_BUSY_CNT_COUNT.width - 1)
      (s.rf (pgBTN b) BTN_BUSY_CNT_COUNT + (smGet (fun _ => 0) s.slt.busyRest b + busy) / 1024)) ∧
  (∀ src (e : Fin 96) (v : Word32), s.accepts src (pgSLT b + 0x410 + 32 * e.val) = true → s.planUses b = false →
    Completes (.modulusEntryCheck src b e v) s fun t => t.rf (pgSLT b) SLT_MCTL_STATE e = 1 ∧
      t.rf (pgSLT b) SLT_MCTL_LOGN e = bits v.toNat 4 0 ∧ t.rf (pgSLT b) SLT_MCTL_WHY e = 0 ∧ t.modQ b e = s.modQ b e) ∧
  (∀ src (e : Fin 96) (v : Word32), s.planUses b = false →
    (s.accepts src (pgSLT b + 0x400 + 32 * e.val) = true → Completes (.modulusValueWrite src b e 0 v) s fun t =>
      t.rf (pgSLT b) SLT_Q_LO_Q e = v.toNat ∧ t.rf (pgSLT b) SLT_MCTL_STATE e = 0) ∧
    (s.accepts src (pgSLT b + 0x404 + 32 * e.val) = true → Completes (.modulusValueWrite src b e 1 v) s fun t =>
      t.rf (pgSLT b) SLT_Q_HI_Q e = v.toNat % 16 ∧ t.rf (pgSLT b) SLT_MCTL_STATE e = 0) ∧
    (s.accepts src (pgSLT b + 0x408 + 32 * e.val) = true → Completes (.modulusValueWrite src b e 2 v) s fun t =>
      t.rf (pgSLT b) SLT_PSI_LO_PSI e = v.toNat ∧ t.rf (pgSLT b) SLT_MCTL_STATE e = 0) ∧
    (s.accepts src (pgSLT b + 0x40C + 32 * e.val) = true → Completes (.modulusValueWrite src b e 3 v) s fun t =>
      t.rf (pgSLT b) SLT_PSI_HI_PSI e = v.toNat % 16 ∧ t.rf (pgSLT b) SLT_MCTL_STATE e = 0)) ∧
  (∀ e : Fin 96, s.rf (pgSLT b) SLT_MCTL_STATE e = 1 → Completes (.modValid b e) s fun t =>
    t.rf (pgSLT b) SLT_MCTL_WHY e = modWhy (s.modQ b e) (s.modPsi b e) (s.rf (pgSLT b) SLT_MCTL_LOGN e) +
      (if modWhy (s.modQ b e) (s.modPsi b e) (s.rf (pgSLT b) SLT_MCTL_LOGN e) = 0 then s.rf (pgSLT b) SLT_MCTL_WHY e else 0) ∧
    t.rf (pgSLT b) SLT_MCTL_STATE e = if modWhy (s.modQ b e) (s.modPsi b e) (s.rf (pgSLT b) SLT_MCTL_LOGN e) = 0 then 2 else 3)) ∧
(∀ (s : State) (b : Fin 64) (d : BitVec 96) (ups : List StErr) (par : ArrPar) (ws : List (BitVec 72)),
  (s.issues b d 0x10 (arraysOf (dpAM d)) { modes := .all } = true → Completes (.clear b d) s fun t => ∀ a ∈ arraysOf (dpAM d),
    (dpOPT d % 2 = 1 → (∀ r i j, r < 32 → i < 32 → j < 32 → t.pock (arrNo b a) r i j = 0) ∧
      ∀ m n, m < 256 → n < 256 → t.accu (arrNo b a) m n = 0) ∧
    (dpOPT d % 2 = 0 → s.arrMode (arrNo b a) = 0 → ∀ i j, i < 32 → j < 32 → t.pock (arrNo b a) (immD d) i j = 0) ∧
    (dpOPT d % 2 = 0 → ∀ m n, m < 256 → n < 256 →
      (s.arrMode (arrNo b a) = 1 → m % 4 = immD d / 4 → n % 4 = immD d % 4 → t.accu (arrNo b a) m n = 0) ∧
      (s.arrMode (arrNo b a) = 2 → m % 8 = immD d / 8 → n % 8 = immD d % 8 → t.accu (arrNo b a) m n = 0))) ∧
  (s.issues b d 0x11 (arraysOf (dpAM d)) { modes := .all } = true →
    ((s.arrQueue b (arraysOf (dpAM d)) []).operandWords b (dpWA d) (dpAA d) (s.dpOffset b d)
      ((dpP16 d + 1) * (arraysOf (dpAM d)).foldl (fun m a => max m (vecWords (s.arrMode (arrNo b a)))) 0) ups).2 = some ws →
    Completes (.lload b d ups) s fun t => ∀ a ∈ arraysOf (dpAM d), ∀ j, j < dpP16 d + 1 → dpP16 d < j + 1024 →
      ∀ w, w < vecWords (s.arrMode (arrNo b a)) →
      smGet z72 t.slt.ledge (ledgeKey (arrNo b a) (bits (dpIMM d) 9 0 + j) w) = ws.getD (j * vecWords (s.arrMode (arrNo b a)) + w) 0) ∧
  (s.issues b d 0x14 (arraysOf (dpAM d)) { modes := .mod36 } = true →
    ((s.arrQueue b (arraysOf (dpAM d)) []).operandWords b (dpWA d) (dpAA d) (s.dpOffset b d) 512 ups).2 = some ws →
    Completes (.pload b d ups) s fun t => ∀ a ∈ arraysOf (dpAM d), ∀ i j, i < 32 → j < 32 →
      t.pock (arrNo b a) (immD d) i j = packedAt ws 2 36 (32 * i + j)) ∧
  (s.issues b d 0x15 (arraysOf (dpAM d)) { modes := .mod36, par := par } = true →
    ws = (arraysOf (dpAM d)).flatMap (fun a => packAll 2 36 ((List.range 1024).map fun v => s.pock (arrNo b a) (immD d) (v / 32) (v % 32))) →
    ((s.arrQueue b (arraysOf (dpAM d)) []).writeWords b (dpWD d) (s.dpOffset b d) ws).2 = true →
    Completes (.pstore b d par) s fun t => ∀ x, x < 2 ^ 18 →
      t.stWord b x = ((s.arrQueue b (arraysOf (dpAM d)) []).writeWords b (dpWD d) (s.dpOffset b d) ws).1.stWord b x) ∧
  (s.issues b d 0x13 (arraysOf (dpAM d)) { modes := .int, par := par } = true → dpOPT d % 8 ≤ 4 →
    ws = (arraysOf (dpAM d)).flatMap (fun a => (s.drainAll (arrNo b a) (dpOPT d % 8) ((dpOPT d).testBit 3)).1) →
    ((((s.arrQueue b (arraysOf (dpAM d)) []).drainOut b d).1).writeWords b (dpWD d) (s.dpOffset b d) ws).2 = true →
    Completes (.drain b d par) s fun t => (∀ x, x < 2 ^ 18 →
      t.stWord b x = ((((s.arrQueue b (arraysOf (dpAM d)) []).drainOut b d).1).writeWords b (dpWD d) (s.dpOffset b d) ws).1.stWord b x) ∧
      ∀ a ∈ arraysOf (dpAM d), ∀ m n, m < vecLen (s.arrMode (arrNo b a)) → n < vecLen (s.arrMode (arrNo b a)) →
        t.accu (arrNo b a) m n = if dpIMM d % 2 = 1 then 0 else s.accu (arrNo b a) m n) ∧
  ((s.operandWords b (dpWA d) (dpAA d) (s.dpOffset b d) 1 ups).2 = some ws →
    (s.opGoes b d 0x20 = true → Completes (.rqload b d ups) s fun t => ∀ a ∈ arraysOf (dpAM d),
      smGet z72 t.slt.requant (arrNo b a * 256 + bits (dpIMM d) 7 0) = ws.headD 0) ∧
    (s.opGoes b d 0x21 = true → immEntry d < 96 → Completes (.modload b d ups) s fun t => t.modQ b (immEntry d) = bits (ws.headD 0).toNat 35 0 ∧
      t.modPsi b (immEntry d) = bits (ws.headD 0).toNat 71 36 ∧ t.rf (pgSLT b) SLT_MCTL_STATE (immEntry d) = 1 ∧
      t.rf (pgSLT b) SLT_MCTL_LOGN (immEntry d) = bits (dpIMM d) 12 8)) ∧
  (s.opGoes b d 0x22 = true → (s.operandWords b (dpWA d) (dpAA d) (s.dpOffset b d) 4 ups).2 = some ws →
    Completes (.colmap b d ups) s fun t => ∀ c, c < 32 →
      t.colEntry b c = bits (ws.getD (c / 8) 0).toNat (8 * (c % 8) + 6) (8 * (c % 8))))

/-- MAC (R220, R233, R234): in MOD36 a register plane gains the Montgomery products of its row and column values, modulo each column's modulus; in an integer mode an accumulator takes the products one by one, clamped at each step. Operands come from the store, or in an integer mode from ledge slots. -/
def Obligations.MultiplyAccumulate : Prop := ∀ (s : State) (b : Fin 64) (d : BitVec 96) (upsA upsB : List StErr) (par : ArrPar)
    (wa wb : List (BitVec 72)),
  let as := arraysOf (dpAM d)
  let o := dpOPT d
  let mode := s.arrMode (arrNo b (as.headD 0))
  let n := vecWords mode
  let k := dpP16 d + 1
  (mode = 0 → s.modulusWf → s.issues b d 0x12 as { modes := .gang, entries := (List.range 32).map (s.colEntry b), par := par } = true →
    (∀ j, j < 32 → s.modValid b (s.colEntry b j) = true) → ∀ u, u = s.arrQueue b as ((List.range 32).map (s.colEntry b)) →
    (u.operandWords b (dpWA d) (dpAA d) (s.dpOffset b d) (k * n) upsA).2 = some wa →
    ((u.operandWords b (dpWA d) (dpAA d) (s.dpOffset b d) (k * n) upsA).1.operandWords b (dpWB d) (dpAB d) (s.dpOffset b d) (k * n) upsB).2 = some wb →
    Completes (.mac b d upsA upsB par) s fun t => ∀ a ∈ as, ∀ i j, i < 32 → j < 32 →
      t.pock (arrNo b a) (immD d) i j = (s.pock (arrNo b a) (immD d) i j +
        ((List.range k).map fun q => mont (s.modQ b (s.colEntry b j)) (packedAt (stepWords wa n q) 2 36 i) (packedAt (stepWords wb n q) 2 36 j)).sum)
          % s.modQ b (s.colEntry b j)) ∧
  (mode ≠ 0 → s.issues b d 0x12 as { modes := .gang, par := par } = true → ∀ u, u = s.arrQueue b as [] →
    (o.testBit 2 = false → (u.operandWords b (dpWA d) (dpAA d) (s.dpOffset b d) (k * n) upsA).2 = some wa) →
    (o.testBit 3 = false → ((if o.testBit 2 = true then u else
      (u.operandWords b (dpWA d) (dpAA d) (s.dpOffset b d) (k * n) upsA).1).operandWords b (dpWB d) (dpAB d) (s.dpOffset b d) (k * n) upsB).2 = some wb) →
    Completes (.mac b d upsA upsB par) s fun t => ∀ a ∈ as, ∀ m c, m < vecLen mode → c < vecLen mode →
      t.accu (arrNo b a) m c = (List.range k).foldl (fun acc q => clampInt (accLo mode) (accHi mode) (acc +
        vecVal mode (o.testBit 0) (if o.testBit 2 = true then s.ledgeVec (arrNo b a) (bits (dpIMM d) 9 0 + q) n else stepWords wa n q) m *
        vecVal mode (o.testBit 1) (if o.testBit 3 = true then s.ledgeVec (arrNo b a) (bits (dpIMM d) 25 16 + q) n else stepWords wb n q) c))
        (s.accu (arrNo b a) m c))

/-- Operations on register planes in MOD36 (R224, R233, R235, R390): ADD, SUB, NEG, TOM, MULP, EWMUL, EWMAC, and EWMUL and EWMAC with a streamed operand. -/
def Obligations.PlaneOperations : Prop := ∀ (s : State) (b : Fin 64) (d : BitVec 96) (ups : List StErr) (par : ArrPar), s.modulusWf →
  s.modValid b (immEntry d) = true →
  (∀ e ∈ [(0x16, Instr.modAdd b d par, fun q x y _ => (x + y) % q), (0x17, .modSub b d par, fun q x y _ => (x + q - y % q) % q),
      (0x18, .neg b d par, fun q x _ _ => (q - x % q) % q), (0x1B, .tom b d par, fun q x _ _ => x * 2 ^ 36 % q),
      (0x1C, .mulp b d par, fun q x y (_ : Nat) => x * y % q)],
    s.issues b d e.1 (arraysOf (dpAM d)) { modes := .mod36, entries := [immEntry d], par := par } = true →
    Completes e.2.1 s fun t => ∀ a ∈ arraysOf (dpAM d), ∀ i j, i < 32 → j < 32 → t.pock (arrNo b a) (immD d) i j =
      e.2.2 (s.modQ b (immEntry d)) (s.pock (arrNo b a) (immX d) i j) (s.pock (arrNo b a) (immY d) i j) (s.pock (arrNo b a) (immD d) i j)) ∧
  (∀ e ∈ [(0x19, Instr.ewmul b d ups par, fun q x y _ => mont q x y), (0x1A, .ewmac b d ups par, fun q x y acc => (acc + mont q x y) % q)],
    s.issues b d e.1 (arraysOf (dpAM d)) { modes := .mod36, entries := [immEntry d], par := par } = true →
    (dpOPT d % 2 = 0 → Completes e.2.1 s fun t => ∀ a ∈ arraysOf (dpAM d), ∀ i j, i < 32 → j < 32 → t.pock (arrNo b a) (immD d) i j =
      e.2.2 (s.modQ b (immEntry d)) (s.pock (arrNo b a) (immX d) i j) (s.pock (arrNo b a) (immY d) i j) (s.pock (arrNo b a) (immD d) i j)) ∧
    ∀ ws, dpOPT d % 2 = 1 → ((s.arrQueue b (arraysOf (dpAM d)) [immEntry d]).operandWords b (dpWB d) (dpAB d) (s.dpOffset b d) 512 ups).2 = some ws →
      Completes e.2.1 s fun t => ∀ a ∈ arraysOf (dpAM d), ∀ i j, i < 32 → j < 32 → t.pock (arrNo b a) (immD d) i j =
        e.2.2 (s.modQ b (immEntry d)) (s.pock (arrNo b a) (immX d) i j) (packedAt ws 2 36 (32 * i + j)) (s.pock (arrNo b a) (immD d) i j))

/-- NTT and INTT (R227, R230, R231): all four arrays hold the polynomial, whose coefficients become those of its transform. -/
def Obligations.Transforms : Prop := ∀ (s : State) (b : Fin 64) (d : BitVec 96) (par : ArrPar) (c : Nat), s.modulusWf →
  s.modValid b (immEntry d) = true → dpAM d ≠ 0 → c < 2 ^ (14 + dpOPT d % 4) →
  (s.issues b d 0x1D [0, 1, 2, 3] { modes := .mod36, entries := [immEntry d], ntt := some (14 + dpOPT d % 4, immD d), par := par } = true →
    Completes (.ntt b d par) s fun t => t.coef b (14 + dpOPT d % 4) (immD d) c =
    nttAt (s.modQ b (immEntry d)) (s.modPsi b (immEntry d)) (14 + dpOPT d % 4) (s.coef b (14 + dpOPT d % 4) (immD d)) c) ∧
  (s.issues b d 0x1E [0, 1, 2, 3] { modes := .mod36, entries := [immEntry d], ntt := some (14 + dpOPT d % 4, immD d), par := par } = true →
    Completes (.intt b d par) s fun t => t.coef b (14 + dpOPT d % 4) (immD d) c =
    inttAt (s.modQ b (immEntry d)) (s.modPsi b (immEntry d)) (14 + dpOPT d % 4) (s.coef b (14 + dpOPT d % 4) (immD d)) c)

/-- R227: a VALID modulus lies above 2^20 and below 2^36; every command keeps it so. -/
def Obligations.ValidModuliStayInRange : Prop := ∀ s t : State, s.modulusWf → step s = .next t → t.modulusWf

/-- The micro-operations of spars that no array and no ligger pair takes (R187 to R189, R201, R206, R390, R392, R394, R415): NOP, WSET, WGROUP, SRD, SWR, STORE_TEST, STORE_REPAIR, CS_TEST, ENGINE_MICRO_OPERATION. Control of spars (R410 to R415, R456): PARK, PARKED, SPR_RUN, ATTN, CS_COMMIT, PATCH_MATCH_WRITE, CS_TEST_REQUEST, CS_TEST_DONE. Where a rule leaves a point open, the clause takes the model's reading, log entries 62, 63 and 64. -/
def Obligations.Spars : Prop := (∀ (s : State) (b : Fin 64) (i : Fin 72) (d : BitVec 96), 
  (s.sparFree i = true → (s.sp i).hold = .none → (s.sp i).attn = none → Completes (.nop i) s fun t => Only irqOwn [] s t) ∧
  (s.opGoes b d 0x28 = true → 1 ≤ ((s.sp b).rdPre (dpRB d)).toNat → ((s.sp b).rdPre (dpRB d)).toNat ≤ 262144 →
    bits (dpIMM d) 17 0 < ((s.sp b).rdPre (dpRB d)).toNat → Completes (.wset b d) s fun t =>
      t.rf (pgBST b) BST_CW_BASE_BASE (dpWD d) = bits ((s.sp b).rdPre (dpRA d)).toNat 17 5 ∧
      t.rf (pgBST b) BST_CW_LEN_LEN (dpWD d) = ((s.sp b).rdPre (dpRB d)).toNat ∧
      t.rf (pgBST b) BST_CW_STRIDE_STRIDE (dpWD d) = bits (dpIMM d) 17 0 ∧ t.rf (pgBST b) BST_CW_PTR_P (dpWD d) = 0) ∧
  (s.opGoes b d 0x29 = true → groupOk (bits (dpIMM d) 15 0) = true → Completes (.wgroup b d) s fun t =>
    t.rf (pgBST b) BST_CW_GROUP_USER (dpWD d) = ownByte (bits (dpIMM d) 15 8) ∧ t.rf (pgBST b) BST_CW_GROUP_F (dpWD d) = bits (dpIMM d) 7 3 ∧
      t.rf (pgBST b) BST_CW_GROUP_W (dpWD d) = bits (dpIMM d) 2 0 ∧ t.rf (pgBST b) BST_CW_PTR_P (dpWD d) = 0) ∧
  (∀ w up, s.opGoes b d 0x40 = true → s.staysOn b = true → s.bit (pgSPR b) SPR_STAT_SEALED = false →
    (s.operandWords b (dpWA d) (dpAA d) (s.dpOffset b d) 1 [up]).2 = some [w] → Completes (.srd b d up) s fun t =>
      (t.sp b).srdWord = w ∧ (t.sp b).srdVal = (if dpOPT d % 2 = 0 then w.truncate 36 else (w >>> 36).truncate 36) ∧
      (dpRD d ≠ 0 → (t.sp b).rd (dpRD d) = (t.sp b).srdVal) ∧
      ∀ r, r ≠ dpRD d → (t.sp b).rd r = ((s.operandWords b (dpWA d) (dpAA d) (s.dpOffset b d) 1 [up]).1.sp b).rd r) ∧
  (s.opGoes b d 0x41 = true → s.winUser b (dpWD d) ownSpar = true →
    s.stDenied b (s.winAddr b (dpWD d) (s.dpOffset b d)) ownSpar true (s.drives b) = none → Completes (.swr b d) s fun t =>
      t.stWord b (s.winAddr b (dpWD d) (s.dpOffset b d)) =
        { data := BitVec.ofNat 72 (((s.sp b).rdPre (dpRA d)).toNat + 2 ^ 36 * ((s.sp b).rdPre (dpRB d)).toNat) }) ∧
  (s.opGoes b d 0x48 = true → s.marchStatus b (dpOPT d % 2) (dpIMM d) true = 0 → Completes (.storeTest b d) s fun t =>
    t.bit (pgBST b) BST_MARCH_STAT_RUN = true ∧ t.rf (pgBST b) BST_MARCH_STAT_STATUS = 0 ∧
      ∃ m, (t.batten b).march = some m ∧ m.mode = dpOPT d % 2 ∧ m.banks = dpIMM d) ∧
  (s.opGoes b d 0x49 = true → s.listInBanks b (2 ^ bits (dpIMM d) 4 0) = false → s.planUses b = false → dpOPT d % 4 = 2 →
    s.bit (pgBST b) BST_REPAIR_VALID0 (bits (dpIMM d) 4 0) = false → s.bit (pgBST b) BST_REPAIR_VALID1 (bits (dpIMM d) 4 0) = false →
    Completes (.storeRepair b d) s fun t => t.bit (pgBST b) BST_REPAIR_VALID0 (bits (dpIMM d) 4 0) = true ∧
      t.bit (pgBST b) BST_REPAIR_SOFT0 (bits (dpIMM d) 4 0) = true ∧ t.rf (pgBST b) BST_REPAIR_ROW0 (bits (dpIMM d) 4 0) = bits (dpIMM d) 14 8) ∧
  (s.opGoes i d 0x4A = true → s.csStatus i (dpOPT d % 4) true = 0 → Completes (.csTest i d) s fun t =>
    (t.sp i).march = dpOPT d % 4 ∧ t.bit (pgSPR i) SPR_CS_TSTAT_RUN = true ∧ t.rf (pgSPR i) SPR_CS_TSTAT_STATUS = 0) ∧
  (s.opGoes i d (dpOP d) = true → opEngine (dpOP d) = true →
    (64 ≤ i.val → Completes (.engineMicroOperation i d) s fun t => Only irqOwn [] ((s.driveStage i (dpOP d)).opDone i) t) ∧
    (i.val < 64 → (s.sp i).attn = none → (s.sp i).frame.length < 4 → Completes (.engineMicroOperation i d) s fun t => (t.sp i).next = 24 ∧
      (t.sp i).frame.length = (s.sp i).frame.length + 1))) ∧
(∀ (s : State) (i : Fin 72) (src : Src) (v : Word32),
  (s.accepts src (pgSPR i + 0x50) = true → isMaster0 src = true → Completes (.park src i v) s fun t =>
    t.bit (pgSPR i) SPR_PARK_PARK = v.getLsbD 0 ∧ (v.getLsbD 0 = false → t.bit (pgSPR i) SPR_STAT_PARKED = false)) ∧
  (s.bit (pgSPR i) SPR_PARK_PARK = true → s.bit (pgSPR i) SPR_STAT_PARKED = false → s.drives i = false →
    Completes (.parked i) s fun t => t.bit (pgSPR i) SPR_STAT_PARKED = true ∧ t.bit (pgSPR i) SPR_STAT_RUNNING = false ∧
      bitOf (t.rf (pgSPR i) PG_EVT_RAW) 2 = true) ∧
  (s.accepts src (pgSPR i + 0x54) = true → v.getLsbD 31 = true → s.sparIdle i = true → Completes (.sprRun src i v) s fun t =>
    t.bit (pgSPR i) SPR_STAT_RUNNING = true ∧ (t.sp i).next = bits v.toNat 12 0 ∧ (t.sp i).lp = [] ∧
      ∀ r : Fin 5, (t.sp i).rd (r.val + 1) = 0) ∧
  (∀ left, s.accepts src (pgSPR i + 0x58) = true → v.getLsbD 0 = true →
    (s.drives i = true → Completes (.attn src i v left) s fun t => (t.sp i).attn.isSome = true ∧ (t.sp i).next = (s.sp i).next) ∧
    (s.drives i = false → s.bit (pgSPR i) SPR_STAT_RUNNING = true → (s.sp i).hold = .none → (s.sp i).busy = false → (s.sp i).frame.length < 4 →
      Completes (.attn src i v left) s fun t => (t.sp i).next = 56 ∧ bitOf (t.rf (pgSPR i) PG_EVT_RAW) 1 = true ∧
        t.bit (pgSPR i) SPR_STAT_IN_TRAP = true ∧ ∃ f, (t.sp i).frame = f :: (s.sp i).frame ∧ f.saved = (s.sp i).next ∧ f.cl = (s.sp i).cl ∧
          f.lc0 = (s.sp i).lc0 ∧ f.lc1 = (s.sp i).lc1) ∧
    (∀ lim, s.drives i = false → s.bit (pgSPR i) SPR_STAT_RUNNING = true → (s.sp i).hold = .wait lim → (s.sp i).frame.length < 4 →
      Completes (.attn src i v left) s fun t => (t.sp i).next = 56 ∧ ∃ f, (t.sp i).frame = f :: (s.sp i).frame ∧
        f.saved = s.rf (pgSPR i) SPR_STAT_UPC ∧ f.residue = if lim = 0 then 0 else min left lim)) ∧
  (s.accepts src (pgSPR i + 0x70) = true → s.csRefusal src i = 0 → Completes (.csCommit src i v) s fun t =>
    t.csWord i (s.rf (pgSPR i) SPR_CS_ADDR_ADDR) = BitVec.ofNat 128 (s.rf (pgSPR i) SPR_CS_D_DATA 0 + 2 ^ 32 * s.rf (pgSPR i) SPR_CS_D_DATA 1 +
      2 ^ 64 * s.rf (pgSPR i) SPR_CS_D_DATA 2 + 2 ^ 96 * v.toNat) ∧
    t.rf (pgSPR i) SPR_CS_ADDR_ADDR = if s.bit (pgSPR i) SPR_CS_ADDR_INC = true then (s.rf (pgSPR i) SPR_CS_ADDR_ADDR + 1) % 8192
      else s.rf (pgSPR i) SPR_CS_ADDR_ADDR) ∧
  (∀ m : Fin 16, s.accepts src (pgSPR i + 0x80 + 4 * m.val) = true → 6144 ≤ bits v.toNat 28 16 → bits v.toNat 28 16 < 7680 →
    (bits v.toNat 12 0 < 16 ∨ 24 ≤ bits v.toNat 12 0) → s.lockBad (pgSPR i) .spr i (0x80 + 4 * m.val) v = false →
    s.bit (pgSPR i) SPR_STAT_PARKED = true → Completes (.patchMatchWrite src i m v) s fun t =>
      t.bit (pgSPR i) SPR_PM_VALID m = v.getLsbD 31 ∧ t.rf (pgSPR i) SPR_PM_TARGET m = bits v.toNat 28 16 ∧
        t.rf (pgSPR i) SPR_PM_MATCH m = bits v.toNat 12 0) ∧
  (s.accepts src (pgSPR i + 0x74) = true → v.getLsbD 31 = true → s.csStatus i (bits v.toNat 1 0) false = 0 →
    Completes (.csTestRequest src i v) s fun t => (t.sp i).march = bits v.toNat 1 0 ∧ t.bit (pgSPR i) SPR_CS_TSTAT_RUN = true ∧
      t.rf (pgSPR i) SPR_CS_TSTAT_STATUS = 0) ∧
  (∀ bad, (s.sp i).march ≠ 0 → s.gated = false → Completes (.csTestDone i bad) s fun t => (t.sp i).march = 0 ∧
    t.bit (pgSPR i) SPR_CS_TSTAT_RUN = false ∧ t.bit (pgSPR i) SPR_CS_TSTAT_PASS = !bad ∧ t.bit (pgSPR i) SPR_CS_TSTAT_DONE = true ∧
      bitOf (t.rf (pgSPR i) PG_EVT_RAW) 4 = true))

/-- Sequencing of micro-words, in every spar and gable (R384, R385, R401 to R403): where each operation goes, and what it does to the call stack, the loop counters and the latch. The ends of a WAIT (R385): WAIT_END when its condition holds, WAIT_TIMEOUT when its limit passes first. Where a rule leaves a point open, the clause takes the model's reading, log entries 62 and 63. -/
def Obligations.MicroSequencing : Prop := (∀ (s : State) (i : Fin 74) (w : BitVec 128), s.sqWord i false = some w →
  (wSEQ w = 1 → Completes (.seqNext i false) s fun t => (t.sq i).next = ((s.sq i).next % sqSize i + 1) % sqSize i ∧
    t.sqUpc i = (s.sq i).next % sqSize i ∧ (t.sq i).word = w) ∧
  (wSEQ w = 2 → Completes (.seqJump i false) s fun t => (t.sq i).next = wNA w % sqSize i ∧ (t.sq i).word = w) ∧
  (wSEQ w = 3 → Completes (.jcond i false) s fun t =>
    (t.sq i).next = (if (t.sq i).cl = true then wNA w else (s.sq i).next % sqSize i + 1) % sqSize i ∧ (t.sq i).cl = s.sqCond i w) ∧
  (wSEQ w = 4 → Completes (.jncond i false) s fun t =>
    (t.sq i).next = (if (t.sq i).cl = true then (s.sq i).next % sqSize i + 1 else wNA w) % sqSize i ∧ (t.sq i).cl = s.sqCond i w) ∧
  (wSEQ w = 5 → (s.sq i).stack.length < 8 → Completes (.seqCall i false) s fun t => (t.sq i).next = wNA w ∧
    (t.sq i).stack = ((s.sq i).next % sqSize i + 1) % sqSize i :: (s.sq i).stack) ∧
  (wSEQ w = 6 → (s.sq i).stack.length < 8 → Completes (.callc i false) s fun t => (t.sq i).cl = s.sqCond i w ∧
    (s.sqCond i w = true → (t.sq i).next = wNA w ∧ (t.sq i).stack = ((s.sq i).next % sqSize i + 1) % sqSize i :: (s.sq i).stack) ∧
    (s.sqCond i w = false → (t.sq i).next = ((s.sq i).next % sqSize i + 1) % sqSize i ∧ (t.sq i).stack = (s.sq i).stack)) ∧
  (∀ a r, wSEQ w = 7 → (s.sq i).stack = a :: r → Completes (.seqRet i false) s fun t => (t.sq i).next = a ∧ (t.sq i).stack = r) ∧
  (∀ a r, wSEQ w = 8 → (s.sq i).stack = a :: r → Completes (.retc i false) s fun t => (t.sq i).cl = s.sqCond i w ∧
    (s.sqCond i w = true → (t.sq i).next = a ∧ (t.sq i).stack = r) ∧
    (s.sqCond i w = false → (t.sq i).next = ((s.sq i).next % sqSize i + 1) % sqSize i ∧ (t.sq i).stack = a :: r)) ∧
  (wSEQ w = 9 → Completes (.loop0 i false) s fun t =>
    ((s.sq i).lc0 ≠ 0 → (t.sq i).lc0 = (s.sq i).lc0 - 1 ∧ (t.sq i).next = wNA w) ∧
    ((s.sq i).lc0 = 0 → (t.sq i).lc0 = 0 ∧ (t.sq i).next = ((s.sq i).next % sqSize i + 1) % sqSize i)) ∧
  (wSEQ w = 10 → Completes (.loop1 i false) s fun t =>
    ((s.sq i).lc1 ≠ 0 → (t.sq i).lc1 = (s.sq i).lc1 - 1 ∧ (t.sq i).next = wNA w) ∧
    ((s.sq i).lc1 = 0 → (t.sq i).lc1 = 0 ∧ (t.sq i).next = ((s.sq i).next % sqSize i + 1) % sqSize i)) ∧
  (wSEQ w = 11 → Completes (.dispatchWord i false) s fun t => (t.sq i).next = (wNA w + s.sqIndex i w) % sqSize i) ∧
  (wSEQ w = 12 → Completes (.seqWait i false) s fun t =>
    (t.sq i).hold = .wait (if (s.sq i).residue = 0 then waitLimit (wWLIM w) else (s.sq i).residue)) ∧
  (wSEQ w = 13 → (s.sq i).frame.length < 4 → Completes (.seqTrap i false) s fun t => (t.sq i).next = 48 ∧
    ∃ f, (t.sq i).frame = f :: (s.sq i).frame ∧ f.saved = wNA w ∧ f.cl = (s.sq i).cl ∧ f.lc0 = (s.sq i).lc0 ∧ f.lc1 = (s.sq i).lc1) ∧
  (∀ f r, wSEQ w = 14 → (s.sq i).frame = f :: r → Completes (.trapret i false) s fun t => (t.sq i).frame = r ∧
    (t.sq i).next = f.saved ∧ (t.sq i).cl = f.cl ∧ (t.sq i).lc0 = f.lc0 ∧ (t.sq i).lc1 = f.lc1 ∧ (t.sq i).residue = f.residue) ∧
  (wSEQ w = 0 → Completes (.seqHalt i false) s fun t =>
    (i.val < 72 → s.bit (pgSPR i) SPR_STAT_HALTED = false → t.bit (pgSPR i) SPR_STAT_HALTED = true ∧ t.bit (pgSPR i) SPR_STAT_RUNNING = false ∧ bitOf (t.rf (pgSPR i) PG_EVT_RAW) 0 = true) ∧
    (72 ≤ i.val → (t.gable (i.val - 72)).halted = true ∧ bitOf (t.rf (pgGAB (i.val - 72)) PG_EVT_RAW) 0 = true)) ∧
  (wSEQ w = 15 →
    (72 ≤ i.val → Completes (.endstint i false) s fun t => (t.sq i).next = ((s.sq i).next % sqSize i + 1) % sqSize i) ∧
    (i.val < 72 → ¬(dpALU (wDP w) = 0 ∧ dpOP (wDP w) = 0) → Completes (.endstint i false) s fun t => (t.sq i).hold = .ending) ∧
    (i.val < 72 → dpALU (wDP w) = 0 → dpOP (wDP w) = 0 → s.drives i = false → (s.sq i).attn = none →
      Completes (.endstint i false) s fun t => t.bit (pgSPR i) SPR_STAT_RUNNING = false) ∧
    (i.val < 64 → dpALU (wDP w) = 0 → dpOP (wDP w) = 0 → s.drives i = true → (s.sq i).attn = none →
      s.rf (pgSPR i) SPR_STINT_NST ≤ s.rf (pgSPR i) SPR_STINT_INDEX + 1 → Completes (.endstint i false) s fun t =>
        t.bit (pgSPR i) SPR_STAT_ENDED = true ∧ t.bit (pgSPR i) SPR_STAT_RUNNING = false) ∧
    (i.val < 64 → dpALU (wDP w) = 0 → dpOP (wDP w) = 0 → s.drives i = true → s.rf (pgSPR i) SPR_STINT_INDEX + 1 < s.rf (pgSPR i) SPR_STINT_NST →
      (∀ ws r, (s.sp i).ahead = (ws, false) :: r → (ws.getD 0 0).testBit 16 = false →
        Completes (.endstint i false) s fun t => t.rf (pgSPR i) SPR_STINT_INDEX = s.rf (pgSPR i) SPR_STINT_INDEX + 1 ∧
          (t.sq i).next = ws.getD 0 0 % 8192 ∧ ∀ r : Fin 5, (t.sp i).rd (r.val + 1) = BitVec.ofNat 36 (ws.getD (3 + r.val) 0)) ∧
      ((s.sp i).ahead = [] → 8 * (s.rf (pgSPR i) SPR_STINT_INDEX + 1) < (s.batten i).stWords →
        (∀ j, j < 8 → (s.stWord i ((s.batten i).stFirst + 8 * (s.rf (pgSPR i) SPR_STINT_INDEX + 1) + j)).err = .clean) →
        (s.stWord i ((s.batten i).stFirst + 8 * (s.rf (pgSPR i) SPR_STINT_INDEX + 1))).data.toNat.testBit 16 = false →
        Completes (.endstint i false) s fun t => t.rf (pgSPR i) SPR_STINT_INDEX = s.rf (pgSPR i) SPR_STINT_INDEX + 1 ∧
          (t.sq i).next = (s.stWord i ((s.batten i).stFirst + 8 * (s.rf (pgSPR i) SPR_STINT_INDEX + 1))).data.toNat % 8192 ∧
          ∀ r : Fin 5, (t.sp i).rd (r.val + 1) =
            (s.stWord i ((s.batten i).stFirst + 8 * (s.rf (pgSPR i) SPR_STINT_INDEX + 1) + 3 + r.val)).data.truncate 36)))) ∧
(∀ (s : State) (i : Fin 74) (lim : Nat), (s.sq i).hold = .wait lim → s.sqGoes i = true →
  (s.sqCond i (s.sq i).word = true → Completes (.waitEnd i) s fun t => (t.sq i).hold = .none ∧ (t.sq i).cl = true ∧
    (t.sq i).next = wNA (s.sq i).word % sqSize i) ∧
  (lim ≠ 0 → s.sqCond i (s.sq i).word = false → (s.sq i).frame.length < 4 → Completes (.waitTimeout i) s fun t =>
    (t.sq i).hold = .none ∧ (t.sq i).next = 8 ∧ ∃ f, (t.sq i).frame = f :: (s.sq i).frame ∧ f.saved = s.sqUpc i ∧ f.cl = false))

/-- R389: the ALU of a spar. The result goes to v[RD], and no other register changes; writes of v0 are discarded. Z and N come from the result, C is the carry or borrow and V the signed overflow of ADD, SUB and ADDI; the other operations clear C and V. R452: the ALU of a gable's micro-words, on 64 bits, with the flags of R389. The destination here is the micro-temporary T0 (DSEL = 2). Where a rule leaves a point open, the clause takes the model's reading, log entry 62. -/
def Obligations.MicroAlu : Prop := (∀ (s : State) (i : Fin 72) (k : Fin 74) (d : BitVec 96), k.val = i.val →
  s.sparFree i = true → ((s.sp i).opDue = true ∨ s.staysOn i = true) →
  (∀ e ∈ [(1, Instr.aluAdd k d, (fun x y => x + y : BitVec 36 → BitVec 36 → BitVec 36), (fun x y => x + y : Int → Int → Int)),
      (2, .aluSub k d, fun x y => x - y, fun x y => x - y),
      (9, .addi k d, fun x _ => x + BitVec.ofNat 36 (dpIMM d), fun x _ => x + dpIMM d)],
    (s.sp i).aluTurn d e.1 = true → Completes e.2.1 s fun t => (dpRD d ≠ 0 → (t.sp i).rd (dpRD d) = e.2.2.1 ((s.sp i).rd (dpRA d)) ((s.sp i).rd (dpRB d))) ∧
      (∀ r, r ≠ dpRD d → (t.sp i).rd r = (s.sp i).rd r) ∧
      (t.sp i).fz = (e.2.2.1 ((s.sp i).rd (dpRA d)) ((s.sp i).rd (dpRB d)) == 0) ∧
      (t.sp i).fn = (e.2.2.1 ((s.sp i).rd (dpRA d)) ((s.sp i).rd (dpRB d))).msb ∧
      ((t.sp i).fc = true ↔ (e.2.2.2 ((s.sp i).rd (dpRA d)).toNat ((s.sp i).rd (dpRB d)).toNat < 0 ∨
        2 ^ 36 ≤ e.2.2.2 ((s.sp i).rd (dpRA d)).toNat ((s.sp i).rd (dpRB d)).toNat)) ∧
      ((t.sp i).fv = true ↔ (e.2.2.2 ((s.sp i).rd (dpRA d)).toInt ((s.sp i).rd (dpRB d)).toInt < -2 ^ 35 ∨
        2 ^ 35 ≤ e.2.2.2 ((s.sp i).rd (dpRA d)).toInt ((s.sp i).rd (dpRB d)).toInt))) ∧
  (∀ e ∈ [(3, Instr.aluAnd k d, (fun x y => x &&& y : BitVec 36 → BitVec 36 → BitVec 36)), (4, .aluOr k d, fun x y => x ||| y),
      (5, .aluXor k d, fun x y => x ^^^ y), (6, .aluShl k d, fun x y => if y.toNat % 64 ≤ 35 then x <<< (y.toNat % 64) else 0),
      (7, .aluShr k d, fun x y => if y.toNat % 64 ≤ 35 then x >>> (y.toNat % 64) else 0), (8, .ldi k d, fun _ _ => BitVec.ofNat 36 (dpIMM d)),
      (10, .mul16 k d, fun x y => BitVec.ofNat 36 (x.toNat % 2 ^ 16 * (y.toNat % 2 ^ 16))),
      (11, .min k d, fun x y => if x.toNat ≤ y.toNat then x else y), (12, .max k d, fun x y => if x.toNat ≤ y.toNat then y else x)],
    (s.sp i).aluTurn d e.1 = true → Completes e.2.1 s fun t => (dpRD d ≠ 0 → (t.sp i).rd (dpRD d) = e.2.2 ((s.sp i).rd (dpRA d)) ((s.sp i).rd (dpRB d))) ∧
      (∀ r, r ≠ dpRD d → (t.sp i).rd r = (s.sp i).rd r) ∧
      (t.sp i).fz = (e.2.2 ((s.sp i).rd (dpRA d)) ((s.sp i).rd (dpRB d)) == 0) ∧
      (t.sp i).fn = (e.2.2 ((s.sp i).rd (dpRA d)) ((s.sp i).rd (dpRB d))).msb ∧ (t.sp i).fc = false ∧ (t.sp i).fv = false) ∧
  (∀ e ∈ [(13, Instr.setlc0 k d), (14, .setlc1 k d), (15, .getp k d)], (s.sp i).aluTurn d e.1 = true → Completes e.2 s fun t =>
    (t.sp i).fz = (s.sp i).fz ∧ (t.sp i).fn = (s.sp i).fn ∧ (t.sp i).fc = (s.sp i).fc ∧ (t.sp i).fv = (s.sp i).fv ∧
      ((s.sp i).hold = .ending → (s.sp i).opDue = false → t.bit (pgSPR i) SPR_STAT_RUNNING = false)) ∧
  ((s.sp i).aluTurn d 13 = true → Completes (.setlc0 k d) s fun t =>
    (t.sp i).lc0 = ((s.sp i).rd (dpRA d)).truncate 16 ∧ (t.sp i).lc1 = (s.sp i).lc1 ∧ (t.sp i).v = (s.sp i).v) ∧
  ((s.sp i).aluTurn d 14 = true → Completes (.setlc1 k d) s fun t =>
    (t.sp i).lc1 = ((s.sp i).rd (dpRA d)).truncate 16 ∧ (t.sp i).lc0 = (s.sp i).lc0 ∧ (t.sp i).v = (s.sp i).v) ∧
  ((s.sp i).aluTurn d 15 = true → Completes (.getp k d) s fun t => (∀ r, r ≠ dpRD d → (t.sp i).rd r = (s.sp i).rd r) ∧
    (i.val < 64 → dpRD d ≠ 0 → (t.sp i).rd (dpRD d) = BitVec.ofNat 36 (s.rf (pgBST i) BST_CW_PTR_P (dpRA d % 8))))) ∧
(∀ (s : State) (k : Fin 74) (d : BitVec 96), (s.sq k).aluDue = false → Completes (.aluNop k d) s fun t => Only irqOwn [] s t) ∧
(∀ (s : State) (g : Fin 2) (k : Fin 74) (d : BitVec 96), k.val = 72 + g.val → s.gabWordFree g = true →
  (s.gable g).u.attn = false → guDSEL d = 2 →
  (∀ e ∈ [(1, Instr.aluAdd k d, (fun x y => x + y : Word64 → Word64 → Word64), (fun x y => x + y : Int → Int → Int)),
      (2, .aluSub k d, fun x y => x - y, fun x y => x - y),
      (9, .addi k d, fun x _ => x + BitVec.ofNat 64 (guUIMM d), fun x _ => x + guUIMM d)],
    (s.gable g).u.q.gabAluTurn d e.1 = true → Completes e.2.1 s fun t => (t.gable g).u.t0 = e.2.2.1 ((s.gable g).srcA d) ((s.gable g).srcB d) ∧
      (t.gable g).u.q.fz = (e.2.2.1 ((s.gable g).srcA d) ((s.gable g).srcB d) == 0) ∧
      (t.gable g).u.q.fn = (e.2.2.1 ((s.gable g).srcA d) ((s.gable g).srcB d)).msb ∧
      ((t.gable g).u.q.fc = true ↔ (e.2.2.2 ((s.gable g).srcA d).toNat ((s.gable g).srcB d).toNat < 0 ∨
        2 ^ 64 ≤ e.2.2.2 ((s.gable g).srcA d).toNat ((s.gable g).srcB d).toNat)) ∧
      ((t.gable g).u.q.fv = true ↔ (e.2.2.2 ((s.gable g).srcA d).toInt ((s.gable g).srcB d).toInt < -2 ^ 63 ∨
        2 ^ 63 ≤ e.2.2.2 ((s.gable g).srcA d).toInt ((s.gable g).srcB d).toInt))) ∧
  (∀ e ∈ [(3, Instr.aluAnd k d, (fun x y => x &&& y : Word64 → Word64 → Word64)), (4, .aluOr k d, fun x y => x ||| y),
      (5, .aluXor k d, fun x y => x ^^^ y), (6, .aluShl k d, fun x y => x <<< (y.toNat % 64)),
      (7, .aluShr k d, fun x y => x >>> (y.toNat % 64)), (8, .ldi k d, fun _ _ => BitVec.ofNat 64 (guUIMM d)),
      (10, .mul16 k d, fun x y => BitVec.ofNat 64 (x.toNat % 2 ^ 16 * (y.toNat % 2 ^ 16))),
      (11, .min k d, fun x y => if x.toNat ≤ y.toNat then x else y), (12, .max k d, fun x y => if x.toNat ≤ y.toNat then y else x)],
    (s.gable g).u.q.gabAluTurn d e.1 = true → Completes e.2.1 s fun t => (t.gable g).u.t0 = e.2.2 ((s.gable g).srcA d) ((s.gable g).srcB d) ∧
      (t.gable g).u.q.fz = (e.2.2 ((s.gable g).srcA d) ((s.gable g).srcB d) == 0) ∧
      (t.gable g).u.q.fn = (e.2.2 ((s.gable g).srcA d) ((s.gable g).srcB d)).msb ∧ (t.gable g).u.q.fc = false ∧ (t.gable g).u.q.fv = false) ∧
  ((s.gable g).u.q.gabAluTurn d 13 = true → Completes (.setlc0 k d) s fun t =>
    (t.gable g).u.q.lc0 = ((s.gable g).srcA d).truncate 16 ∧ (t.gable g).u.t0 = (s.gable g).u.t0) ∧
  ((s.gable g).u.q.gabAluTurn d 14 = true → Completes (.setlc1 k d) s fun t =>
    (t.gable g).u.q.lc1 = ((s.gable g).srcA d).truncate 16 ∧ (t.gable g).u.t0 = (s.gable g).u.t0) ∧
  ((s.gable g).u.q.gabAluTurn d 15 = true → Completes (.getp k d) s fun t =>
    (t.gable g).u.t0 = 0 ∧ (t.gable g).u.q = { (s.gable g).u.q with aluDue := false }))

/-- The moves on a ligger pair (R326 to R333, R393), by a spar through a slot or by a fixed engine: ACQUIRE, ACQUIRE_RESUME, POST, POST_APPLY, TAKE, RELEASE. Beat pairs at a receiver's port (R334 to R338): the halves of a pair, a split, its replay, and SPLIT_TIMEOUT. SWAY_WAIT_END (R330): with the dependence of its sway mark met, a batten's spar enters its stint, and a yealm, a stook and the transmit engine may take their marked descriptor. Where a rule leaves a point open, the clause takes the model's reading, log entries 68, 69, 70 and 115. -/
def Obligations.LiggerPairs : Prop := (∀ (s : State) (m : Mover) (e : Nat) (p : Fin 1024), (∀ i slot, m = .spar i slot → s.staysOn i = true) →
  (s.ligCheck e p true = none →
    (s.moves m 0x30 e p = true → s.ligFree p ≠ 0 → Completes (.acquire m) s fun t => t.ligFree p = s.ligFree p - 1 ∧ t.ligFull p = s.ligFull p) ∧
    (∀ i slot, m = .spar i slot → s.moves m 0x30 e p = true → s.ligFree p = 0 → Completes (.acquire m) s fun t => t.ligFree p = 0 ∧
      (t.sp i).hold = .acquire p ((s.sp i).hold == .ending) ∧ t.bit (pgSPR i) SPR_STAT_WAITING = true) ∧
    (s.moves m 0x31 e p = true → Completes (.post m) s fun t => smGet (fun _ => 0) t.lig.posts p = smGet (fun _ => 0) s.lig.posts p + 1 ∧
      t.ligFree p = s.ligFree p ∧ t.ligFull p = s.ligFull p)) ∧
  (s.ligCheck e p false = none →
    (s.moves m 0x32 e p = true → s.ligFull p ≠ 0 → Completes (.take m) s fun t => t.ligFull p = s.ligFull p - 1 ∧ t.ligFree p = s.ligFree p) ∧
    (s.moves m 0x32 e p = true → s.ligFull p = 0 → s.bit (ligPg p) LIG_STAT_SW (ligIx p) = false → Completes (.take m) s fun t =>
      t.ligFull p = 0 ∧ bitOf (t.rf (ligPg p) PG_EVT_RAW) 0 = true ∧
      (s.crs.run.isSome = true → s.crs.trayFail = false → s.crs.judged = false → t.crs.late = true ∧ t.crs.frozen = true)) ∧
    (s.moves m 0x32 e p = true → s.ligFull p = 0 → s.bit (ligPg p) LIG_STAT_SW (ligIx p) = true → Completes (.take m) s fun t => Only irqOwn [] s t) ∧
    (s.moves m 0x33 e p = true → s.ligFree p < s.rf (ligPg p) LIG_STAT_NB (ligIx p) → Completes (.release m) s fun t =>
      t.ligFree p = s.ligFree p + 1 ∧ t.ligFull p = s.ligFull p) ∧
    (s.moves m 0x33 e p = true → s.rf (ligPg p) LIG_STAT_NB (ligIx p) ≤ s.ligFree p → s.bit pgRDG RDG_PROTO_VALID = false →
      Completes (.release m) s fun t =>
      t.ligFree p = s.ligFree p ∧ t.bit pgRDG RDG_PROTO_VALID = true ∧ t.rf pgRDG RDG_PROTO_PAIR = p.val ∧ t.rf pgRDG RDG_PROTO_KIND = 1)) ∧
  (∀ (i : Fin 72) slot last, (s.sp i).hold = .acquire p last → s.sparGoes i = true → s.ligCheck (engOfSpar i) p true = none → s.ligFree p ≠ 0 →
    Completes (.acquireResume (.spar i slot)) s fun t => t.ligFree p = s.ligFree p - 1 ∧
      (last = false → (s.sp i).attn = none → (t.sp i).hold = .none ∧ t.bit (pgSPR i) SPR_STAT_WAITING = false)) ∧
  (∀ k : Fin 256, s.engMoves k = true → s.ligCheck k p true = none → s.ligFree p ≠ 0 → Completes (.acquireResume (.engine k p)) s fun t =>
    t.ligFree p = s.ligFree p - 1) ∧
  (smGet (fun _ => 0) s.lig.posts p ≠ 0 → s.ligActive p = true → (∀ x ∈ s.lig.ports, ∀ b ∈ x.2, b.pair ≠ some p.val) →
    Completes (.postApply p) s fun t =>
    t.ligFull p = (s.ligFull p + 1) % 256 ∧ smGet (fun _ => 0) t.lig.posts p + 1 = smGet (fun _ => 0) s.lig.posts p)) ∧
(∀ (s : State) (recv issuer : Fin 256) (cls : Fin 8) (q : Fin 4) (h : Fin 2) (n : Fin 4) (ch : Fin 32)
    (eng : Option (Fin 256)) (pair : Option (Fin 1024)) (rivals : List (Fin 256 × Fin 8)),
  let k := portKey recv issuer cls
  let rs := rivals.map fun r => (r.1.val, r.2.val)
  let b0 : BeatPair := ({ seq := q.val, pair := pair.map (·.val), eng := eng.map (·.val) } : BeatPair).take h.val
  (s.mayIssue k q = true → s.valleyTakes recv issuer cls rs = true →
    (s.port k = [] → Completes (.beatPairArrival recv issuer cls q h (some (n, ch)) eng pair rivals) s fun t => t.port k = [b0] ∧
      t.seqNext k = (q.val + 1) % 4 ∧ t.retryBuf issuer = s.retryBuf issuer ++ [(k, q.val)] ∧ t.credit recv cls + 1 = s.credit recv cls ∧
      smGet (fun _ => 0) t.lig.robin (hopKey recv cls) = (issuer.val + 1) % 256 ∧
      t.rf pgRDG RDG_SPLIT_CNT_COUNT = s.rf pgRDG RDG_SPLIT_CNT_COUNT) ∧
    (∀ b, s.port k = [b] → b.lone = true → b.seq ≠ q.val → s.chargee n = none →
      Completes (.beatPairArrival recv issuer cls q h (some (n, ch)) eng pair rivals) s fun t =>
        t.port k = [{ b with replay := true, fresh := none }, b0] ∧ bitOf (t.rf pgRDG PG_EVT_RAW) 0 = true) ∧
    (h = 0 → Completes (.beatPairArrival recv issuer cls q h none eng pair rivals) s fun t => t.port k = s.port k ∧
      t.seqNext k = (q.val + 1) % 4 ∧ (k, q.val) ∉ t.retryBuf issuer)) ∧
  (∀ b r, s.port k = b :: r → b.seq = q.val → (∀ x ∈ r, x.seq ≠ q.val) → r.takeWhile BeatPair.whole = [] →
    (b.lone = true → b.take h.val ≠ b → Completes (.beatPairArrival recv issuer cls q h (some (n, ch)) eng pair rivals) s fun t =>
      t.port k = r ∧ (k, q.val) ∉ t.retryBuf issuer ∧ t.credit recv cls = min 4 (s.credit recv cls + 1)) ∧
    (b.replay = true → b.fresh = none → s.valleyTakes recv issuer 1 rs = true →
      Completes (.beatPairArrival recv issuer cls q h (some (n, ch)) eng pair rivals) s fun t => t.port k = { b with fresh := some h.val } :: r) ∧
    (∀ h0, b.replay = true → b.fresh = some h0 → h0 ≠ h.val →
      Completes (.beatPairArrival recv issuer cls q h (some (n, ch)) eng pair rivals) s fun t => t.port k = r ∧
        t.rf pgRDG RDG_REPLAY_CNT_COUNT = min (2 ^ RDG_REPLAY_CNT_COUNT.width - 1) (s.rf pgRDG RDG_REPLAY_CNT_COUNT + 1))) ∧
  (∀ b, s.port k = [b] → b.lone = true → s.chargee n = none → Completes (.splitTimeout recv issuer cls n ch) s fun t =>
    t.port k = [{ b with replay := true, fresh := none }] ∧ bitOf (t.rf pgRDG PG_EVT_RAW) 0 = true ∧
      t.rf pgRDG RDG_SPLIT_CNT_COUNT = min (2 ^ RDG_SPLIT_CNT_COUNT.width - 1) (s.rf pgRDG RDG_SPLIT_CNT_COUNT + 1))) ∧
(∀ (s : State) (e : Fin 256),
  (∀ idx ws bad r, e.val < 64 → (s.sp e).hold = .sway idx → s.sparGoes e = true → (s.sp e).ahead = (ws, bad) :: r →
    (s.swayMet e (s.stintsAcked e)).2 = true → Completes (.swayWaitEnd e) s fun t =>
      (t.sp e).hold = .none ∧ (t.sp e).next = ws.getD 0 0 % 8192 ∧ t.rf (pgSPR e) SPR_STINT_INDEX = idx % 2 ^ SPR_STINT_INDEX.width ∧
      t.bit (pgSPR e) SPR_STAT_WAITING = false ∧ t.bit (pgSPR e) SPR_STAT_RUNNING = true) ∧
  (∀ y : Fin 4, e.val = 0x80 + y.val → (s.engRun y).isSome = true → (s.yealm y).swayWait = true →
    (s.swayMet e (s.yealm y).recs.isEmpty).2 = true → Completes (.swayWaitEnd e) s fun t => (t.yealm y).swayWait = false ∧ (t.yealm y).swayOk = true) ∧
  (∀ n : Fin 4, e.val = 0x84 + n.val → (s.engRun (4 + n.val)).isSome = true → (s.stook n).swayWait = true →
    (s.swayMet e true).2 = true → Completes (.swayWaitEnd e) s fun t => (t.stook n).swayWait = false ∧ (t.stook n).swayOk = true) ∧
  (e.val = 0x88 → s.live.isSome = true → s.phase = 2 → s.btx.swayWait = true → (s.swayMet e true).2 = true →
    Completes (.swayWaitEnd e) s fun t => t.btx.swayWait = false ∧ t.btx.swayOk = true))

/-- Key switching on a yealm (R272 to R285, R290, R291): KS_DESCRIPTOR, PRE_STAGES, KEY_STREAM, POST_STAGES, OUTPUT_WRITE, KAT, KAT_DONE. Where a rule leaves a point open, the clause takes the model's reading, log entries 65, 66, 72 and 114. -/
def Obligations.KeySwitching : Prop := ∀ (s : State) (y : Fin 4),
  (∀ r, s.engRun y = some r → (s.yealm y).next < (r.plan.eng y).count → (s.yealm y).slotOpen (s.yealm y).next = true →
    ((s.ksDesc r y (s.yealm y).next).sway = false ∨ (s.yealm y).swayOk = true) → (∀ n b, s.decodeAt n b ≠ .bad) →
    s.limbWaits y (r.plan.limbBattens y (s.ksDesc r y (s.yealm y).next).level) = false →
    (s.ksCheck r y (s.ksDesc r y (s.yealm y).next) = .ok →
      (∀ b ∈ r.plan.limbBattens y (s.ksDesc r y (s.yealm y).next).level, s.limbDenied y b = none) → Completes (.ksDescriptor y) s fun t =>
      (t.yealm y).next = (s.yealm y).next + 1 ∧ (t.yealm y).descOk = true ∧ t.rf (pgSPR (64 + y.val)) SPR_STINT_INDEX = (s.yealm y).next % 1024 ∧
      ∃ e, (t.yealm y).recs = (s.yealm y).recs ++ [e] ∧ e.idx = (s.yealm y).next ∧ e.stage = 1 ∧
        e.level = (s.ksDesc r y (s.yealm y).next).level ∧ e.oper = (s.ksDesc r y (s.yealm y).next).oper ∧
        e.galois = (s.ksDesc r y (s.yealm y).next).galois ∧ e.outH = (s.ksDesc r y (s.yealm y).next).outH ∧
        e.input = s.residues r (s.ksDesc r y (s.yealm y).next).inH 0
          ((s.ksDesc r y (s.yealm y).next).comps * (s.ksDesc r y (s.yealm y).next).level * 2 ^ r.plan.kLogn)) ∧
    (∀ c h, s.ksCheck r y (s.ksDesc r y (s.yealm y).next) = .code c h → c ≠ 9 → s.bit (pgYLM y) YLM_REFUSE_VALID = false →
      Completes (.ksDescriptor y) s fun t => t.rf (pgYLM y) YLM_REFUSE_CODE = c % 256 ∧ t.rf (pgYLM y) YLM_REFUSE_H_HANDLE = h % 2 ^ 24 ∧
        bitOf (t.rf (pgYLM y) PG_EVT_RAW) 0 = true ∧ t.bit (pgSPR (64 + y.val)) SPR_STAT_HALTED = true ∧ (t.yealm y).next = (s.yealm y).next)) ∧
  (∀ r d, s.engRun y = some r → (s.yealm y).recs.find? (fun e => e.stage == 1) = some d → s.ksEntryBad r.plan y d.level = none →
    Completes (.preStages y) s fun t => (t.yealm y).find d.idx = some { d with stage := 2, ext := d.preStages (s.ksCtx r.plan y d.level) }) ∧
  (∀ r d, s.engRun y = some r → (s.yealm y).recs.find? (fun e => decide (e.stage ≤ 2)) = some d → d.stage = 2 →
    (((s.yealm y).find (d.idx + 1)).isSome = true ∨ s.ksHeld r y (d.idx + 1) = true) → (∀ z ∈ (s.yealm y).recs, d.idx < z.idx + 2) →
    ((∀ n b, s.decodeAt n b ≠ .bad) → s.seedEntryBad r.plan y d = none → Completes (.keyStream y false) s fun t => (t.yealm y).find d.idx = some { d with
      stage := 3
      acc := d.inner (s.ksCtx r.plan y d.level) fun comp dg i z => (s.ksCtx r.plan y d.level).at
        (s.keyStream r y d (s.ksCtx r.plan y d.level))
        ((comp * (s.ksCtx r.plan y d.level).digits + dg) * (s.ksCtx r.plan y d.level).lk + i) z }) ∧
    Completes (.keyStream y true) s fun t => t.bit (pgSPR (64 + y.val)) SPR_STAT_HALTED = true ∧ bitOf (t.rf (pgYLM y) PG_EVT_RAW) 3 = true ∧
      (t.yealm y).recs = (s.yealm y).recs) ∧
  (∀ r d, s.engRun y = some r → (s.yealm y).recs.find? (fun e => e.stage == 3) = some d → s.limbWaits y (r.plan.limbBattens y d.level) = false →
    (∀ b ∈ r.plan.limbBattens y d.level, s.limbDenied y b = none) → Completes (.postStages y) s fun t =>
    (t.yealm y).find d.idx = some { d with stage := 4, out := d.modDown (s.ksCtx r.plan y d.level) }) ∧
  (∀ r d, s.engRun y = some r → (s.yealm y).recs.head? = some d → d.stage = 4 → s.holdsBuffers (0x80 + y.val) = true →
    (∀ e, (s.yealm y).find (d.idx + 1) = some e → 3 ≤ e.stage) → ((s.yealm y).find (d.idx + 1) = none → s.ksHeld r y (d.idx + 1) = true) →
    Completes (.outputWrite y) s fun t => (t.yealm y).recs = (s.yealm y).recs.tail ∧
      t.hbm = (s.runWrite r d.outH 0 (packResidues d.out)).hbm ∧
      t.rf (pgYLM y) YLM_SW_CNT_COUNT = min (2 ^ YLM_SW_CNT_COUNT.width - 1) (s.rf (pgYLM y) YLM_SW_CNT_COUNT + 1) ∧
      ((r.plan.eng y).count ≤ d.idx + 1 → t.bit (pgSPR (64 + y.val)) SPR_STAT_ENDED = true)) ∧
  (∀ src (v : Word32), s.accepts src (pgYLM y + 0x5C) = true → v.getLsbD 0 = true → s.bit (pgYLM y) YLM_STAT_ACTIVE = false →
    s.bit (pgYLM y) YLM_KAT_STAT_RUN = false → Completes (.kat src y v) s fun t => t.bit (pgYLM y) YLM_KAT_STAT_RUN = true ∧
      t.bit (pgYLM y) PG_STAT_READY = false) ∧
  (∀ fail : BitVec 32, s.bit (pgYLM y) YLM_KAT_STAT_RUN = true → s.gated = false → Completes (.katDone y fail) s fun t =>
    t.bit (pgYLM y) YLM_KAT_STAT_RUN = false ∧ t.bit (pgYLM y) YLM_KAT_STAT_DONE = true ∧ t.bit (pgYLM y) YLM_KAT_STAT_PASS = (fail == 0) ∧
      t.rf (pgYLM y) YLM_KAT_FAIL_ENGINE = fail.toNat ∧ bitOf (t.rf (pgYLM y) PG_EVT_RAW) 1 = true ∧
      (fail = 0 → s.bit (pgYLM y) PG_CTRL_EN = true → t.bit (pgYLM y) PG_STAT_READY = true))

/-- The stooks (R299 to R315): PILLAR, SORT3, BALL and KNN on the descriptor that the stook has reached. Where a rule leaves a point open, the clause takes the model's reading, log entry 71. -/
def Obligations.StookDescriptors : Prop := ∀ (s : State) (n : Fin 4) (r : Run) (ce : Nat), s.engRun (4 + n.val) = some r →
  (s.stook n).next < (r.plan.eng (4 + n.val)).count →
  ((s.stkDesc r n (s.stook n).next).sway = false ∨ (s.stook n).swayOk = true) → s.stkCheck r n (s.stkDesc r n (s.stook n).next) = .ok →
  s.stkWaits n (s.stkDesc r n (s.stook n).next) = false → ((s.stkDesc r n (s.stook n).next).op = 2 ∨ s.holdsBuffers (0x84 + n.val) = true) →
  (∀ m b, s.decodeAt m b ≠ .bad) →
  (∀ pils words coords, (s.stkDesc r n (s.stook n).next).op = 1 →
    pils = runsOf PtRec.cellKey (sortKey PtRec.cellKey (s.stkIntake r (s.stkDesc r n (s.stook n).next)).1) →
    words = (List.range (s.stkDesc r n (s.stook n).next).pmax).flatMap (fun p =>
      let ws := pillarWords (s.stkDesc r n (s.stook n).next) (keepRecs (s.stkDesc r n (s.stook n).next).pcap (pils.getD p []))
      ws ++ List.replicate ((s.stkDesc r n (s.stook n).next).pcap - ws.length) 0) →
    coords = packAll 2 36 ((List.range (s.stkDesc r n (s.stook n).next).pmax).map fun p =>
      coordEntry (keepRecs (s.stkDesc r n (s.stook n).next).pcap (pils.getD p []))) →
    (s.engPutAll (s.stkDesc r n (s.stook n).next).dbat (s.stkDesc r n (s.stook n).next).fwin (ownStook n) (68 + n.val) words).2 = true →
    ((s.engPutAll (s.stkDesc r n (s.stook n).next).dbat (s.stkDesc r n (s.stook n).next).fwin (ownStook n) (68 + n.val) words).1.engPutAll
      (s.stkDesc r n (s.stook n).next).dbat (s.stkDesc r n (s.stook n).next).cwin (ownStook n) (68 + n.val) coords).2 = true →
    Completes (.pillar n ce none) s fun t => (t.stook n).next = (s.stook n).next + 1 ∧
      t.rf (pgSTK n) STK_LAST_PIL_PILLARS = pils.length % 2 ^ STK_LAST_PIL_PILLARS.width ∧
      ∀ x, x < 2 ^ 18 → t.stWord (s.stkDesc r n (s.stook n).next).dbat x =
        ((s.engPutAll (s.stkDesc r n (s.stook n).next).dbat (s.stkDesc r n (s.stook n).next).fwin (ownStook n) (68 + n.val) words).1.engPutAll
          (s.stkDesc r n (s.stook n).next).dbat (s.stkDesc r n (s.stook n).next).cwin (ownStook n) (68 + n.val) coords).1.stWord
            (s.stkDesc r n (s.stook n).next).dbat x) ∧
  ((s.stkDesc r n (s.stook n).next).op = 2 → Completes (.sort3 n ce none) s fun t => (t.stook n).next = (s.stook n).next + 1 ∧
    t.rf (pgSTK n) STK_LAST_VALID_NV = (s.stkIntake r (s.stkDesc r n (s.stook n).next)).1.length % 2 ^ STK_LAST_VALID_NV.width ∧
    ∃ l, (t.stook n).sort = some ((s.stkDesc r n (s.stook n).next).sortId, l) ∧ l.Pairwise (fun a b => a.key ≤ b.key) ∧
      (l.map SortRec.inten).Perm ((s.stkIntake r (s.stkDesc r n (s.stook n).next)).1.map PtRec.inten) ∧
      ∀ e ∈ l, e.key = morton 21 [e.ux, e.uy, e.uz]) ∧
  (∀ c ∈ [(Instr.ball n ce none, 3), (.knn n ce none, 4)], ∀ words, (s.stkDesc r n (s.stook n).next).op = c.2 →
    words = (List.range (s.stkDesc r n (s.stook n).next).qmax).flatMap
      (queryWords (s.stkDesc r n (s.stook n).next) (((s.stook n).sort.map (·.2)).getD [])) →
    (s.engPutAll (s.stkDesc r n (s.stook n).next).dbat (s.stkDesc r n (s.stook n).next).fwin (ownStook n) (68 + n.val) words).2 = true →
    Completes c.1 s fun t => (t.stook n).next = (s.stook n).next + 1 ∧ (t.stook n).sort = (s.stook n).sort ∧
      ∀ x, x < 2 ^ 18 → t.stWord (s.stkDesc r n (s.stook n).next).dbat x =
        (s.engPutAll (s.stkDesc r n (s.stook n).next).dbat (s.stkDesc r n (s.stook n).next).fwin (ownStook n) (68 + n.val) words).1.stWord
          (s.stkDesc r n (s.stook n).next).dbat x)

/-- Stacked memory accesses (R353, R355, R356, R713): HBM_READ and PARTIAL_WRITE. An address outside the page pool faults; inside it a clean codeword is read as it stands, errors of one or two symbols are corrected, counted and queued for the scrub, an uncorrectable codeword is counted and raised, and a write changes the bytes it names and no other byte. Where a rule leaves a point open, the clause takes the model's reading, log entries 74, 75, 76 and 116. -/
def Obligations.StackedMemory : Prop := ∀ (s : State) (n : Fin 4) (b : Nat) (errs : List (Fin 68 × Byte)) (first : Fin 64) (bs : List Byte) (p : Bool),
  (poolBeats ≤ b → exec (.hbmRead n b errs p) s = .fault .outside ∧ exec (.partialWrite n b first bs errs) s = .fault .outside) ∧
  (b < poolBeats → s.stackStopped n = false → s.pcWaits n (pcOf b) = false →
    (s.strike n b (errs.map fun e => (e.1.val, e.2.toNat))).decodeAt n b = .clean → Completes (.hbmRead n b errs p) s fun t =>
      t.rf (pgHBM n) HBM_CE_CNT_COUNT = s.rf (pgHBM n) HBM_CE_CNT_COUNT ∧ t.rf (pgHBM n) HBM_UE_CNT_COUNT = s.rf (pgHBM n) HBM_UE_CNT_COUNT ∧
        ∀ a, t.hbmByte a = (s.strike n b (errs.map fun e => (e.1.val, e.2.toNat))).hbmByte a) ∧
  (∀ k, b < poolBeats → s.stackStopped n = false → s.pcWaits n (pcOf b) = false →
    (s.strike n b (errs.map fun e => (e.1.val, e.2.toNat))).decodeAt n b = .fixed k → Completes (.hbmRead n b errs p) s fun t =>
      t.rf (pgHBM n) HBM_CE_CNT_COUNT = min (2 ^ HBM_CE_CNT_COUNT.width - 1) (s.rf (pgHBM n) HBM_CE_CNT_COUNT + 1) ∧
        t.rf (pgHBM n) HBM_CE_ADDR_B = b ∧ bitOf (t.rf (pgHBM n) PG_EVT_RAW) 0 = true ∧
        ((smGet (fun _ => []) s.hbm.scrub n).length < 16 → smGet (fun _ => []) t.hbm.scrub n = smGet (fun _ => []) s.hbm.scrub n ++ [b])) ∧
  (b < poolBeats → s.stackStopped n = false → s.pcWaits n (pcOf b) = false →
    (s.strike n b (errs.map fun e => (e.1.val, e.2.toNat))).decodeAt n b = .bad → s.pur.tab = [] → Completes (.hbmRead n b errs p) s fun t =>
      t.rf (pgHBM n) HBM_UE_CNT_COUNT = min (2 ^ HBM_UE_CNT_COUNT.width - 1) (s.rf (pgHBM n) HBM_UE_CNT_COUNT + 1) ∧
        t.rf (pgHBM n) HBM_UE_ADDR_B = b ∧ bitOf (t.rf (pgHBM n) PG_EVT_RAW) 1 = true) ∧
  (b < poolBeats → s.stackStopped n = false → s.pcWaits n (pcOf b) = false → first.val + bs.length ≤ 64 → s.decodeAt n b = .clean →
    Completes (.partialWrite n b first bs []) s fun t =>
      (∀ i, i < bs.length → t.hbmByte (beatAddr n b + first.val + i) = bs.getD i 0) ∧
      ∀ a, a < beatAddr n b + first.val ∨ beatAddr n b + first.val + bs.length ≤ a → t.hbmByte a = s.hbmByte a)

/-- Parity retries and field lane repair (R359 to R362, R374, R375): PARITY, RETRY_CHECK, LANE, REPAIR, STACK_LOST. Temperature and refresh class (R363 to R367), the scrub (R368) and training (R371 to R373): TEMP_READING, CLASS_DOWN, SCRUB, TRAIN_START, ABORT, TRAIN_PHASE_DONE. Where a rule leaves a point open, the clause takes the model's reading, log entries 73, 75 and 116. -/
def Obligations.StackRepairAndUpkeep : Prop := (∀ (s : State) (n : Fin 4) (pc : Fin 64),
  (∀ kind : Fin 4, s.stackStopped n = false → s.pcWaits n pc = false → Completes (.parity n pc kind) s fun t =>
    t.pcRetry n pc = { st := .check, kind := kind } ∧ bitOf (t.rf (pgHBM n) PG_EVT_RAW) 2 = true ∧
      t.rf (pgHBM n) HBM_PAR_CNT_COUNT = min (2 ^ HBM_PAR_CNT_COUNT.width - 1) (s.rf (pgHBM n) HBM_PAR_CNT_COUNT + 1) ∧
      t.rf (pgHBM n) HBM_RETRY_LAST_KIND = kind.val ∧ t.rf (pgHBM n) HBM_RETRY_LAST_PC = pc.val % 2 ∧ t.rf (pgHBM n) HBM_RETRY_LAST_CHAN = pc.val / 2) ∧
  ((s.pcRetry n pc).st = .check → (s.pcRetry n pc).fails < 3 →
    (Completes (.retryCheck n pc true) s fun t => t.pcRetry n pc = {}) ∧
    ((s.pcRetry n pc).fails < 2 → Completes (.retryCheck n pc false) s fun t => t.pcRetry n pc = { s.pcRetry n pc with fails := (s.pcRetry n pc).fails + 1 } ∧
      t.rf (pgHBM n) HBM_PAR_CNT_COUNT = min (2 ^ HBM_PAR_CNT_COUNT.width - 1) (s.rf (pgHBM n) HBM_PAR_CNT_COUNT + 1)) ∧
    ((s.pcRetry n pc).fails = 2 → Completes (.retryCheck n pc false) s fun t => t.pcRetry n pc = { s.pcRetry n pc with fails := 3 })) ∧
  ((s.pcRetry n pc).st = .check → 3 ≤ (s.pcRetry n pc).fails → Completes (.lane n pc) s fun t => (t.pcRetry n pc).st = .lane) ∧
  (∀ lane t0, (s.pcRetry n pc).st = .lane → s.laneSpare n (pc.val / 2) lane = some t0 →
    (Completes (.repair n pc lane true) s fun t => t.pcRetry n pc = {} ∧ bitOf (t.rf (pgHBM n) PG_EVT_RAW) 5 = true ∧
      bitOf (t.rf (pgPHY n) PG_EVT_RAW) 2 = true ∧
      t.rf (pgHBM n) HBM_REPAIR_CNT_COUNT = min (2 ^ HBM_REPAIR_CNT_COUNT.width - 1) (s.rf (pgHBM n) HBM_REPAIR_CNT_COUNT + 1)) ∧
    (s.rf (pgHBM n) HBM_LOST_WHY_WHY = 0 → Completes (.repair n pc lane false) s fun t => t.rf (pgHBM n) HBM_LOST_WHY_WHY = 3)) ∧
  (∀ lane, (s.pcRetry n pc).st = .lane → s.laneSpare n (pc.val / 2) lane = none → s.rf (pgHBM n) HBM_LOST_WHY_WHY = 0 →
    ∀ ok, Completes (.repair n pc lane ok) s fun t => t.rf (pgHBM n) HBM_LOST_WHY_WHY = 2) ∧
  (s.rf (pgHBM n) HBM_LOST_WHY_WHY ≠ 0 → s.bit (pgHBM n) HBM_STAT_LOST = false → Completes (.stackLost n) s fun t =>
    t.bit (pgHBM n) HBM_STAT_LOST = true ∧ bitOf (t.rf (pgHBM n) PG_EVT_RAW) 6 = true ∧ t.trayFailed = true)) ∧
(∀ (s : State) (n : Fin 4),
  (∀ x : BitVec 16, Completes (.tempReading n true x) s fun t => t.bit (pgHBM n) HBM_TEMP_VALID = true ∧ t.rf (pgHBM n) HBM_TEMP_TEMP = x.toNat ∧
    t.rf (pgHBM n) HBM_STAT_CLASS = max (s.rf (pgHBM n) HBM_STAT_CLASS) (if 1520 < x.toInt then 2 else if 1360 < x.toInt then 1 else 0) ∧
    smGet (fun _ => 0) t.hbm.bad n = 0 ∧ (1680 < x.toInt → smGet (fun _ => false) t.hbm.stop n = true ∧
      (smGet (fun _ => false) s.hbm.stop n = false → t.trayFailed = true ∧ t.bit pgGLB GLB_FAIL_HBM_TEMP = true))) ∧
  (∀ x, Completes (.tempReading n false x) s fun t => t.bit (pgHBM n) HBM_TEMP_VALID = false ∧ 2 ≤ t.rf (pgHBM n) HBM_STAT_CLASS ∧
    smGet (fun _ => 0) t.hbm.bad n = smGet (fun _ => 0) s.hbm.bad n + 1 ∧
    (smGet (fun _ => 0) s.hbm.bad n = 63 → s.rf (pgHBM n) HBM_LOST_WHY_WHY = 0 → t.rf (pgHBM n) HBM_LOST_WHY_WHY = 4)) ∧
  (smGet (fun _ => false) s.hbm.down n = true → Completes (.classDown n) s fun t =>
    t.rf (pgHBM n) HBM_STAT_CLASS = s.rf (pgHBM n) HBM_STAT_CLASS - 1 ∧ smGet (fun _ => false) t.hbm.down n = false ∧ (∀ i, t.lowRun n i = s.lowRun n i) ∧ bitOf (t.rf (pgHBM n) PG_EVT_RAW) 4 = true) ∧
  (∀ errs, s.bit (pgHBM n) HBM_SCRUB_CFG_EN = true → s.stackStopped n = false → s.crs.run = none → Completes (.scrub n errs) s fun t =>
    t.rf (pgHBM n) HBM_SCRUB_POS_BLOCK = (s.rf (pgHBM n) HBM_SCRUB_POS_BLOCK + s.rf (pgHBM n) HBM_SCRUB_CFG_BLOCKS) % 555008 ∧
      smGet (fun _ => []) t.hbm.scrub n = [] ∧
      (555008 ≤ s.rf (pgHBM n) HBM_SCRUB_POS_BLOCK + s.rf (pgHBM n) HBM_SCRUB_CFG_BLOCKS → bitOf (t.rf (pgHBM n) PG_EVT_RAW) 9 = true)) ∧
  (∀ src, s.accepts src (pgPHY n + 0x44) = true →
    (s.bit (pgPHY n) PHY_TRAIN_STAT_RUN = false → Completes (.trainStart src n) s fun t =>
      t.bit (pgPHY n) PHY_TRAIN_STAT_RUN = true ∧ t.rf (pgPHY n) PHY_TRAIN_STAT_PHASE = 1 ∧ t.bit (pgHBM n) HBM_STAT_TRAINED = false) ∧
    (s.bit (pgPHY n) PHY_TRAIN_STAT_RUN = true → Completes (.abort src n) s fun t => smGet (fun _ => false) t.hbm.abort n = true)) ∧
  (s.bit (pgPHY n) PHY_TRAIN_STAT_RUN = true → smGet (fun _ => false) s.hbm.stop n = false → smGet (fun _ => false) s.hbm.abort n = false →
    s.bit pgPWR PWR_STAT_OFF_PEND = false →
    (s.rf (pgPHY n) PHY_TRAIN_STAT_PHASE < 7 → Completes (.trainPhaseDone n 0 []) s fun t =>
      t.rf (pgPHY n) PHY_TRAIN_STAT_PHASE = s.rf (pgPHY n) PHY_TRAIN_STAT_PHASE + 1 ∧ t.bit (pgPHY n) PHY_TRAIN_STAT_RUN = true) ∧
    (s.rf (pgPHY n) PHY_TRAIN_STAT_PHASE = 7 → Completes (.trainPhaseDone n 0 []) s fun t => t.bit (pgPHY n) PHY_TRAIN_STAT_RUN = false ∧
      t.bit (pgPHY n) PHY_TRAIN_STAT_PASS = true ∧ t.bit (pgHBM n) HBM_STAT_TRAINED = true ∧
      ∀ a, a / pageBytes / stackPages = n.val → t.hbmByte a = 0) ∧
    (∀ f : BitVec 32, 2 ≤ s.rf (pgPHY n) PHY_TRAIN_STAT_PHASE → s.rf (pgPHY n) PHY_TRAIN_STAT_PHASE ≤ 5 → f ≠ 0 →
      s.rf (pgHBM n) HBM_LOST_WHY_WHY = 0 → Completes (.trainPhaseDone n f []) s fun t => t.bit (pgPHY n) PHY_TRAIN_STAT_RUN = false ∧
        t.rf (pgPHY n) PHY_TRAIN_FAIL_CHAN = f.toNat ∧ t.rf (pgHBM n) HBM_LOST_WHY_WHY = 1)))

/-- Gable arithmetic (R428, R429): the result in g[rd], or nothing written where rd is g0; the other registers unchanged; PC on to the next instruction, which INSTRET counts. ADD, SUB, ADDK and MUL are exact in 64 signed bits, or wrap where ARITH_CTL.OV is 0. Where a rule leaves a point open, the clause takes the model's reading, log entries 81 and 82. -/
def Obligations.GableArithmetic : Prop := ∀ (s : State) (g : Fin 2) (x : GabIn) (w : Word32), s.gabRuns g x w = true →
  (∀ e ∈ [(Instr.add g x, 0x100, s.gRd g (iRb w), (fun a b => a + b : Int → Int → Int)), (.sub g x, 0x101, s.gRd g (iRb w), fun a b => a - b),
      (.mul g x, 0x10B, s.gRd g (iRb w), fun a b => a * b), (.addk g x, 0x02, iImm14 w, fun a b => a + b)],
    gabKey w = e.2.1 → ((s.gable g).ov = false ∨
      -2 ^ 63 ≤ e.2.2.2 (s.gRd g (iRa w)).toInt e.2.2.1.toInt ∧ e.2.2.2 (s.gRd g (iRa w)).toInt e.2.2.1.toInt < 2 ^ 63) →
    Completes e.1 s fun t => (iRd w ≠ 0 → t.gRd g (iRd w) = BitVec.ofInt 64 (e.2.2.2 (s.gRd g (iRa w)).toInt e.2.2.1.toInt)) ∧
      (∀ r, r < 32 → r ≠ iRd w → t.gRd g r = s.gRd g r) ∧ t.gPc g = s.gPc g + 4 ∧ (t.gable g).instret = ((s.gable g).instret + 1) % 2 ^ 64 ∧
      s.gabWent t g [] (s.gable g)) ∧
  (∀ e ∈ [(Instr.and g x, 0x102, s.gRd g (iRb w), (fun a b => a &&& b : Word64 → Word64 → Word64)), (.or g x, 0x103, s.gRd g (iRb w), fun a b => a ||| b),
      (.xor g x, 0x104, s.gRd g (iRb w), fun a b => a ^^^ b), (.andn g x, 0x105, s.gRd g (iRb w), fun a b => a &&& ~~~b),
      (.shl g x, 0x106, s.gRd g (iRb w), fun a b => a <<< (b.toNat % 64)), (.shr g x, 0x107, s.gRd g (iRb w), fun a b => a >>> (b.toNat % 64)),
      (.shra g x, 0x108, s.gRd g (iRb w), fun a b => a.sshiftRight (b.toNat % 64)),
      (.clt g x, 0x109, s.gRd g (iRb w), fun a b => if a.toInt < b.toInt then 1 else 0),
      (.cltu g x, 0x10A, s.gRd g (iRb w), fun a b => if a.toNat < b.toNat then 1 else 0),
      (.mulhs g x, 0x10C, s.gRd g (iRb w), fun a b => BitVec.ofInt 64 (a.toInt * b.toInt / 2 ^ 64)),
      (.mulhu g x, 0x10D, s.gRd g (iRb w), fun a b => BitVec.ofNat 64 (a.toNat * b.toNat / 2 ^ 64)),
      (.mins g x, 0x112, s.gRd g (iRb w), fun a b => if a.toInt ≤ b.toInt then a else b),
      (.maxs g x, 0x113, s.gRd g (iRb w), fun a b => if a.toInt ≤ b.toInt then b else a),
      (.minu g x, 0x114, s.gRd g (iRb w), fun a b => if a.toNat ≤ b.toNat then a else b),
      (.maxu g x, 0x115, s.gRd g (iRb w), fun a b => if a.toNat ≤ b.toNat then b else a),
      (.popc g x, 0x116, s.gRd g (iRb w), fun a _ => BitVec.ofNat 64 (((List.range 64).filter fun i => a.getLsbD i).length)),
      (.andk g x, 0x03, iZimm14 w, fun a b => a &&& b), (.ork g x, 0x04, iZimm14 w, fun a b => a ||| b),
      (.xork g x, 0x05, iZimm14 w, fun a b => a ^^^ b), (.shlk g x, 0x06, iZimm14 w, fun a b => a <<< (b.toNat % 64)),
      (.shrk g x, 0x07, iZimm14 w, fun a b => a >>> (b.toNat % 64)), (.shrak g x, 0x08, iZimm14 w, fun a b => a.sshiftRight (b.toNat % 64)),
      (.cltk g x, 0x09, iImm14 w, fun a b => if a.toInt < b.toInt then 1 else 0),
      (.ldh g x, 0x0A, iHigh19 w, fun _ b => b), (.ldpc g x, 0x0B, iHigh19 w, fun _ b => s.gPc g + b)],
    gabKey w = e.2.1 → Completes e.1 s fun t => (iRd w ≠ 0 → t.gRd g (iRd w) = e.2.2.2 (s.gRd g (iRa w)) e.2.2.1) ∧
      (∀ r, r < 32 → r ≠ iRd w → t.gRd g r = s.gRd g r) ∧ t.gPc g = s.gPc g + 4 ∧ (t.gable g).instret = ((s.gable g).instret + 1) % 2 ^ 64 ∧
      s.gabWent t g [] (s.gable g)) ∧
  (∀ e ∈ [(Instr.divs g x, 0x10E, (fun a b => if b = 0 then -1 else BitVec.ofInt 64 (a.toInt.tdiv b.toInt) : Word64 → Word64 → Word64)),
      (.divu g x, 0x10F, fun a b => if b = 0 then -1 else BitVec.ofNat 64 (a.toNat / b.toNat)),
      (.mods g x, 0x110, fun a b => if b = 0 then a else BitVec.ofInt 64 (a.toInt.tmod b.toInt)),
      (.modu g x, 0x111, fun a b => if b = 0 then a else BitVec.ofNat 64 (a.toNat % b.toNat))],
    gabKey w = e.2.1 → ((s.gable g).dz = false ∨ s.gRd g (iRb w) ≠ 0) →
    (e.2.1 = 0x10E → (s.gable g).ov = true → (s.gRd g (iRa w)).toInt ≠ -2 ^ 63 ∨ s.gRd g (iRb w) ≠ -1) →
    Completes e.1 s fun t => (iRd w ≠ 0 → t.gRd g (iRd w) = e.2.2 (s.gRd g (iRa w)) (s.gRd g (iRb w))) ∧
      (∀ r, r < 32 → r ≠ iRd w → t.gRd g r = s.gRd g r) ∧ t.gPc g = s.gPc g + 4 ∧ (t.gable g).instret = ((s.gable g).instret + 1) % 2 ^ 64 ∧
      s.gabWent t g [] (s.gable g))

/-- Gable loads and stores (R420, R421, R425, R427): a load from the code store, the boot ROM, the data store or the register window that its level and its alignment allow writes g[rd] with the bytes, sign- or zero-extended; a store to the data store or the window that they allow writes the bytes of its register and no other; and one that they do not allow traps. Where a rule leaves a point open, the clause takes the model's reading, log entries 6, 80 and 84. -/
def Obligations.GableLoadsAndStores : Prop := ∀ (s : State) (g : Fin 2) (x : GabIn) (w : Word32) (a lvl h : Nat), s.gabRuns g x w = true →
  a = s.gabEa g w → lvl = (s.gable g).lvl → h < 2 ^ 64 →
  (∀ e ∈ [(Instr.ld8 g x, 0x10, 1, true), (.ld8u g x, 0x11, 1, false), (.ld16 g x, 0x12, 2, true), (.ld16u g x, 0x13, 2, false),
      (.ld32 g x, 0x14, 4, true), (.ld32u g x, 0x15, 4, false), (.ld64 g x, 0x16, 8, false)], gabKey w = e.2.1 →
    (∀ v : Nat, gabRange g a = .code ∧ levelOk lvl ((s.gable g).codeRd a) = true ∧ a % e.2.2.1 = 0 ∧ s.gabMarching g a = false ∧
          (s.codeWord g a).err = .clean ∧ (e.2.2.1 = 8 → (s.codeWord g (a + 4)).err = .clean) ∧ x.mem = .clean ∧
          v = (if e.2.2.1 = 8 then (s.codeWord g a).data.toNat + 2 ^ 32 * (s.codeWord g (a + 4)).data.toNat
            else bits (s.codeWord g a).data.toNat (8 * (a % 4) + 8 * e.2.2.1 - 1) (8 * (a % 4))) ∨
        gabRange g a = .rom ∧ lvl = 2 ∧ a % e.2.2.1 = 0 ∧ v = s.romLoad g a e.2.2.1 ∨
        gabRange g a = .data ∧ levelOk lvl ((s.gable g).dataRd a) = true ∧ a % e.2.2.1 = 0 ∧ s.gabMarching g a = false ∧
          (s.dataWord g a).err = .clean ∧ x.mem = .clean ∧ v = bits (s.dataWord g a).data.toNat (8 * (a % 8) + 8 * e.2.2.1 - 1) (8 * (a % 8)) →
      Completes e.1 s fun t => (iRd w ≠ 0 → t.gRd g (iRd w) = if e.2.2.2 = true then BitVec.ofInt 64 (sext (8 * e.2.2.1) v) else BitVec.ofNat 64 v) ∧
        (∀ r, r < 32 → r ≠ iRd w → t.gRd g r = s.gRd g r) ∧ t.gPc g = s.gPc g + 4 ∧ s.gabWent t g [] (s.gable g)) ∧
    (∀ v, (s.gabLoad g lvl a e.2.2.1 x.mem).2 = .ok v → Completes e.1 s fun t =>
      (iRd w ≠ 0 → t.gRd g (iRd w) = if e.2.2.2 = true then BitVec.ofInt 64 (sext (8 * e.2.2.1) v) else BitVec.ofNat 64 v) ∧
      (∀ k, irqOwn k = false → t.reg k = (s.gabLoad g lvl a e.2.2.1 x.mem).1.reg k)) ∧
    (gabRange g a = .window → levelOk lvl (s.gable g).regRd = true → windowFits a e.2.2.1 = true →
      Completes e.1 s fun t => (iRd w ≠ 0 → t.gRd g (iRd w) = if e.2.2.2 = true then BitVec.ofInt 64 (sext (8 * e.2.2.1) (s.windowLoad g a e.2.2.1 x.mem).2)
          else BitVec.ofNat 64 (s.windowLoad g a e.2.2.1 x.mem).2) ∧ t.gPc g = s.gPc g + 4 ∧
        ∀ k, irqOwn k = false → t.reg k = (s.windowLoad g a e.2.2.1 x.mem).1.reg k) ∧
    (∀ k i, gabRange g a = .window → levelOk lvl (s.gable g).regRd = true → a % 4 = 0 → e.2.2.1 = 4 → windowOf (a - 0x40000000) = none →
      pageOf (a - 0x40000000) = some (k, i) → s.pageOff k = false → 2 ≤ s.rf pgGLB GLB_STATE_STATE → regExists k i (a % 0x1000) = true →
      (k = .irq → a % 0x1000 ∉ [0x40, 0x44]) → (k = .dmr → a % 0x1000 ≠ 0x44) → (k = .btxt → a % 0x1000 < 0x100 ∨ a % 0x10 ≠ 4) → iRd w ≠ 0 →
      Completes e.1 s fun t => t.gRd g (iRd w) = if e.2.2.2 = true then BitVec.ofInt 64 (sext 32 (s.regView (.gable g) (a - 0x40000000)).toNat)
        else BitVec.ofNat 64 (s.regView (.gable g) (a - 0x40000000)).toNat) ∧
    (s.readOk g lvl a = false ∨ gabRange g a = .window ∧ windowFits a e.2.2.1 = false → s.trapTo g 5 h (x.tab.headD .clean) = true →
      Completes e.1 s fun t => s.trapped t g 5 h (s.gPc g).toNat a 0 ∧ s.trapWent t g 5 (x.tab.headD .clean) ∧ ∀ r, r < 32 → t.gRd g r = s.gRd g r) ∧
    (s.readOk g lvl a = true → gabRange g a ≠ .window → a % e.2.2.1 ≠ 0 → s.trapTo g 7 h (x.tab.headD .clean) = true →
      Completes e.1 s fun t => s.trapped t g 7 h (s.gPc g).toNat a 0 ∧ s.trapWent t g 7 (x.tab.headD .clean) ∧ ∀ r, r < 32 → t.gRd g r = s.gRd g r)) ∧
  (∀ e ∈ [(Instr.st8 g x, 0x18, 1), (.st16 g x, 0x19, 2), (.st32 g x, 0x1A, 4), (.st64 g x, 0x1B, 8)], gabKey w = e.2.1 →
    (gabRange g a = .data → levelOk lvl ((s.gable g).dataWr a) = true → a % e.2.2 = 0 →
      Completes e.1 s fun t => (t.dataWord g a).data = BitVec.ofNat 64 (mergeWord (s.dataWord g a).data.toNat (a % 8) e.2.2 (s.gRd g (iRd w)).toNat) ∧
        (∀ a', dataKey g a' ≠ dataKey g a → t.dataWord g a' = s.dataWord g a') ∧ (∀ r, r < 32 → t.gRd g r = s.gRd g r) ∧ t.gPc g = s.gPc g + 4 ∧
        s.gabWent t g [.gdata] (s.gable g)) ∧
    (gabRange g a = .window → levelOk lvl (s.gable g).regWr = true → windowFits a e.2.2 = true →
      Completes e.1 s fun t => t.gPc g = s.gPc g + 4 ∧ ∀ k, irqOwn k = false → t.reg k =
        (let s1 := s.busWrite (.gable g) (a - 0x40000000) true (BitVec.ofNat 32 (s.gRd g (iRd w)).toNat)
         if e.2.2 = 4 then s1 else s1.busWrite (.gable g) (a - 0x40000000 + 4) true (BitVec.ofNat 32 ((s.gRd g (iRd w)).toNat / 2 ^ 32))).reg k) ∧
    (s.writeOk g lvl a = false ∨ gabRange g a = .window ∧ windowFits a e.2.2 = false → s.trapTo g 6 h (x.tab.headD .clean) = true →
      Completes e.1 s fun t => s.trapped t g 6 h (s.gPc g).toNat a 0 ∧ s.trapWent t g 6 (x.tab.headD .clean) ∧ ∀ r, r < 32 → t.gRd g r = s.gRd g r) ∧
    (s.writeOk g lvl a = true → gabRange g a ≠ .window → a % e.2.2 ≠ 0 → s.trapTo g 8 h (x.tab.headD .clean) = true →
      Completes e.1 s fun t => s.trapped t g 8 h (s.gPc g).toNat a 0 ∧ s.trapWent t g 8 (x.tab.headD .clean) ∧ ∀ r, r < 32 → t.gRd g r = s.gRd g r))

/-- Gable jumps (R427, R441 to R443): JC, JL, JLR, CALL, CALLR with and without a spill, RET with its match. Where a rule leaves a point open, the clause takes the model's reading, log entries 80 and 82. -/
def Obligations.GableJumps : Prop := ∀ (s : State) (g : Fin 2) (x : GabIn) (w : Word32), s.gabRuns g x w = true →
  (gabKey w = 0x20 →
    (jcHolds (iCond w) (s.gRd g (cRa w)) (s.gRd g (cRb w)) = false → Completes (.jc g x) s fun t => t.gPc g = s.gPc g + 4 ∧
      (∀ r, r < 32 → t.gRd g r = s.gRd g r) ∧ s.gabWent t g [] (s.gable g)) ∧
    (jcHolds (iCond w) (s.gRd g (cRa w)) (s.gRd g (cRb w)) = true → s.jumpBad g (s.gable g).lvl (s.gPc g + iOff11 w).toNat = none →
      Completes (.jc g x) s fun t => t.gPc g = s.gPc g + iOff11 w ∧ (∀ r, r < 32 → t.gRd g r = s.gRd g r) ∧ s.gabWent t g [] (s.gable g))) ∧
  (∀ e ∈ [(Instr.jl g x, 0x28, s.gPc g + iOff19 w), (.jlr g x, 0x29, s.gRd g (iRa w) + iImm14 w)], gabKey w = e.2.1 →
    s.jumpBad g (s.gable g).lvl e.2.2.toNat = none → Completes e.1 s fun t => t.gPc g = e.2.2 ∧ s.gabWent t g [] (s.gable g) ∧
      (iRd w ≠ 0 → t.gRd g (iRd w) = s.gPc g + 4) ∧ ∀ r, r < 32 → r ≠ iRd w → t.gRd g r = s.gRd g r) ∧
  (∀ e ∈ [(Instr.call g x, 0x2A, s.gPc g + iOff19 w), (.callr g x, 0x2B, s.gRd g (iRa w) + iImm14 w)], gabKey w = e.2.1 →
    s.jumpBad g (s.gable g).lvl e.2.2.toNat = none →
    ((s.gable g).ss.length < 64 → Completes e.1 s fun t => t.gPc g = e.2.2 ∧ (t.gable g).ss = (s.gPc g + 4) :: (s.gable g).ss ∧
      (iRd w ≠ 0 → t.gRd g (iRd w) = s.gPc g + 4) ∧ (∀ r, r < 32 → r ≠ iRd w → t.gRd g r = s.gRd g r) ∧
      s.gabWent t g [] { s.gable g with ss := (t.gable g).ss }) ∧
    ((s.gable g).ss.length = 64 → (s.gable g).spillFits g = true → Completes e.1 s fun t => t.gPc g = e.2.2 ∧
      (t.gable g).ss = (s.gPc g + 4) :: (s.gable g).ss.take 32 ∧ (t.gable g).spilled = (s.gable g).spilled + 32 ∧
      s.gabWent t g [.gdata] { s.gable g with ss := (t.gable g).ss, spilled := (t.gable g).spilled } ∧
      ∀ i, i < 32 → (s.gable g).spillAt % 8 = 0 → (t.dataWord g ((s.gable g).spillAt + 8 * i)).data = (s.gable g).ss.getD (63 - i) 0)) ∧
  (∀ r, gabKey w = 0x2C → (s.gable g).ss = s.gRd g (iRa w) :: r → s.jumpBad g (s.gable g).lvl (s.gRd g (iRa w)).toNat = none →
    Completes (.ret g x) s fun t => t.gPc g = s.gRd g (iRa w) ∧ (t.gable g).ss = r ∧ (∀ n, n < 32 → t.gRd g n = s.gRd g n) ∧
    s.gabWent t g [] { s.gable g with ss := r })

/-- Gable traps that instructions raise (R427 to R431, R434, R435, R442): SVC and BRK; and the traps of ERET, FIRET and WFI below their level, of an overflow and of a division by zero that ARITH_CTL detects, and of a RET whose target is not the top of the shadow stack. Gable interrupts, waits' ends and the watchdog (R432 to R434, R439, R440, R445, R474): IRQ, FIRQ, WFI_END, FENCE_COMPLETE, WDOG_TRAP, WDOG_RESET. Where a rule leaves a point open, the clause takes the model's reading, log entries 80 and 82. -/
def Obligations.GableTrapsAndInterrupts : Prop := (∀ (s : State) (g : Fin 2) (x : GabIn) (w : Word32) (h : Nat), s.gabRuns g x w = true → h < 2 ^ 64 →
  (gabKey w = 0x30 → s.trapTo g (13 + (s.gable g).lvl) h (x.tab.headD .clean) = true → Completes (.svc g x) s fun t =>
    s.trapped t g (13 + (s.gable g).lvl) h (s.gPc g + 4).toNat 0 (iCsr w) ∧
    (∀ r, r < 32 → t.gRd g r = s.gRd g r) ∧ s.trapWent t g (13 + (s.gable g).lvl) (x.tab.headD .clean) ∧ (t.gable g).instret = ((s.gable g).instret + 1) % 2 ^ 64) ∧
  (gabKey w = 0x38 → s.trapTo g 16 h (x.tab.headD .clean) = true → Completes (.brk g x) s fun t => s.trapped t g 16 h (s.gPc g).toNat 0 0 ∧
    (∀ r, r < 32 → t.gRd g r = s.gRd g r) ∧ s.trapWent t g 16 (x.tab.headD .clean)) ∧
  (∀ e ∈ [(Instr.eret g x, 0x31, 2), (.firet g x, 0x32, 2), (.wfi g x, 0x33, 1)], gabKey w = e.2.1 → (s.gable g).lvl < e.2.2 →
    s.trapTo g 2 h (x.tab.headD .clean) = true → Completes e.1 s fun t => s.trapped t g 2 h (s.gPc g).toNat w.toNat 0) ∧
  (∀ e ∈ [(Instr.add g x, 0x100, s.gRd g (iRb w), (fun a b => a + b : Int → Int → Int)), (.sub g x, 0x101, s.gRd g (iRb w), fun a b => a - b),
      (.mul g x, 0x10B, s.gRd g (iRb w), fun a b => a * b), (.addk g x, 0x02, iImm14 w, fun a b => a + b)], gabKey w = e.2.1 →
    (s.gable g).ov = true → ¬(-2 ^ 63 ≤ e.2.2.2 (s.gRd g (iRa w)).toInt e.2.2.1.toInt ∧ e.2.2.2 (s.gRd g (iRa w)).toInt e.2.2.1.toInt < 2 ^ 63) →
    s.trapTo g 10 h (x.tab.headD .clean) = true → Completes e.1 s fun t => s.trapped t g 10 h (s.gPc g).toNat 0 0 ∧
      ∀ r, r < 32 → t.gRd g r = s.gRd g r) ∧
  (∀ e ∈ [(Instr.divs g x, 0x10E), (.divu g x, 0x10F), (.mods g x, 0x110), (.modu g x, 0x111)], gabKey w = e.2 →
    (s.gable g).dz = true → s.gRd g (iRb w) = 0 → s.trapTo g 9 h (x.tab.headD .clean) = true →
    Completes e.1 s fun t => s.trapped t g 9 h (s.gPc g).toNat 0 0 ∧ ∀ r, r < 32 → t.gRd g r = s.gRd g r) ∧
  (∀ a r, gabKey w = 0x2C → (s.gable g).ss = a :: r → a ≠ s.gRd g (iRa w) → s.trapTo g 11 h (x.tab.headD .clean) = true →
    Completes (.ret g x) s fun t => s.trapped t g 11 h (s.gPc g).toNat (s.gRd g (iRa w)).toNat 0 ∧ (t.gable g).ss = a :: r)) ∧
(∀ (s : State) (g : Fin 2) (tab : List StErr) (h : Nat), h < 2 ^ 64 →
  (s.gabAt g = true → (s.gable g).wdPend = false → s.gabFirq g = false → s.gabIrq g = true → s.trapTo g 32 h (tab.headD .clean) = true →
    Completes (.irq g tab) s fun t => s.trapped t g 32 h (s.gPc g).toNat 0 0) ∧
  (s.gabAt g = true → (s.gable g).wdPend = false → s.gabFirq g = true → s.tableBusy g = false →
    (s.gabTable g 33 (tab.headD .clean)).2 = .ok h → s.jumpBad g 2 h = none → Completes (.firq g tab) s fun t =>
      t.gPc g = BitVec.ofNat 64 h ∧ (t.gable g).bank = true ∧ (t.gable g).lvl = 2 ∧ (t.gable g).ie = false ∧ (t.gable g).fie = false ∧
      t.gRd g 31 = s.gPc g ∧ t.gRd g 30 = BitVec.ofNat 64 (s.gable g).status ∧ (t.gable g).epc = (s.gable g).epc ∧
      (t.gable g).estat = (s.gable g).estat ∧ (t.gable g).enest = (s.gable g).enest) ∧
  (∀ wait, s.gabLive = true → (s.gable g).wfi = true → (s.gable g).stopped = false → (s.gable g).halted = false → s.irqWake g = true →
    wait ≤ (s.gable g).wdLeft → Completes (.wfiEnd g wait) s fun t => (t.gable g).wfi = false ∧ (t.gable g).cycle = ((s.gable g).cycle + wait) % 2 ^ 64) ∧
  (∀ wait, s.gabLive = true → (s.gable g).fence = true → (s.gable g).stopped = false → (s.gable g).halted = false →
    wait ≤ (s.gable g).wdLeft → Completes (.fenceComplete g wait) s fun t => (t.gable g).fence = false ∧ (t.gable g).cycle = ((s.gable g).cycle + wait) % 2 ^ 64) ∧
  (s.wdogRuns g = true → s.bit (pgGAB g) GAB_WDOG_STAGE = false →
    (((s.wdogPass g).wdogExpire g).gabAt g = false → Completes (.wdogTrap g tab) s fun t => t.bit (pgGAB g) GAB_WDOG_STAGE = true ∧
      (t.gable g).wdPend = true ∧ (t.gable g).wfi = false ∧ bitOf (t.rf (pgGAB g) PG_EVT_RAW) 2 = true ∧ (t.gable g).wdFrom = (s.gable g).wdLoad ∧
      (t.gable g).wdCyc = (s.gable g).wdCyc - (s.gable g).wdFrom * 1024 ∧ t.gPc g = s.gPc g ∧ (∀ r, r < 32 → t.gRd g r = s.gRd g r)) ∧
    (((s.wdogPass g).wdogExpire g).gabAt g = true → ((s.wdogPass g).wdogExpire g).trapTo g 17 h (tab.headD .clean) = true →
      Completes (.wdogTrap g tab) s fun t => t.bit (pgGAB g) GAB_WDOG_STAGE = true ∧ s.trapped t g 17 h (s.gPc g).toNat 0 0 ∧
        (t.gable g).wdPend = false ∧ (t.gable g).wfi = false)) ∧
  (s.wdogRuns g = true → s.bit (pgGAB g) GAB_WDOG_STAGE = true →
    (g = 1 → Completes (.wdogReset g) s fun t => (t.gable 1).stopped = true ∧ bitOf (t.rf (pgGAB 1) PG_EVT_RAW) 3 = true ∧
      t.gPc 1 = BitVec.ofNat 64 (s.rf (pgGAB 1) GAB_ENTRY_ADDR) ∧ (t.gable 1).lvl = 2 ∧ t.bit (pgGAB 1) GAB_WDOG_STAGE = false) ∧
    (g = 0 → s.tray = tRUN ∨ s.tray = tIDLE → Completes (.wdogReset g) s fun t => t.rf pgPWR PWR_RST_CAUSE = 5 ∧ t.tray = tRISING)))

/-- Gable returns, waits and control registers (R423, R427, R437, R440): ERET, FIRET, WFI, FENCE, CRD, CXCH, CBSET, CBCLR. Control of a gable from its page (R446 to R450, R455): STOP, STOPPED, START, GABLE_RESET, GABLE_MARCH, GABLE_MARCH_DONE, GABLE_PATCH_WRITE. Where a rule leaves a point open, the clause takes the model's reading, log entries 83 and 85. -/
def Obligations.GableSystemAndControl : Prop := (∀ (s : State) (g : Fin 2) (x : GabIn) (w : Word32), s.gabRuns g x w = true →
  (gabKey w = 0x31 → 2 ≤ (s.gable g).lvl → Completes (.eret g x) s fun t => t.gPc g = (s.gable g).epc ∧
    (t.gable g).lvl = min 2 (bits (s.gable g).estat.toNat 9 8) ∧ (t.gable g).ie = (s.gable g).estat.getLsbD 10 ∧
    (t.gable g).bank = (s.gable g).estat.getLsbD 11 ∧
    s.gabWent t g [] { s.gable g with lvl := (t.gable g).lvl, ie := (t.gable g).ie, bank := (t.gable g).bank, enest := false, dbl := false }) ∧
  (gabKey w = 0x32 → 2 ≤ (s.gable g).lvl → (s.gable g).bank = true → Completes (.firet g x) s fun t => t.gPc g = s.gRd g 31 ∧
    (t.gable g).bank = false ∧ (t.gable g).lvl = min 2 (bits (s.gRd g 30).toNat 1 0) ∧ (t.gable g).ie = (s.gRd g 30).getLsbD 2 ∧
    (t.gable g).fie = (s.gRd g 30).getLsbD 3 ∧ (t.gable g).enest = (s.gRd g 30).getLsbD 5 ∧ (t.gable g).dbl = (s.gRd g 30).getLsbD 6 ∧
    s.gabWent t g [] { s.gable g with bank := false, lvl := (t.gable g).lvl, ie := (t.gable g).ie, fie := (t.gable g).fie, enest := (t.gable g).enest, dbl := (t.gable g).dbl }) ∧
  (gabKey w = 0x33 → 1 ≤ (s.gable g).lvl → Completes (.wfi g x) s fun t => t.gPc g = s.gPc g + 4 ∧ s.gabWent t g [] { s.gable g with wfi := true }) ∧
  (gabKey w = 0x39 → Completes (.fence g x) s fun t => t.gPc g = s.gPc g + 4 ∧ s.gabWent t g [] { s.gable g with fence := true }) ∧
  (∀ l, gabKey w = 0x34 → csrLevels (iCsr w) = some l → l.1 ≤ (s.gable g).lvl → Completes (.crd g x) s fun t =>
    (iRd w ≠ 0 → t.gRd g (iRd w) = BitVec.ofNat 64 (s.csrGet g (iCsr w))) ∧ t.gPc g = s.gPc g + 4 ∧ (∀ r, r < 32 → r ≠ iRd w → t.gRd g r = s.gRd g r) ∧
    s.gabWent t g [.free] (s.gable g)) ∧
  (∀ e ∈ [(Instr.cxch g x, 0x35, (fun _ a => a : Word64 → Word64 → Word64)), (.cbset g x, 0x36, fun old a => old ||| a),
      (.cbclr g x, 0x37, fun old a => old &&& ~~~a)], ∀ r l, gabKey w = e.2.1 → csrLevels (iCsr w) = some (r, some l) → r ≤ (s.gable g).lvl →
    l ≤ (s.gable g).lvl →
    (iCsr w ≠ 0x023 → Completes e.1 s fun t => (iRd w ≠ 0 → t.gRd g (iRd w) = BitVec.ofNat 64 (s.csrGet g (iCsr w))) ∧ t.gPc g = s.gPc g + 4) ∧
    ∀ p ∈ [(0x001, 0xFFFFFFFFFFFFFFFF), (0x002, 0xFFFFFFFFFFFF0FFF), (0x003, 0xFFFFFFFFFFFFFE00), (0x005, 0xFFFFFFFFFFFFFFFF),
        (0x006, 0xFFFFFFFFFFFFFFFF), (0x011, 0xFFFFFFFFFFFFFFF8), (0x012, 0xFFFFFFFFFFFFFFFF), (0x031, 0xFFFFFFFFFFFFFFFF)], iCsr w = p.1 →
      Completes e.1 s fun t => t.csrGet g p.1 = (e.2.2 (BitVec.ofNat 64 (s.csrGet g p.1)) (s.gRd g (iRa w)) &&& BitVec.ofNat 64 p.2).toNat ∧
        Only irqOwn [.gab] s t ∧ (∀ h, h ≠ g.val → t.gable h = s.gable h) ∧ ∀ r, r < 32 → r ≠ iRd w → t.gRd g r = s.gRd g r)) ∧
(∀ (s : State) (g : Fin 2) (src : Src) (v : Word32),
  (s.accepts src (pgGAB g + 0x48) = true → src ≠ .gable 1 → (src = .gable 0 → g ≠ 0) →
    ((s.gable g).stopped = false → Completes (.stop src g) s fun t => (t.gable g).stopReq = true) ∧
    ((s.gable g).stopped = true ∨ (s.gable g).halted = true →
      (Completes (.start src g) s fun t => (t.gable g).stopped = false ∧ (t.gable g).halted = false ∧ t.gPc g = s.gPc g ∧ (t.gable g).lvl = (s.gable g).lvl) ∧
      Completes (.gableReset src g) s fun t => (t.gable g).stopped = true ∧ (t.gable g).halted = false ∧
        t.gPc g = BitVec.ofNat 64 (s.rf (pgGAB g) GAB_ENTRY_ADDR) ∧ (t.gable g).lvl = 2 ∧ (t.gable g).ss = [] ∧ (∀ r, r < 32 → t.gRd g r = 0) ∧
        t.gcode = s.gcode ∧ t.gdata = s.gdata ∧ t.gcs = s.gcs)) ∧
  ((s.gable g).stopReq = true → (s.gable g).stopped = false → (s.gable g).halted = false → (s.gable g).fence = false →
    (s.gable g).resetReq = false → Completes (.stopped g) s fun t => (t.gable g).stopped = true ∧ (t.gable g).stopReq = false ∧
      (t.gable g).wfi = false ∧ t.gPc g = s.gPc g ∧ bitOf (t.rf (pgGAB g) PG_EVT_RAW) 1 = true) ∧
  (∀ b : Fin 2, s.accepts (.gable b) (pgGAB g + 0x60) = true → v.getLsbD 31 = true →
    s.gabMarchStatus b g (bits v.toNat 3 0) (v.getLsbD 8) = 0 → Completes (.gableMarch (.gable b) g v) s fun t =>
      (t.gable g).march = some (bits v.toNat 3 0, v.getLsbD 8) ∧ t.bit (pgGAB g) GAB_MARCH_STAT_RUN = true ∧ t.rf (pgGAB g) GAB_MARCH_STAT_STATUS = 0) ∧
  (∀ m pass, (s.gable g).march = some m → Completes (.gableMarchDone g pass) s fun t => (t.gable g).march = none ∧
    t.bit (pgGAB g) GAB_MARCH_STAT_RUN = false ∧ t.bit (pgGAB g) GAB_MARCH_STAT_PASS = pass ∧ t.bit (pgGAB g) GAB_MARCH_STAT_DONE = true ∧
    bitOf (t.rf (pgGAB g) PG_EVT_RAW) 7 = true ∧
    (pass = true → m = (8, false) → ∀ a, t.dataWord g a = if dataKey g a / 2 ^ 15 = g.val then {} else s.dataWord g a)) ∧
  (∀ m : Fin 32, s.accepts src (pgGAB g + 0x80 + 4 * m.val) = true → src ≠ .gable 1 → 12288 ≤ bits v.toNat 29 16 → bits v.toNat 13 0 ≤ 12287 →
    s.lockBad (pgGAB g) .gab g (0x80 + 4 * m.val) v = false → (g = 1 → (s.gable 1).stopped = true) →
    Completes (.gablePatchWrite src g m v) s fun t => t.bit (pgGAB g) GAB_PM_VALID m = v.getLsbD 31 ∧
      t.rf (pgGAB g) GAB_PM_TARGET m = bits v.toNat 29 16 ∧ t.rf (pgGAB g) GAB_PM_MATCH m = bits v.toNat 13 0))

/-- The micro-operations of a gable (R452 to R454): each acts on what its word reads before the word's ALU operation. Where a rule leaves a point open, the clause takes the model's reading, log entries 62 and 86. -/
def Obligations.GableMicroOperations : Prop := ∀ (s : State) (g : Fin 2) (d : BitVec 96) (x : GabIn) (p : GabPre), s.gabWordFree g = true →
  (s.gable g).u.attn = false → p = (s.gable g).u.pre.getD (s.gabPre g d) →
  ((s.gable g).u.q.opDue = false → Completes (.uopNop g d) s fun t => Only irqOwn [] s t) ∧
  ((s.gable g).u.q.gabOpTurn d 0x01 = true → s.jumpBad g (s.gable g).lvl p.pc.toNat = none → s.gabMarching g p.pc.toNat = false → gabRange g p.pc.toNat = .code →
    (s.codeWord g p.pc.toNat).err = .clean → x.up = .clean → Completes (.uopFetch g d x) s fun t =>
      (t.gable g).u.ir = (s.codeWord g p.pc.toNat).data ∧ (t.gable g).u.acc = true ∧ (t.gable g).u.refused = false) ∧
  (∀ v, (s.gable g).u.q.gabOpTurn d 0x02 = true → (s.gabLoad g (s.gable g).lvl p.mar.toNat (guSIZE d) x.mem).2 = .ok v → Completes (.load g d x) s fun t =>
    (t.gable g).u.mdr = (if guSIGN d = true then BitVec.ofInt 64 (sext (8 * guSIZE d) v) else BitVec.ofNat 64 v) ∧ (t.gable g).u.acc = true) ∧
  ((s.gable g).u.q.gabOpTurn d 0x03 = true → gabRange g p.mar.toNat = .data → levelOk (s.gable g).lvl ((s.gable g).dataWr p.mar.toNat) = true → p.mar.toNat % guSIZE d = 0 →
    Completes (.store g d) s fun t => (t.gable g).u.acc = true ∧ (t.dataWord g p.mar.toNat).data =
      BitVec.ofNat 64 (mergeWord (s.dataWord g p.mar.toNat).data.toNat (p.mar.toNat % 8) (guSIZE d) p.mdr.toNat)) ∧
  ((s.gable g).u.q.gabOpTurn d 0x04 = true → Completes (.csrrd g d) s fun t => (t.gable g).u.mdr = BitVec.ofNat 64 p.csr) ∧
  ((s.gable g).u.q.gabOpTurn d 0x05 = true → (s.gable g).csrOf d = 0x005 → Completes (.csrwr g d) s fun t => (t.gable g).scrM = p.mdr ∧ (t.gable g).scrS = (s.gable g).scrS) ∧
  (∀ h, (s.gable g).u.q.gabOpTurn d 0x06 = true → h < 2 ^ 64 → trapVec (guVEC d) = true → s.trapTo g (guVEC d) h (x.tab.headD .clean) = true → Completes (.uopTrap g d x) s fun t =>
    s.trapped t g (guVEC d) h p.pc.toNat ((s.gable g).trapArgs (guVEC d) p.mar.toNat).1 ((s.gable g).trapArgs (guVEC d) p.mar.toNat).2) ∧
  ((s.gable g).u.q.gabOpTurn d 0x07 = true → Completes (.xret g d) s fun t => t.gPc g = (s.gable g).epc ∧ (t.gable g).enest = false ∧ (t.gable g).dbl = false ∧
    (t.gable g).lvl = min 2 (bits (s.gable g).estat.toNat 9 8) ∧ (t.gable g).ie = (s.gable g).estat.getLsbD 10) ∧
  (∀ h, (s.gable g).u.q.gabOpTurn d 0x08 = true → h < 2 ^ 64 → s.tableBusy g = false → (s.gabTable g 33 (x.tab.headD .clean)).2 = .ok h → s.jumpBad g 2 h = none →
    Completes (.fent g d x) s fun t => t.gPc g = BitVec.ofNat 64 h ∧ (t.gable g).bank = true ∧ (t.gable g).lvl = 2 ∧
      (t.gable g).ie = false ∧ (t.gable g).fie = false ∧ t.gRd g 31 = p.pc) ∧
  ((s.gable g).u.q.gabOpTurn d 0x09 = true → Completes (.fret g d) s fun t => t.gPc g = smGet (fun _ => 0) (s.gable g).r 47 ∧ (t.gable g).bank = false ∧
    (t.gable g).lvl = min 2 (bits (smGet (fun _ => (0 : Word64)) (s.gable g).r 46).toNat 1 0)) ∧
  ((s.gable g).u.q.gabOpTurn d 0x0A = true → (s.gable g).ss.length < 64 → Completes (.sspush g d) s fun t => (t.gable g).ss = p.a :: (s.gable g).ss ∧ (t.gable g).u.spillOk = true) ∧
  (∀ a r, (s.gable g).u.q.gabOpTurn d 0x0B = true → (s.gable g).ss = a :: r → Completes (.sschk g d x) s fun t => (t.gable g).u.matched = (a == p.a) ∧
    (t.gable g).ss = if a = p.a then r else a :: r) ∧
  ((s.gable g).u.q.gabOpTurn d 0x0C = true → Completes (.wkick g d) s fun t => (t.gable g).wdFrom = (s.gable g).wdLoad ∧ (t.gable g).wdCyc = 0 ∧ t.bit (pgGAB g) GAB_WDOG_STAGE = false) ∧
  ((s.gable g).u.q.gabOpTurn d 0x0D = true → Completes (.uopWfi g d) s fun t => (t.gable g).wfi = true) ∧
  ((s.gable g).u.q.gabOpTurn d 0x0E = true → Completes (.uopFence g d) s fun t => (t.gable g).fence = true)

/-- Lanes and the link of the Batrix (R480, R485 to R488, R490, R512 to R514, R638): SUPERFRAME, LINK_UP, BRINGUP_LOCK, LANE_DOWN, RETIRED, J3_MAP, IDLE_FRAME, CTRL_FRAME, RING_TIMEOUT. Where a rule leaves a point open, the clause takes the model's reading, log entries 90, 91 and 117. -/
def Obligations.BatrixLink : Prop := ∀ (s : State) (p : Fin 9),
  (s.btx.on = true → Completes .superframe s fun t => t.btx.slot = (if s.btx.eocDue = true then 8 else 0) ∧
    t.rf pgBTXC BTX_SFN_SFN = (if s.btx.begun = true then (s.rf pgBTXC BTX_SFN_SFN + 1) % 2 ^ 32 else s.rf pgBTXC BTX_SFN_SFN) ∧
    t.btx.begun = true ∧ ∀ q, q < 9 → s.btx.light = true → s.laneRetired 0 q = false → s.lane 0 q = 1 → s.laneLogical 0 q < 8 →
      .frame q ({ typ := 2, index := 0, len := 224, seq := t.rf pgBTXC BTX_SFN_SFN % 65536, payload := t.ctrlPayload : Frame }.code
        (s.laneLogical 0 q)) ∈ t.out) ∧
  (s.btx.on = true → s.laneRetired 1 p = false → Completes (.linkUp p) s fun t => t.bit pgBTXR BTX_RX_STAT_LOCK p = true ∧
    (s.bit pgBTXR BTX_RX_STAT_LOCK p = false → bitOf (t.rf pgBTXR PG_EVT_RAW) 1 = true) ∧
    (s.bit pgBTXR BTX_RX_STAT_LOCK p = false → s.linkUp = false → 7 ≤ s.lockedLanes → t.linkUp = true ∧ t.ringOk = false ∧
      t.rf pgBTXC BTX_SFN_SFN = 0 ∧ t.btx.begun = false ∧ bitOf (t.rf pgBTXC PG_EVT_RAW) 0 = true ∧ ∀ v, v < 4 → t.rf pgBTXC BTX_CRED_CRED v = if v < 2 then 12288 else 16)) ∧
  (∀ runs, s.btx.on = true → s.linkUp = false → s.rf pgBTXL BTX_RETIRED_RX = 0 → Completes (.bringupLock 1 0x1FF runs) s fun t => t.linkUp = true) ∧
  (s.btx.on = true → s.linkUp = false → s.rf pgBTXL BTX_RETIRED_TX = 0 → Completes (.bringupLock 0 (~~~ BitVec.twoPow 9 p.val) []) s fun t =>
    bitOf (t.rf pgBTXL BTX_RETIRED_TX) p = true ∧ t.lane 0 p = 5 ∧ t.linkUp = false) ∧
  (∀ c : CalStep, s.btx.on = true → s.linkUp = false → s.rf pgBTXL BTX_RETIRED_TX = 0 → c.lock = true → c.ce.val ≤ s.rf pgBTXL BTX_CAL_CFG_CE_MAX →
    1 ≤ s.rf pgBTXL BTX_CAL_CFG_TRIES → Completes (.bringupLock 0 (~~~ BitVec.twoPow 9 p.val) [(p, c)]) s fun t =>
      t.rf pgBTXL BTX_RETIRED_TX = 0 ∧ t.rf pgBTXT BTX_TX_TRIM_BIAS p = c.bias.toNat ∧ t.rf pgBTXT BTX_TX_TRIM_MOD p = c.mod.toNat) ∧
  (s.linkUp = true → s.laneRetired 1 p = false → s.lane 1 p = 1 → histDown (s.laneHist p) = true →
    (∀ q, q < 9 → q ≠ p.val → s.lane 1 q = 1 → histDown (s.laneHist q) = false) → s.btx.fell.length < 2 → Completes .laneDown s fun t =>
    t.lane 1 p = 0 ∧ t.bit pgBTXR BTX_RX_STAT_LOCK p = false ∧ bitOf (t.rf pgBTXR PG_EVT_RAW) 0 = true ∧ t.linkUp = true ∧
    (s.btx.own.down = 0xF → s.laneLogical 1 p < 8 → (∀ q, q < 9 → q ≠ p.val → s.lane 1 q = 0 → 8 ≤ s.laneLogical 1 q) → t.btx.own.down = p.val)) ∧
  (∀ n, n = ((List.range 9).filter fun q => s.lane 1 q == 1 && histDown (s.laneHist q)).length → s.linkUp = true → n ≠ 0 → 3 ≤ s.btx.fell.length + n →
    Completes .laneDown s fun t => t.linkUp = false ∧ bitOf (t.rf pgBTXC PG_EVT_RAW) 1 = true) ∧
  (∀ r, s.btx.retTx = p.val :: r → s.laneRetired 0 p = false → Completes (.retired 0) s fun t => t.btx.retTx = r ∧
    bitOf (t.rf pgBTXL BTX_RETIRED_TX) p = true ∧ t.lane 0 p = 5 ∧ bitOf (t.rf pgBTXL PG_EVT_RAW) 2 = true ∧
    (s.rf pgBTXL BTX_RETIRED_TX ≠ 0 → t.trayFailed = true ∧ t.bit pgGLB GLB_FAIL_LANES = true)) ∧
  (∀ r, s.btx.retRx = p.val :: r → s.laneRetired 1 p = false → Completes (.retired 1) s fun t => t.btx.retRx = r ∧
    bitOf (t.rf pgBTXL BTX_RETIRED_RX) p = true ∧ t.lane 1 p = 5 ∧ t.bit pgBTXR BTX_RX_STAT_LOCK p = false) ∧
  (16 ≤ s.btx.mapBad → s.linkUp = true → Completes .j3Map s fun t => t.linkUp = false ∧ t.rf pgFSC FSC_CONN_J3_MAP = 1 ∧ t.btx.mapBad = 0) ∧
  (∀ (ce : Fin 17) zeros, s.laneReads p = true → s.lane 1 p = 1 → Completes (.idleFrame p ce zeros) s fun t =>
    t.btx.mapBad = (if zeros = true then 0 else s.btx.mapBad + 1) ∧ t.laneHist p = (true :: s.laneHist p).take 64 ∧
    t.rf pgBTXR BTX_RX_CE_COUNT p = min (2 ^ BTX_RX_CE_COUNT.width - 1) (s.rf pgBTXR BTX_RX_CE_COUNT p + ce.val)) ∧
  (∀ (ce : Fin 17) f, s.laneReads p = true →
    (f.nring = s.rf pgBTXC BTX_CFG_NRING → f.pos = (s.ringPos + s.ringSize16 - 1) % s.ringSize16 → s.btx.ringBack = true →
      Completes (.ctrlFrame p ce f) s fun t => t.ringOk = true ∧
        (∀ e, e < 16 → e ≠ s.ringPos → smGet (fun _ => {}) t.btx.relay e = f.relay.getD e {}) ∧
        ∀ v, v < 4 → t.rf pgBTXC BTX_CRED_CRED v = min (vcCredits v) (s.rf pgBTXC BTX_CRED_CRED v +
          ((f.relay.getD ((s.ringPos + 1) % s.ringSize16) {}).cred.getD v 0 % 65536 + 65536 - smGet (fun _ => 0) s.btx.credSeen v) % 65536)) ∧
    (f.nring ≠ s.rf pgBTXC BTX_CFG_NRING → Completes (.ctrlFrame p ce f) s fun t => t.ringOk = false ∧ bitOf (t.rf pgBTXC PG_EVT_RAW) 2 = true)) ∧
  (s.linkUp = true → s.btx.ringBack = false → 64 ≤ s.rf pgBTXC BTX_SFN_SFN → Completes .ringTimeout s fun t =>
    bitOf (t.rf pgBTXC PG_EVT_RAW) 2 = true)

/-- Consignments (R44, R492 to R501): POSTING_WRITE, DATA_FRAME, UNCORRECTABLE_FRAME, EOC_FRAME, CONSIGNMENT_SEND, EOC_SEND. Messages (R502, R519): MSG_SEND, MSG_TRANSMIT, MSG_FRAME, RXPOP. Where a rule leaves a point open, the clause takes the model's reading, log entries 92, 93 and 118. -/
def Obligations.ConsignmentsAndMessages : Prop := (∀ (s : State) (p : Fin 9) (ce : Fin 17) (v : Fin 2) (seq : Fin 65536),
  (∀ src (q : Fin 64) (h : Fin (2 ^ 24)), s.accepts src (pgBTXC + 0x404 + 0x10 * q.val) = true → s.postBusy q = false →
    (s.isObj h = true → (s.obj h).pin = true → (s.obj h).place = 4 → (s.obj h).size1 < 268435456 → s.inPlan h = false →
      Completes (.postingWrite src q true h) s fun t => t.bit pgBTXC BTX_PST_OBJ_VALID q = true ∧ t.rf pgBTXC BTX_PST_OBJ_HANDLE q = h.val) ∧
    Completes (.postingWrite src q false h) s fun t => t.bit pgBTXC BTX_PST_OBJ_VALID q = false) ∧
  (∀ q bs, s.laneReads p = true → s.lane 1 p = 1 → s.rxOf v = .idle → s.headCheck (bs.take 64) = (0, some q) →
    Completes (.dataFrame p ce v true false seq bs) s fun t => smGet (fun _ => 0) t.btx.rxSeq v = (seq.val + 1) % 65536 ∧
      t.btx.own.cred.getD v 0 = (if v.val < s.btx.own.cred.length then (s.btx.own.cred.getD v 0 + 1) % 65536 else 0) ∧
      ∃ c, t.rxOf v = .take c ∧ c.post = q ∧ c.handle = s.rf pgBTXC BTX_PST_OBJ_HANDLE q ∧ c.size = (s.obj (s.rf pgBTXC BTX_PST_OBJ_HANDLE q)).size1 + 1 ∧
        c.got = bs.length - 64) ∧
  (∀ w q bs, s.laneReads p = true → s.lane 1 p = 1 → s.rxOf v = .idle → s.headCheck (bs.take 64) = (w, q) → w ≠ 0 →
    Completes (.dataFrame p ce v true false seq bs) s fun t => t.rxOf v = .drop ∧ bitOf (t.rf pgBTXC PG_EVT_RAW) 4 = true ∧
      t.rf pgBTXC BTX_DISC_CNT_COUNT = min (2 ^ BTX_DISC_CNT_COUNT.width - 1) (s.rf pgBTXC BTX_DISC_CNT_COUNT + 1)) ∧
  (∀ c bs, s.laneReads p = true → s.lane 1 p = 1 → s.rxOf v = .take c → smGet (fun _ => 0) s.btx.rxSeq v = seq.val → c.broken = false →
    c.got + bs.length = c.size + 4 → c.size ≤ c.got → c.crcIn + leNat bs * 256 ^ (c.got - c.size) = c.crc ^^^ 0xFFFFFFFF → s.btx.eoc = none →
    Completes (.dataFrame p ce v false true seq bs) s fun t => t.rxOf v = .idle ∧
      ∃ c', t.btx.ready = s.btx.ready ++ [c'] ∧ c'.tag = c.tag ∧ c'.post = c.post ∧ c'.handle = c.handle ∧ c'.pages = c.pages) ∧
  (∀ u : Fin 4, s.linkUp = true → s.laneRetired 1 p = false → s.lane 1 p = 1 → Completes (.uncorrectableFrame p (some u)) s fun t =>
    t.rf pgBTXR BTX_RX_UE_COUNT p = min (2 ^ BTX_RX_UE_COUNT.width - 1) (s.rf pgBTXR BTX_RX_UE_COUNT p + 1) ∧
    t.laneHist p = (false :: s.laneHist p).take 64 ∧
    (u.val < s.btx.own.cred.length → t.btx.own.cred.getD u 0 = (s.btx.own.cred.getD u 0 + 1) % 65536) ∧
    ∀ c, u.val = v.val → s.rxOf v = .take c → t.rxOf v = .take { c with broken := true }) ∧
  (∀ ovr, s.laneReads p = true → s.crs.running = true → s.phase = 3 → s.btx.eoc = none →
    Completes (.eocFrame p ce (BitVec.ofNat 64 s.courseNum) ovr) s fun t => t.btx.eoc = some ovr ∧
      t.btx.ready = if ovr = true then [] else s.btx.ready) ∧
  (∀ r, s.live = some r → s.phase = 2 → (r.plan.eng 8).present = true → s.btx.txStop = false → s.btx.txIdx < (r.plan.eng 8).count →
    s.linkUp = true → s.ringOk = true → s.btx.txSent = 0 → s.bit pgBTXC PG_CTRL_EN = true → s.bit pgBTXC PG_STAT_QUIESCING = false → s.hbm.syms = [] →
    ((s.txDesc r s.btx.txIdx).sway = false ∨ s.btx.swayOk = true) →
    (s.txCheck r (s.txDesc r s.btx.txIdx) = 0 → (s.txDesc r s.btx.txIdx).size ≤ 406 → s.btx.slot < 504 → s.crs.failWhy = 0 →
      s.rf pgBTXC BTX_CRED_CRED (s.txDesc r s.btx.txIdx).vc ≠ 0 → Completes .consignmentSend s fun t => t.btx.txIdx = s.btx.txIdx + 1 ∧
        t.btx.slot = s.btx.slot + 1 ∧ t.rf pgBTXC BTX_CRED_CRED (s.txDesc r s.btx.txIdx).vc + 1 = s.rf pgBTXC BTX_CRED_CRED (s.txDesc r s.btx.txIdx).vc ∧
        smGet (fun _ => 0) t.btx.seq (s.txDesc r s.btx.txIdx).vc = (smGet (fun _ => 0) s.btx.seq (s.txDesc r s.btx.txIdx).vc + 1) % 65536 ∧
        t.rf pgBTXC BTX_TX_CNT_COUNT = min (2 ^ BTX_TX_CNT_COUNT.width - 1) (s.rf pgBTXC BTX_TX_CNT_COUNT + 1)) ∧
    (s.txCheck r (s.txDesc r s.btx.txIdx) ≠ 0 → Completes .consignmentSend s fun t => t.btx.txStop = true ∧ t.btx.txIdx = s.btx.txIdx ∧
      t.bit pgBTXC BTX_TX_REFUSE_VALID = true ∧ t.rf pgBTXC BTX_TX_REFUSE_CODE = s.txCheck r (s.txDesc r s.btx.txIdx) ∧
      bitOf (t.rf pgBTXC PG_EVT_RAW) 5 = true)) ∧
  (∀ k, k = (s.btx.slot + 7) / 8 → s.btx.on = true → s.crs.running = true → s.phase = 3 → s.crs.judged = true → s.btx.eocSent = false →
    Completes .eocSend s fun t => t.btx.eocSent = true ∧ (63 ≤ k → t.btx.eocDue = true ∧ t.btx.slot = s.btx.slot ∧ t.out = s.out) ∧
      (k < 63 → t.btx.eocDue = false ∧ t.btx.slot = 8 * (k + 1) ∧
        ∀ q, q < 9 → s.btx.light = true → s.laneRetired 0 q = false → s.lane 0 q = 1 → s.laneLogical 0 q < 8 →
          .frame q ({ typ := 3, index := 1 + k, len := 9, payload := leBytes 8 s.courseNum ++ leBytes 1 (if s.crs.cause = 0 then 0 else 1) : Frame }.code
            (s.laneLogical 0 q)) ∈ t.out))) ∧
(∀ (s : State) (g : Fin 2),
  (∀ dest : Fin 16, s.accepts (.gable g) (pgBTXC + 0x120 + 0x80 * g.val) = true → s.bit pgBTXC BTX_MSG_TXSTAT_BUSY g = false →
    Completes (.msgSend (.gable g) g dest) s fun t => t.bit pgBTXC BTX_MSG_TXSTAT_BUSY g = true ∧
      ∃ m, State.msgQ t.btx.msgOut g = [m] ∧ m.dest = dest.val ∧ m.src = s.ringPos ∧ m.hops = 0 ∧ m.data.length = 32) ∧
  (s.btx.on = true → s.rf pgBTXC BTX_CRED_CRED (2 + g.val) ≠ 0 → s.btx.slot < 504 → s.consFills = false →
    (∀ m r, State.msgQ s.btx.fwd g = m :: r → Completes (.msgTransmit g) s fun t => State.msgQ t.btx.fwd g = r ∧ t.btx.slot = s.btx.slot + 1 ∧
      t.rf pgBTXC BTX_CRED_CRED (2 + g.val) + 1 = s.rf pgBTXC BTX_CRED_CRED (2 + g.val) ∧ State.msgQ t.btx.msgOut g = State.msgQ s.btx.msgOut g) ∧
    (∀ m, State.msgQ s.btx.fwd g = [] → State.msgQ s.btx.msgOut g = [m] → Completes (.msgTransmit g) s fun t => State.msgQ t.btx.msgOut g = [] ∧
      t.bit pgBTXC BTX_MSG_TXSTAT_BUSY g = false ∧ t.btx.slot = s.btx.slot + 1 ∧
      t.rf pgBTXC BTX_CRED_CRED (2 + g.val) + 1 = s.rf pgBTXC BTX_CRED_CRED (2 + g.val))) ∧
  (∀ (p : Fin 9) (ce : Fin 17) (seq : Fin 65536) (dest src hops : Byte) (data : BitVec 256), s.laneReads p = true → s.lane 1 p = 1 →
    (dest.toNat = s.ringPos → (State.msgQ s.btx.fifo g).length < 16 → Completes (.msgFrame p ce g seq dest src hops data) s fun t =>
      State.msgQ t.btx.fifo g = State.msgQ s.btx.fifo g ++ [{ dest := dest.toNat, src := src.toNat, hops := hops.toNat, data := leBytes 32 data.toNat }] ∧
      bitOf (t.rf pgBTXC PG_EVT_RAW) (6 + g.val) = true) ∧
    (dest.toNat ≠ s.ringPos → hops.toNat + 1 < s.ringSize16 → Completes (.msgFrame p ce g seq dest src hops data) s fun t =>
      State.msgQ t.btx.fwd g = State.msgQ s.btx.fwd g ++ [{ dest := dest.toNat, src := src.toNat, hops := hops.toNat + 1, data := leBytes 32 data.toNat }]) ∧
    (dest.toNat ≠ s.ringPos → s.ringSize16 ≤ hops.toNat + 1 → Completes (.msgFrame p ce g seq dest src hops data) s fun t =>
      t.btx.fwd = s.btx.fwd ∧ t.rf pgBTXC BTX_MSG_DROP_COUNT = min (2 ^ BTX_MSG_DROP_COUNT.width - 1) (s.rf pgBTXC BTX_MSG_DROP_COUNT + 1))) ∧
  (∀ m r, s.accepts (.gable g) (pgBTXC + 0x164 + 0x80 * g.val) = true → State.msgQ s.btx.fifo g = m :: r → Completes (.rxpop (.gable g) g) s fun t =>
    State.msgQ t.btx.fifo g = r ∧ t.rf pgBTXC BTX_MSG_RXSTAT_COUNT g = r.length % 2 ^ BTX_MSG_RXSTAT_COUNT.width))

/-- Calibration, rejoin, failover and the monitor (R506 to R514, R518): CALIBRATION_STEP, SHADOW_START, VERDICT, REJOIN, CAL_TIMEOUT, FAILOVER, MON_FAULT. Where a rule leaves a point open, the clause takes the model's reading, log entries 91 and 117. -/
def Obligations.LaneCalibration : Prop := ∀ s : State,
  (∀ c, s.crs.running = true → s.phase = 3 → s.btx.calUsed = false → s.linkUp = true → Completes (.calibrationStep c) s fun t => t.btx.calUsed = true ∧
    (s.outLane 0 < 9 → s.btx.recal = true → t.btx.recal = false ∧ t.rf pgBTXL BTX_CAL_STAT_STEP 0 = 0 ∧
      (s.bit pgBTXC BTX_CFG_CAL_EN = true → t.lane 0 (s.outLane 0) = 2 ∧ t.calPhase 0 = 1 ∧
        t.calSeq 0 = (s.calSeq 0 + 1) % 2 ^ BTX_CAL_STAT_CALSEQ.width)) ∧
    (s.outLane 0 < 9 → s.btx.recal = false → s.calPhase 0 = 1 → s.rf pgBTXL BTX_CAL_STAT_STEP 0 < 8 →
      t.rf pgBTXL BTX_CAL_STAT_STEP 0 = s.rf pgBTXL BTX_CAL_STAT_STEP 0 + 1 ∧
      (s.rf pgBTXL BTX_CAL_STAT_STEP 0 = 0 → t.rf pgBTXT BTX_TX_TRIM_BIAS (s.outLane 0) = c.bias.toNat)) ∧
    (s.outLane 1 < 9 → s.calPhase 1 = 1 → s.rf pgBTXL BTX_CAL_STAT_STEP 1 < 8 →
      t.rf pgBTXL BTX_CAL_STAT_STEP 1 = s.rf pgBTXL BTX_CAL_STAT_STEP 1 + 1)) ∧
  (s.btx.shadowDue = true → s.calPhase 0 = 1 → s.outLane 0 < 9 → Completes .shadowStart s fun t => t.calPhase 0 = 2 ∧ t.lane 0 (s.outLane 0) = 3 ∧
    t.btx.shadowDue = false ∧ t.btx.accept = false ∧ t.btx.shadowAt = s.nextSfn) ∧
  (∀ same (ce : Fin 65536) (skew : BitVec 16) ok, s.calPhase 1 = 2 → s.outLane 1 < 9 → s.btx.own.verdict = 0 →
    (ok = true ↔ s.btx.rxPass = true ∧ same = true ∧ ce.val ≤ s.rf pgBTXL BTX_CAL_CFG_CE_MAX ∧
      skew.toInt.natAbs ≤ 100 * s.rf pgBTXL BTX_CAL_CFG_SKEW_MAX) →
    Completes (.verdict same ce skew) s fun t => t.btx.own.verdict = (if ok = true then 1 else 2) ∧ t.bit pgBTXL BTX_CAL_LAST_ACCEPT = ok ∧
      t.bit pgBTXL BTX_CAL_LAST_VALID = true ∧ t.rf pgBTXL BTX_CAL_LAST_CE = min 0x3FFF ce.val ∧ t.btx.own.calseq = s.calSeq 1) ∧
  (∀ y, s.btx.accept = true → s.calPhase 0 = 2 → s.outLane 0 < 9 → s.nextLane (s.outLane 0) = some y → Completes .rejoin s fun t =>
    t.lane 0 (s.outLane 0) = 1 ∧ t.laneLogical 0 (s.outLane 0) = s.laneLogical 0 y ∧ t.outLane 0 = y ∧
    t.lane 0 y = (if s.bit pgBTXC BTX_CFG_CAL_EN = true then 2 else 4) ∧ bitOf (t.rf pgBTXL PG_EVT_RAW) 0 = true ∧ t.btx.accept = false) ∧
  (∀ n, n = (s.rf pgBTXC BTX_SFN_SFN + 2 ^ 32 - s.btx.shadowAt) % 2 ^ 32 → s.calPhase 0 = 2 → s.btx.accept = false → s.btx.recal = false → 256 ≤ n → n < 2 ^ 31 →
    Completes .calTimeout s fun t => bitOf (t.rf pgBTXL PG_EVT_RAW) 1 = true ∧
      t.rf pgBTXL BTX_REJECT_CNT_COUNT = min (2 ^ BTX_REJECT_CNT_COUNT.width - 1) (s.rf pgBTXL BTX_REJECT_CNT_COUNT + 1) ∧
      (s.rf pgBTXL BTX_CAL_STAT_TRY 0 + 1 < s.rf pgBTXL BTX_CAL_CFG_TRIES → t.btx.recal = true ∧ t.btx.retTx = s.btx.retTx) ∧
      (s.rf pgBTXL BTX_CAL_CFG_TRIES ≤ s.rf pgBTXL BTX_CAL_STAT_TRY 0 + 1 → t.btx.retTx = s.btx.retTx ++ [s.outLane 0])) ∧
  (∀ p, s.btx.down = some p → p < 9 → s.lane 0 p = 1 → s.outLane 0 < 9 → s.outLane 0 ≠ p → Completes .failover s fun t =>
    t.lane 0 (s.outLane 0) = 1 ∧ t.laneLogical 0 (s.outLane 0) = s.laneLogical 0 p ∧ t.outLane 0 = p ∧ t.btx.down = none ∧
      bitOf (t.rf pgBTXL PG_EVT_RAW) 3 = true) ∧
  (∀ (p : Fin 9) (w : Fin 4096), s.pwr.core = true → Completes (.monFault p w) s fun t => t.rf pgBTXT BTX_TX_MON_PWR p = w.val ∧
    bitOf (t.rf pgBTXT PG_EVT_RAW) 0 = true)

/-- Frames of the header, interrupt and access commands: the registers and the parts of the state that each of them may change; all others keep their values. -/
def Obligations.HeaderFrames : Prop := ∀ s : State,
  (∀ (src : Src) (pg : Nat) (v : Word32), pg % 0x1000 = 0 → pageOf pg ≠ none → ∀ ins ∈ [Instr.evtSet src pg v, .errClear src pg, .lock src pg], Keeps
    ins s (onOrGlb [pg]) []) ∧
  (∀ (src : Src) (pg : Nat) (on : Bool), pg % 0x1000 = 0 → pageOf pg ≠ none → ∀ ins ∈ [Instr.enable src pg, .disable src pg, .srst src pg, .freeze src
    pg on], Keeps ins s (fun k => onOrGlb [pg, pgBTXR, pgBTXT, pgCRS, pgFSC, pgPUE, pgPUR] k || ylmPages k) [.btx, .crs, .drainReady, .frz, .fsc, .gov, .hbm,
    .pur, .stk, .ylm]) ∧
  (∀ (pg : Nat), pg % 0x1000 = 0 → Keeps (.drainComplete pg) s (fun k => onPages [pg, pgCRS, pgFSC, pgGLB, pgPUE, pgPUR, pgPWR] k || ylmPages k) [.btx,
    .crs, .drainReady, .fsc, .hbm, .pur, .pwr, .stk, .ylm]) ∧
  (∀ (pg : Nat), pg % 0x1000 = 0 → Keeps (.startComplete pg) s (onPages [pg, pgGLB, pgPWR]) [.crs, .pwr, .ylm]) ∧
  (∀ (pg : Nat), pg % 0x1000 = 0 → Keeps (.srstDone pg) s (onPages [pg]) []) ∧
  (∀ (pg : Nat), Keeps (.freezeEffect pg) s (fun _ => false) [.frz]) ∧
  (∀ (src : Src) (n : Fin 256), ∀ ins ∈ [Instr.irqComplete src n, .irqHcomplete src n], Keeps ins s (onOrGlb [pgIRQ, pgIRQB 0, pgIRQB 1]) []) ∧
  (∀ (src : Src) (n : Fin 16) (g : Fin 2), ∀ ins ∈ [Instr.irqSet src n, .irqXset src g n], Keeps ins s (onOrGlb [pgIRQ, pgIRQB 0, pgIRQB 1]) []) ∧
  (∀ (src : Src) (n : Fin 256) (v : Word32), Keeps (.irqSrcWrite src n v) s (onOrGlb [pgIRQ, pgIRQB 0, pgIRQB 1]) []) ∧
  (∀ (src : Src), ∀ ins ∈ [Instr.irqClaim src, .irqFclaim src, .msixSend], Keeps ins s (onPages [pgIRQ, pgIRQB 0, pgIRQB 1]) [.out]) ∧
  (∀ (src : Src) (addr : Fin 0x4000000), Keeps (.oversizeRequest src addr) s (onPages [pgGLB]) [.out]) ∧
  (∀ (src : Src) (reg : Fin 0x80000) (wr : Option Word32) (up : StErr), Keeps (.storeWindowAccess src reg wr up) s (fun k => gabPages k) [.free, .gab, .gcode, .gcs, .gdata, .gstage, .out]) ∧
  (∀ (src : Src) (g : Fin 2) (w : Fin 16384) (v : Word32), Keeps (.controlWordCommit src g w v) s (onPages [pgGAB g]) [.gcode, .gcs, .gdata, .gstage])

/-- Frames of the commands of power, input, dormer, sensors, fuses, flash, lamps and ports. -/
def Obligations.SupplyFrames : Prop := ∀ s : State,
  (∀ (stat : BitVec 16) (lc : BitVec 8) (nsS nsL : Bool) (e : Fin 5) (st3 : Fin 3) (loc : Bool) (idA idB : Fin 4096) (st : Fin 4), ∀ ins ∈
    [Instr.testDone stat lc nsS nsL, .patternStep e, .j4Out st3, .regulation loc, .j5 idA idB, .supplyReturn, .j4In st], Keeps ins s (onPages [pgFSC])
    [.fsc]) ∧
  (∀ (why : Option Src) (src : Src) (e : Fin 4) (v : Word32), ∀ ins ∈ [Instr.lampTest why, .patternRestart src e v], Keeps ins s (onOrGlb [pgFSC])
    [.fsc]) ∧
  (∀ (cap data : List Bool), ∀ ins ∈ [Instr.extest cap data, .samplePreload cap data, .idcode, .bypass data, .clamp data, .highz data], Keeps ins s (fun
    _ => false) [.out, .tap]) ∧
  (∀ (out : Bool), Keeps (.j7Session out) s (onPages [pgFSC]) [.tap]) ∧
  (∀ (src : Src) (word : Fin 1024) (level n : Fin 16), ∀ ins ∈ [Instr.burn src word, .mread src word, .nread src word, .raiseDbg src level, .advRb src
    n], Keeps ins s (onOrGlb [pgFLS]) [.fls]) ∧
  (∀ (src : Src) (v : Word32), ∀ ins ∈ [Instr.flsLock src v, .flsArm src v], Keeps ins s (onOrGlb [pgFLS]) []) ∧
  (∀ (res : List BitBurn), Keeps (.flsCmdDone res) s (onPages [pgFLS]) [.fls, .tap]) ∧
  (∀ (src : Src), ∀ ins ∈ [Instr.erase src, .prog src, .readId src, .read src], Keeps ins s (onOrGlb [pgSFC]) [.sfc]) ∧
  (∀ (fail : Bool), Keeps (.flashCommandDone fail) s (onPages [pgSFC]) [.free, .sfc]) ∧
  (∀ (fail : Bool), ∀ ins ∈ [Instr.recoveryWrite fail, .recoveryErase fail], Keeps ins s (onPages [pgGLB]) [.free, .sfc]) ∧
  (Keeps .restart s (onPages [pgEAV, pgFLS, pgGLB]) [.eav, .free, .gab, .gcode, .gdata, .sfc]) ∧
  (∀ (cell : Bool) (mv : BitVec 16) (short : Bool), ∀ ins ∈ [Instr.oscBack, .supply cell mv, .oscFault short], Keeps ins s (onPages [pgDMR]) []) ∧
  (∀ (mv : BitVec 16), Keeps (.cell mv) s (onPages [pgDMR]) []) ∧
  (∀ (cell : Bool), ∀ ins ∈ [Instr.lostPwr cell, .secondRollover, .committed], Keeps ins s (onPages [pgDMR]) [.dmr]) ∧
  (Keeps .dormerStop s (fun _ => false) [.dmr]) ∧
  (∀ (src : Src) (sub : Fin 32768), Keeps (.dmrSnap src sub) s (onPages [pgDMR]) [.dmr, .out]) ∧
  (∀ (src : Src) (go clr : Bool), ∀ ins ∈ [Instr.dmrCommit src go, .logClr src clr], Keeps ins s (onOrGlb [pgDMR]) []) ∧
  (∀ (k : Fin 66) (raw : BitVec 16), Keeps (.sensorUpdate k raw) s (onPages [pgSNS]) [.pwr]) ∧
  (∀ (k : Fin 73), Keeps (.snsReadingInvalid k) s (onPages [pgSNS]) [.pwr]) ∧
  (∀ ins ∈ [Instr.inUv, .inOv], Keeps ins s (onPages [pgDMR, pgPWR]) [.pwr]) ∧
  (∀ ins ∈ [Instr.j1Clear, .j1Reverse], Keeps ins s (onPages [pgDMR]) [.pwr]) ∧
  (Keeps .inputValid s (onPages [pgGLB]) []) ∧
  (∀ (src : Src) (v : Word32), Keeps (.pmbTransaction src v) s (onOrGlb [pgPWR]) [.pwr]) ∧
  (∀ (st : Fin 5) (data : Word32), Keeps (.pmbDone st data) s (onPages [pgPWR]) [.pwr]) ∧
  (∀ (rs : List (Fin 7 × BitVec 16 × BitVec 16)), Keeps (.pmbusPoll rs) s (onPages [pgPWR, pgSNS]) []) ∧
  (Keeps .u9Timeout s (onPages [pgGLB, pgPWR]) []) ∧
  (∀ (src : Src) (v : Word32), Keeps (.pwrAdv src v) s (onPages [pgBTXC, pgBTXR, pgBTXT, pgGLB, pgPWR]) [.btx]) ∧
  (∀ (b : Fin 64), Keeps (.trip b) s (fun k => onPages [pgBTXC, pgBTXR, pgBTXT, pgCRS, pgGLB, pgPWR, pgSNS] k || sprPages k) [.btx, .crs, .pur, .pwr]) ∧
  (∀ (r : Fin 6), Keeps (.powerGoodLoss r) s (fun k => onPages [pgBTXC, pgBTXR, pgBTXT, pgCRS, pgGLB, pgPWR] k || sprPages k) [.btx, .crs, .pur, .pwr]) ∧
  (Keeps .stepTmo s (fun k => onPages [pgBTXC, pgBTXR, pgBTXT, pgCRS, pgGLB, pgPWR] k || sprPages k) [.btx, .crs, .pur, .pwr]) ∧
  (Keeps .hbmOff s (fun k => onPages [pgPWR] k || hbmPages k || phyPages k) [.hbm, .pwr]) ∧
  (∀ (by' : OffBy), Keeps (.offRequest by') s (fun k => onPages [pgBTXC, pgBTXR, pgBTXT, pgCRS, pgGLB, pgPWR] k || sprPages k) [.btx, .crs, .hbm, .pur, .pwr, .sfc]) ∧
  (∀ (src : Src), ∀ ins ∈ [Instr.idleRequest src, .runRequest src], Keeps ins s (fun k => onPages [pgCRS, pgFSC, pgGLB, pgPUE, pgPUR, pgPWR] k ||
    hbmPages k || ylmPages k) [.btx, .crs, .drainReady, .fsc, .hbm, .pur, .pwr, .stk, .ylm]) ∧
  (∀ (mo plug : Bool), Keeps (.j3Plug mo plug) s (onPages [pgBTXC, pgBTXR, pgBTXT, pgFSC]) [.btx, .fsc]) ∧
  (Keeps .laserEnable s (fun _ => false) [.btx]) ∧
  (∀ (b : WarmBy) (ov : Bool) (o : OnBy), ∀ c ∈ [Instr.warmReset b, .fallStepDone, .riseStepDone, .inputLoss ov, .onRequest o], ∀ t, exec c s = .next t
    → t.host = s.host ∧ t.out = s.out ∧ (c ≠ .onRequest o → t.dmr = s.dmr))

/-- Frames of the host's commands and of the resets of functions. -/
def Obligations.HostFrames : Prop := ∀ s : State,
  (∀ (src : Src) (slot : Fin 2) (fn : Fin 16), Keeps (.submit src slot fn) s (fun k => onOrGlb [pgEAV, pgGUT, pgPUR] k || hbmPages k || vfPages k)
    [.crs, .eav, .free, .hbm, .host, .pur]) ∧
  (∀ (c : Fin 8) (e : GutEnd), ∀ ins ∈ [Instr.hostToObject c e, .objectToHost c e, .hostToStore c e, .gutterResume c e], Keeps ins s (fun k => onPages
    [pgGUT, pgPUR] k || bstPages k || hbmPages k || vfPages k) [.bst, .crs, .eav, .free, .hbm, .host, .pur, .store]) ∧
  (∀ (c : Fin 8) (e : GutEnd) (ups : List (Fin 262144 × StErr)), Keeps (.storeToHost c e ups) s (fun k => onPages [pgGUT, pgPUR] k || bstPages k ||
    hbmPages k || vfPages k) [.bst, .crs, .eav, .free, .hbm, .host, .pur, .store]) ∧
  (∀ (src : Src) (c : Fin 8) (tail : Fin 4096), Keeps (.gutterDoorbell src c tail) s (fun k => onOrGlb [pgGUT] k || vfPages k) []) ∧
  (∀ (src : Src) (fn : Fin 16) (d : Fin 64), ∀ ins ∈ [Instr.bind src fn d, .unbind src fn d], Keeps ins s (onOrGlb [pgEAV, pgVFC fn]) [.eav]) ∧
  (∀ (src : Src) (w : Fin 8) (valid : Bool) (h : Fin (2 ^ 24)), Keeps (.windowMap src w valid h) s (onOrGlb [pgEAV]) []) ∧
  (∀ (src : Src) (v : Fin 8) (status : Fin 65536), Keeps (.mbDone src v status) s (onOrGlb [pgEAV, pgVMB (v.val + 1)]) []) ∧
  (∀ (v : Fin 8) (code : Fin 256), Keeps (.vmbDoor v code) s (onOrGlb [pgEAV, pgVMB (v.val + 1)]) []) ∧
  (∀ (addr : Fin (2 ^ 34)) (len : Nat) (wr : Option (List Byte)), Keeps (.bar2Access addr len wr) s (fun k => onPages [pgEAV, pgPUR] k || hbmPages k)
    [.crs, .free, .hbm, .out, .pur]) ∧
  (∀ (fn : Fin 9), Keeps (.cqBacklogWrite fn) s (fun k => onPages [pgGUT] k || vfPages k) [.eav, .host]) ∧
  (∀ (fn : Fin 9), ∀ ins ∈ [Instr.perst, .flr fn], Keeps ins s (fun k => onPages [pgEAV, pgGUT, pgIRQ, pgIRQB 0, pgIRQB 1, pgPUE] k || vfPages k) [.crs,
    .eav, .gov, .pur]) ∧
  (∀ (up : Bool) (width : Fin 17) (gen : Fin 7) (flit : Bool), Keeps (.linkChg up width gen flit) s (onPages [pgEAV]) []) ∧
  (∀ (op : CfgOp), Keeps (.configRequest op) s (fun _ => false) [.eav, .free, .out])

/-- Frames of the commands of courses, of the governor, of objects and of the pager. -/
def Obligations.CourseFrames : Prop := ∀ s : State,
  (∀ (uj : Fin (2 ^ 31)) (valid : Bool) (t : State), exec (.tick uj valid) s = .next t → t.out = s.out ∧ t.gov = s.gov ∧ t.cs = s.cs ∧
    t.gcode = s.gcode ∧ t.gdata = s.gdata ∧ t.gcs = s.gcs ∧ t.fls = s.fls ∧ t.sfc = s.sfc ∧ t.fsc = s.fsc ∧ t.tap = s.tap ∧ t.dmr = s.dmr) ∧
  (∀ ins ∈ [Instr.syncLost, .syncBack, .syncMiss, .budgetSlip, .ovrLimit], Keeps ins s (onPages [pgCRS]) [.crs]) ∧
  (∀ (w : BitVec 48) (phase : BitVec 16) (gap : Nat), Keeps (.syncMark w phase gap) s (onPages [pgCRS, pgFSC]) [.crs, .out]) ∧
  (Keeps .syncMarkEmit s (fun _ => false) [.crs, .out]) ∧
  (Keeps .planDone s (onPages [pgCRS]) []) ∧
  (Keeps .voltageRamp s (fun _ => false) [.crs]) ∧
  (∀ (actual : Fin 65536), Keeps (.selectionPoint actual) s (onPages [pgCRS, pgPUE, pgPUR]) [.crs, .free, .gov, .pur, .store]) ∧
  (Keeps .runPhaseStart s (fun k => onPages [pgCRS, pgPUR] k || bstPages k || hbmPages k || ligPages k || sprPages k) [.bst, .crs, .hbm, .pur, .slt,
    .spr, .store]) ∧
  (∀ (src : Src) (v : Word32), ∀ ins ∈ [Instr.nextLenArm src v, .cancel src], Keeps ins s (onOrGlb [pgCRS]) []) ∧
  (Keeps .resvStart s (onPages [pgPUE]) [.gov]) ∧
  (Keeps .resvLapse s (onPages [pgPUE]) [.gov, .pur]) ∧
  (∀ (src : Src) (slot : Fin 2) (fn prio : Fin 16), Keeps (.priorityChange src slot fn prio) s (onOrGlb [pgPUE]) [.crs, .pur]) ∧
  (∀ (src : Src) (slot : Fin 2), ∀ ins ∈ [Instr.create src slot, .fetch src slot, .evict src slot, .pin src slot, .stGrant src slot, .stFree src slot],
    Keeps ins s (onOrGlb [pgPUR]) [.pur]) ∧
  (∀ (src : Src) (slot : Fin 2), ∀ ins ∈ [Instr.free src slot, .unpin src slot], Keeps ins s (onOrGlb [pgEAV, pgPUR]) [.pur]) ∧
  (∀ (src : Src) (slot : Fin 2), Keeps (.query src slot) s (onOrGlb [pgPUR]) []) ∧
  (∀ (h : Fin (2 ^ 24)) (o : Bool), Keeps (.pagerPoison h o) s (onPages [pgPUR]) [.pur]) ∧
  (Keeps .standingGrantApply s (onPages [pgCRS, pgPUR]) [.free, .pur, .store]) ∧
  (Keeps .pageOut s (onPages [pgPUR]) [.free, .pur]) ∧
  (Keeps .pageIn s (onPages [pgPUR]) [.free, .pur]) ∧
  (∀ (ok : Bool), Keeps (.pageMove ok) s (fun k => onPages [pgPUR] k || hbmPages k) [.crs, .hbm, .host, .pur]) ∧
  (Keeps .otRepaired s (fun k => onPages [pgPUR] k || hbmPages k) [.crs, .free, .hbm, .pur])

/-- Frames of the commands of batten stores and of slate arrays. -/
def Obligations.StoreFrames : Prop := ∀ s : State,
  (∀ (b : Fin 64), ∀ ins ∈ [Instr.fenced b, .unfenced b, .ceFence b, .marchStart b], Keeps ins s (onPages [pgBST b]) [.bst]) ∧
  (∀ (src : Src) (b : Fin 64) (mode : Fin 4) (j : Fin 8) (v : Word32), ∀ ins ∈ [Instr.fenceRequest src b, .marchRequest src b mode, .ownerWrite src b j
    v], Keeps ins s (onOrGlb [pgBST b]) [.bst]) ∧
  (∀ (b : Fin 64), Keeps (.correctionWriteBack b) s (fun _ => false) [.bst, .store]) ∧
  (∀ (src : Src) (b : Fin 64) (bank : Fin 32) (v : Word32), Keeps (.repairWrite src b bank v) s (onOrGlb [pgBST b]) [.free, .store]) ∧
  (∀ (b : Fin 64) (bank : Fin 32), Keeps (.handoverComplete b bank) s (onPages [pgBST b]) []) ∧
  (∀ (b : Fin 64) (faults : List (Nat × Nat)), Keeps (.marchDone b faults) s (onPages [pgBST b, pgGLB]) [.bst, .crs, .store]) ∧
  (∀ (b : Fin 64) (a : Fin 4), Keeps (.modeChange b a) s (fun _ => false) [.slt]) ∧
  (∀ (b : Fin 64) (a : Fin 4), Keeps (.modeChangeDone b a) s (onPages [pgSLT b]) [.slt]) ∧
  (∀ (b : Fin 64) (e : Fin 96), Keeps (.modValid b e) s (onPages [pgSLT b]) []) ∧
  (∀ (src : Src) (b : Fin 64) (e : Fin 96) (v : Word32) (kk : Fin 4), ∀ ins ∈ [Instr.modulusEntryCheck src b e v, .modulusValueWrite src b e kk v],
    Keeps ins s (onOrGlb [pgSLT b]) []) ∧
  (∀ (b : Fin 64) (a : Fin 4) (busy : Nat), Keeps (.arrayOperationDone b a busy) s (onPages [pgBTN b, pgSLT b, pgSPR b]) [.crs, .slt, .spr]) ∧
  (∀ (b : Fin 64) (src : Src) (bank : Fin 32) (v : Word32) (faults : List (Nat × Nat)), ∀ ins ∈ [Instr.correctionWriteBack b, .repairWrite src b bank v,
    .marchDone b faults], ∀ t k, exec ins s = .next t → k / 2 ^ 19 ≠ b.val → smGet stDflt t.store k = smGet stDflt s.store k)

/-- Frames of the micro-words, of the ALU of spars, of their micro-operations and of what controls spars. -/
def Obligations.SparFrames : Prop := ∀ s : State,
  (∀ (ix : Fin 74) (bad : Bool), ∀ ins ∈ [Instr.seqNext ix bad, .seqJump ix bad, .jcond ix bad, .jncond ix bad,
    .seqCall ix bad, .callc ix bad, .seqRet ix bad, .retc ix bad, .loop0 ix bad, .loop1 ix bad, .dispatchWord ix bad,
    .seqWait ix bad, .seqTrap ix bad, .trapret ix bad], Keeps ins s (fun k => gabPages k || sprPages k) [.crs, .gab, .spr]) ∧
  (∀ (ix : Fin 74), ∀ ins ∈ [Instr.waitTimeout ix, .waitEnd ix], Keeps ins s (fun k => gabPages k || sprPages k) [.crs, .gab, .spr]) ∧
  (∀ (ix : Fin 74) (bad : Bool), Keeps (.seqHalt ix bad) s (fun k => gabPages k || sprPages k) [.crs, .free, .gab, .spr]) ∧
  (∀ (ix : Fin 74) (bad : Bool), Keeps (.endstint ix bad) s (fun k => bstPages k || gabPages k || ligPages k || sprPages k)
    [.bst, .crs, .gab, .slt, .spr, .store]) ∧
  (∀ (ix : Fin 74) (d : BitVec 96), ix.val < 72 → ∀ ins ∈ [Instr.aluNop ix d, .aluAdd ix d, .aluSub ix d, .aluAnd ix d, .aluOr ix d, .aluXor ix d,
    .aluShl ix d, .aluShr ix d, .ldi ix d, .addi ix d, .mul16 ix d, .min ix d, .max ix d, .setlc0 ix d, .setlc1 ix d], Keeps ins s (fun k
    => bstPages k || gabPages k || ligPages k || sprPages k) [.bst, .crs, .gab, .slt, .spr, .store]) ∧
  (∀ (ix : Fin 74) (d : BitVec 96), ix.val < 72 → Keeps (.getp ix d) s (fun k => bstPages k || gabPages k || ligPages k || sprPages k) [.bst, .crs,
    .free, .gab, .slt, .spr, .store]) ∧
  (∀ (ix : Fin 72), Keeps (.nop ix) s (fun k => onPages [pgSPR ix] k || bstPages k || gabPages k || ligPages k) [.bst, .crs, .gab, .slt, .spr, .store]) ∧
  (∀ (b : Fin 64) (d : BitVec 96), ∀ ins ∈ [Instr.wset b d, .wgroup b d, .swr b d, .storeTest b d], Keeps ins s (fun k => onPages [pgBST b, pgSPR b] k
    || gabPages k || ligPages k) [.bst, .crs, .gab, .slt, .spr, .store]) ∧
  (∀ (b : Fin 64) (d : BitVec 96), Keeps (.storeRepair b d) s (fun k => onPages [pgBST b, pgSPR b] k || gabPages k || ligPages k) [.free, .bst, .crs,
    .gab, .slt, .spr, .store]) ∧
  (∀ (b : Fin 64) (d : BitVec 96) (up : StErr), Keeps (.srd b d up) s (fun k => onPages [pgBST b, pgSPR b] k || gabPages k || ligPages k) [.bst, .crs,
    .gab, .slt, .spr, .store]) ∧
  (∀ (b : Fin 64) (d : BitVec 96) (up : StErr), ∀ ins ∈ [Instr.swr b d, .srd b d up, .wset b d, .wgroup b d, .storeTest b d, .storeRepair b d], ∀ t k,
    exec ins s = .next t → k / 2 ^ 19 ≠ b.val → smGet stDflt t.store k = smGet stDflt s.store k) ∧
  (∀ (ix : Fin 72) (d : BitVec 96), Keeps (.csTest ix d) s (fun k => onPages [pgSPR ix] k || bstPages k || gabPages k || ligPages k) [.bst, .crs, .gab,
    .slt, .spr, .store]) ∧
  (∀ (ix : Fin 72) (d : BitVec 96), 64 ≤ ix.val → Keeps (.engineMicroOperation ix d) s (fun k => onPages [pgSPR ix, pgYLM (ix.val - 64), pgSTK (ix.val - 68),
    pgPUR] k || bstPages k || gabPages k || hbmPages k || ligPages k || sltPages k) [.bst, .crs, .free, .gab, .hbm, .pur, .slt, .spr, .stk, .store, .ylm]) ∧
  (∀ (src : Src) (ix : Fin 72) (v : Word32) (m : Fin 16), ∀ ins ∈ [Instr.park src ix v, .patchMatchWrite src ix m v], Keeps ins s (onOrGlb [pgSPR ix])
    []) ∧
  (∀ (ix : Fin 72) (bad : Bool), ∀ ins ∈ [Instr.parked ix, .csTestDone ix bad], Keeps ins s (onPages [pgSPR ix]) [.spr]) ∧
  (∀ (src : Src) (ix : Fin 72) (v : Word32), ∀ ins ∈ [Instr.sprRun src ix v, .csTestRequest src ix v], Keeps ins s (onOrGlb [pgSPR ix]) [.spr]) ∧
  (∀ (src : Src) (ix : Fin 72) (v : Word32) (left : Nat), Keeps (.attn src ix v left) s (fun k => onOrGlb [pgSPR ix] k || gabPages k) [.crs, .gab,
    .spr]) ∧
  (∀ (src : Src) (ix : Fin 72) (v : Word32), Keeps (.csCommit src ix v) s (onOrGlb [pgSPR ix]) [.cs])

/-- Frames of the operations of slate arrays: other battens, and every unit beside the slates, the stores and the spars, keep their state. -/
def Obligations.SlateFrames : Prop := ∀ s : State,
  (∀ (b : Fin 64) (d : BitVec 96) (upsA upsB : List StErr) (par : ArrPar) (ups : List StErr), ∀ ins ∈ [Instr.clear b d, .mac b d upsA upsB par, .mulp b d
    par, .neg b d par, .tom b d par, .modAdd b d par, .modSub b d par, .ewmul b d ups par, .ewmac b d ups par, .ntt b d par, .intt b d par, .lload b d
    ups, .pload b d ups, .pstore b d par], Keeps ins s (fun k => onPages [pgBST b, pgBTN b, pgSLT b, pgSPR b] k || gabPages k || ligPages k) [.bst,
    .crs, .gab, .slt, .spr, .store]) ∧
  (∀ (b : Fin 64) (d : BitVec 96) (par : ArrPar), Keeps (.drain b d par) s (fun k => onPages [pgBST b, pgBTN b, pgSLT b, pgSPR b] k || gabPages k ||
    ligPages k) [.free, .bst, .crs, .gab, .slt, .spr, .store]) ∧
  (∀ (b : Fin 64) (d : BitVec 96) (ups : List StErr), Keeps (.rqload b d ups) s (fun k => onPages [pgBST b, pgSPR b] k || gabPages k || ligPages k)
    [.bst, .crs, .gab, .slt, .spr, .store]) ∧
  (∀ (b : Fin 64) (d : BitVec 96) (upsA upsB : List StErr) (par : ArrPar) (ups : List StErr), ∀ ins ∈ [Instr.clear b d, .mac b d upsA upsB par, .mulp b d
    par, .neg b d par, .tom b d par, .modAdd b d par, .modSub b d par, .ewmul b d ups par, .ewmac b d ups par, .ntt b d par, .intt b d par, .lload b d
    ups, .pload b d ups, .pstore b d par, .drain b d par, .rqload b d ups, .modload b d ups, .colmap b d ups], ∀ t k, exec ins s = .next t → k / 2 ^
    19 ≠ b.val → smGet stDflt t.store k = smGet stDflt s.store k) ∧
  (∀ (b : Fin 64) (d : BitVec 96) (ups : List StErr), ∀ ins ∈ [Instr.modload b d ups, .colmap b d ups], Keeps ins s (fun k => onPages [pgBST b, pgSLT b,
    pgSPR b] k || gabPages k || ligPages k) [.bst, .crs, .gab, .slt, .spr, .store])

/-- Frames of the moves on ligger pairs, of beat pairs, of the yealms and of the stooks. -/
def Obligations.EngineFrames : Prop := ∀ s : State,
  (∀ (m : Mover), ∀ ins ∈ [Instr.take m, .release m], Keeps ins s (fun k => onPages [pgRDG] k || bstPages k || gabPages k || ligPages k ||
    sprPages k) [.bst, .crs, .gab, .slt, .spr, .store]) ∧
  (∀ (m : Mover), ∀ ins ∈ [Instr.post m, .acquire m, .acquireResume m], Keeps ins s (fun k => onPages [pgRDG] k || bstPages k || gabPages k || ligPages k || sprPages k) [.lig, .bst, .crs, .gab, .slt,
    .spr, .store]) ∧
  (∀ (p : Fin 1024), Keeps (.postApply p) s (fun k => ligPages k) [.lig]) ∧
  (∀ (recv issuer : Fin 256) (cls : Fin 8) (n : Fin 4) (ch : Fin 32), Keeps (.splitTimeout recv issuer cls n ch) s (onPages [pgRDG]) [.crs, .free, .lig]) ∧
  (∀ (recv issuer : Fin 256) (cls : Fin 8) (seq : Fin 4) (half : Fin 2) (hbm : Option (Fin 4 × Fin 32)) (eng : Option (Fin 256)) (pair : Option (Fin
    1024)) (rivals : List (Fin 256 × Fin 8)), Keeps (.beatPairArrival recv issuer cls seq half hbm eng pair rivals) s (onPages [pgRDG]) [.crs, .free, .lig]) ∧
  (∀ (e : Fin 256), Keeps (.swayWaitEnd e) s (fun k => bstPages k || ligPages k || sprPages k) [.bst, .btx, .crs, .slt, .spr, .stk, .store, .ylm]) ∧
  (∀ (n : Fin 4) (ce : Nat) (ue : Option (Fin 1310720)), ∀ ins ∈ [Instr.pillar n ce ue, .sort3 n ce ue, .ball n ce ue, .knn n ce ue], Keeps ins s (fun k
    => onPages [pgPUR, pgSPR (n.val + 68), pgSTK n] k || bstPages k || hbmPages k || ligPages k) [.bst, .crs, .hbm, .pur, .spr, .stk, .store]) ∧
  (∀ (y : Fin 4), Keeps (.ksDescriptor y) s (fun k => onPages [pgPUR, pgSPR (y.val + 64), pgYLM y] k || bstPages k || hbmPages k || ligPages k) [.bst,
    .crs, .free, .hbm, .pur, .spr, .store, .ylm]) ∧
  (∀ (y : Fin 4), Keeps (.preStages y) s (fun k => onPages [pgSPR (y.val + 64), pgYLM y] k || sltPages k) [.crs, .spr, .ylm]) ∧
  (∀ (y : Fin 4) (bad : Bool), Keeps (.keyStream y bad) s (fun k => onPages [pgPUR, pgSPR (y.val + 64), pgYLM y] k || hbmPages k || sltPages k) [.crs, .hbm, .pur,
    .spr, .ylm]) ∧
  (∀ (y : Fin 4), Keeps (.postStages y) s (fun k => onPages [pgSPR (y.val + 64)] k || bstPages k) [.bst, .crs, .free, .spr, .store, .ylm]) ∧
  (∀ (y : Fin 4), Keeps (.outputWrite y) s (onPages [pgSPR (y.val + 64), pgYLM y]) [.hbm, .ylm]) ∧
  (∀ (src : Src) (y : Fin 4) (v : Word32), Keeps (.kat src y v) s (onOrGlb [pgYLM y]) [.ylm]) ∧
  (∀ (y : Fin 4) (fail : BitVec 32), Keeps (.katDone y fail) s (onPages [pgYLM y]) [])

/-- Frames of the commands of stacked memory. -/
def Obligations.StackFrames : Prop := ∀ s : State,
  (∀ (n : Fin 4) (b : Nat) (errs : List (Fin 68 × Byte)) (planReads : Bool) (es : List (Nat × Fin 68 × Byte)), ∀ ins ∈ [Instr.hbmRead n b errs
    planReads, .scrub n es], Keeps ins s (fun k => onPages [pgPUR] k || hbmPages k) [.crs, .hbm, .pur]) ∧
  (∀ (n : Fin 4) (b : Nat) (errs : List (Fin 68 × Byte)) (planReads : Bool) (pc : Fin 64) (kind : Fin 4) (ok : Bool)
    (ln : Lane) (okr v : Bool) (c : BitVec 16) (src : Src), ∀ ins ∈ [Instr.hbmRead n b errs planReads, .parity n pc kind, .retryCheck n pc ok, .lane n
    pc, .repair n pc ln okr, .stackLost n, .classDown n, .tempReading n v c, .trainStart src n, .abort src n], ∀ t, exec ins s = .next
    t → t.hbm.bytes = s.hbm.bytes) ∧
  (∀ (n : Fin 4) (es : List (Nat × Fin 68 × Byte)) (t : State) (a : Nat), exec (.scrub n es) s = .next t →
    (∀ b, beatAddr n b ≤ a → a < beatAddr n b + 64 → s.symErrs n b = [] ∧ ∀ e ∈ es, e.1 ≠ b) →
    smGet (fun _ => 0) t.hbm.bytes a = smGet (fun _ => 0) s.hbm.bytes a) ∧
  (∀ (n : Fin 4) (b : Nat) (first : Fin 64) (bs : List Byte) (errs : List (Fin 68 × Byte)), ∀ t a, exec (.partialWrite n b first bs errs) s = .next t →
    a < beatAddr n b ∨ beatAddr n b + 64 ≤ a → smGet (fun _ => 0) t.hbm.bytes a = smGet (fun _ => 0) s.hbm.bytes a) ∧
  (∀ (n : Fin 4) (b : Nat) (first : Fin 64) (bs : List Byte) (errs : List (Fin 68 × Byte)), Keeps (.partialWrite n b first bs errs) s (fun k => onPages
    [pgPUR] k || hbmPages k) [.crs, .hbm, .pur]) ∧
  (∀ (n : Fin 4) (pc : Fin 64) (kind : Fin 4) (ok : Bool), ∀ ins ∈ [Instr.parity n pc kind, .retryCheck n pc ok], Keeps ins s (onPages [pgHBM n]) [.crs,
    .hbm]) ∧
  (∀ (n : Fin 4) (pc : Fin 64), Keeps (.lane n pc) s (fun _ => false) [.crs, .hbm]) ∧
  (∀ (n : Fin 4) (pc : Fin 64) (lane : Lane) (ok : Bool), Keeps (.repair n pc lane ok) s (onPages [pgHBM n, pgPHY n]) [.hbm]) ∧
  (∀ (n : Fin 4), Keeps (.stackLost n) s (onPages [pgGLB, pgHBM n]) [.crs]) ∧
  (∀ (n : Fin 4), Keeps (.classDown n) s (onPages [pgHBM n]) [.hbm]) ∧
  (∀ (n : Fin 4) (v : Bool) (c : BitVec 16), Keeps (.tempReading n v c) s (onPages [pgGLB, pgHBM n]) [.crs, .hbm]) ∧
  (∀ (src : Src) (n : Fin 4), Keeps (.trainStart src n) s (onOrGlb [pgHBM n, pgPHY n]) [.hbm]) ∧
  (∀ (src : Src) (n : Fin 4), Keeps (.abort src n) s (onOrGlb [pgPHY n]) [.hbm]) ∧
  (∀ (n : Fin 4) (fail : BitVec 32) (lanes : List (Fin 32 × Lane)), Keeps (.trainPhaseDone n fail lanes) s (onPages [pgGLB, pgHBM n, pgPHY n, pgPWR])
    [.hbm])

/-- Frames of what controls a gable and of its micro-operations. -/
def Obligations.GableFrames : Prop := ∀ s : State,
  (∀ (src : Src) (g : Fin 2), ∀ ins ∈ [Instr.stop src g, .start src g, .gableReset src g], Keeps ins s (onOrGlb [pgGAB g]) [.gab, .tap]) ∧
  (∀ (g : Fin 2), Keeps (.stopped g) s (onPages [pgGAB g]) [.gab, .tap]) ∧
  (∀ (src : Src) (g : Fin 2) (v : Word32), Keeps (.gableMarch src g v) s (onOrGlb [pgGAB g]) [.gab]) ∧
  (∀ (g : Fin 2) (pass : Bool), Keeps (.gableMarchDone g pass) s (onPages [pgGAB g]) [.gab, .gcode, .gcs, .gdata]) ∧
  (∀ (src : Src) (g : Fin 2) (m : Fin 32) (v : Word32), Keeps (.gablePatchWrite src g m v) s (onOrGlb [pgGAB g]) []) ∧
  (∀ (g : Fin 2) (wait : Nat), ∀ ins ∈ [Instr.wfiEnd g wait, .fenceComplete g wait], Keeps ins s (fun _ => false) [.gab]) ∧
  (∀ (g : Fin 2) (d : BitVec 96), ∀ ins ∈ [Instr.uopNop g d, .xret g d, .fret g d, .uopWfi g d, .uopFence g d, .wkick g d], Keeps ins s (onPages
    [pgGAB g]) [.gab, .tap]) ∧
  (∀ (g : Fin 2) (d : BitVec 96), Keeps (.sspush g d) s (onPages [pgGAB g]) [.gab, .gdata, .tap]) ∧
  (∀ (g : Fin 2) (d : BitVec 96), Keeps (.csrrd g d) s (onPages [pgGAB g]) [.free, .gab, .tap]) ∧
  (∀ (g : Fin 2) (d : BitVec 96) (x : GabIn), Keeps (.uopFetch g d x) s (onPages [pgGAB g]) [.gab, .gcode, .tap]) ∧
  (∀ (g : Fin 2) (cmd : Fin 4) (left : Nat) (data : List Bool), Keeps (.dbgGattn g cmd left data) s (fun k => onPages [pgGAB g] k || sprPages k) [.free,
    .gab, .out, .spr, .tap])

/-- Frames of the commands of the Batrix. -/
def Obligations.LinkFrames : Prop := ∀ s : State,
  (∀ (c : CalStep), ∀ ins ∈ [Instr.failover, .calibrationStep c, .rejoin, .calTimeout, .shadowStart], Keeps ins s (onPages [pgBTXL, pgBTXR, pgBTXT])
    [.btx, .out]) ∧
  (∀ (same : Bool) (ce : Fin 65536) (skew : BitVec 16), Keeps (.verdict same ce skew) s (onPages [pgBTXL, pgBTXR]) [.btx]) ∧
  (∀ (g : Fin 2), ∀ ins ∈ [Instr.superframe, .msgTransmit g], Keeps ins s (onPages [pgBTXC]) [.btx, .out]) ∧
  (Keeps .ringTimeout s (onPages [pgBTXC]) []) ∧
  (Keeps .eocSend s (fun _ => false) [.btx, .out]) ∧
  (∀ (p : Fin 9) (ce : Fin 17) (zeros : Bool) (vc : Option (Fin 4)), ∀ ins ∈ [Instr.idleFrame p ce zeros, .uncorrectableFrame p vc], Keeps ins s
    (onPages [pgBTXR]) [.btx]) ∧
  (∀ (p : Fin 9) (ce : Fin 17) (g : Fin 2) (seq : Fin 65536) (dest src hops : Byte) (data : BitVec 256), Keeps (.msgFrame p ce g seq dest src hops data)
    s (onPages [pgBTXC, pgBTXR]) [.btx]) ∧
  (∀ (p : Fin 9) (ce : Fin 17) (course : Word64) (ovr : Bool), Keeps (.eocFrame p ce course ovr) s (onPages [pgBTXC, pgBTXR]) [.btx, .pur]) ∧
  (∀ (p : Fin 9) (ce : Fin 17) (v : Fin 2) (first last : Bool) (seq : Fin 65536) (bs : List Byte), Keeps (.dataFrame p ce v first last seq bs) s (fun k
    => onPages [pgBTXC, pgBTXR, pgPUR] k || hbmPages k) [.btx, .crs, .free, .hbm, .pur]) ∧
  (∀ (p : Fin 9) (ce : Fin 17) (f : CtrlFrame), Keeps (.ctrlFrame p ce f) s (onPages [pgBTXC, pgBTXL, pgBTXR, pgBTXT, pgGLB, pgPWR]) [.btx]) ∧
  (∀ (p : Fin 9), Keeps (.linkUp p) s (onPages [pgBTXC, pgBTXL, pgBTXR, pgBTXT, pgFSC]) [.btx]) ∧
  (∀ (side : Fin 2) (lock : BitVec 9) (runs : List (Fin 9 × CalStep)), Keeps (.bringupLock side lock runs) s (onPages [pgBTXC, pgBTXL, pgBTXR, pgBTXT, pgFSC, pgGLB]) [.btx, .crs]) ∧
  (Keeps .laneDown s (onPages [pgBTXC, pgBTXR]) [.btx]) ∧
  (∀ (side : Fin 2), Keeps (.retired side) s (onPages [pgBTXL, pgBTXR, pgBTXT, pgGLB]) [.btx, .crs]) ∧
  (Keeps .j3Map s (onPages [pgBTXC, pgBTXR, pgFSC]) [.btx]) ∧
  (∀ (src : Src) (g : Fin 2) (dest : Fin 16), ∀ ins ∈ [Instr.msgSend src g dest, .rxpop src g], Keeps ins s (onOrGlb [pgBTXC]) [.btx]) ∧
  (∀ (src : Src) (q : Fin 64) (valid : Bool) (h : Fin (2 ^ 24)), Keeps (.postingWrite src q valid h) s (onOrGlb [pgBTXC]) []) ∧
  (Keeps .consignmentSend s (fun k => onPages [pgBTXC, pgPUR] k || hbmPages k || ligPages k) [.btx, .crs, .hbm, .out, .pur]) ∧
  (∀ (p : Fin 9) (pwr : Fin 4096), Keeps (.monFault p pwr) s (onPages [pgBTXT]) [])

/-- R84: EVT_SET on a page that has the event registers: unlocked, it sets the bits of PG_EVT_RAW that the block assigns, and nothing else changes; locked, nothing changes but the record of LOCKED. On the IRQ page a request that it raises may at once be settled by the controller, whose own registers may then change too. -/
def Obligations.EventSetWritesEventsAlone : Prop := ∀ (s : State) (src : Src) (pg : Nat) (k : PgKind) (i : Nat) (v : Word32),
  pg % 0x1000 = 0 → pageOf pg = some (k, i) → k.events = true → s.accepts src (pg + 0x1C) = true →
  (s.locked pg = false → Completes (.evtSet src pg v) s fun t => Only (fun r => r == pg + 0x10 || irqOwn r) [] s t ∧
    (k ≠ .irq → t.rf pg PG_EVT_RAW = s.rf pg PG_EVT_RAW ||| (v.toNat &&& evtMask k i))) ∧
  (s.locked pg = true → Completes (.evtSet src pg v) s fun t => Only (fun r => errRegs pg r || irqOwn r) [] s t ∧ s.records t pg eLOCKED)

/-- R587: while COMMIT_PEND is 1, a write to DMR_SET_LO, DMR_SET_HI or DMR_COMMIT changes nothing but the page's error record, which takes STATE. -/
def Obligations.TimeSettingWaitsForItsCommit : Prop := ∀ (s : State) (src : Src), s.bit pgDMR DMR_STAT_COMMIT_PEND = true →
  (∀ (o : Fin 0x4000000) (v : Word32), o.val = pgDMR + 0x60 ∨ o.val = pgDMR + 0x64 → s.accepts src o = true →
    Completes (.registerWrite src o v) s fun t => Only (fun r => errRegs pgDMR r || irqOwn r) [] s t ∧ s.records t pgDMR eSTATE) ∧
  (∀ go, s.accepts src (pgDMR + 0x68) = true →
    Completes (.dmrCommit src go) s fun t => Only (fun r => errRegs pgDMR r || irqOwn r) [] s t ∧ s.records t pgDMR eSTATE)

/-- R474: the WFI of a gable ends when a source that targets it is PENDING with EN = 1, and only then. -/
def Obligations.WfiEndsOnAnEnabledSource : Prop := ∀ (s : State) (g : Fin 2) (wait : Nat), s.gabLive = true →
  (s.gable g).wfi = true → (s.gable g).stopped = false → (s.gable g).halted = false →
  (∀ n, n < 256 → irqExists n = true → s.rf (irqPage g n) IRQ_SRC_STATE n = srcPending → s.bit (irqPage g n) IRQ_SRC_EN n = true →
    (32 ≤ n → s.rf (irqPage g n) IRQ_SRC_TARGET n = g.val) → wait ≤ (s.gable g).wdLeft → Completes (.wfiEnd g wait) s fun t => (t.gable g).wfi = false) ∧
  ((∀ n, n < 256 → irqExists n = true → s.rf (irqPage g n) IRQ_SRC_STATE n = srcPending → s.bit (irqPage g n) IRQ_SRC_EN n = true →
    32 ≤ n ∧ s.rf (irqPage g n) IRQ_SRC_TARGET n ≠ g.val) → Completes (.wfiEnd g wait) s fun t => t.gab = s.gab)

/-- A REGISTER_WRITE of a register whose write is a row of its own completes as that row does (R66, R67, R84, R118, R163, R175, R194, R202, R206, R227, R238, R291, R371, R411 to R414, R446, R449, R455, R462, R467, R470, R497, R502, R535, R555, R587, R590, R610, R616, R664, R670, R676, R681, R686). -/
def Obligations.RegisterWritesStartTheirCommands : Prop := ∀ (s : State) (src : Src) (off : Fin 0x4000000) (v : Word32), off.val % 4 = 0 →
  (∀ pg k i, pg % 0x1000 = 0 → pageOf pg = some (k, i) → srcKey src off = pg + 0x1C → WriteRuns s src off v (.evtSet src pg v)) ∧
  (∀ (i : Fin 72) (m : Fin 16), ∀ e ∈ [(0x50, Instr.park src i v), (0x54, .sprRun src i v), (0x70, .csCommit src i v), (0x74, .csTestRequest src i v),
      (0x80 + 4 * m.val, .patchMatchWrite src i m v)], srcKey src off = pgSPR i + e.1 → WriteRuns s src off v e.2) ∧
  (∀ (b : Fin 64) (j : Fin 8) (bank : Fin 32), ∀ e ∈ [(0x40 + 4 * j.val, Instr.ownerWrite src b j v), (0x200 + 4 * bank.val, .repairWrite src b bank v)],
    srcKey src off = pgBST b + e.1 → WriteRuns s src off v e.2) ∧
  (∀ b : Fin 64, fldOf BST_FENCE_REQ v = 1 → srcKey src off = pgBST b + 0x68 → WriteRuns s src off v (.fenceRequest src b)) ∧
  (∀ (b : Fin 64) (mode : Fin 4), fldOf BST_MARCH_GO v = 1 → fldOf BST_MARCH_MODE v = mode.val → srcKey src off = pgBST b + 0x70 →
    WriteRuns s src off v (.marchRequest src b mode)) ∧
  (∀ (b : Fin 64) (e : Fin 96) (k : Fin 4), (srcKey src off = pgSLT b + 0x400 + 32 * e.val + 4 * k.val → WriteRuns s src off v (.modulusValueWrite src b e k v)) ∧
    (srcKey src off = pgSLT b + 0x400 + 32 * e.val + 16 → WriteRuns s src off v (.modulusEntryCheck src b e v))) ∧
  (∀ (n : Fin 4), (srcKey src off = pgYLM n + 0x5C → WriteRuns s src off v (.kat src n v)) ∧
    (srcKey src off = pgPHY n + 0x44 → fldOf PHY_TRAIN_GO v = 1 → fldOf PHY_TRAIN_ABORT v = 0 → WriteRuns s src off v (.trainStart src n)) ∧
    (srcKey src off = pgPHY n + 0x44 → fldOf PHY_TRAIN_GO v = 0 → fldOf PHY_TRAIN_ABORT v = 1 → WriteRuns s src off v (.abort src n)) ∧
    (srcKey src off = pgFSC + 0x80 + 0x10 * n.val → WriteRuns s src off v (.patternRestart src n v))) ∧
  (∀ (g : Fin 2) (m : Fin 32), (srcKey src off = pgGAB g + 0x60 → WriteRuns s src off v (.gableMarch src g v)) ∧
    (srcKey src off = pgGAB g + 0x80 + 4 * m.val → WriteRuns s src off v (.gablePatchWrite src g m v)) ∧
    (srcKey src off = pgGAB g + 0x48 → v = 1 → WriteRuns s src off v (.stop src g)) ∧
    (srcKey src off = pgGAB g + 0x48 → v = 2 → WriteRuns s src off v (.start src g)) ∧
    (srcKey src off = pgGAB g + 0x48 → v = 4 → WriteRuns s src off v (.gableReset src g))) ∧
  (∀ (n : Fin 256) (h : Fin 16) (g : Fin 2), (srcKey src off = pgIRQ + 0x400 + 4 * n.val → WriteRuns s src off v (.irqSrcWrite src n v)) ∧
    (v.toNat = n.val → (srcKey src off = pgIRQ + 0x48 → WriteRuns s src off v (.irqComplete src n)) ∧
      (srcKey src off = pgIRQ + 0x58 → WriteRuns s src off v (.irqHcomplete src n))) ∧
    (v.toNat = h.val → srcKey src off = pgIRQ + 0x50 → WriteRuns s src off v (.irqSet src h)) ∧
    (v.toNat = h.val + 256 * g.val → srcKey src off = pgIRQ + 0x54 → WriteRuns s src off v (.irqXset src g h))) ∧
  (∀ (q : Fin 2) (f p : Fin 16), (∀ e ∈ [(1, Instr.create src q), (2, .free src q), (3, .pin src q), (4, .unpin src q), (5, .evict src q), (6, .fetch src q), (7, .query src q),
      (8, .stGrant src q), (9, .stFree src q)], fldOf PUR_CMD_OP v = e.1 → srcKey src off = pgPUR + 0xD0 + 0x20 * q.val → WriteRuns s src off v e.2) ∧
    (fldOf PUE_PRI_FUNC v = f.val → fldOf PUE_PRI_PRIO v = p.val → srcKey src off = pgPUE + 0x114 + 0x10 * q.val → WriteRuns s src off v (.priorityChange src q f p)) ∧
    (v.getLsbD 31 = true → v.toNat % 16 = f.val → srcKey src off = pgEAV + 0x64 + 0x10 * q.val → WriteRuns s src off v (.submit src q f))) ∧
  (∀ (w : Fin 8) (h : Fin (2 ^ 24)) (tail : Fin 4096) (q : Fin 64) (g : Fin 2) (dest : Fin 16),
    (v.toNat % 2 ^ 24 = h.val → srcKey src off = pgEAV + 0xC0 + 4 * w.val → WriteRuns s src off v (.windowMap src w (v.getLsbD 31) h)) ∧
    (v.toNat % 4096 = tail.val → srcKey src off = pgGUT + 0x10C + 0x20 * w.val → WriteRuns s src off v (.gutterDoorbell src w tail)) ∧
    (v.toNat % 2 ^ 24 = h.val → srcKey src off = pgBTXC + 0x404 + 0x10 * q.val → WriteRuns s src off v (.postingWrite src q (v.getLsbD 31) h)) ∧
    (fldOf BTX_MSG_TXCTL_GO v = 1 → fldOf BTX_MSG_TXCTL_DEST v = dest.val → srcKey src off = pgBTXC + 0x120 + 0x80 * g.val →
      WriteRuns s src off v (.msgSend src g dest)) ∧
    (v.getLsbD 0 = true → srcKey src off = pgBTXC + 0x164 + 0x80 * g.val → WriteRuns s src off v (.rxpop src g))) ∧
  (∀ e ∈ [(pgCRS + 0x60, Instr.nextLenArm src v), (pgFLS + 0x64, .flsArm src v), (pgPWR + 0x48, .pwrAdv src v), (pgPWR + 0x70, .pmbTransaction src v),
      (pgDMR + 0x68, .dmrCommit src (v.getLsbD 0)), (pgDMR + 0x9C, .logClr src (v.getLsbD 0))], srcKey src off = e.1 → WriteRuns s src off v e.2) ∧
  (∀ e ∈ [(pgSFC + 0x50, 1, Instr.read src), (pgSFC + 0x50, 2, .prog src), (pgSFC + 0x50, 3, .erase src), (pgSFC + 0x50, 4, .readId src), (pgCRS + 0x8C, 1, .cancel src),
      (pgFSC + 0xD0, 1, .lampTest (some src)), (pgPWR + 0x44, 0x80000000, .onRequest (.req src)), (pgPWR + 0x44, 0x80000001, .offRequest (.req src false false)),
      (pgPWR + 0x44, 0x80000011, .offRequest (.req src true false)), (pgPWR + 0x44, 0x80000101, .offRequest (.req src false true)),
      (pgPWR + 0x44, 0x80000002, .idleRequest src), (pgPWR + 0x44, 0x80000003, .runRequest src), (pgEAV + 0x48, 0xA55A, .warmReset (.write src 0xA55A))],
    v.toNat = e.2.1 → srcKey src off = e.1 → WriteRuns s src off v e.2.2) ∧
  (∀ word : Fin 1024, ∀ e ∈ [(1, Instr.burn src word), (2, .mread src word), (3, .nread src word)], srcKey src off = pgFLS + 0x68 →
    v = flsWord e.1 0 word → WriteRuns s src off v e.2)

end
end

