-- ==== Sys2Proof/Laws/Pages.lean ====
section
/-! SUPPORT. Laws of the address map: every register of a page is found on that page (R99, R104). -/

namespace Sys2Proof.Machine

theorem pageOf_add (pg off : Nat) (h : pg % 0x1000 = 0) (ho : off < 0x1000) : pageOf (pg + off) = pageOf pg := by
  have e : (pg + off) / 0x1000 = pg / 0x1000 := by omega
  simp only [pageOf, e]

theorem pageOf_gab (g : Fin 2) (off : Nat) (h : off < 0x1000) : pageOf (pgGAB g + off) = some (.gab, g.val) := by
  rw [pageOf_add _ _ (by simp only [pgGAB]; omega) h]; revert g; decide

theorem pageOf_hbm (n : Fin 4) (off : Nat) (h : off < 0x1000) : pageOf (pgHBM n + off) = some (.hbm, n.val) := by
  rw [pageOf_add _ _ (by simp only [pgHBM]; omega) h]; revert n; decide

theorem pageOf_phy (n : Fin 4) (off : Nat) (h : off < 0x1000) : pageOf (pgPHY n + off) = some (.phy, n.val) := by
  rw [pageOf_add _ _ (by simp only [pgPHY]; omega) h]; revert n; decide

theorem pageOf_ylm (y : Fin 4) (off : Nat) (h : off < 0x1000) : pageOf (pgYLM y + off) = some (.ylm, y.val) := by
  rw [pageOf_add _ _ (by simp only [pgYLM]; omega) h]; revert y; decide

theorem pageOf_stk (n : Fin 4) (off : Nat) (h : off < 0x1000) : pageOf (pgSTK n + off) = some (.stk, n.val) := by
  rw [pageOf_add _ _ (by simp only [pgSTK]; omega) h]; revert n; decide

theorem pageOf_lig (m : Fin 16) (off : Nat) (h : off < 0x1000) : pageOf (pgLIG m + off) = some (.lig, m.val) := by
  rw [pageOf_add _ _ (by simp only [pgLIG]; omega) h]; revert m; decide

theorem pageOf_btn (b : Fin 64) (off : Nat) (h : off < 0x1000) : pageOf (pgBTN b + off) = some (.btn, b.val) := by
  rw [pageOf_add _ _ (by simp only [pgBTN]; omega) h]; revert b; decide

theorem pageOf_bst (b : Fin 64) (off : Nat) (h : off < 0x1000) : pageOf (pgBST b + off) = some (.bst, b.val) := by
  rw [pageOf_add _ _ (by simp only [pgBST]; omega) h]; revert b; decide

theorem pageOf_slt (b : Fin 64) (off : Nat) (h : off < 0x1000) : pageOf (pgSLT b + off) = some (.slt, b.val) := by
  rw [pageOf_add _ _ (by simp only [pgSLT]; omega) h]; revert b; decide

theorem pgSPR_mod (i : Nat) : pgSPR i % 0x1000 = 0 := by
  unfold pgSPR; split
  · omega
  · split <;> omega

theorem pageOf_spr (i : Fin 72) (off : Nat) (h : off < 0x1000) : pageOf (pgSPR i + off) = some (.spr, i.val) := by
  rw [pageOf_add _ _ (pgSPR_mod i) h]; revert i; decide

theorem pageOf_vmb (v : Fin 8) (off : Nat) (h : off < 0x1000) :
    pageOf (pgVMB (v.val + 1) + off) = some (.vmb, v.val + 1) := by
  rw [pageOf_add _ _ (by simp only [pgVMB, vfBar]; omega) h]; revert v; decide

theorem pageOf_vdb (v : Fin 8) (off : Nat) (h : off < 0x1000) :
    pageOf (pgVDB (v.val + 1) + off) = some (.vdb, v.val + 1) := by
  rw [pageOf_add _ _ (by simp only [pgVDB, vfBar]; omega) h]; revert v; decide

theorem pageOf_vfc (v : Fin 8) (off : Nat) (h : off < 0x1000) :
    pageOf (pgVFC (v.val + 1) + off) = some (.vfc, v.val + 1) := by
  rw [pageOf_add _ _ (by simp only [pgVFC, vfBar]; omega) h]; revert v; decide

/-- The pages without instances. -/
theorem pageOf_single (p : Nat) (off : Nat) (h : off < 0x1000) :
    pageOf (p * 0x1000 + off) = pageOf (p * 0x1000) := pageOf_add _ _ (by omega) h

end Sys2Proof.Machine
end

