-- ==== Sys2Proof/Laws/Sparse.lean ====
section
/-! SUPPORT. Laws of sparse storage: what a read finds after a write, and that every operation keeps the canonical form. -/

namespace Sys2Proof.Machine

variable {α : Type}

@[simp] theorem smGet_nil (d : Nat → α) (k : Nat) : smGet d [] k = d k := rfl

theorem smGet_smErase (d : Nat → α) (m : SMap α) (k j : Nat) :
    smGet d (smErase m k) j = if j = k then d k else smGet d m j := by
  induction m with
  | nil => simp only [smErase, smGet_nil]; split <;> simp_all
  | cons e r ih =>
    obtain ⟨a, v⟩ := e
    by_cases h : a = k
    · simp only [smErase, h, if_true, ih, smGet]
      by_cases hj : j = k
      · simp [hj]
      · simp [hj, Ne.symm hj]
    · simp only [smErase, h, if_false, smGet, ih]
      by_cases hj : j = k
      · subst hj; simp [h]
      · simp [hj]

theorem smGet_smInsert (d : Nat → α) (m : SMap α) (k : Nat) (v : α) (j : Nat) (hk : ∀ e ∈ m, e.1 ≠ k) :
    smGet d (smInsert k v m) j = if j = k then v else smGet d m j := by
  induction m with
  | nil => simp only [smInsert, smGet, eq_comm (a := k)]
  | cons e r ih =>
    obtain ⟨a, w⟩ := e
    have ha : a ≠ k := hk (a, w) (by simp)
    have hr : ∀ e ∈ r, e.1 ≠ k := fun e he => hk e (by simp [he])
    by_cases hlt : k < a
    · simp only [smInsert, hlt, if_true, smGet, eq_comm (a := k)]
    · simp only [smInsert, hlt, if_false, smGet, ih hr]
      by_cases hj : j = k
      · subst hj; simp [ha]
      · simp [hj]

theorem smErase_no_key (m : SMap α) (k : Nat) : ∀ e ∈ smErase m k, e.1 ≠ k := by
  induction m with
  | nil => simp [smErase]
  | cons e r ih =>
    obtain ⟨a, v⟩ := e
    by_cases h : a = k
    · simpa [smErase, h] using ih
    · intro e he
      simp only [smErase, h, if_false, List.mem_cons] at he
      rcases he with rfl | he
      · exact h
      · exact ih e he

/-- A read after a write: the value at the written key, and every other key as before. -/
theorem smGet_smSet [DecidableEq α] (d : Nat → α) (m : SMap α) (k : Nat) (v : α) (j : Nat) :
    smGet d (smSet d m k v) j = if j = k then v else smGet d m j := by
  unfold smSet
  by_cases h : v = d k
  · rw [if_pos h, smGet_smErase, h]
  · rw [if_neg h, smGet_smInsert d _ k v j (smErase_no_key m k)]
    by_cases hj : j = k
    · simp [hj]
    · simp [hj, smGet_smErase]

@[simp] theorem smGet_smSet_same [DecidableEq α] (d : Nat → α) (m : SMap α) (k : Nat) (v : α) :
    smGet d (smSet d m k v) k = v := by simp [smGet_smSet]

theorem smGet_smSet_ne [DecidableEq α] (d : Nat → α) (m : SMap α) (k : Nat) (v : α) {j : Nat} (h : j ≠ k) :
    smGet d (smSet d m k v) j = smGet d m j := by simp [smGet_smSet, h]

theorem smGet_smErase_ne (d : Nat → α) (m : SMap α) {k j : Nat} (h : j ≠ k) :
    smGet d (smErase m k) j = smGet d m j := by simp [smGet_smErase, h]

@[simp] theorem smGet_smErase_same (d : Nat → α) (m : SMap α) (k : Nat) : smGet d (smErase m k) k = d k := by
  simp [smGet_smErase]

/-- Dropped keys read as unlisted; the others as before. -/
theorem smGet_smDrop (d : Nat → α) (p : Nat → Bool) (m : SMap α) (j : Nat) :
    smGet d (smDrop p m) j = if p j then d j else smGet d m j := by
  unfold smDrop
  induction m with
  | nil => simp
  | cons e r ih =>
    obtain ⟨a, v⟩ := e
    by_cases h : p a
    · simp only [List.filter, h, Bool.not_true, ih, smGet]
      by_cases hj : a = j
      · subst hj; simp [h]
      · simp [hj]
    · simp only [List.filter, h, Bool.not_false, smGet, ih]
      by_cases hj : a = j
      · subst hj; simp [h]
      · simp [hj]

/-- Keys outside the list are untouched by a write of several. -/
theorem smGet_smSetMany_ne [DecidableEq α] (d : Nat → α) (l : List (Nat × α)) (m : SMap α) (j : Nat)
    (h : ∀ e ∈ l, e.1 ≠ j) : smGet d (smSetMany d m l) j = smGet d m j := by
  induction l generalizing m with
  | nil => rfl
  | cons e r ih =>
    obtain ⟨k, v⟩ := e
    rw [smSetMany, ih _ (fun e he => h e (by simp [he])), smGet_smSet_ne]
    exact fun hj => h (k, v) (by simp) hj.symm

/-! ## The canonical form -/

theorem smErase_all_lt (m : SMap α) (k a : Nat) (h : ∀ e ∈ m, a < e.1) : ∀ e ∈ smErase m k, a < e.1 := by
  induction m with
  | nil => simp [smErase]
  | cons e r ih =>
    obtain ⟨b, v⟩ := e
    by_cases hb : b = k
    · simpa [smErase, hb] using ih (fun e he => h e (by simp [he]))
    · intro e he
      simp only [smErase, hb, if_false, List.mem_cons] at he
      rcases he with rfl | he
      · exact h _ (by simp)
      · exact ih (fun e he => h e (by simp [he])) e he

theorem smInsert_all_lt (m : SMap α) (k : Nat) (v : α) (a : Nat) (hk : a < k) (h : ∀ e ∈ m, a < e.1) :
    ∀ e ∈ smInsert k v m, a < e.1 := by
  induction m with
  | nil => simpa [smInsert] using hk
  | cons e r ih =>
    obtain ⟨b, w⟩ := e
    by_cases hb : k < b
    · intro e he
      simp only [smInsert, hb, if_true, List.mem_cons] at he
      rcases he with rfl | rfl | he
      · exact hk
      · exact h _ (by simp)
      · exact h _ (by simp [he])
    · intro e he
      simp only [smInsert, hb, if_false, List.mem_cons] at he
      rcases he with rfl | he
      · exact h _ (by simp)
      · exact ih (fun e he => h e (by simp [he])) e he

theorem smWf_cons [DecidableEq α] (d : Nat → α) (a : Nat) (v : α) (r : SMap α) :
    smWf d ((a, v) :: r) = true ↔ v ≠ d a ∧ (∀ e ∈ r, a < e.1) ∧ smWf d r = true := by
  simp [smWf, and_assoc]

theorem smWf_smErase [DecidableEq α] (d : Nat → α) (m : SMap α) (k : Nat) (h : smWf d m = true) :
    smWf d (smErase m k) = true := by
  induction m with
  | nil => rfl
  | cons e r ih =>
    obtain ⟨a, v⟩ := e
    obtain ⟨h1, h2, h3⟩ := (smWf_cons d a v r).1 h
    by_cases ha : a = k
    · simpa [smErase, ha] using ih h3
    · simp only [smErase, ha, if_false]
      exact (smWf_cons d a v _).2 ⟨h1, smErase_all_lt r k a h2, ih h3⟩

theorem smWf_smInsert [DecidableEq α] (d : Nat → α) (m : SMap α) (k : Nat) (v : α) (hv : v ≠ d k)
    (hk : ∀ e ∈ m, e.1 ≠ k) (h : smWf d m = true) : smWf d (smInsert k v m) = true := by
  induction m with
  | nil => simp [smInsert, smWf, hv]
  | cons e r ih =>
    obtain ⟨a, w⟩ := e
    obtain ⟨h1, h2, h3⟩ := (smWf_cons d a w r).1 h
    have ha : a ≠ k := hk (a, w) (by simp)
    by_cases hlt : k < a
    · simp only [smInsert, hlt, if_true]
      refine (smWf_cons d k v _).2 ⟨hv, ?_, h⟩
      intro e he
      rcases List.mem_cons.1 he with rfl | he
      · exact hlt
      · exact Nat.lt_trans hlt (h2 e he)
    · simp only [smInsert, hlt, if_false]
      exact (smWf_cons d a w _).2 ⟨h1, smInsert_all_lt r k v a (by omega) h2, ih (fun e he => hk e (by simp [he])) h3⟩

/-- A write keeps the canonical form. -/
theorem smWf_smSet [DecidableEq α] (d : Nat → α) (m : SMap α) (k : Nat) (v : α) (h : smWf d m = true) :
    smWf d (smSet d m k v) = true := by
  unfold smSet
  split
  · exact smWf_smErase d m k h
  · next hv => exact smWf_smInsert d _ k v hv (smErase_no_key m k) (smWf_smErase d m k h)

theorem smWf_smSetMany [DecidableEq α] (d : Nat → α) (l : List (Nat × α)) (m : SMap α) (h : smWf d m = true) :
    smWf d (smSetMany d m l) = true := by
  induction l generalizing m with
  | nil => exact h
  | cons e r ih => exact ih _ (smWf_smSet d m e.1 e.2 h)

theorem smWf_smDrop [DecidableEq α] (d : Nat → α) (p : Nat → Bool) (m : SMap α) (h : smWf d m = true) :
    smWf d (smDrop p m) = true := by
  unfold smDrop
  induction m with
  | nil => rfl
  | cons e r ih =>
    obtain ⟨a, v⟩ := e
    obtain ⟨h1, h2, h3⟩ := (smWf_cons d a v r).1 h
    by_cases hp : p a
    · simpa [List.filter, hp] using ih h3
    · simp only [List.filter, hp, Bool.not_false]
      refine (smWf_cons d a v _).2 ⟨h1, ?_, ih h3⟩
      intro e he
      exact h2 e (List.mem_filter.1 he).1

end Sys2Proof.Machine
end

