-- ==== Sys2Proof/Laws/Regs.lean ====
section
/-! SUPPORT. Laws of register fields: what a field reads after a write of it, of another field of its register, and of another register. -/

namespace Sys2Proof.Machine

/-! ## Fields of a word -/

theorem fieldSet_toNat (x : Word32) (sh w v : Nat) (h : sh + w ≤ 32) :
    (fieldSet x sh w v).toNat = x.toNat % 2 ^ sh + v % 2 ^ w * 2 ^ sh + x.toNat / 2 ^ (sh + w) * 2 ^ (sh + w) := by
  have hx : x.toNat < 2 ^ 32 := x.isLt
  have hp : 2 ^ (sh + w) = 2 ^ w * 2 ^ sh := by rw [Nat.pow_add, Nat.mul_comm]
  have h32 : (2 : Nat) ^ 32 = 2 ^ (32 - (sh + w)) * 2 ^ (sh + w) := by rw [← Nat.pow_add]; congr 1; omega
  have h1 : x.toNat % 2 ^ sh < 2 ^ sh := Nat.mod_lt _ (Nat.two_pow_pos _)
  have h2 : v % 2 ^ w < 2 ^ w := Nat.mod_lt _ (Nat.two_pow_pos _)
  have h3 : x.toNat / 2 ^ (sh + w) < 2 ^ (32 - (sh + w)) := by
    rw [Nat.div_lt_iff_lt_mul (Nat.two_pow_pos _), ← h32]; exact hx
  have h4 : v % 2 ^ w * 2 ^ sh + 2 ^ sh ≤ 2 ^ (sh + w) := by
    rw [hp, ← Nat.succ_mul]; exact Nat.mul_le_mul_right _ h2
  have h5 : x.toNat / 2 ^ (sh + w) * 2 ^ (sh + w) + 2 ^ (sh + w) ≤ 2 ^ 32 := by
    rw [h32, ← Nat.succ_mul]; exact Nat.mul_le_mul_right _ h3
  simp only [fieldSet, BitVec.toNat_ofNat]
  exact Nat.mod_eq_of_lt (by omega)

/-- A field reads what was written to it, cut to its width. -/
theorem fieldGet_fieldSet (x : Word32) (sh w v : Nat) (h : sh + w ≤ 32) :
    fieldGet (fieldSet x sh w v) sh w = v % 2 ^ w := by
  have hp : 2 ^ (sh + w) = 2 ^ w * 2 ^ sh := by rw [Nat.pow_add, Nat.mul_comm]
  have h1 : x.toNat % 2 ^ sh < 2 ^ sh := Nat.mod_lt _ (Nat.two_pow_pos _)
  unfold fieldGet
  rw [fieldSet_toNat x sh w v h]
  have e : x.toNat % 2 ^ sh + v % 2 ^ w * 2 ^ sh + x.toNat / 2 ^ (sh + w) * 2 ^ (sh + w)
      = x.toNat % 2 ^ sh + (v % 2 ^ w + 2 ^ w * (x.toNat / 2 ^ (sh + w))) * 2 ^ sh := by
    generalize x.toNat / 2 ^ (sh + w) = z
    rw [hp]
    simp only [Nat.mul_add, Nat.mul_comm, Nat.mul_left_comm, Nat.add_assoc]
  rw [e, Nat.add_mul_div_right _ _ (Nat.two_pow_pos _), Nat.div_eq_of_lt h1, Nat.zero_add,
    Nat.add_mul_mod_self_left, Nat.mod_mod]

/-- Bits of a word below a field that is written stay, and so do bits above it. -/
theorem fieldGet_fieldSet_of_disjoint (x : Word32) (sh w v sh' w' : Nat) (h : sh + w ≤ 32)
    (hd : sh' + w' ≤ sh ∨ sh + w ≤ sh') : fieldGet (fieldSet x sh w v) sh' w' = fieldGet x sh' w' := by
  have hp : 2 ^ (sh + w) = 2 ^ w * 2 ^ sh := by rw [Nat.pow_add, Nat.mul_comm]
  have h1 : x.toNat % 2 ^ sh < 2 ^ sh := Nat.mod_lt _ (Nat.two_pow_pos _)
  have h2 : v % 2 ^ w < 2 ^ w := Nat.mod_lt _ (Nat.two_pow_pos _)
  have h4 : v % 2 ^ w * 2 ^ sh + 2 ^ sh ≤ 2 ^ (sh + w) := by
    rw [hp, ← Nat.succ_mul]; exact Nat.mul_le_mul_right _ h2
  have hlow : ∀ y k a b : Nat, a + b ≤ k → y / 2 ^ a % 2 ^ b = y % 2 ^ k / 2 ^ a % 2 ^ b := by
    intro y k a b hab
    have e : (2 : Nat) ^ k = 2 ^ a * (2 ^ b * 2 ^ (k - a - b)) := by
      rw [← Nat.pow_add, ← Nat.pow_add]; congr 1; omega
    rw [e, Nat.mod_mul_right_div_self, Nat.mod_mul_right_mod]
  have hhigh : ∀ y k a : Nat, k ≤ a → y / 2 ^ a = y / 2 ^ k / 2 ^ (a - k) := by
    intro y k a hka
    rw [Nat.div_div_eq_div_mul, ← Nat.pow_add]; congr 2; omega
  unfold fieldGet
  rw [fieldSet_toNat x sh w v h]
  rcases hd with hd | hd
  · rw [hlow _ sh sh' w' hd, hlow x.toNat sh sh' w' hd]
    congr 2
    have e : x.toNat % 2 ^ sh + v % 2 ^ w * 2 ^ sh + x.toNat / 2 ^ (sh + w) * 2 ^ (sh + w)
        = x.toNat % 2 ^ sh + 2 ^ sh * (v % 2 ^ w + 2 ^ w * (x.toNat / 2 ^ (sh + w))) := by
      generalize x.toNat / 2 ^ (sh + w) = z
      rw [hp]
      simp only [Nat.mul_add, Nat.mul_comm, Nat.mul_left_comm, Nat.add_assoc]
    rw [e, Nat.add_mul_mod_self_left, Nat.mod_mod]
  · rw [hhigh _ (sh + w) sh' hd, hhigh x.toNat (sh + w) sh' hd]
    congr 2
    rw [Nat.add_mul_div_right _ _ (Nat.two_pow_pos _), Nat.div_eq_of_lt (by omega), Nat.zero_add]

/-! ## Fields of a page -/

/-- Every instance of the field lies within its register. -/
def Fld.ok (f : Fld) : Bool := decide (0 < f.nb) && decide (f.lo + f.sb * (f.nb - 1) + f.width ≤ 32)

theorem Fld.ok_sh {f : Fld} (h : f.ok = true) (i : Nat) : f.sh i + f.width ≤ 32 := by
  simp only [Fld.ok, Bool.and_eq_true, decide_eq_true_eq] at h
  have hi : i % f.nb ≤ f.nb - 1 := by have := Nat.mod_lt i h.1; omega
  have := Nat.mul_le_mul_left f.sb hi
  unfold Fld.sh; omega

theorem reg_setReg (s : State) (k : Nat) (v : Word32) (j : Nat) :
    (s.setReg k v).reg j = if j = k then v else s.reg j := smGet_smSet ..

@[simp] theorem reg_setReg_same (s : State) (k : Nat) (v : Word32) : (s.setReg k v).reg k = v := by simp [reg_setReg]

theorem reg_setReg_ne (s : State) (k : Nat) (v : Word32) {j : Nat} (h : j ≠ k) : (s.setReg k v).reg j = s.reg j := by
  simp [reg_setReg, h]

/-- A write of a field leaves every other register. -/
theorem reg_wf_ne (s : State) (pg : Nat) (f : Fld) (v i : Nat) {j : Nat} (h : j ≠ pg + f.addr i) :
    (s.wf pg f v i).reg j = s.reg j := reg_setReg_ne _ _ _ h

/-- A field reads what was written to it, cut to its width. -/
theorem rf_wf_same (s : State) (pg : Nat) (f : Fld) (v i : Nat) (hf : f.ok = true) :
    (s.wf pg f v i).rf pg f i = v % 2 ^ f.width := by
  simp only [State.rf, State.wf, reg_setReg_same]
  exact fieldGet_fieldSet _ _ _ _ (f.ok_sh hf i)

/-- A field of another register is unchanged. -/
theorem rf_wf_ne (s : State) (pg : Nat) (f : Fld) (v i : Nat) (pg' : Nat) (f' : Fld) (i' : Nat)
    (h : pg' + f'.addr i' ≠ pg + f.addr i) : (s.wf pg f v i).rf pg' f' i' = s.rf pg' f' i' := by
  simp only [State.rf, reg_wf_ne s pg f v i h]

/-- A field whose bits the written field does not meet is unchanged. -/
theorem rf_wf_of_disjoint (s : State) (pg : Nat) (f : Fld) (v i : Nat) (f' : Fld) (i' : Nat) (hf : f.ok = true)
    (hd : f'.sh i' + f'.width ≤ f.sh i ∨ f.sh i + f.width ≤ f'.sh i') :
    (s.wf pg f v i).rf pg f' i' = s.rf pg f' i' := by
  by_cases h : pg + f'.addr i' = pg + f.addr i
  · simp only [State.rf, State.wf, h, reg_setReg_same]
    exact fieldGet_fieldSet_of_disjoint _ _ _ _ _ _ (f.ok_sh hf i) hd
  · exact rf_wf_ne s pg f v i pg f' i' h

theorem bit_wf_same (s : State) (pg : Nat) (f : Fld) (v i : Nat) (hf : f.ok = true) :
    (s.wf pg f v i).bit pg f i = (v % 2 ^ f.width != 0) := by
  simp only [State.bit, rf_wf_same s pg f v i hf]

theorem bit_wf_ne (s : State) (pg : Nat) (f : Fld) (v i : Nat) (pg' : Nat) (f' : Fld) (i' : Nat)
    (h : pg' + f'.addr i' ≠ pg + f.addr i) : (s.wf pg f v i).bit pg' f' i' = s.bit pg' f' i' := by
  simp only [State.bit, rf_wf_ne s pg f v i pg' f' i' h]

theorem bit_wf_of_disjoint (s : State) (pg : Nat) (f : Fld) (v i : Nat) (f' : Fld) (i' : Nat) (hf : f.ok = true)
    (hd : f'.sh i' + f'.width ≤ f.sh i ∨ f.sh i + f.width ≤ f'.sh i') :
    (s.wf pg f v i).bit pg f' i' = s.bit pg f' i' := by
  simp only [State.bit, rf_wf_of_disjoint s pg f v i f' i' hf hd]

/-- R81: a raised event reads 1. -/
theorem rf_raise (s : State) (pg b : Nat) (hb : b < 32) :
    (s.raise pg b).rf pg PG_EVT_RAW = s.rf pg PG_EVT_RAW ||| 2 ^ b := by
  have h1 : s.rf pg PG_EVT_RAW < 2 ^ 32 := Nat.mod_lt _ (Nat.two_pow_pos _)
  have h2 : 2 ^ b < 2 ^ 32 := Nat.pow_lt_pow_right (by omega) hb
  rw [State.raise, rf_wf_same _ _ _ _ _ rfl]
  exact Nat.mod_eq_of_lt (Nat.or_lt_two_pow h1 h2)

theorem reg_raise_ne (s : State) (pg b : Nat) {j : Nat} (h : j ≠ pg + 0x10) : (s.raise pg b).reg j = s.reg j :=
  reg_wf_ne _ _ _ _ _ h

theorem rf_lt (s : State) (pg : Nat) (f : Fld) (i : Nat) : s.rf pg f i < 2 ^ f.width :=
  Nat.mod_lt _ (Nat.two_pow_pos _)

end Sys2Proof.Machine
end

