-- ==== Sys2Proof/Laws/Irq.lean ====
section
/-! SUPPORT. What the interrupt controller does after a command: it writes the STATE of page sources, their LOST registers, PG_EVT_RAW of the IRQ page, and what it keeps of ACTIVE sources, and nothing else. -/

namespace Sys2Proof.Machine

/-- Equal but for the interrupt controller's registers and what it keeps. -/
def IrqOnly (s t : State) : Prop :=
  (∀ k, irqOwn k = false → t.reg k = s.reg k) ∧ ∃ r q, t = { s with regs := r, irq := q }

theorem IrqOnly.refl (s : State) : IrqOnly s s := ⟨fun _ _ => rfl, s.regs, s.irq, rfl⟩

theorem IrqOnly.trans {s t u : State} (h1 : IrqOnly s t) (h2 : IrqOnly t u) : IrqOnly s u := by
  obtain ⟨a1, r1, q1, rfl⟩ := h1
  obtain ⟨a2, r2, q2, rfl⟩ := h2
  exact ⟨fun k hk => (a2 k hk).trans (a1 k hk), r2, q2, rfl⟩

theorem IrqOnly.wf {s t : State} (h : IrqOnly s t) (pg : Nat) (f : Fld) (v i : Nat)
    (hk : irqOwn (pg + f.addr i) = true) : IrqOnly s (t.wf pg f v i) :=
  h.trans ⟨fun k hk' => reg_wf_ne _ _ _ _ _ (by rintro rfl; simp [hk] at hk'), _, _, rfl⟩

theorem IrqOnly.irq {s t : State} (h : IrqOnly s t) (q : IrqSt) : IrqOnly s { t with irq := q } :=
  h.trans ⟨fun _ _ => rfl, _, _, rfl⟩

theorem irqOwn_src (n : Nat) : irqOwn (pgIRQ + IRQ_SRC_STATE.addr n) = true := by
  simp [irqOwn, IRQ_SRC_STATE, Fld.addr, pgIRQ]; omega

theorem irqOwn_lost (n : Nat) : irqOwn (pgIRQ + IRQ_LOST_LOST.addr n) = true := by
  simp [irqOwn, IRQ_LOST_LOST, Fld.addr, pgIRQ]; omega

theorem irqOwn_count (n : Nat) : irqOwn (pgIRQ + IRQ_LOST_COUNT.addr n) = true := by
  simp [irqOwn, IRQ_LOST_COUNT, Fld.addr, pgIRQ]; omega

theorem irqEvent_only (s : State) (n : Nat) (h32 : 32 ≤ n) : IrqOnly s (s.irqEvent 0 n) := by
  have hp : irqPage 0 n = pgIRQ := by simp [irqPage, Nat.not_lt.2 h32]
  unfold State.irqEvent State.irqLose
  simp only [hp]
  split
  · exact (IrqOnly.refl s).wf _ _ _ _ (irqOwn_src n)
  · split
    · exact (((IrqOnly.refl s).wf _ _ _ _ (irqOwn_lost n)).wf _ _ _ _ (irqOwn_count n)).wf _ _ _ _ (by decide)
    · exact IrqOnly.refl s

theorem irqFall_only (s : State) (n : Nat) (h32 : 32 ≤ n) : IrqOnly s (s.irqFall n) := by
  have hp : irqPage 0 n = pgIRQ := by simp [irqPage, Nat.not_lt.2 h32]
  unfold State.irqFall State.irqIdle
  simp only [hp, Nat.not_lt.2 h32, if_false]
  split
  · exact (IrqOnly.refl s).wf _ _ _ _ (irqOwn_src n)
  · split
    · exact ((IrqOnly.refl s).wf _ _ _ _ (irqOwn_src n)).irq _
    · exact IrqOnly.refl s

theorem irqSettleOne_only (old new : State) (n : Nat) (s : State) (h32 : 32 ≤ n) :
    IrqOnly s (irqSettleOne old new n s) := by
  unfold irqSettleOne
  split
  · exact irqEvent_only s n h32
  · split
    · exact IrqOnly.refl s
    · exact irqFall_only s n h32

theorem IrqOnly.foldl {α : Type} (f : State → α → State) (l : List α) (hf : ∀ s, ∀ a ∈ l, IrqOnly s (f s a)) (s : State) :
    IrqOnly s (l.foldl f s) := by
  induction l generalizing s with
  | nil => exact IrqOnly.refl s
  | cons a r ih => exact (hf s a (by simp)).trans (ih (fun s b hb => hf s b (by simp [hb])) _)

/-- R460: all that the interrupt controller does after a command. -/
theorem irqSettle_only (old new : State) : IrqOnly new (irqSettle old new) := by
  unfold irqSettle
  refine IrqOnly.trans (IrqOnly.trans (IrqOnly.foldl _ _ ?_ _) (irqSettleOne_only _ _ 39 _ (by omega)))
    (irqSettleOne_only _ _ 39 _ (by omega))
  intro s n hn
  simp only [List.mem_filter, List.mem_range, Bool.and_eq_true, decide_eq_true_eq] at hn
  exact irqSettleOne_only _ _ _ _ hn.2.1.1

/-- The state that a meaning's outcome holds. -/
def settled (old new : State) : State := { irqSettle old new with pending := old.pending }

theorem done_eq (old new : State) : done old new = .next (settled old new) := rfl

/-- Registers of every page but the IRQ page are not the interrupt controller's own. -/
theorem irqOwn_off_page (pg off : Nat) (h : pg % 0x1000 = 0) (hne : pg ≠ 0x7000) (ho : off < 0x1000) :
    irqOwn (pg + off) = false := by
  have : ¬ (pg + off = 0x7010) := by omega
  have : ¬ (0x7400 ≤ pg + off ∧ pg + off < 0x7C00) := by omega
  simp [irqOwn]; omega

/-- Header registers other than PG_EVT_RAW are not the interrupt controller's own on any page. -/
theorem irqOwn_header (pg off : Nat) (h : pg % 0x1000 = 0) (hne : off ≠ 0x10) (ho : off < 0x400) :
    irqOwn (pg + off) = false := by
  simp [irqOwn]; omega

theorem irqOwn_gab (g off : Nat) (ho : off < 0x1000) : irqOwn (pgGAB g + off) = false :=
  irqOwn_off_page _ _ (by simp only [pgGAB]; omega) (by simp only [pgGAB]; omega) ho

theorem irqOwn_hbm (n off : Nat) (ho : off < 0x1000) : irqOwn (pgHBM n + off) = false :=
  irqOwn_off_page _ _ (by simp only [pgHBM]; omega) (by simp only [pgHBM]; omega) ho

theorem irqOwn_phy (n off : Nat) (ho : off < 0x1000) : irqOwn (pgPHY n + off) = false :=
  irqOwn_off_page _ _ (by simp only [pgPHY]; omega) (by simp only [pgPHY]; omega) ho

theorem irqOwn_ylm (y off : Nat) (ho : off < 0x1000) : irqOwn (pgYLM y + off) = false :=
  irqOwn_off_page _ _ (by simp only [pgYLM]; omega) (by simp only [pgYLM]; omega) ho

theorem irqOwn_stk (n off : Nat) (ho : off < 0x1000) : irqOwn (pgSTK n + off) = false :=
  irqOwn_off_page _ _ (by simp only [pgSTK]; omega) (by simp only [pgSTK]; omega) ho

theorem irqOwn_lig (m off : Nat) (ho : off < 0x1000) : irqOwn (pgLIG m + off) = false :=
  irqOwn_off_page _ _ (by simp only [pgLIG]; omega) (by simp only [pgLIG]; omega) ho

theorem irqOwn_btn (b off : Nat) (ho : off < 0x1000) : irqOwn (pgBTN b + off) = false :=
  irqOwn_off_page _ _ (by simp only [pgBTN]; omega) (by simp only [pgBTN]; omega) ho

theorem irqOwn_bst (b off : Nat) (ho : off < 0x1000) : irqOwn (pgBST b + off) = false :=
  irqOwn_off_page _ _ (by simp only [pgBST]; omega) (by simp only [pgBST]; omega) ho

theorem irqOwn_slt (b off : Nat) (ho : off < 0x1000) : irqOwn (pgSLT b + off) = false :=
  irqOwn_off_page _ _ (by simp only [pgSLT]; omega) (by simp only [pgSLT]; omega) ho

theorem irqOwn_vfc (v off : Nat) (ho : off < 0x1000) : irqOwn (pgVFC v + off) = false :=
  irqOwn_off_page _ _ (by simp only [pgVFC, vfBar]; omega) (by simp only [pgVFC, vfBar]; omega) ho

theorem irqOwn_vdb (v off : Nat) (ho : off < 0x1000) : irqOwn (pgVDB v + off) = false :=
  irqOwn_off_page _ _ (by simp only [pgVDB, vfBar]; omega) (by simp only [pgVDB, vfBar]; omega) ho

theorem irqOwn_vmb (v off : Nat) (ho : off < 0x1000) : irqOwn (pgVMB v + off) = false :=
  irqOwn_off_page _ _ (by simp only [pgVMB, vfBar]; omega) (by simp only [pgVMB, vfBar]; omega) ho

theorem irqOwn_spr (i off : Nat) (ho : off < 0x1000) : irqOwn (pgSPR i + off) = false :=
  irqOwn_off_page _ _ (pgSPR_mod i) (by unfold pgSPR; grind) ho

/-- A command's outcome has the effect's registers, but for the interrupt controller's own. -/
theorem settled_reg (old new : State) (k : Nat) (hk : irqOwn k = false) : (settled old new).reg k = new.reg k :=
  (irqSettle_only old new).1 k hk

theorem settled_rf (old new : State) (pg : Nat) (f : Fld) (i : Nat) (hk : irqOwn (pg + f.addr i) = false) :
    (settled old new).rf pg f i = new.rf pg f i := by
  simp only [State.rf, settled_reg old new _ hk]

theorem settled_bit (old new : State) (pg : Nat) (f : Fld) (i : Nat) (hk : irqOwn (pg + f.addr i) = false) :
    (settled old new).bit pg f i = new.bit pg f i := by
  simp only [State.bit, settled_rf old new pg f i hk]

/-- No command changes the queue. -/
@[simp] theorem settled_pending (old new : State) : (settled old new).pending = old.pending := rfl

@[simp] theorem settled_out (old new : State) : (settled old new).out = new.out := by
  obtain ⟨_, r, q, e⟩ := irqSettle_only old new; simp [settled, e]

@[simp] theorem settled_free (old new : State) : (settled old new).free = new.free := by
  obtain ⟨_, r, q, e⟩ := irqSettle_only old new; simp [settled, e]

@[simp] theorem settled_host (old new : State) : (settled old new).host = new.host := by
  obtain ⟨_, r, q, e⟩ := irqSettle_only old new; simp [settled, e]

@[simp] theorem settled_crs (old new : State) : (settled old new).crs = new.crs := by
  obtain ⟨_, r, q, e⟩ := irqSettle_only old new; simp [settled, e]

@[simp] theorem settled_pur (old new : State) : (settled old new).pur = new.pur := by
  obtain ⟨_, r, q, e⟩ := irqSettle_only old new; simp [settled, e]

@[simp] theorem settled_gov (old new : State) : (settled old new).gov = new.gov := by
  obtain ⟨_, r, q, e⟩ := irqSettle_only old new; simp [settled, e]

@[simp] theorem settled_store (old new : State) : (settled old new).store = new.store := by
  obtain ⟨_, r, q, e⟩ := irqSettle_only old new; simp [settled, e]

@[simp] theorem settled_bst (old new : State) : (settled old new).bst = new.bst := by
  obtain ⟨_, r, q, e⟩ := irqSettle_only old new; simp [settled, e]

@[simp] theorem settled_slt (old new : State) : (settled old new).slt = new.slt := by
  obtain ⟨_, r, q, e⟩ := irqSettle_only old new; simp [settled, e]

@[simp] theorem settled_lig (old new : State) : (settled old new).lig = new.lig := by
  obtain ⟨_, r, q, e⟩ := irqSettle_only old new; simp [settled, e]

@[simp] theorem settled_spr (old new : State) : (settled old new).spr = new.spr := by
  obtain ⟨_, r, q, e⟩ := irqSettle_only old new; simp [settled, e]

@[simp] theorem settled_cs (old new : State) : (settled old new).cs = new.cs := by
  obtain ⟨_, r, q, e⟩ := irqSettle_only old new; simp [settled, e]

@[simp] theorem settled_gab (old new : State) : (settled old new).gab = new.gab := by
  obtain ⟨_, r, q, e⟩ := irqSettle_only old new; simp [settled, e]

@[simp] theorem settled_gcode (old new : State) : (settled old new).gcode = new.gcode := by
  obtain ⟨_, r, q, e⟩ := irqSettle_only old new; simp [settled, e]

@[simp] theorem settled_gdata (old new : State) : (settled old new).gdata = new.gdata := by
  obtain ⟨_, r, q, e⟩ := irqSettle_only old new; simp [settled, e]

@[simp] theorem settled_gcs (old new : State) : (settled old new).gcs = new.gcs := by
  obtain ⟨_, r, q, e⟩ := irqSettle_only old new; simp [settled, e]

@[simp] theorem settled_gstage (old new : State) : (settled old new).gstage = new.gstage := by
  obtain ⟨_, r, q, e⟩ := irqSettle_only old new; simp [settled, e]

@[simp] theorem settled_hbm (old new : State) : (settled old new).hbm = new.hbm := by
  obtain ⟨_, r, q, e⟩ := irqSettle_only old new; simp [settled, e]

@[simp] theorem settled_ylm (old new : State) : (settled old new).ylm = new.ylm := by
  obtain ⟨_, r, q, e⟩ := irqSettle_only old new; simp [settled, e]

@[simp] theorem settled_stk (old new : State) : (settled old new).stk = new.stk := by
  obtain ⟨_, r, q, e⟩ := irqSettle_only old new; simp [settled, e]

@[simp] theorem settled_fls (old new : State) : (settled old new).fls = new.fls := by
  obtain ⟨_, r, q, e⟩ := irqSettle_only old new; simp [settled, e]

@[simp] theorem settled_sfc (old new : State) : (settled old new).sfc = new.sfc := by
  obtain ⟨_, r, q, e⟩ := irqSettle_only old new; simp [settled, e]

@[simp] theorem settled_fsc (old new : State) : (settled old new).fsc = new.fsc := by
  obtain ⟨_, r, q, e⟩ := irqSettle_only old new; simp [settled, e]

@[simp] theorem settled_tap (old new : State) : (settled old new).tap = new.tap := by
  obtain ⟨_, r, q, e⟩ := irqSettle_only old new; simp [settled, e]

@[simp] theorem settled_dmr (old new : State) : (settled old new).dmr = new.dmr := by
  obtain ⟨_, r, q, e⟩ := irqSettle_only old new; simp [settled, e]

@[simp] theorem settled_pwr (old new : State) : (settled old new).pwr = new.pwr := by
  obtain ⟨_, r, q, e⟩ := irqSettle_only old new; simp [settled, e]

@[simp] theorem settled_eav (old new : State) : (settled old new).eav = new.eav := by
  obtain ⟨_, r, q, e⟩ := irqSettle_only old new; simp [settled, e]

@[simp] theorem settled_btx (old new : State) : (settled old new).btx = new.btx := by
  obtain ⟨_, r, q, e⟩ := irqSettle_only old new; simp [settled, e]

@[simp] theorem settled_frz (old new : State) : (settled old new).frz = new.frz := by
  obtain ⟨_, r, q, e⟩ := irqSettle_only old new; simp [settled, e]

@[simp] theorem settled_drainTick (old new : State) : (settled old new).drainTick = new.drainTick := by
  obtain ⟨_, r, q, e⟩ := irqSettle_only old new; simp [settled, e]

@[simp] theorem settled_drainReady (old new : State) : (settled old new).drainReady = new.drainReady := by
  obtain ⟨_, r, q, e⟩ := irqSettle_only old new; simp [settled, e]

end Sys2Proof.Machine
end

