-- ==== Sys2Proof/Laws/Only.lean ====
section
/-! SUPPORT. The calculus of frames: each shared operation's footprint once, and how footprints compose. -/

namespace Sys2Proof.Machine

variable {R : Nat → Bool} {P : List Part}

theorem Part.same_refl (p : Part) (s : State) : p.same s s := by cases p <;> rfl

theorem Part.same_trans (p : Part) {s t u : State} (h1 : p.same s t) (h2 : p.same t u) : p.same s u := by
  cases p <;> exact Eq.trans h2 h1

theorem Only.refl (s : State) : Only R P s s := ⟨fun _ _ => rfl, fun p _ => p.same_refl s⟩

theorem Only.trans {s t u : State} (h1 : Only R P s t) (h2 : Only R P t u) : Only R P s u :=
  ⟨fun k hk => (h2.1 k hk).trans (h1.1 k hk), fun p hp => p.same_trans (h1.2 p hp) (h2.2 p hp)⟩

theorem Only.mono {R' : Nat → Bool} {P' : List Part} {s t : State} (h : Only R P s t)
    (hR : ∀ k, R k = true → R' k = true) (hP : ∀ p ∈ P, p ∈ P') : Only R' P' s t :=
  ⟨fun k hk => h.1 k (by cases hr : R k <;> simp_all), fun p hp => h.2 p (fun hm => hp (hP p hm))⟩

/-- A state that differs in the registers alone, and there only within R. -/
theorem Only.of_regs {s t : State} (r : SMap Word32) (e : t = { s with regs := r })
    (h : ∀ k, R k = false → t.reg k = s.reg k) : Only R P s t :=
  ⟨h, fun p _ => by subst e; cases p <;> rfl⟩

/-- A state that has the registers of another, and differs from it only within the parts P. -/
theorem Only.parts {s t u : State} (h : Only R P s t) (hr : u.regs = t.regs) (hp : ∀ p, p ∉ P → p.same t u) : Only R P s u :=
  h.trans ⟨fun _ _ => by simp only [State.reg, hr], hp⟩

theorem Only.setReg {s t : State} (h : Only R P s t) (k : Nat) (v : Word32) (hk : R k = true) :
    Only R P s (t.setReg k v) :=
  h.trans (.of_regs _ rfl fun j hj => reg_setReg_ne _ _ _ (by rintro rfl; simp [hk] at hj))

theorem Only.wf {s t : State} (h : Only R P s t) (pg : Nat) (f : Fld) (v i : Nat) (hk : R (pg + f.addr i) = true) :
    Only R P s (t.wf pg f v i) := h.setReg _ _ hk

theorem Only.inc {s t : State} (h : Only R P s t) (pg : Nat) (f : Fld) (k i : Nat) (hk : R (pg + f.addr i) = true) :
    Only R P s (t.inc pg f k i) := h.wf _ _ _ _ hk

theorem Only.raise {s t : State} (h : Only R P s t) (pg b : Nat) (hk : R (pg + 0x10) = true) :
    Only R P s (t.raise pg b) := h.wf _ _ _ _ hk

theorem Only.raiseIf {s t : State} (h : Only R P s t) (c : Bool) (pg b : Nat) (hk : R (pg + 0x10) = true) :
    Only R P s (t.raiseIf c pg b) := by
  unfold State.raiseIf; split
  · exact h.raise _ _ hk
  · exact h

theorem Only.out {s t : State} (h : Only R P s t) (hp : Part.out ∈ P) (x : List Output) : Only R P s { t with out := x } :=
  h.trans ⟨fun _ _ => rfl, fun p hn => by cases p <;> first | rfl | exact absurd hp hn⟩

theorem Only.free {s t : State} (h : Only R P s t) (hp : Part.free ∈ P) (x : Nat) : Only R P s { t with free := x } :=
  h.trans ⟨fun _ _ => rfl, fun p hn => by cases p <;> first | rfl | exact absurd hp hn⟩

theorem Only.host {s t : State} (h : Only R P s t) (hp : Part.host ∈ P) (x : SMap Byte) : Only R P s { t with host := x } :=
  h.trans ⟨fun _ _ => rfl, fun p hn => by cases p <;> first | rfl | exact absurd hp hn⟩

theorem Only.irq {s t : State} (h : Only R P s t) (x : IrqSt) : Only R P s { t with irq := x } :=
  h.trans ⟨fun _ _ => rfl, fun p _ => by cases p <;> rfl⟩

theorem Only.crs {s t : State} (h : Only R P s t) (hp : Part.crs ∈ P) (x : CrsSt) : Only R P s { t with crs := x } :=
  h.trans ⟨fun _ _ => rfl, fun p hn => by cases p <;> first | rfl | exact absurd hp hn⟩

theorem Only.pur {s t : State} (h : Only R P s t) (hp : Part.pur ∈ P) (x : PurSt) : Only R P s { t with pur := x } :=
  h.trans ⟨fun _ _ => rfl, fun p hn => by cases p <;> first | rfl | exact absurd hp hn⟩

theorem Only.gov {s t : State} (h : Only R P s t) (hp : Part.gov ∈ P) (x : GovSt) : Only R P s { t with gov := x } :=
  h.trans ⟨fun _ _ => rfl, fun p hn => by cases p <;> first | rfl | exact absurd hp hn⟩

theorem Only.store {s t : State} (h : Only R P s t) (hp : Part.store ∈ P) (x : SMap StWord) : Only R P s { t with store := x } :=
  h.trans ⟨fun _ _ => rfl, fun p hn => by cases p <;> first | rfl | exact absurd hp hn⟩

theorem Only.bst {s t : State} (h : Only R P s t) (hp : Part.bst ∈ P) (x : SMap BstSt) : Only R P s { t with bst := x } :=
  h.trans ⟨fun _ _ => rfl, fun p hn => by cases p <;> first | rfl | exact absurd hp hn⟩

theorem Only.slt {s t : State} (h : Only R P s t) (hp : Part.slt ∈ P) (x : SltSt) : Only R P s { t with slt := x } :=
  h.trans ⟨fun _ _ => rfl, fun p hn => by cases p <;> first | rfl | exact absurd hp hn⟩

theorem Only.lig {s t : State} (h : Only R P s t) (hp : Part.lig ∈ P) (x : LigSt) : Only R P s { t with lig := x } :=
  h.trans ⟨fun _ _ => rfl, fun p hn => by cases p <;> first | rfl | exact absurd hp hn⟩

theorem Only.spr {s t : State} (h : Only R P s t) (hp : Part.spr ∈ P) (x : SMap SprSt) : Only R P s { t with spr := x } :=
  h.trans ⟨fun _ _ => rfl, fun p hn => by cases p <;> first | rfl | exact absurd hp hn⟩

theorem Only.cs {s t : State} (h : Only R P s t) (hp : Part.cs ∈ P) (x : SMap (BitVec 128)) : Only R P s { t with cs := x } :=
  h.trans ⟨fun _ _ => rfl, fun p hn => by cases p <;> first | rfl | exact absurd hp hn⟩

theorem Only.gab {s t : State} (h : Only R P s t) (hp : Part.gab ∈ P) (x : SMap GabSt) : Only R P s { t with gab := x } :=
  h.trans ⟨fun _ _ => rfl, fun p hn => by cases p <;> first | rfl | exact absurd hp hn⟩

theorem Only.gcode {s t : State} (h : Only R P s t) (hp : Part.gcode ∈ P) (x : SMap CodeWord) : Only R P s { t with gcode := x } :=
  h.trans ⟨fun _ _ => rfl, fun p hn => by cases p <;> first | rfl | exact absurd hp hn⟩

theorem Only.gdata {s t : State} (h : Only R P s t) (hp : Part.gdata ∈ P) (x : SMap DataWord) : Only R P s { t with gdata := x } :=
  h.trans ⟨fun _ _ => rfl, fun p hn => by cases p <;> first | rfl | exact absurd hp hn⟩

theorem Only.gcs {s t : State} (h : Only R P s t) (hp : Part.gcs ∈ P) (x : SMap (BitVec 128)) : Only R P s { t with gcs := x } :=
  h.trans ⟨fun _ _ => rfl, fun p hn => by cases p <;> first | rfl | exact absurd hp hn⟩

theorem Only.gstage {s t : State} (h : Only R P s t) (hp : Part.gstage ∈ P) (x : SMap Word32) : Only R P s { t with gstage := x } :=
  h.trans ⟨fun _ _ => rfl, fun p hn => by cases p <;> first | rfl | exact absurd hp hn⟩

theorem Only.hbm {s t : State} (h : Only R P s t) (hp : Part.hbm ∈ P) (x : HbmSt) : Only R P s { t with hbm := x } :=
  h.trans ⟨fun _ _ => rfl, fun p hn => by cases p <;> first | rfl | exact absurd hp hn⟩

theorem Only.ylm {s t : State} (h : Only R P s t) (hp : Part.ylm ∈ P) (x : SMap YlmSt) : Only R P s { t with ylm := x } :=
  h.trans ⟨fun _ _ => rfl, fun p hn => by cases p <;> first | rfl | exact absurd hp hn⟩

theorem Only.stk {s t : State} (h : Only R P s t) (hp : Part.stk ∈ P) (x : SMap StkSt) : Only R P s { t with stk := x } :=
  h.trans ⟨fun _ _ => rfl, fun p hn => by cases p <;> first | rfl | exact absurd hp hn⟩

theorem Only.fls {s t : State} (h : Only R P s t) (hp : Part.fls ∈ P) (x : FlsSt) : Only R P s { t with fls := x } :=
  h.trans ⟨fun _ _ => rfl, fun p hn => by cases p <;> first | rfl | exact absurd hp hn⟩

theorem Only.sfc {s t : State} (h : Only R P s t) (hp : Part.sfc ∈ P) (x : SfcSt) : Only R P s { t with sfc := x } :=
  h.trans ⟨fun _ _ => rfl, fun p hn => by cases p <;> first | rfl | exact absurd hp hn⟩

theorem Only.fsc {s t : State} (h : Only R P s t) (hp : Part.fsc ∈ P) (x : FscSt) : Only R P s { t with fsc := x } :=
  h.trans ⟨fun _ _ => rfl, fun p hn => by cases p <;> first | rfl | exact absurd hp hn⟩

theorem Only.tap {s t : State} (h : Only R P s t) (hp : Part.tap ∈ P) (x : TapSt) : Only R P s { t with tap := x } :=
  h.trans ⟨fun _ _ => rfl, fun p hn => by cases p <;> first | rfl | exact absurd hp hn⟩

theorem Only.dmr {s t : State} (h : Only R P s t) (hp : Part.dmr ∈ P) (x : DmrSt) : Only R P s { t with dmr := x } :=
  h.trans ⟨fun _ _ => rfl, fun p hn => by cases p <;> first | rfl | exact absurd hp hn⟩

theorem Only.pwr {s t : State} (h : Only R P s t) (hp : Part.pwr ∈ P) (x : PwrSt) : Only R P s { t with pwr := x } :=
  h.trans ⟨fun _ _ => rfl, fun p hn => by cases p <;> first | rfl | exact absurd hp hn⟩

theorem Only.eav {s t : State} (h : Only R P s t) (hp : Part.eav ∈ P) (x : EavSt) : Only R P s { t with eav := x } :=
  h.trans ⟨fun _ _ => rfl, fun p hn => by cases p <;> first | rfl | exact absurd hp hn⟩

theorem Only.btx {s t : State} (h : Only R P s t) (hp : Part.btx ∈ P) (x : BtxSt) : Only R P s { t with btx := x } :=
  h.trans ⟨fun _ _ => rfl, fun p hn => by cases p <;> first | rfl | exact absurd hp hn⟩

theorem Only.frz {s t : State} (h : Only R P s t) (hp : Part.frz ∈ P) (x : SMap Bool) : Only R P s { t with frz := x } :=
  h.trans ⟨fun _ _ => rfl, fun p hn => by cases p <;> first | rfl | exact absurd hp hn⟩

theorem Only.drainTick {s t : State} (h : Only R P s t) (hp : Part.drainTick ∈ P) (x : SMap Bool) : Only R P s { t with drainTick := x } :=
  h.trans ⟨fun _ _ => rfl, fun p hn => by cases p <;> first | rfl | exact absurd hp hn⟩

theorem Only.drainReady {s t : State} (h : Only R P s t) (hp : Part.drainReady ∈ P) (x : SMap Bool) : Only R P s { t with drainReady := x } :=
  h.trans ⟨fun _ _ => rfl, fun p hn => by cases p <;> first | rfl | exact absurd hp hn⟩

/-- R85: an error record writes the three error registers of its page. -/
theorem Only.err {s t : State} (h : Only R P s t) (pg code addr src : Nat) (h0 : R (pg + 0x20) = true)
    (h1 : R (pg + 0x24) = true) (h2 : R (pg + 0x28) = true) : Only R P s (t.err pg code addr src) := by
  unfold State.err; split
  · exact h.wf _ _ _ _ h0
  · exact ((((h.wf _ _ _ _ h0).wf _ _ _ _ h0).wf _ _ _ _ h1).wf _ _ _ _ h2).wf _ _ _ _ h2

theorem Only.ite {c : Prop} [Decidable c] {s t u : State} (ht : Only R P s t) (hu : Only R P s u) :
    Only R P s (if c then t else u) := by split <;> assumption

theorem Only.foldl {α : Type} {s t : State} (h : Only R P s t) (f : State → α → State) (l : List α)
    (hf : ∀ u, ∀ a ∈ l, Only R P u (f u a)) : Only R P s (l.foldl f t) := by
  induction l generalizing t with
  | nil => exact h
  | cons a r ih => exact ih (h.trans (hf t a (by simp))) (fun u b hb => hf u b (by simp [hb]))

/-- What a completed command changes: what its effect changes, and the interrupt controller's own. -/
theorem Only.settled {s t : State} (h : Only R P s t) : Only (fun k => R k || irqOwn k) P s (settled s t) := by
  refine Only.trans (h.mono (fun k hk => by simp [hk]) (fun _ hp => hp)) ⟨fun k hk => ?_, fun p _ => ?_⟩
  · simp only [Bool.or_eq_false_iff] at hk
    exact settled_reg s t k hk.2
  · cases p <;> simp [Part.same]

/-- The frame of a command from the footprint of its effect. -/
theorem Keeps.of_done {c : Instr} {s u : State} (hc : exec c s = done s u) (h : Only R P s u) : Keeps c s R P := by
  intro t ht
  rw [hc, done_eq] at ht
  cases ht
  exact h.settled

/-- The completion of a command from its effect. -/
theorem Completes.of_done {c : Instr} {s u : State} {Q : State → Prop} (hc : exec c s = done s u)
    (h : Q (settled s u)) : Completes c s Q := ⟨_, hc, h⟩

end Sys2Proof.Machine
end

