-- ==== Sys2Proof/Laws/Access.lean ====
section
/-! SUPPORT. Laws of the guard before every register write, and of error records. -/

namespace Sys2Proof.Machine

/-- A page of another kind than FLS ends no arming. -/
theorem armEnds_of_ne (s : State) (k : PgKind) (off : Nat) (h : k ≠ .fls) : s.armEnds k off = s := by
  simp [State.armEnds, h]

/-- R96: a write that is taken up has its effect; on the FLS page it also ends an arming (R535). -/
theorem ifWriter_of_accepts {s : State} {src : Src} {key : Nat} {k : PgKind} {i : Nat} (f : State → State)
    (h : s.accepts src key = true) (hp : pageOf key = some (k, i)) :
    s.ifWriter src key f = (f s).armEnds k (key % 0x1000) := by
  simp only [State.accepts, hp, Bool.and_eq_true, Bool.not_eq_true'] at h
  simp [State.ifWriter, hp, h]

/-- The same on a page of another kind than FLS. -/
theorem ifWriter_accepted {s : State} {src : Src} {key : Nat} {k : PgKind} {i : Nat} (f : State → State)
    (h : s.accepts src key = true) (hp : pageOf key = some (k, i)) (hk : k ≠ .fls) : s.ifWriter src key f = f s := by
  rw [ifWriter_of_accepts f h hp, armEnds_of_ne _ _ _ hk]

variable {R : Nat → Bool} {P : List Part}

/-- R85, R86: an error about an access at a key is recorded on the page that holds the key. -/
theorem Only.accErr {s t : State} (h : Only R P s t) (src : Src) (key code : Nat) (h0 : R (errPage key + 0x20) = true)
    (h1 : R (errPage key + 0x24) = true) (h2 : R (errPage key + 0x28) = true) : Only R P s (t.accErr src key code) :=
  h.err _ _ _ _ h0 h1 h2

/-- The footprint of a guarded write: its effect's, the page's error record, GLB's (R598), and on the FLS page its status (R535). -/
theorem Only.ifWriter {s t : State} (h : Only R P s t) (src : Src) (key : Nat) (f : State → State)
    (hf : ∀ u, Only R P u (f u)) (he : ∀ k, k = 0x20 ∨ k = 0x24 ∨ k = 0x28 → R (errPage key + k) = true)
    (hg : ∀ k, k = 0x20 ∨ k = 0x24 ∨ k = 0x28 → R k = true)
    (ha : pageOf key = none ∨ (∃ k i, pageOf key = some (k, i) ∧ k ≠ .fls) ∨ R (pgFLS + FLS_STAT_ARMED.addr 0) = true) :
    Only R P s (t.ifWriter src key f) := by
  unfold State.ifWriter
  split
  · exact h
  · split
    · exact h.accErr _ _ _ (he _ (by simp)) (he _ (by simp)) (he _ (by simp))
    · next k i hp =>
      split
      · exact h.err _ _ _ _ (by simpa [pgGLB] using hg 0x20 (by simp)) (by simpa [pgGLB] using hg 0x24 (by simp))
          (by simpa [pgGLB] using hg 0x28 (by simp))
      · split
        · unfold State.armEnds
          split
          · next hc =>
            rcases ha with ha | ⟨k', i', ha, hk⟩ | ha
            · simp [hp] at ha
            · rw [hp] at ha; cases ha; exact absurd hc.1 hk
            · exact (h.trans (hf t)).wf _ _ _ _ ha
          · exact h.trans (hf t)
        · exact h.accErr _ _ _ (he _ (by simp)) (he _ (by simp)) (he _ (by simp))

end Sys2Proof.Machine
end

