-- ==== Sys2Proof/Laws/Memory.lean ====
section
/-! SUPPORT. The named operations over the addressed stores: each keeps the canonical form of the store it writes, and what a read finds after it. -/

namespace Sys2Proof.Machine

variable (s : State)

/-! ## The canonical form is kept -/

theorem setReg_wf (key : Nat) (v : Word32) (h : smWf regDefault s.regs = true) :
    smWf regDefault (s.setReg key v).regs = true := smWf_smSet _ _ _ _ h

theorem hostWrite_wf (a : Nat) (bs : List Byte) (h : smWf (fun _ => 0) s.host = true) :
    smWf (fun _ => 0) (s.hostWrite a bs).host = true := smWf_smSetMany _ _ _ h

theorem pageToHost_wf (p a : Nat) (h : smWf (fun _ => 0) s.host = true) :
    smWf (fun _ => 0) (s.pageToHost p a).host = true := smWf_smSetMany _ _ _ (smWf_smDrop _ _ _ h)

theorem hbmPut_wf (kvs : List (Nat × Byte)) (h : smWf (fun _ => 0) s.hbm.bytes = true) :
    smWf (fun _ => 0) (s.hbmPut kvs).hbm.bytes = true := smWf_smSetMany _ _ _ h

theorem zeroPage_wf (p : Nat) (h : smWf (fun _ => 0) s.hbm.bytes = true) :
    smWf (fun _ => 0) (s.zeroPage p).hbm.bytes = true := by
  simp only [State.zeroPage]; exact smWf_smDrop _ _ _ h

theorem copyPage_wf (p q : Nat) (h : smWf (fun _ => 0) s.hbm.bytes = true) :
    smWf (fun _ => 0) (s.copyPage p q).hbm.bytes = true := hbmPut_wf _ _ (zeroPage_wf s q h)

theorem freshCheck_wf (l : List Nat) (h : smWf (fun _ => 0) s.hbm.syms = true) :
    smWf (fun _ => 0) (s.freshCheck l).hbm.syms = true := by
  simp only [State.freshCheck]; exact smWf_smDrop _ _ _ h

theorem zeroPage_syms_wf (p : Nat) (h : smWf (fun _ => 0) s.hbm.syms = true) :
    smWf (fun _ => 0) (s.zeroPage p).hbm.syms = true := by
  simp only [State.zeroPage]; exact smWf_smDrop _ _ _ h

theorem setStWord_wf (b a : Nat) (w : StWord) (h : smWf stDflt s.store = true) :
    smWf stDflt (s.setStWord b a w).store = true := smWf_smSet _ _ _ _ h

theorem setCode_wf (g a : Nat) (w : CodeWord) (h : smWf codeDflt s.gcode = true) :
    smWf codeDflt (s.setCode g a w).gcode = true := smWf_smSet _ _ _ _ h

theorem setData_wf (g a : Nat) (w : DataWord) (h : smWf dataDflt s.gdata = true) :
    smWf dataDflt (s.setData g a w).gdata = true := smWf_smSet _ _ _ _ h

theorem fillCode_wf (g a n : Nat) (h : smWf codeDflt s.gcode = true) :
    smWf codeDflt (s.fillCode g a n).gcode = true := smWf_smSetMany _ _ _ (smWf_smDrop _ _ _ h)

theorem fillData_wf (g a n : Nat) (h : smWf dataDflt s.gdata = true) :
    smWf dataDflt (s.fillData g a n).gdata = true := smWf_smSetMany _ _ _ (smWf_smDrop _ _ _ h)

theorem setFlash_wf (es : List (Nat × Byte)) (h : smWf flashDflt s.sfc.flash = true) :
    smWf flashDflt (s.setFlash es).sfc.flash = true := smWf_smSetMany _ _ _ h

theorem flashProg_wf (a : Nat) (bs : List Byte) (h : smWf flashDflt s.sfc.flash = true) :
    smWf flashDflt (s.flashProg a bs).sfc.flash = true := setFlash_wf s _ h

theorem flashErase_wf (k : Nat) (h : smWf flashDflt s.sfc.flash = true) :
    smWf flashDflt (s.flashErase k).sfc.flash = true := by
  simp only [State.flashErase]; exact smWf_smDrop _ _ _ h

theorem setFuseM_wf (n v : Nat) (h : smWf fuse0 s.fls.margin = true) :
    smWf fuse0 (s.setFuseM n v).fls.margin = true := smWf_smSet _ _ _ _ h

theorem setFuseN_wf (n v : Nat) (h : smWf fuse0 s.fls.normal = true) :
    smWf fuse0 (s.setFuseN n v).fls.normal = true := smWf_smSet _ _ _ _ h

theorem putEntry_wf (h : Nat) (w : BitVec 256) (hw : smWf (fun _ => 0) s.pur.table = true) :
    smWf (fun _ => 0) (s.putEntry h w).pur.table = true := by
  simp only [State.putEntry, List.foldl]
  repeat' split
  all_goals first | exact hw | exact smWf_smSet _ _ _ _ hw | exact smWf_smSet _ _ _ _ (smWf_smSet _ _ _ _ hw)

theorem plPut_wf (h a : Nat) (ps : List Nat) (hw : smWf plDflt s.pur.plist = true) :
    smWf plDflt (s.plPut h a ps).pur.plist = true := smWf_smSetMany _ _ _ hw

theorem plDrop_wf (h n : Nat) (hw : smWf plDflt s.pur.plist = true) :
    smWf plDflt (s.plDrop h n).pur.plist = true := by
  simp only [State.plDrop]
  split
  · exact smWf_smDrop _ _ _ hw
  · exact hw

/-! ## A read after a write -/

theorem codeWord_setCode (g a g' a' : Nat) (w : CodeWord) :
    (s.setCode g a w).codeWord g' a' = if codeKey g' a' = codeKey g a then w else s.codeWord g' a' :=
  smGet_smSet _ _ _ _ _

theorem dataWord_setData (g a g' a' : Nat) (w : DataWord) :
    (s.setData g a w).dataWord g' a' = if dataKey g' a' = dataKey g a then w else s.dataWord g' a' :=
  smGet_smSet _ _ _ _ _

/-- A programmed fuse word as a normal read finds it. -/
theorem fuseN_setFuseN (n v k : Nat) :
    (s.setFuseN n v).fuseN k = if k = n then v % 2 ^ 32 else s.fuseN k := by
  simp only [State.fuseN, State.setFuseN, smGet_smSet]
  split <;> simp

theorem fuseM_setFuseM (n v k : Nat) :
    (s.setFuseM n v).fuseM k = if k = n then v % 2 ^ 32 else s.fuseM k := by
  simp only [State.fuseM, State.setFuseM, smGet_smSet]
  split <;> simp

/-- A byte outside the written range of host memory reads as before. -/
theorem hostByte_hostWrite_ne (a : Nat) (bs : List Byte) (x : Nat) (h : x < a ∨ a + bs.length ≤ x) :
    (s.hostWrite a bs).hostByte x = s.hostByte x := by
  refine smGet_smSetMany_ne _ _ _ _ ?_
  intro e he
  obtain ⟨i, hi, rfl⟩ := List.mem_map.1 he
  have hi := List.mem_range.1 hi
  simp only
  omega

/-- An erased sector of flash reads as erased, every other sector as before. -/
theorem flashByte_flashErase (k a : Nat) :
    (s.flashErase k).flashByte a = if a / 65536 = k / 65536 then flashDflt a else s.flashByte a := by
  simp only [State.flashByte, State.flashErase, smGet_smDrop, beq_iff_eq]

/-- What Purlin reads of an entry after an update, where each copy is there and its stack completes accesses (R115). -/
theorem tabEntry_putEntry (h k : Nat) (w : BitVec 256) (ht : ∀ c, c < 2 → s.tabHas c h = true ∧ s.stackStopped c = false)
    (hk : k < 2 ^ 24) (hh : h < 2 ^ 24) :
    (s.putEntry h w).tabEntry k = if k = h then w else s.tabEntry k := by
  have h0 := ht 0 (by omega)
  have h1 := ht 1 (by omega)
  have e : ∀ c j, (s.putEntry h w).tabHas c j = s.tabHas c j := fun _ _ => rfl
  have e' : ∀ c, (s.putEntry h w).stackStopped c = s.stackStopped c := fun _ => rfl
  simp only [State.tabEntry, e, e']
  by_cases hkh : k = h
  · subst hkh
    simp [h0.1, h0.2, h1.1, h1.2, State.putEntry, smGet_smSet, tabKey]
  · have hne : ∀ c, c < 2 → smGet (fun _ => 0) (s.putEntry h w).pur.table (tabKey c k) = smGet (fun _ => 0) s.pur.table (tabKey c k) := by
      intro c hc
      have n0 : tabKey c k ≠ tabKey 0 h := by simp only [tabKey]; omega
      have n1 : tabKey c k ≠ tabKey 1 h := by simp only [tabKey]; omega
      simp only [State.putEntry, List.foldl]
      repeat' split
      all_goals simp [smGet_smSet_ne, n0, n1]
    simp only [hkh, if_false]
    split <;> split <;> first | rfl | exact hne _ (by omega)

/-- The beat pair of a pseudo-channel's data slot, and back (R350). -/
theorem beatAt_pcOf (b : Nat) : beatAt (pcOf b) (slotOf b) = b := by
  simp only [beatAt, pcOf, slotOf, Nat.xor_assoc, Nat.xor_self, Nat.xor_zero]
  omega

theorem slotOf_beatAt (pc slot : Nat) (h : pc < 64) : slotOf (beatAt pc slot) = slot := by
  have : pc ^^^ slot % 64 < 2 ^ 6 := Nat.xor_lt_two_pow (by omega) (by omega)
  simp only [slotOf, beatAt]; omega

theorem pcOf_beatAt (pc slot : Nat) (h : pc < 64) : pcOf (beatAt pc slot) = pc := by
  have : pc ^^^ slot % 64 < 2 ^ 6 := Nat.xor_lt_two_pow (by omega) (by omega)
  have h1 : (64 * slot + (pc ^^^ slot % 64)) % 64 = pc ^^^ slot % 64 := by omega
  have h2 : (64 * slot + (pc ^^^ slot % 64)) / 64 % 64 = slot % 64 := by omega
  simp only [pcOf, beatAt, h1, h2, Nat.xor_assoc, Nat.xor_self, Nat.xor_zero]

/-- The cell of a symbol holds that symbol (R351). -/
theorem cellSym_symCell (slot i : Nat) (h : i < 68) : cellSym (symCell slot i).1 (symCell slot i).2 = (slot, i) := by
  simp only [symCell, rawSlot, checkSlot, groupOf]
  split
  · rw [cellSym, if_pos (by omega)]; exact Prod.ext (by simp only; omega) rfl
  · rw [cellSym, if_neg (by omega)]; exact Prod.ext (by simp only; omega) (by simp only; omega)

end Sys2Proof.Machine
end

