-- ==== Sys2Proof/Laws/State.lean ====
section
/-! SUPPORT. What each shared update of a state leaves alone, a field at a time, and what it leaves in the part that it updates. -/

namespace Sys2Proof.Machine

/-! ## The parts that an update writes -/

variable (s : State)

@[simp] theorem State.gable_setGab_same (g : Nat) (x : GabSt) : (s.setGab g x).gable g = x := smGet_smSet_same _ _ _ _
theorem State.gable_setGab_ne {g h : Nat} (x : GabSt) (hn : h ≠ g) : (s.setGab g x).gable h = s.gable h := smGet_smSet_ne _ _ _ _ hn
@[simp] theorem State.sp_setSp_same (i : Nat) (p : SprSt) : (s.setSp i p).sp i = p := smGet_smSet_same _ _ _ _
theorem State.sp_setSp_ne {i j : Nat} (p : SprSt) (hn : j ≠ i) : (s.setSp i p).sp j = s.sp j := smGet_smSet_ne _ _ _ _ hn
@[simp] theorem State.batten_setBatten_same (b : Nat) (x : BstSt) : (s.setBatten b x).batten b = x := smGet_smSet_same _ _ _ _
theorem State.batten_setBatten_ne {b c : Nat} (x : BstSt) (hn : c ≠ b) : (s.setBatten b x).batten c = s.batten c := smGet_smSet_ne _ _ _ _ hn
@[simp] theorem State.stWord_setStWord_same (b a : Nat) (w : StWord) : (s.setStWord b a w).stWord b a = w := smGet_smSet_same _ _ _ _
@[simp] theorem State.arr_setArr_same (x : Nat) (v : ArrSt) : (s.setArr x v).arr x = v := smGet_smSet_same _ _ _ _
theorem State.arr_setArr_ne {x y : Nat} (v : ArrSt) (hn : y ≠ x) : (s.setArr x v).arr y = s.arr y := smGet_smSet_ne _ _ _ _ hn
@[simp] theorem State.stook_setStook_same (n : Nat) (x : StkSt) : (s.setStook n x).stook n = x := smGet_smSet_same _ _ _ _
@[simp] theorem State.yealm_setYealm_same (y : Nat) (x : YlmSt) : (s.setYealm y x).yealm y = x := smGet_smSet_same _ _ _ _
@[simp] theorem State.emit_out (o : Output) : (s.emit o).out = o :: s.out := rfl

/-! ## setReg -/

@[simp] theorem State.setReg_pending (k : Nat) (v : Word32) : (s.setReg k v).pending = s.pending := rfl
@[simp] theorem State.setReg_out (k : Nat) (v : Word32) : (s.setReg k v).out = s.out := rfl
@[simp] theorem State.setReg_free (k : Nat) (v : Word32) : (s.setReg k v).free = s.free := rfl
@[simp] theorem State.setReg_host (k : Nat) (v : Word32) : (s.setReg k v).host = s.host := rfl
@[simp] theorem State.setReg_irq (k : Nat) (v : Word32) : (s.setReg k v).irq = s.irq := rfl
@[simp] theorem State.setReg_crs (k : Nat) (v : Word32) : (s.setReg k v).crs = s.crs := rfl
@[simp] theorem State.setReg_pur (k : Nat) (v : Word32) : (s.setReg k v).pur = s.pur := rfl
@[simp] theorem State.setReg_gov (k : Nat) (v : Word32) : (s.setReg k v).gov = s.gov := rfl
@[simp] theorem State.setReg_store (k : Nat) (v : Word32) : (s.setReg k v).store = s.store := rfl
@[simp] theorem State.setReg_bst (k : Nat) (v : Word32) : (s.setReg k v).bst = s.bst := rfl
@[simp] theorem State.setReg_slt (k : Nat) (v : Word32) : (s.setReg k v).slt = s.slt := rfl
@[simp] theorem State.setReg_lig (k : Nat) (v : Word32) : (s.setReg k v).lig = s.lig := rfl
@[simp] theorem State.setReg_spr (k : Nat) (v : Word32) : (s.setReg k v).spr = s.spr := rfl
@[simp] theorem State.setReg_cs (k : Nat) (v : Word32) : (s.setReg k v).cs = s.cs := rfl
@[simp] theorem State.setReg_gab (k : Nat) (v : Word32) : (s.setReg k v).gab = s.gab := rfl
@[simp] theorem State.setReg_gcode (k : Nat) (v : Word32) : (s.setReg k v).gcode = s.gcode := rfl
@[simp] theorem State.setReg_gdata (k : Nat) (v : Word32) : (s.setReg k v).gdata = s.gdata := rfl
@[simp] theorem State.setReg_gcs (k : Nat) (v : Word32) : (s.setReg k v).gcs = s.gcs := rfl
@[simp] theorem State.setReg_gstage (k : Nat) (v : Word32) : (s.setReg k v).gstage = s.gstage := rfl
@[simp] theorem State.setReg_hbm (k : Nat) (v : Word32) : (s.setReg k v).hbm = s.hbm := rfl
@[simp] theorem State.setReg_ylm (k : Nat) (v : Word32) : (s.setReg k v).ylm = s.ylm := rfl
@[simp] theorem State.setReg_stk (k : Nat) (v : Word32) : (s.setReg k v).stk = s.stk := rfl
@[simp] theorem State.setReg_fls (k : Nat) (v : Word32) : (s.setReg k v).fls = s.fls := rfl
@[simp] theorem State.setReg_sfc (k : Nat) (v : Word32) : (s.setReg k v).sfc = s.sfc := rfl
@[simp] theorem State.setReg_fsc (k : Nat) (v : Word32) : (s.setReg k v).fsc = s.fsc := rfl
@[simp] theorem State.setReg_tap (k : Nat) (v : Word32) : (s.setReg k v).tap = s.tap := rfl
@[simp] theorem State.setReg_dmr (k : Nat) (v : Word32) : (s.setReg k v).dmr = s.dmr := rfl
@[simp] theorem State.setReg_pwr (k : Nat) (v : Word32) : (s.setReg k v).pwr = s.pwr := rfl
@[simp] theorem State.setReg_eav (k : Nat) (v : Word32) : (s.setReg k v).eav = s.eav := rfl
@[simp] theorem State.setReg_btx (k : Nat) (v : Word32) : (s.setReg k v).btx = s.btx := rfl
@[simp] theorem State.setReg_frz (k : Nat) (v : Word32) : (s.setReg k v).frz = s.frz := rfl
@[simp] theorem State.setReg_drainTick (k : Nat) (v : Word32) : (s.setReg k v).drainTick = s.drainTick := rfl
@[simp] theorem State.setReg_drainReady (k : Nat) (v : Word32) : (s.setReg k v).drainReady = s.drainReady := rfl

/-! ## wf -/

@[simp] theorem State.wf_pending (pg : Nat) (f : Fld) (v i : Nat) : (s.wf pg f v i).pending = s.pending := s.setReg_pending _ _
@[simp] theorem State.wf_out (pg : Nat) (f : Fld) (v i : Nat) : (s.wf pg f v i).out = s.out := s.setReg_out _ _
@[simp] theorem State.wf_free (pg : Nat) (f : Fld) (v i : Nat) : (s.wf pg f v i).free = s.free := s.setReg_free _ _
@[simp] theorem State.wf_host (pg : Nat) (f : Fld) (v i : Nat) : (s.wf pg f v i).host = s.host := s.setReg_host _ _
@[simp] theorem State.wf_irq (pg : Nat) (f : Fld) (v i : Nat) : (s.wf pg f v i).irq = s.irq := s.setReg_irq _ _
@[simp] theorem State.wf_crs (pg : Nat) (f : Fld) (v i : Nat) : (s.wf pg f v i).crs = s.crs := s.setReg_crs _ _
@[simp] theorem State.wf_pur (pg : Nat) (f : Fld) (v i : Nat) : (s.wf pg f v i).pur = s.pur := s.setReg_pur _ _
@[simp] theorem State.wf_gov (pg : Nat) (f : Fld) (v i : Nat) : (s.wf pg f v i).gov = s.gov := s.setReg_gov _ _
@[simp] theorem State.wf_store (pg : Nat) (f : Fld) (v i : Nat) : (s.wf pg f v i).store = s.store := s.setReg_store _ _
@[simp] theorem State.wf_bst (pg : Nat) (f : Fld) (v i : Nat) : (s.wf pg f v i).bst = s.bst := s.setReg_bst _ _
@[simp] theorem State.wf_slt (pg : Nat) (f : Fld) (v i : Nat) : (s.wf pg f v i).slt = s.slt := s.setReg_slt _ _
@[simp] theorem State.wf_lig (pg : Nat) (f : Fld) (v i : Nat) : (s.wf pg f v i).lig = s.lig := s.setReg_lig _ _
@[simp] theorem State.wf_spr (pg : Nat) (f : Fld) (v i : Nat) : (s.wf pg f v i).spr = s.spr := s.setReg_spr _ _
@[simp] theorem State.wf_cs (pg : Nat) (f : Fld) (v i : Nat) : (s.wf pg f v i).cs = s.cs := s.setReg_cs _ _
@[simp] theorem State.wf_gab (pg : Nat) (f : Fld) (v i : Nat) : (s.wf pg f v i).gab = s.gab := s.setReg_gab _ _
@[simp] theorem State.wf_gcode (pg : Nat) (f : Fld) (v i : Nat) : (s.wf pg f v i).gcode = s.gcode := s.setReg_gcode _ _
@[simp] theorem State.wf_gdata (pg : Nat) (f : Fld) (v i : Nat) : (s.wf pg f v i).gdata = s.gdata := s.setReg_gdata _ _
@[simp] theorem State.wf_gcs (pg : Nat) (f : Fld) (v i : Nat) : (s.wf pg f v i).gcs = s.gcs := s.setReg_gcs _ _
@[simp] theorem State.wf_gstage (pg : Nat) (f : Fld) (v i : Nat) : (s.wf pg f v i).gstage = s.gstage := s.setReg_gstage _ _
@[simp] theorem State.wf_hbm (pg : Nat) (f : Fld) (v i : Nat) : (s.wf pg f v i).hbm = s.hbm := s.setReg_hbm _ _
@[simp] theorem State.wf_ylm (pg : Nat) (f : Fld) (v i : Nat) : (s.wf pg f v i).ylm = s.ylm := s.setReg_ylm _ _
@[simp] theorem State.wf_stk (pg : Nat) (f : Fld) (v i : Nat) : (s.wf pg f v i).stk = s.stk := s.setReg_stk _ _
@[simp] theorem State.wf_fls (pg : Nat) (f : Fld) (v i : Nat) : (s.wf pg f v i).fls = s.fls := s.setReg_fls _ _
@[simp] theorem State.wf_sfc (pg : Nat) (f : Fld) (v i : Nat) : (s.wf pg f v i).sfc = s.sfc := s.setReg_sfc _ _
@[simp] theorem State.wf_fsc (pg : Nat) (f : Fld) (v i : Nat) : (s.wf pg f v i).fsc = s.fsc := s.setReg_fsc _ _
@[simp] theorem State.wf_tap (pg : Nat) (f : Fld) (v i : Nat) : (s.wf pg f v i).tap = s.tap := s.setReg_tap _ _
@[simp] theorem State.wf_dmr (pg : Nat) (f : Fld) (v i : Nat) : (s.wf pg f v i).dmr = s.dmr := s.setReg_dmr _ _
@[simp] theorem State.wf_pwr (pg : Nat) (f : Fld) (v i : Nat) : (s.wf pg f v i).pwr = s.pwr := s.setReg_pwr _ _
@[simp] theorem State.wf_eav (pg : Nat) (f : Fld) (v i : Nat) : (s.wf pg f v i).eav = s.eav := s.setReg_eav _ _
@[simp] theorem State.wf_btx (pg : Nat) (f : Fld) (v i : Nat) : (s.wf pg f v i).btx = s.btx := s.setReg_btx _ _
@[simp] theorem State.wf_frz (pg : Nat) (f : Fld) (v i : Nat) : (s.wf pg f v i).frz = s.frz := s.setReg_frz _ _
@[simp] theorem State.wf_drainTick (pg : Nat) (f : Fld) (v i : Nat) : (s.wf pg f v i).drainTick = s.drainTick := s.setReg_drainTick _ _
@[simp] theorem State.wf_drainReady (pg : Nat) (f : Fld) (v i : Nat) : (s.wf pg f v i).drainReady = s.drainReady := s.setReg_drainReady _ _

/-! ## inc -/

@[simp] theorem State.inc_pending (pg : Nat) (f : Fld) (k i : Nat) : (s.inc pg f k i).pending = s.pending := s.wf_pending _ _ _ _
@[simp] theorem State.inc_out (pg : Nat) (f : Fld) (k i : Nat) : (s.inc pg f k i).out = s.out := s.wf_out _ _ _ _
@[simp] theorem State.inc_free (pg : Nat) (f : Fld) (k i : Nat) : (s.inc pg f k i).free = s.free := s.wf_free _ _ _ _
@[simp] theorem State.inc_host (pg : Nat) (f : Fld) (k i : Nat) : (s.inc pg f k i).host = s.host := s.wf_host _ _ _ _
@[simp] theorem State.inc_irq (pg : Nat) (f : Fld) (k i : Nat) : (s.inc pg f k i).irq = s.irq := s.wf_irq _ _ _ _
@[simp] theorem State.inc_crs (pg : Nat) (f : Fld) (k i : Nat) : (s.inc pg f k i).crs = s.crs := s.wf_crs _ _ _ _
@[simp] theorem State.inc_pur (pg : Nat) (f : Fld) (k i : Nat) : (s.inc pg f k i).pur = s.pur := s.wf_pur _ _ _ _
@[simp] theorem State.inc_gov (pg : Nat) (f : Fld) (k i : Nat) : (s.inc pg f k i).gov = s.gov := s.wf_gov _ _ _ _
@[simp] theorem State.inc_store (pg : Nat) (f : Fld) (k i : Nat) : (s.inc pg f k i).store = s.store := s.wf_store _ _ _ _
@[simp] theorem State.inc_bst (pg : Nat) (f : Fld) (k i : Nat) : (s.inc pg f k i).bst = s.bst := s.wf_bst _ _ _ _
@[simp] theorem State.inc_slt (pg : Nat) (f : Fld) (k i : Nat) : (s.inc pg f k i).slt = s.slt := s.wf_slt _ _ _ _
@[simp] theorem State.inc_lig (pg : Nat) (f : Fld) (k i : Nat) : (s.inc pg f k i).lig = s.lig := s.wf_lig _ _ _ _
@[simp] theorem State.inc_spr (pg : Nat) (f : Fld) (k i : Nat) : (s.inc pg f k i).spr = s.spr := s.wf_spr _ _ _ _
@[simp] theorem State.inc_cs (pg : Nat) (f : Fld) (k i : Nat) : (s.inc pg f k i).cs = s.cs := s.wf_cs _ _ _ _
@[simp] theorem State.inc_gab (pg : Nat) (f : Fld) (k i : Nat) : (s.inc pg f k i).gab = s.gab := s.wf_gab _ _ _ _
@[simp] theorem State.inc_gcode (pg : Nat) (f : Fld) (k i : Nat) : (s.inc pg f k i).gcode = s.gcode := s.wf_gcode _ _ _ _
@[simp] theorem State.inc_gdata (pg : Nat) (f : Fld) (k i : Nat) : (s.inc pg f k i).gdata = s.gdata := s.wf_gdata _ _ _ _
@[simp] theorem State.inc_gcs (pg : Nat) (f : Fld) (k i : Nat) : (s.inc pg f k i).gcs = s.gcs := s.wf_gcs _ _ _ _
@[simp] theorem State.inc_gstage (pg : Nat) (f : Fld) (k i : Nat) : (s.inc pg f k i).gstage = s.gstage := s.wf_gstage _ _ _ _
@[simp] theorem State.inc_hbm (pg : Nat) (f : Fld) (k i : Nat) : (s.inc pg f k i).hbm = s.hbm := s.wf_hbm _ _ _ _
@[simp] theorem State.inc_ylm (pg : Nat) (f : Fld) (k i : Nat) : (s.inc pg f k i).ylm = s.ylm := s.wf_ylm _ _ _ _
@[simp] theorem State.inc_stk (pg : Nat) (f : Fld) (k i : Nat) : (s.inc pg f k i).stk = s.stk := s.wf_stk _ _ _ _
@[simp] theorem State.inc_fls (pg : Nat) (f : Fld) (k i : Nat) : (s.inc pg f k i).fls = s.fls := s.wf_fls _ _ _ _
@[simp] theorem State.inc_sfc (pg : Nat) (f : Fld) (k i : Nat) : (s.inc pg f k i).sfc = s.sfc := s.wf_sfc _ _ _ _
@[simp] theorem State.inc_fsc (pg : Nat) (f : Fld) (k i : Nat) : (s.inc pg f k i).fsc = s.fsc := s.wf_fsc _ _ _ _
@[simp] theorem State.inc_tap (pg : Nat) (f : Fld) (k i : Nat) : (s.inc pg f k i).tap = s.tap := s.wf_tap _ _ _ _
@[simp] theorem State.inc_dmr (pg : Nat) (f : Fld) (k i : Nat) : (s.inc pg f k i).dmr = s.dmr := s.wf_dmr _ _ _ _
@[simp] theorem State.inc_pwr (pg : Nat) (f : Fld) (k i : Nat) : (s.inc pg f k i).pwr = s.pwr := s.wf_pwr _ _ _ _
@[simp] theorem State.inc_eav (pg : Nat) (f : Fld) (k i : Nat) : (s.inc pg f k i).eav = s.eav := s.wf_eav _ _ _ _
@[simp] theorem State.inc_btx (pg : Nat) (f : Fld) (k i : Nat) : (s.inc pg f k i).btx = s.btx := s.wf_btx _ _ _ _
@[simp] theorem State.inc_frz (pg : Nat) (f : Fld) (k i : Nat) : (s.inc pg f k i).frz = s.frz := s.wf_frz _ _ _ _
@[simp] theorem State.inc_drainTick (pg : Nat) (f : Fld) (k i : Nat) : (s.inc pg f k i).drainTick = s.drainTick := s.wf_drainTick _ _ _ _
@[simp] theorem State.inc_drainReady (pg : Nat) (f : Fld) (k i : Nat) : (s.inc pg f k i).drainReady = s.drainReady := s.wf_drainReady _ _ _ _

/-! ## raise -/

@[simp] theorem State.raise_pending (pg b : Nat) : (s.raise pg b).pending = s.pending := s.wf_pending _ _ _ _
@[simp] theorem State.raise_out (pg b : Nat) : (s.raise pg b).out = s.out := s.wf_out _ _ _ _
@[simp] theorem State.raise_free (pg b : Nat) : (s.raise pg b).free = s.free := s.wf_free _ _ _ _
@[simp] theorem State.raise_host (pg b : Nat) : (s.raise pg b).host = s.host := s.wf_host _ _ _ _
@[simp] theorem State.raise_irq (pg b : Nat) : (s.raise pg b).irq = s.irq := s.wf_irq _ _ _ _
@[simp] theorem State.raise_crs (pg b : Nat) : (s.raise pg b).crs = s.crs := s.wf_crs _ _ _ _
@[simp] theorem State.raise_pur (pg b : Nat) : (s.raise pg b).pur = s.pur := s.wf_pur _ _ _ _
@[simp] theorem State.raise_gov (pg b : Nat) : (s.raise pg b).gov = s.gov := s.wf_gov _ _ _ _
@[simp] theorem State.raise_store (pg b : Nat) : (s.raise pg b).store = s.store := s.wf_store _ _ _ _
@[simp] theorem State.raise_bst (pg b : Nat) : (s.raise pg b).bst = s.bst := s.wf_bst _ _ _ _
@[simp] theorem State.raise_slt (pg b : Nat) : (s.raise pg b).slt = s.slt := s.wf_slt _ _ _ _
@[simp] theorem State.raise_lig (pg b : Nat) : (s.raise pg b).lig = s.lig := s.wf_lig _ _ _ _
@[simp] theorem State.raise_spr (pg b : Nat) : (s.raise pg b).spr = s.spr := s.wf_spr _ _ _ _
@[simp] theorem State.raise_cs (pg b : Nat) : (s.raise pg b).cs = s.cs := s.wf_cs _ _ _ _
@[simp] theorem State.raise_gab (pg b : Nat) : (s.raise pg b).gab = s.gab := s.wf_gab _ _ _ _
@[simp] theorem State.raise_gcode (pg b : Nat) : (s.raise pg b).gcode = s.gcode := s.wf_gcode _ _ _ _
@[simp] theorem State.raise_gdata (pg b : Nat) : (s.raise pg b).gdata = s.gdata := s.wf_gdata _ _ _ _
@[simp] theorem State.raise_gcs (pg b : Nat) : (s.raise pg b).gcs = s.gcs := s.wf_gcs _ _ _ _
@[simp] theorem State.raise_gstage (pg b : Nat) : (s.raise pg b).gstage = s.gstage := s.wf_gstage _ _ _ _
@[simp] theorem State.raise_hbm (pg b : Nat) : (s.raise pg b).hbm = s.hbm := s.wf_hbm _ _ _ _
@[simp] theorem State.raise_ylm (pg b : Nat) : (s.raise pg b).ylm = s.ylm := s.wf_ylm _ _ _ _
@[simp] theorem State.raise_stk (pg b : Nat) : (s.raise pg b).stk = s.stk := s.wf_stk _ _ _ _
@[simp] theorem State.raise_fls (pg b : Nat) : (s.raise pg b).fls = s.fls := s.wf_fls _ _ _ _
@[simp] theorem State.raise_sfc (pg b : Nat) : (s.raise pg b).sfc = s.sfc := s.wf_sfc _ _ _ _
@[simp] theorem State.raise_fsc (pg b : Nat) : (s.raise pg b).fsc = s.fsc := s.wf_fsc _ _ _ _
@[simp] theorem State.raise_tap (pg b : Nat) : (s.raise pg b).tap = s.tap := s.wf_tap _ _ _ _
@[simp] theorem State.raise_dmr (pg b : Nat) : (s.raise pg b).dmr = s.dmr := s.wf_dmr _ _ _ _
@[simp] theorem State.raise_pwr (pg b : Nat) : (s.raise pg b).pwr = s.pwr := s.wf_pwr _ _ _ _
@[simp] theorem State.raise_eav (pg b : Nat) : (s.raise pg b).eav = s.eav := s.wf_eav _ _ _ _
@[simp] theorem State.raise_btx (pg b : Nat) : (s.raise pg b).btx = s.btx := s.wf_btx _ _ _ _
@[simp] theorem State.raise_frz (pg b : Nat) : (s.raise pg b).frz = s.frz := s.wf_frz _ _ _ _
@[simp] theorem State.raise_drainTick (pg b : Nat) : (s.raise pg b).drainTick = s.drainTick := s.wf_drainTick _ _ _ _
@[simp] theorem State.raise_drainReady (pg b : Nat) : (s.raise pg b).drainReady = s.drainReady := s.wf_drainReady _ _ _ _

/-! ## emit -/

@[simp] theorem State.emit_pending (o : Output) : (s.emit o).pending = s.pending := rfl
@[simp] theorem State.emit_regs (o : Output) : (s.emit o).regs = s.regs := rfl
@[simp] theorem State.emit_free (o : Output) : (s.emit o).free = s.free := rfl
@[simp] theorem State.emit_host (o : Output) : (s.emit o).host = s.host := rfl
@[simp] theorem State.emit_irq (o : Output) : (s.emit o).irq = s.irq := rfl
@[simp] theorem State.emit_crs (o : Output) : (s.emit o).crs = s.crs := rfl
@[simp] theorem State.emit_pur (o : Output) : (s.emit o).pur = s.pur := rfl
@[simp] theorem State.emit_gov (o : Output) : (s.emit o).gov = s.gov := rfl
@[simp] theorem State.emit_store (o : Output) : (s.emit o).store = s.store := rfl
@[simp] theorem State.emit_bst (o : Output) : (s.emit o).bst = s.bst := rfl
@[simp] theorem State.emit_slt (o : Output) : (s.emit o).slt = s.slt := rfl
@[simp] theorem State.emit_lig (o : Output) : (s.emit o).lig = s.lig := rfl
@[simp] theorem State.emit_spr (o : Output) : (s.emit o).spr = s.spr := rfl
@[simp] theorem State.emit_cs (o : Output) : (s.emit o).cs = s.cs := rfl
@[simp] theorem State.emit_gab (o : Output) : (s.emit o).gab = s.gab := rfl
@[simp] theorem State.emit_gcode (o : Output) : (s.emit o).gcode = s.gcode := rfl
@[simp] theorem State.emit_gdata (o : Output) : (s.emit o).gdata = s.gdata := rfl
@[simp] theorem State.emit_gcs (o : Output) : (s.emit o).gcs = s.gcs := rfl
@[simp] theorem State.emit_gstage (o : Output) : (s.emit o).gstage = s.gstage := rfl
@[simp] theorem State.emit_hbm (o : Output) : (s.emit o).hbm = s.hbm := rfl
@[simp] theorem State.emit_ylm (o : Output) : (s.emit o).ylm = s.ylm := rfl
@[simp] theorem State.emit_stk (o : Output) : (s.emit o).stk = s.stk := rfl
@[simp] theorem State.emit_fls (o : Output) : (s.emit o).fls = s.fls := rfl
@[simp] theorem State.emit_sfc (o : Output) : (s.emit o).sfc = s.sfc := rfl
@[simp] theorem State.emit_fsc (o : Output) : (s.emit o).fsc = s.fsc := rfl
@[simp] theorem State.emit_tap (o : Output) : (s.emit o).tap = s.tap := rfl
@[simp] theorem State.emit_dmr (o : Output) : (s.emit o).dmr = s.dmr := rfl
@[simp] theorem State.emit_pwr (o : Output) : (s.emit o).pwr = s.pwr := rfl
@[simp] theorem State.emit_eav (o : Output) : (s.emit o).eav = s.eav := rfl
@[simp] theorem State.emit_btx (o : Output) : (s.emit o).btx = s.btx := rfl
@[simp] theorem State.emit_frz (o : Output) : (s.emit o).frz = s.frz := rfl
@[simp] theorem State.emit_drainTick (o : Output) : (s.emit o).drainTick = s.drainTick := rfl
@[simp] theorem State.emit_drainReady (o : Output) : (s.emit o).drainReady = s.drainReady := rfl

/-! ## setGab -/

@[simp] theorem State.setGab_pending (g : Nat) (x : GabSt) : (s.setGab g x).pending = s.pending := rfl
@[simp] theorem State.setGab_regs (g : Nat) (x : GabSt) : (s.setGab g x).regs = s.regs := rfl
@[simp] theorem State.setGab_out (g : Nat) (x : GabSt) : (s.setGab g x).out = s.out := rfl
@[simp] theorem State.setGab_free (g : Nat) (x : GabSt) : (s.setGab g x).free = s.free := rfl
@[simp] theorem State.setGab_host (g : Nat) (x : GabSt) : (s.setGab g x).host = s.host := rfl
@[simp] theorem State.setGab_irq (g : Nat) (x : GabSt) : (s.setGab g x).irq = s.irq := rfl
@[simp] theorem State.setGab_crs (g : Nat) (x : GabSt) : (s.setGab g x).crs = s.crs := rfl
@[simp] theorem State.setGab_pur (g : Nat) (x : GabSt) : (s.setGab g x).pur = s.pur := rfl
@[simp] theorem State.setGab_gov (g : Nat) (x : GabSt) : (s.setGab g x).gov = s.gov := rfl
@[simp] theorem State.setGab_store (g : Nat) (x : GabSt) : (s.setGab g x).store = s.store := rfl
@[simp] theorem State.setGab_bst (g : Nat) (x : GabSt) : (s.setGab g x).bst = s.bst := rfl
@[simp] theorem State.setGab_slt (g : Nat) (x : GabSt) : (s.setGab g x).slt = s.slt := rfl
@[simp] theorem State.setGab_lig (g : Nat) (x : GabSt) : (s.setGab g x).lig = s.lig := rfl
@[simp] theorem State.setGab_spr (g : Nat) (x : GabSt) : (s.setGab g x).spr = s.spr := rfl
@[simp] theorem State.setGab_cs (g : Nat) (x : GabSt) : (s.setGab g x).cs = s.cs := rfl
@[simp] theorem State.setGab_gcode (g : Nat) (x : GabSt) : (s.setGab g x).gcode = s.gcode := rfl
@[simp] theorem State.setGab_gdata (g : Nat) (x : GabSt) : (s.setGab g x).gdata = s.gdata := rfl
@[simp] theorem State.setGab_gcs (g : Nat) (x : GabSt) : (s.setGab g x).gcs = s.gcs := rfl
@[simp] theorem State.setGab_gstage (g : Nat) (x : GabSt) : (s.setGab g x).gstage = s.gstage := rfl
@[simp] theorem State.setGab_hbm (g : Nat) (x : GabSt) : (s.setGab g x).hbm = s.hbm := rfl
@[simp] theorem State.setGab_ylm (g : Nat) (x : GabSt) : (s.setGab g x).ylm = s.ylm := rfl
@[simp] theorem State.setGab_stk (g : Nat) (x : GabSt) : (s.setGab g x).stk = s.stk := rfl
@[simp] theorem State.setGab_fls (g : Nat) (x : GabSt) : (s.setGab g x).fls = s.fls := rfl
@[simp] theorem State.setGab_sfc (g : Nat) (x : GabSt) : (s.setGab g x).sfc = s.sfc := rfl
@[simp] theorem State.setGab_fsc (g : Nat) (x : GabSt) : (s.setGab g x).fsc = s.fsc := rfl
@[simp] theorem State.setGab_tap (g : Nat) (x : GabSt) : (s.setGab g x).tap = s.tap := rfl
@[simp] theorem State.setGab_dmr (g : Nat) (x : GabSt) : (s.setGab g x).dmr = s.dmr := rfl
@[simp] theorem State.setGab_pwr (g : Nat) (x : GabSt) : (s.setGab g x).pwr = s.pwr := rfl
@[simp] theorem State.setGab_eav (g : Nat) (x : GabSt) : (s.setGab g x).eav = s.eav := rfl
@[simp] theorem State.setGab_btx (g : Nat) (x : GabSt) : (s.setGab g x).btx = s.btx := rfl
@[simp] theorem State.setGab_frz (g : Nat) (x : GabSt) : (s.setGab g x).frz = s.frz := rfl
@[simp] theorem State.setGab_drainTick (g : Nat) (x : GabSt) : (s.setGab g x).drainTick = s.drainTick := rfl
@[simp] theorem State.setGab_drainReady (g : Nat) (x : GabSt) : (s.setGab g x).drainReady = s.drainReady := rfl

/-! ## setSp -/

@[simp] theorem State.setSp_pending (i : Nat) (p : SprSt) : (s.setSp i p).pending = s.pending := rfl
@[simp] theorem State.setSp_regs (i : Nat) (p : SprSt) : (s.setSp i p).regs = s.regs := rfl
@[simp] theorem State.setSp_out (i : Nat) (p : SprSt) : (s.setSp i p).out = s.out := rfl
@[simp] theorem State.setSp_free (i : Nat) (p : SprSt) : (s.setSp i p).free = s.free := rfl
@[simp] theorem State.setSp_host (i : Nat) (p : SprSt) : (s.setSp i p).host = s.host := rfl
@[simp] theorem State.setSp_irq (i : Nat) (p : SprSt) : (s.setSp i p).irq = s.irq := rfl
@[simp] theorem State.setSp_crs (i : Nat) (p : SprSt) : (s.setSp i p).crs = s.crs := rfl
@[simp] theorem State.setSp_pur (i : Nat) (p : SprSt) : (s.setSp i p).pur = s.pur := rfl
@[simp] theorem State.setSp_gov (i : Nat) (p : SprSt) : (s.setSp i p).gov = s.gov := rfl
@[simp] theorem State.setSp_store (i : Nat) (p : SprSt) : (s.setSp i p).store = s.store := rfl
@[simp] theorem State.setSp_bst (i : Nat) (p : SprSt) : (s.setSp i p).bst = s.bst := rfl
@[simp] theorem State.setSp_slt (i : Nat) (p : SprSt) : (s.setSp i p).slt = s.slt := rfl
@[simp] theorem State.setSp_lig (i : Nat) (p : SprSt) : (s.setSp i p).lig = s.lig := rfl
@[simp] theorem State.setSp_cs (i : Nat) (p : SprSt) : (s.setSp i p).cs = s.cs := rfl
@[simp] theorem State.setSp_gab (i : Nat) (p : SprSt) : (s.setSp i p).gab = s.gab := rfl
@[simp] theorem State.setSp_gcode (i : Nat) (p : SprSt) : (s.setSp i p).gcode = s.gcode := rfl
@[simp] theorem State.setSp_gdata (i : Nat) (p : SprSt) : (s.setSp i p).gdata = s.gdata := rfl
@[simp] theorem State.setSp_gcs (i : Nat) (p : SprSt) : (s.setSp i p).gcs = s.gcs := rfl
@[simp] theorem State.setSp_gstage (i : Nat) (p : SprSt) : (s.setSp i p).gstage = s.gstage := rfl
@[simp] theorem State.setSp_hbm (i : Nat) (p : SprSt) : (s.setSp i p).hbm = s.hbm := rfl
@[simp] theorem State.setSp_ylm (i : Nat) (p : SprSt) : (s.setSp i p).ylm = s.ylm := rfl
@[simp] theorem State.setSp_stk (i : Nat) (p : SprSt) : (s.setSp i p).stk = s.stk := rfl
@[simp] theorem State.setSp_fls (i : Nat) (p : SprSt) : (s.setSp i p).fls = s.fls := rfl
@[simp] theorem State.setSp_sfc (i : Nat) (p : SprSt) : (s.setSp i p).sfc = s.sfc := rfl
@[simp] theorem State.setSp_fsc (i : Nat) (p : SprSt) : (s.setSp i p).fsc = s.fsc := rfl
@[simp] theorem State.setSp_tap (i : Nat) (p : SprSt) : (s.setSp i p).tap = s.tap := rfl
@[simp] theorem State.setSp_dmr (i : Nat) (p : SprSt) : (s.setSp i p).dmr = s.dmr := rfl
@[simp] theorem State.setSp_pwr (i : Nat) (p : SprSt) : (s.setSp i p).pwr = s.pwr := rfl
@[simp] theorem State.setSp_eav (i : Nat) (p : SprSt) : (s.setSp i p).eav = s.eav := rfl
@[simp] theorem State.setSp_btx (i : Nat) (p : SprSt) : (s.setSp i p).btx = s.btx := rfl
@[simp] theorem State.setSp_frz (i : Nat) (p : SprSt) : (s.setSp i p).frz = s.frz := rfl
@[simp] theorem State.setSp_drainTick (i : Nat) (p : SprSt) : (s.setSp i p).drainTick = s.drainTick := rfl
@[simp] theorem State.setSp_drainReady (i : Nat) (p : SprSt) : (s.setSp i p).drainReady = s.drainReady := rfl

/-! ## setBatten -/

@[simp] theorem State.setBatten_pending (b : Nat) (x : BstSt) : (s.setBatten b x).pending = s.pending := rfl
@[simp] theorem State.setBatten_regs (b : Nat) (x : BstSt) : (s.setBatten b x).regs = s.regs := rfl
@[simp] theorem State.setBatten_out (b : Nat) (x : BstSt) : (s.setBatten b x).out = s.out := rfl
@[simp] theorem State.setBatten_free (b : Nat) (x : BstSt) : (s.setBatten b x).free = s.free := rfl
@[simp] theorem State.setBatten_host (b : Nat) (x : BstSt) : (s.setBatten b x).host = s.host := rfl
@[simp] theorem State.setBatten_irq (b : Nat) (x : BstSt) : (s.setBatten b x).irq = s.irq := rfl
@[simp] theorem State.setBatten_crs (b : Nat) (x : BstSt) : (s.setBatten b x).crs = s.crs := rfl
@[simp] theorem State.setBatten_pur (b : Nat) (x : BstSt) : (s.setBatten b x).pur = s.pur := rfl
@[simp] theorem State.setBatten_gov (b : Nat) (x : BstSt) : (s.setBatten b x).gov = s.gov := rfl
@[simp] theorem State.setBatten_store (b : Nat) (x : BstSt) : (s.setBatten b x).store = s.store := rfl
@[simp] theorem State.setBatten_slt (b : Nat) (x : BstSt) : (s.setBatten b x).slt = s.slt := rfl
@[simp] theorem State.setBatten_lig (b : Nat) (x : BstSt) : (s.setBatten b x).lig = s.lig := rfl
@[simp] theorem State.setBatten_spr (b : Nat) (x : BstSt) : (s.setBatten b x).spr = s.spr := rfl
@[simp] theorem State.setBatten_cs (b : Nat) (x : BstSt) : (s.setBatten b x).cs = s.cs := rfl
@[simp] theorem State.setBatten_gab (b : Nat) (x : BstSt) : (s.setBatten b x).gab = s.gab := rfl
@[simp] theorem State.setBatten_gcode (b : Nat) (x : BstSt) : (s.setBatten b x).gcode = s.gcode := rfl
@[simp] theorem State.setBatten_gdata (b : Nat) (x : BstSt) : (s.setBatten b x).gdata = s.gdata := rfl
@[simp] theorem State.setBatten_gcs (b : Nat) (x : BstSt) : (s.setBatten b x).gcs = s.gcs := rfl
@[simp] theorem State.setBatten_gstage (b : Nat) (x : BstSt) : (s.setBatten b x).gstage = s.gstage := rfl
@[simp] theorem State.setBatten_hbm (b : Nat) (x : BstSt) : (s.setBatten b x).hbm = s.hbm := rfl
@[simp] theorem State.setBatten_ylm (b : Nat) (x : BstSt) : (s.setBatten b x).ylm = s.ylm := rfl
@[simp] theorem State.setBatten_stk (b : Nat) (x : BstSt) : (s.setBatten b x).stk = s.stk := rfl
@[simp] theorem State.setBatten_fls (b : Nat) (x : BstSt) : (s.setBatten b x).fls = s.fls := rfl
@[simp] theorem State.setBatten_sfc (b : Nat) (x : BstSt) : (s.setBatten b x).sfc = s.sfc := rfl
@[simp] theorem State.setBatten_fsc (b : Nat) (x : BstSt) : (s.setBatten b x).fsc = s.fsc := rfl
@[simp] theorem State.setBatten_tap (b : Nat) (x : BstSt) : (s.setBatten b x).tap = s.tap := rfl
@[simp] theorem State.setBatten_dmr (b : Nat) (x : BstSt) : (s.setBatten b x).dmr = s.dmr := rfl
@[simp] theorem State.setBatten_pwr (b : Nat) (x : BstSt) : (s.setBatten b x).pwr = s.pwr := rfl
@[simp] theorem State.setBatten_eav (b : Nat) (x : BstSt) : (s.setBatten b x).eav = s.eav := rfl
@[simp] theorem State.setBatten_btx (b : Nat) (x : BstSt) : (s.setBatten b x).btx = s.btx := rfl
@[simp] theorem State.setBatten_frz (b : Nat) (x : BstSt) : (s.setBatten b x).frz = s.frz := rfl
@[simp] theorem State.setBatten_drainTick (b : Nat) (x : BstSt) : (s.setBatten b x).drainTick = s.drainTick := rfl
@[simp] theorem State.setBatten_drainReady (b : Nat) (x : BstSt) : (s.setBatten b x).drainReady = s.drainReady := rfl

/-! ## setStWord -/

@[simp] theorem State.setStWord_pending (b a : Nat) (w : StWord) : (s.setStWord b a w).pending = s.pending := rfl
@[simp] theorem State.setStWord_regs (b a : Nat) (w : StWord) : (s.setStWord b a w).regs = s.regs := rfl
@[simp] theorem State.setStWord_out (b a : Nat) (w : StWord) : (s.setStWord b a w).out = s.out := rfl
@[simp] theorem State.setStWord_free (b a : Nat) (w : StWord) : (s.setStWord b a w).free = s.free := rfl
@[simp] theorem State.setStWord_host (b a : Nat) (w : StWord) : (s.setStWord b a w).host = s.host := rfl
@[simp] theorem State.setStWord_irq (b a : Nat) (w : StWord) : (s.setStWord b a w).irq = s.irq := rfl
@[simp] theorem State.setStWord_crs (b a : Nat) (w : StWord) : (s.setStWord b a w).crs = s.crs := rfl
@[simp] theorem State.setStWord_pur (b a : Nat) (w : StWord) : (s.setStWord b a w).pur = s.pur := rfl
@[simp] theorem State.setStWord_gov (b a : Nat) (w : StWord) : (s.setStWord b a w).gov = s.gov := rfl
@[simp] theorem State.setStWord_bst (b a : Nat) (w : StWord) : (s.setStWord b a w).bst = s.bst := rfl
@[simp] theorem State.setStWord_slt (b a : Nat) (w : StWord) : (s.setStWord b a w).slt = s.slt := rfl
@[simp] theorem State.setStWord_lig (b a : Nat) (w : StWord) : (s.setStWord b a w).lig = s.lig := rfl
@[simp] theorem State.setStWord_spr (b a : Nat) (w : StWord) : (s.setStWord b a w).spr = s.spr := rfl
@[simp] theorem State.setStWord_cs (b a : Nat) (w : StWord) : (s.setStWord b a w).cs = s.cs := rfl
@[simp] theorem State.setStWord_gab (b a : Nat) (w : StWord) : (s.setStWord b a w).gab = s.gab := rfl
@[simp] theorem State.setStWord_gcode (b a : Nat) (w : StWord) : (s.setStWord b a w).gcode = s.gcode := rfl
@[simp] theorem State.setStWord_gdata (b a : Nat) (w : StWord) : (s.setStWord b a w).gdata = s.gdata := rfl
@[simp] theorem State.setStWord_gcs (b a : Nat) (w : StWord) : (s.setStWord b a w).gcs = s.gcs := rfl
@[simp] theorem State.setStWord_gstage (b a : Nat) (w : StWord) : (s.setStWord b a w).gstage = s.gstage := rfl
@[simp] theorem State.setStWord_hbm (b a : Nat) (w : StWord) : (s.setStWord b a w).hbm = s.hbm := rfl
@[simp] theorem State.setStWord_ylm (b a : Nat) (w : StWord) : (s.setStWord b a w).ylm = s.ylm := rfl
@[simp] theorem State.setStWord_stk (b a : Nat) (w : StWord) : (s.setStWord b a w).stk = s.stk := rfl
@[simp] theorem State.setStWord_fls (b a : Nat) (w : StWord) : (s.setStWord b a w).fls = s.fls := rfl
@[simp] theorem State.setStWord_sfc (b a : Nat) (w : StWord) : (s.setStWord b a w).sfc = s.sfc := rfl
@[simp] theorem State.setStWord_fsc (b a : Nat) (w : StWord) : (s.setStWord b a w).fsc = s.fsc := rfl
@[simp] theorem State.setStWord_tap (b a : Nat) (w : StWord) : (s.setStWord b a w).tap = s.tap := rfl
@[simp] theorem State.setStWord_dmr (b a : Nat) (w : StWord) : (s.setStWord b a w).dmr = s.dmr := rfl
@[simp] theorem State.setStWord_pwr (b a : Nat) (w : StWord) : (s.setStWord b a w).pwr = s.pwr := rfl
@[simp] theorem State.setStWord_eav (b a : Nat) (w : StWord) : (s.setStWord b a w).eav = s.eav := rfl
@[simp] theorem State.setStWord_btx (b a : Nat) (w : StWord) : (s.setStWord b a w).btx = s.btx := rfl
@[simp] theorem State.setStWord_frz (b a : Nat) (w : StWord) : (s.setStWord b a w).frz = s.frz := rfl
@[simp] theorem State.setStWord_drainTick (b a : Nat) (w : StWord) : (s.setStWord b a w).drainTick = s.drainTick := rfl
@[simp] theorem State.setStWord_drainReady (b a : Nat) (w : StWord) : (s.setStWord b a w).drainReady = s.drainReady := rfl

/-! ## setArr -/

@[simp] theorem State.setArr_pending (x : Nat) (v : ArrSt) : (s.setArr x v).pending = s.pending := rfl
@[simp] theorem State.setArr_regs (x : Nat) (v : ArrSt) : (s.setArr x v).regs = s.regs := rfl
@[simp] theorem State.setArr_out (x : Nat) (v : ArrSt) : (s.setArr x v).out = s.out := rfl
@[simp] theorem State.setArr_free (x : Nat) (v : ArrSt) : (s.setArr x v).free = s.free := rfl
@[simp] theorem State.setArr_host (x : Nat) (v : ArrSt) : (s.setArr x v).host = s.host := rfl
@[simp] theorem State.setArr_irq (x : Nat) (v : ArrSt) : (s.setArr x v).irq = s.irq := rfl
@[simp] theorem State.setArr_crs (x : Nat) (v : ArrSt) : (s.setArr x v).crs = s.crs := rfl
@[simp] theorem State.setArr_pur (x : Nat) (v : ArrSt) : (s.setArr x v).pur = s.pur := rfl
@[simp] theorem State.setArr_gov (x : Nat) (v : ArrSt) : (s.setArr x v).gov = s.gov := rfl
@[simp] theorem State.setArr_store (x : Nat) (v : ArrSt) : (s.setArr x v).store = s.store := rfl
@[simp] theorem State.setArr_bst (x : Nat) (v : ArrSt) : (s.setArr x v).bst = s.bst := rfl
@[simp] theorem State.setArr_lig (x : Nat) (v : ArrSt) : (s.setArr x v).lig = s.lig := rfl
@[simp] theorem State.setArr_spr (x : Nat) (v : ArrSt) : (s.setArr x v).spr = s.spr := rfl
@[simp] theorem State.setArr_cs (x : Nat) (v : ArrSt) : (s.setArr x v).cs = s.cs := rfl
@[simp] theorem State.setArr_gab (x : Nat) (v : ArrSt) : (s.setArr x v).gab = s.gab := rfl
@[simp] theorem State.setArr_gcode (x : Nat) (v : ArrSt) : (s.setArr x v).gcode = s.gcode := rfl
@[simp] theorem State.setArr_gdata (x : Nat) (v : ArrSt) : (s.setArr x v).gdata = s.gdata := rfl
@[simp] theorem State.setArr_gcs (x : Nat) (v : ArrSt) : (s.setArr x v).gcs = s.gcs := rfl
@[simp] theorem State.setArr_gstage (x : Nat) (v : ArrSt) : (s.setArr x v).gstage = s.gstage := rfl
@[simp] theorem State.setArr_hbm (x : Nat) (v : ArrSt) : (s.setArr x v).hbm = s.hbm := rfl
@[simp] theorem State.setArr_ylm (x : Nat) (v : ArrSt) : (s.setArr x v).ylm = s.ylm := rfl
@[simp] theorem State.setArr_stk (x : Nat) (v : ArrSt) : (s.setArr x v).stk = s.stk := rfl
@[simp] theorem State.setArr_fls (x : Nat) (v : ArrSt) : (s.setArr x v).fls = s.fls := rfl
@[simp] theorem State.setArr_sfc (x : Nat) (v : ArrSt) : (s.setArr x v).sfc = s.sfc := rfl
@[simp] theorem State.setArr_fsc (x : Nat) (v : ArrSt) : (s.setArr x v).fsc = s.fsc := rfl
@[simp] theorem State.setArr_tap (x : Nat) (v : ArrSt) : (s.setArr x v).tap = s.tap := rfl
@[simp] theorem State.setArr_dmr (x : Nat) (v : ArrSt) : (s.setArr x v).dmr = s.dmr := rfl
@[simp] theorem State.setArr_pwr (x : Nat) (v : ArrSt) : (s.setArr x v).pwr = s.pwr := rfl
@[simp] theorem State.setArr_eav (x : Nat) (v : ArrSt) : (s.setArr x v).eav = s.eav := rfl
@[simp] theorem State.setArr_btx (x : Nat) (v : ArrSt) : (s.setArr x v).btx = s.btx := rfl
@[simp] theorem State.setArr_frz (x : Nat) (v : ArrSt) : (s.setArr x v).frz = s.frz := rfl
@[simp] theorem State.setArr_drainTick (x : Nat) (v : ArrSt) : (s.setArr x v).drainTick = s.drainTick := rfl
@[simp] theorem State.setArr_drainReady (x : Nat) (v : ArrSt) : (s.setArr x v).drainReady = s.drainReady := rfl

/-! ## setStook -/

@[simp] theorem State.setStook_pending (n : Nat) (x : StkSt) : (s.setStook n x).pending = s.pending := rfl
@[simp] theorem State.setStook_regs (n : Nat) (x : StkSt) : (s.setStook n x).regs = s.regs := rfl
@[simp] theorem State.setStook_out (n : Nat) (x : StkSt) : (s.setStook n x).out = s.out := rfl
@[simp] theorem State.setStook_free (n : Nat) (x : StkSt) : (s.setStook n x).free = s.free := rfl
@[simp] theorem State.setStook_host (n : Nat) (x : StkSt) : (s.setStook n x).host = s.host := rfl
@[simp] theorem State.setStook_irq (n : Nat) (x : StkSt) : (s.setStook n x).irq = s.irq := rfl
@[simp] theorem State.setStook_crs (n : Nat) (x : StkSt) : (s.setStook n x).crs = s.crs := rfl
@[simp] theorem State.setStook_pur (n : Nat) (x : StkSt) : (s.setStook n x).pur = s.pur := rfl
@[simp] theorem State.setStook_gov (n : Nat) (x : StkSt) : (s.setStook n x).gov = s.gov := rfl
@[simp] theorem State.setStook_store (n : Nat) (x : StkSt) : (s.setStook n x).store = s.store := rfl
@[simp] theorem State.setStook_bst (n : Nat) (x : StkSt) : (s.setStook n x).bst = s.bst := rfl
@[simp] theorem State.setStook_slt (n : Nat) (x : StkSt) : (s.setStook n x).slt = s.slt := rfl
@[simp] theorem State.setStook_lig (n : Nat) (x : StkSt) : (s.setStook n x).lig = s.lig := rfl
@[simp] theorem State.setStook_spr (n : Nat) (x : StkSt) : (s.setStook n x).spr = s.spr := rfl
@[simp] theorem State.setStook_cs (n : Nat) (x : StkSt) : (s.setStook n x).cs = s.cs := rfl
@[simp] theorem State.setStook_gab (n : Nat) (x : StkSt) : (s.setStook n x).gab = s.gab := rfl
@[simp] theorem State.setStook_gcode (n : Nat) (x : StkSt) : (s.setStook n x).gcode = s.gcode := rfl
@[simp] theorem State.setStook_gdata (n : Nat) (x : StkSt) : (s.setStook n x).gdata = s.gdata := rfl
@[simp] theorem State.setStook_gcs (n : Nat) (x : StkSt) : (s.setStook n x).gcs = s.gcs := rfl
@[simp] theorem State.setStook_gstage (n : Nat) (x : StkSt) : (s.setStook n x).gstage = s.gstage := rfl
@[simp] theorem State.setStook_hbm (n : Nat) (x : StkSt) : (s.setStook n x).hbm = s.hbm := rfl
@[simp] theorem State.setStook_ylm (n : Nat) (x : StkSt) : (s.setStook n x).ylm = s.ylm := rfl
@[simp] theorem State.setStook_fls (n : Nat) (x : StkSt) : (s.setStook n x).fls = s.fls := rfl
@[simp] theorem State.setStook_sfc (n : Nat) (x : StkSt) : (s.setStook n x).sfc = s.sfc := rfl
@[simp] theorem State.setStook_fsc (n : Nat) (x : StkSt) : (s.setStook n x).fsc = s.fsc := rfl
@[simp] theorem State.setStook_tap (n : Nat) (x : StkSt) : (s.setStook n x).tap = s.tap := rfl
@[simp] theorem State.setStook_dmr (n : Nat) (x : StkSt) : (s.setStook n x).dmr = s.dmr := rfl
@[simp] theorem State.setStook_pwr (n : Nat) (x : StkSt) : (s.setStook n x).pwr = s.pwr := rfl
@[simp] theorem State.setStook_eav (n : Nat) (x : StkSt) : (s.setStook n x).eav = s.eav := rfl
@[simp] theorem State.setStook_btx (n : Nat) (x : StkSt) : (s.setStook n x).btx = s.btx := rfl
@[simp] theorem State.setStook_frz (n : Nat) (x : StkSt) : (s.setStook n x).frz = s.frz := rfl
@[simp] theorem State.setStook_drainTick (n : Nat) (x : StkSt) : (s.setStook n x).drainTick = s.drainTick := rfl
@[simp] theorem State.setStook_drainReady (n : Nat) (x : StkSt) : (s.setStook n x).drainReady = s.drainReady := rfl

/-! ## setYealm -/

@[simp] theorem State.setYealm_pending (y : Nat) (x : YlmSt) : (s.setYealm y x).pending = s.pending := rfl
@[simp] theorem State.setYealm_regs (y : Nat) (x : YlmSt) : (s.setYealm y x).regs = s.regs := rfl
@[simp] theorem State.setYealm_out (y : Nat) (x : YlmSt) : (s.setYealm y x).out = s.out := rfl
@[simp] theorem State.setYealm_free (y : Nat) (x : YlmSt) : (s.setYealm y x).free = s.free := rfl
@[simp] theorem State.setYealm_host (y : Nat) (x : YlmSt) : (s.setYealm y x).host = s.host := rfl
@[simp] theorem State.setYealm_irq (y : Nat) (x : YlmSt) : (s.setYealm y x).irq = s.irq := rfl
@[simp] theorem State.setYealm_crs (y : Nat) (x : YlmSt) : (s.setYealm y x).crs = s.crs := rfl
@[simp] theorem State.setYealm_pur (y : Nat) (x : YlmSt) : (s.setYealm y x).pur = s.pur := rfl
@[simp] theorem State.setYealm_gov (y : Nat) (x : YlmSt) : (s.setYealm y x).gov = s.gov := rfl
@[simp] theorem State.setYealm_store (y : Nat) (x : YlmSt) : (s.setYealm y x).store = s.store := rfl
@[simp] theorem State.setYealm_bst (y : Nat) (x : YlmSt) : (s.setYealm y x).bst = s.bst := rfl
@[simp] theorem State.setYealm_slt (y : Nat) (x : YlmSt) : (s.setYealm y x).slt = s.slt := rfl
@[simp] theorem State.setYealm_lig (y : Nat) (x : YlmSt) : (s.setYealm y x).lig = s.lig := rfl
@[simp] theorem State.setYealm_spr (y : Nat) (x : YlmSt) : (s.setYealm y x).spr = s.spr := rfl
@[simp] theorem State.setYealm_cs (y : Nat) (x : YlmSt) : (s.setYealm y x).cs = s.cs := rfl
@[simp] theorem State.setYealm_gab (y : Nat) (x : YlmSt) : (s.setYealm y x).gab = s.gab := rfl
@[simp] theorem State.setYealm_gcode (y : Nat) (x : YlmSt) : (s.setYealm y x).gcode = s.gcode := rfl
@[simp] theorem State.setYealm_gdata (y : Nat) (x : YlmSt) : (s.setYealm y x).gdata = s.gdata := rfl
@[simp] theorem State.setYealm_gcs (y : Nat) (x : YlmSt) : (s.setYealm y x).gcs = s.gcs := rfl
@[simp] theorem State.setYealm_gstage (y : Nat) (x : YlmSt) : (s.setYealm y x).gstage = s.gstage := rfl
@[simp] theorem State.setYealm_hbm (y : Nat) (x : YlmSt) : (s.setYealm y x).hbm = s.hbm := rfl
@[simp] theorem State.setYealm_stk (y : Nat) (x : YlmSt) : (s.setYealm y x).stk = s.stk := rfl
@[simp] theorem State.setYealm_fls (y : Nat) (x : YlmSt) : (s.setYealm y x).fls = s.fls := rfl
@[simp] theorem State.setYealm_sfc (y : Nat) (x : YlmSt) : (s.setYealm y x).sfc = s.sfc := rfl
@[simp] theorem State.setYealm_fsc (y : Nat) (x : YlmSt) : (s.setYealm y x).fsc = s.fsc := rfl
@[simp] theorem State.setYealm_tap (y : Nat) (x : YlmSt) : (s.setYealm y x).tap = s.tap := rfl
@[simp] theorem State.setYealm_dmr (y : Nat) (x : YlmSt) : (s.setYealm y x).dmr = s.dmr := rfl
@[simp] theorem State.setYealm_pwr (y : Nat) (x : YlmSt) : (s.setYealm y x).pwr = s.pwr := rfl
@[simp] theorem State.setYealm_eav (y : Nat) (x : YlmSt) : (s.setYealm y x).eav = s.eav := rfl
@[simp] theorem State.setYealm_btx (y : Nat) (x : YlmSt) : (s.setYealm y x).btx = s.btx := rfl
@[simp] theorem State.setYealm_frz (y : Nat) (x : YlmSt) : (s.setYealm y x).frz = s.frz := rfl
@[simp] theorem State.setYealm_drainTick (y : Nat) (x : YlmSt) : (s.setYealm y x).drainTick = s.drainTick := rfl
@[simp] theorem State.setYealm_drainReady (y : Nat) (x : YlmSt) : (s.setYealm y x).drainReady = s.drainReady := rfl

end Sys2Proof.Machine
end

