-- ==== Sys2Proof/Laws/Words.lean ====
section
/-! SUPPORT. What a run of reads or writes through a window answers when its processor owns every bank it names: the words the store holds, and no refusal. -/

namespace Sys2Proof.Machine

/-- Two states that differ in the store's words alone, and hold the same word at every address. -/
def SameWords (s t : State) : Prop :=
  (∃ x, t = { s with store := x }) ∧ ∀ k, smGet stDflt t.store k = smGet stDflt s.store k

theorem SameWords.refl (s : State) : SameWords s s := ⟨⟨s.store, rfl⟩, fun _ => rfl⟩

theorem SameWords.trans {s t u : State} (h : SameWords s t) (g : SameWords t u) : SameWords s u := by
  obtain ⟨⟨x, rfl⟩, h2⟩ := h
  obtain ⟨⟨y, rfl⟩, g2⟩ := g
  exact ⟨⟨y, rfl⟩, fun k => (g2 k).trans (h2 k)⟩

theorem SameWords.stWord {s t : State} (h : SameWords s t) (b a : Nat) : t.stWord b a = s.stWord b a := by
  obtain ⟨⟨x, rfl⟩, h2⟩ := h
  exact h2 _

/-- Rights and windows read no word of the store. -/
theorem SameWords.winUser {s t : State} (h : SameWords s t) (b w m : Nat) : t.winUser b w m = s.winUser b w m := by
  obtain ⟨⟨x, rfl⟩, -⟩ := h; rfl

theorem SameWords.winAddr {s t : State} (h : SameWords s t) (b w k : Nat) : t.winAddr b w k = s.winAddr b w k := by
  obtain ⟨⟨x, rfl⟩, -⟩ := h; rfl

theorem SameWords.stDenied {s t : State} (h : SameWords s t) (b a m : Nat) (wr : Bool) :
    t.stDenied b a m wr (t.drives b) = s.stDenied b a m wr (s.drives b) := by
  obtain ⟨⟨x, rfl⟩, -⟩ := h; rfl

/-- A read of a clean word that nothing strikes delivers its data and changes no word. -/
theorem stRead_clean (s : State) (b a : Nat) (h : (s.stWord b a).err = .clean) :
    SameWords s (s.stRead b a .clean).1 ∧ (s.stRead b a .clean).2 = ((s.stWord b a).data, false) := by
  have hj : stJoin (s.stWord b a).err .clean = .clean := by rw [h]; rfl
  simp only [State.stRead, hj, and_true]
  refine ⟨⟨_, rfl⟩, fun k => ?_⟩
  have hw : ({ s.stWord b a with err := .clean } : StWord) = s.stWord b a := by rw [← h]
  rw [hw]
  by_cases hk : k = s.stKey b a
  · subst hk; simp [State.setStWord, State.stWord]
  · exact smGet_smSet_ne _ _ _ _ hk

/-- Words through a window whose processor may read them all, and which are clean, are read as the store holds them. -/
theorem readWords_clean (s : State) (b w k n : Nat) (hu : s.winUser b w ownSpar = true)
    (h : ∀ j, j < n → s.stDenied b (s.winAddr b w (k + j)) ownSpar false (s.drives b) = none ∧
      (s.stWord b (s.winAddr b w (k + j))).err = .clean) :
    ∃ t, s.readWords b w k [] n = (t, some ((List.range n).map fun j => (s.stWord b (s.winAddr b w (k + j))).data)) ∧
      SameWords s t := by
  induction n with
  | zero => exact ⟨s, rfl, .refl s⟩
  | succ n ih =>
    obtain ⟨t, ht, hs⟩ := ih fun j hj => h j (Nat.lt_succ_of_lt hj)
    obtain ⟨hd, he⟩ := h n (Nat.lt_succ_self n)
    have hr := stRead_clean t b (s.winAddr b w (k + n)) (by rw [hs.stWord]; exact he)
    rcases hx : t.stRead b (s.winAddr b w (k + n)) .clean with ⟨t', v, p⟩
    rw [hx] at hr
    obtain ⟨hv, hp⟩ := Prod.mk.inj hr.2
    refine ⟨t', ?_, hs.trans hr.1⟩
    rw [State.readWords, ht]
    simp only [hs.winUser, hu, hs.winAddr, hs.stDenied, hd, Bool.not_true, Bool.false_eq_true, if_false]
    rw [show ([].getD n StErr.clean : StErr) = .clean from by simp, hx]
    simp [hv, hp, List.range_succ, hs.stWord]

/-- A write of a word changes no right and no window. -/
theorem stPut_rights (s : State) (b a : Nat) (v : BitVec 72) :
    (∀ w m, (s.stPut b a v).winUser b w m = s.winUser b w m) ∧ (∀ w k, (s.stPut b a v).winAddr b w k = s.winAddr b w k) ∧
      ∀ a' m wr, (s.stPut b a v).stDenied b a' m wr ((s.stPut b a v).drives b) = s.stDenied b a' m wr (s.drives b) := by
  refine ⟨fun _ _ => rfl, fun _ _ => rfl, fun a' m wr => ?_⟩
  have hb : ((s.stPut b a v).batten b).former = (s.batten b).former ∧ ((s.stPut b a v).batten b).grants = (s.batten b).grants := by
    simp [State.stPut, State.setBatten, State.batten, State.setStWord]
  simp only [State.stDenied, State.inBounds, hb.1, hb.2]
  rfl

/-- A run of writes through a window whose processor owns every bank it names goes through. -/
theorem writeWords_owned (s : State) (b w : Nat) (hu : s.winUser b w ownSpar = true)
    (h : ∀ k, s.stDenied b (s.winAddr b w k) ownSpar true (s.drives b) = none) (k : Nat) (vs : List (BitVec 72)) :
    (s.writeWords b w k vs).2 = true := by
  induction vs generalizing s k with
  | nil => rfl
  | cons v r ih =>
    obtain ⟨h1, h2, h3⟩ := stPut_rights s b (s.winAddr b w k) v
    rw [State.writeWords]
    simp only [hu, h, Bool.not_true, Bool.false_eq_true, if_false]
    exact ih _ (by rw [h1]; exact hu) (fun j => by rw [h2, h3]; exact h j) _

end Sys2Proof.Machine
end

