-- ==== Sys2Proof/Tests/Slice0.lean ====
section
/-! SUPPORT. Tests: a state and operands that meet the hypotheses of each clause of each statement, the commands that are not well-formed, and the worked examples of the spec. -/

namespace Sys2Proof.Tests

open Sys2Proof.Machine

set_option maxRecDepth 10000
set_option linter.unusedVariables false
set_option Elab.async false

/-! ## States to start from -/

/-- Fields of a state set by page, field, value and instance. -/
def sets (s : State) (l : List (Nat × Fld × Nat × Nat)) : State := l.foldl (fun s e => s.wf e.1 e.2.1 e.2.2.1 e.2.2.2) s

/-- The tray in RUN, its eave READY and the reset released. -/
def run0 : State := { sets State.reset [(pgGLB, GLB_STATE_STATE, 4, 0), (pgGLB, GLB_STATE_STEP, 0, 0), (pgEAV, PG_STAT_READY, 1, 0)] with pwr := { cold := false } }

/-- The same with fields set. -/
def runW (l : List (Nat × Fld × Nat × Nat)) : State := sets run0 l

/-- The tray at a step of a fall, and of a rise. -/
def fall (n : Nat) : State := runW [(pgGLB, GLB_STATE_STATE, 6, 0), (pgGLB, GLB_STATE_STEP, n, 0)]
def rise (n : Nat) : State := runW [(pgGLB, GLB_STATE_STATE, 5, 0), (pgGLB, GLB_STATE_STEP, n, 0)]
/-- The tray in a state, its core rails off below STANDBY. -/
def inTray (n : Nat) : State := runW [(pgGLB, GLB_STATE_STATE, n, 0)]

def msixS : State := { runW [(pgIRQ, IRQ_SRC_STATE, 1, 33), (pgIRQ, IRQ_SRC_EN, 1, 33), (pgIRQ, IRQ_SRC_TARGET, 2, 33), (pgPUR, PG_EVT_RAW, 4, 0), (pgPUR, PG_EVT_EN, 4, 0), (pgEAV, EAV_MSIX_MASK, 0, 0)] with eav := { msix := [(0, true)] } }
def armed : State := runW [(pgFLS, FLS_STAT_ARMED, 1, 0), (pgFLS, FLS_DATA_DATA, 5, 0)]
def flashS : State := runW [(pgSFC, SFC_LEN_LEN, 256, 0), (pgSFC, SFC_ADDR_ADDR, 0x3FFFF00, 0)]
def supp : State := { runW [(pgFSC, PG_CTRL_EN, 1, 0)] with fsc := { supply := true } }
def objS : State := { runW [(pgPUR, PG_STAT_READY, 1, 0), (pgPUR, PUR_OT_CFG_LOG2, 10, 0), (pgEAV, EAV_WIN_VALID, 1, 7), (pgEAV, EAV_WIN_HANDLE, 5, 7), (pgFLS, FLS_SEC_D, 64, 0)] with pur := { objs := [(5, { state := .empty, pin := true, kind := 1, size1 := 4095 })] }, eav := { vfs := 8 } }
def gutS (op tgt off len : Nat) : State := { sets objS [(pgGUT, PG_STAT_READY, 1, 0), (pgGUT, GUT_CH_CFG_EN, 1, 7), (pgGUT, GUT_CH_CFG_LOG2, 4, 7), (pgGUT, GUT_CH_HEAD_HEAD, 15, 7), (pgGUT, GUT_CH_BASE_LO_BASE, 1, 7), (pgBST 63, BST_OWNER_BANK, 4, 9)] with pur := { objs := [(5, { state := .empty, pin := true, kind := 1, size1 := 4095 })], grants := [(63 * 32, { batten := 63, first := 0, len := 1 })] }, host := [(0x11E8, BitVec.ofNat 8 tgt), (0x11EC, BitVec.ofNat 8 off), (0x11F0, BitVec.ofNat 8 op), (0x11F4, BitVec.ofNat 8 len)].filter (·.2 != 0) }
def crsS : State := { runW [(pgCRS, PG_CTRL_EN, 1, 0), (pgCRS, CRS_STAT_PHASE, 2, 0), (pgCRS, CRS_NUM_LO_NUM, 0xFFFFFFFF, 0)] with crs := { running := true } }
def crsP (p : Nat) : State := sets crsS [(pgCRS, CRS_STAT_PHASE, p, 0)]
def follow : State := { sets (crsP 2) [(pgCRS, CRS_SRC_MODE, 1, 0), (pgFSC, FSC_CONN_J4_IN, 0, 0)] with crs := { running := true, missed := 3 } }
def govS : State := { sets (crsP 2) [(pgPUE, PUE_CFG_STARVE, 2, 0), (pgPUE, PUE_PRI_ID_ID, 77, 0)] with gov := { due := some 4, count := 8 }, pur := { queue := [{ seq := 4, id := 77, ready := true, passed := 2 }] } }
def cmdS (a0 a1 : Nat) : State := sets objS [(pgPUR, PUR_CMD_ARG0_ARG, a0, 1), (pgPUR, PUR_CMD_ARG1_ARG, a1, 1), (pgPUR, PUR_PIN_MAX_PAGES, 16, 0)]
def grantS (c : StCmd) : State := { sets objS [(pgCRS, PG_CTRL_EN, 1, 0), (pgCRS, CRS_STAT_PHASE, 2, 0)] with crs := { running := true }, pur := { stWait := [(1, c)], grants := [(9, { batten := 63, first := 1000, len := 24 })] } }
def pageS (o : Obj) (m : Option Move) (a : List Ask) : State := { sets objS [(pgPUR, PUR_HB_SLOTS_SLOTS, 4, 0)] with pur := { objs := [(5, o)], move := m, asks := a, tries := [(11, 3)] } }
def bstS (x : BstSt) : State := { runW [] with bst := [(63, x)] }
def dw (l : List (Nat × Nat)) : BitVec 96 := BitVec.ofNat 96 (l.foldl (fun a e => a + e.2 * 2 ^ e.1) 0)
def sparS (b : Nat) : State := runW [(pgSPR b, SPR_STAT_RUNNING, 1, 0)]
def winS (b : Nat) : State := sets (sparS b) ((List.range 8).map fun w => (pgBST b, BST_CW_LEN_LEN, 262143, w))
def sltS (l : List (Nat × Nat)) : State := { winS 63 with slt := { pock := l.map fun e => (e.1, BitVec.ofNat 36 e.2), acc := [(arrNo 63 3 * 65536, 5)] } }
def regS (b : Nat) : State := { winS b with spr := [(b, { v := [(1, 0x3FFE5), (2, 262144), (3, 0xFFFFFFFFF), (4, 0x800000000)] })] }
def drvS : State := sets { run0 with crs := { run := some { plan := { bats := [{ stints := true }] } } } } [(pgCRS, CRS_STAT_PHASE, 2, 0), (pgSPR 0, SPR_STAT_RUNNING, 1, 0)]
def mw (l : List (Nat × Nat)) : BitVec 128 := BitVec.ofNat 128 (l.foldl (fun a e => a + e.2 * 2 ^ e.1) 0)
def sqS (i : Nat) (p : SprSt) : State := if i < 72 then { sparS i with spr := [(i, p)] } else { run0 with gab := [(i - 72, { pc := 0x100000, u := { q := p } })] }
def aluS (a b : Nat) : State := { sparS 71 with spr := [(71, { v := [(1, BitVec.ofNat 36 a), (2, BitVec.ofNat 36 b)], fc := true, fv := true })] }
def gg : BitVec 96 := dw [(81, 3), (78, 4), (75, 2), (0, 0xFFFFFFFF)]
def gaS (a b : Word64) : State := { run0 with gab := [(1, { u := { t0 := a, t1 := b } })] }
def ligS (i p free full : Nat) (e : Nat) : State := { sets (sparS i) [(ligPg p, LIG_STAT_ACTIVE, 1, ligIx p), (ligPg p, LIG_STAT_NB, 8, ligIx p), (ligPg p, LIG_STAT_FREE, free, ligIx p), (ligPg p, LIG_STAT_FULL, full, ligIx p), (ligPg p, LIG_ENDS_PROD, e, ligIx p), (ligPg p, LIG_ENDS_CONS, e, ligIx p)] with spr := [(i, { lp := [(7, 1024 + p)] })], crs := { running := true, run := some { plan := {} } } }
def ligE (p free full : Nat) (e : Nat) : State := sets (ligS 0 p free full e) [(pgCRS, CRS_STAT_PHASE, 2, 0)]
def bytesAt (a : Nat) (l : List (Nat × Nat)) : SMap Byte := l.map fun e => (a + e.1, BitVec.ofNat 8 e.2)
def engP (e cnt : Nat) (dom : Nat) (blk : List Byte) : Plan := { img := 5, domain := dom, sealedBlk := blk, objs := [{ handle := 6, use := 0 }, { handle := 8, use := 0 }, { handle := 9, use := 1 }], engs := List.replicate e {} ++ [{ present := true, row := 3, count := cnt, descOff := 64 }] }
def engRn (e cnt dom : Nat) (blk : List Byte) : Run := { plan := engP e cnt dom blk, shadows := [(9, [11])] }
def kblk : List Byte := [0, 3, 1, 1, 1, 0, 0, 0]
def yS (x : YlmSt) (rdy : Nat) : State := { sets run0 [(pgCRS, CRS_STAT_PHASE, 2, 0), (pgYLM 3, PG_STAT_READY, rdy, 0), (pgSLT 24, SLT_Q_LO_Q, 0x100001, 0), (pgSLT 24, SLT_MCTL_STATE, 2, 0), (pgSLT 24, SLT_MCTL_LOGN, 3, 0), (pgSLT 25, SLT_Q_LO_Q, 0x100001, 1), (pgSLT 25, SLT_MCTL_STATE, 2, 1), (pgSLT 25, SLT_MCTL_LOGN, 3, 1)] with crs := { running := true, run := some (engRn 3 1 1 kblk) }, ylm := [(3, x)], pur := { objs := [(5, { state := .resident, domain := 1, pages := [7] }), (6, { state := .resident, kind := 1, domain := 1, place := 3, size1 := 107, pages := [8] }), (8, { state := .resident, kind := 3, domain := 1, place := 3, size1 := 143, pages := [10] }), (9, { state := .empty, kind := 1, domain := 1, place := 3, size1 := 71 })] }, hbm := { bytes := bytesAt (7 * 2 ^ 21 + 64) [(0, 6), (4, 8), (8, 9), (12, 1)] ++ bytesAt (8 * 2 ^ 21) [(0, 77)] ++ bytesAt (10 * 2 ^ 21) [(0, 5)] } }
def ysR : Run := engRn 3 1 1 kblk
def yRec (st : Nat) : KsRec := { idx := 0, level := 1, oper := 0, galois := 0, inH := 6, keyH := 8, outH := 9, stage := st, input := List.replicate 24 3, ext := List.replicate 16 4, acc := List.replicate 32 5, out := List.replicate 16 6 }
def tR (_ds : List (Nat × Nat)) : Run := engRn 7 1 0 []
def tS (ds : List (Nat × Nat)) (so : Option (List Nat × List SortRec)) : State := { sets run0 ([(pgCRS, CRS_STAT_PHASE, 2, 0), (pgSTK 3, PG_STAT_READY, 1, 0), (pgBST 9, BST_BOUND_D, 1023, 0)] ++ ((List.range 8).map fun w => (pgBST 9, BST_CW_LEN_LEN, 64, w)) ++ ((List.range 8).map fun w => (pgBST 9, BST_CW_STRIDE_STRIDE, 1, w)) ++ ((List.range 8).map fun w => (pgBST 9, BST_CW_GROUP_USER, 0x33, w)) ++ ((List.range 8).map fun w => (pgBST 9, BST_CW_GROUP_W, 5, w)) ++ (List.range 32).map fun k => (pgBST 9, BST_OWNER_BANK, 0x33, k)) with crs := { running := true, run := some (engRn 7 1 0 []) }, stk := [(3, { sort := so })], pur := { objs := [(5, { state := .resident, pages := [7] }), (6, { state := .resident, size1 := 4095, pages := [8] })] }, hbm := { bytes := bytesAt (7 * 2 ^ 21 + 64) ds ++ bytesAt (8 * 2 ^ 21) [(0, 10), (4, 10), (12, 200), (16, 1), (20, 1), (32, 9), (35, 128)] } }
def pilD : List (Nat × Nat) := [(0, 6), (8, 3), (12, 1), (14, 9), (15, 7), (0x1C, 9), (0x20, 64), (0x22, 64), (0x24, 5), (0x26, 2), (0x39, 6)]
def srtD (op : Nat) : List (Nat × Nat) := [(0, 6), (8, 3), (12, op), (0x1C, 9), (0x20, 64), (0x22, 64), (0x24, 5)]
def nbD (op : Nat) : List (Nat × Nat) := [(0, 6), (8, 3), (12, op), (14, 9), (15, 7), (0x1C, 9), (0x20, 64), (0x22, 64), (0x24, 5), (0x2C, 2), (0x2D, 1), (0x2E, 2), (0x30, 2)]
def so1 : List Nat × List SortRec := ([6, 0, 3, 0, 0, 0, 9, 64, 64, 5, 0], [{ ux := 1, uy := 1, uz := 0, key := 3, inten := 5, ring := 1, toff := 2 }, { ux := 10, uy := 10, uz := 0, key := 99, inten := 200, ring := 0, toff := 0 }])
def hS (x : HbmSt) : State := { run0 with hbm := x }
def laneS : State := hS { retry := [(255, { st := .lane, fails := 3 })] }
def iR (fn rb ra rd : Nat) : Word32 := BitVec.ofNat 32 (fn * 2 ^ 23 + rb * 2 ^ 18 + ra * 2 ^ 13 + rd * 256 + 1)
def iI (imm ra rd op : Nat) : Word32 := BitVec.ofNat 32 (imm % 2 ^ 14 * 2 ^ 18 + ra * 2 ^ 13 + rd * 256 + op)
def iU (imm rd op : Nat) : Word32 := BitVec.ofNat 32 (imm % 2 ^ 19 * 2 ^ 13 + rd * 256 + op)
def gS (g : Nat) (x : GabSt) (w : Word32) : State := { run0 with gab := [(g, x)], gcode := [(codeKey g 0x40, { data := w })] }
def gX (a b : Word64) : GabSt := { pc := 0x40, r := [(1, a), (2, b), (3, 77)] }
def tabS (x : GabSt) (w : Word32) : State := { gS 1 { x with excBase := 0x10000000 } w with gdata := (List.range 34).map fun k => (2 ^ 15 + k, { data := 0x100 }) }
def pendS (x : GabSt) (line : Nat) : State := sets { run0 with gab := [(1, { x with lvl := 2 })], gdata := (List.range 34).map fun k => (2 ^ 15 + k, { data := 0x100 }) } [(pgIRQB 1, IRQ_SRC_STATE, 1, 8), (pgIRQB 1, IRQ_SRC_EN, 1, 8), (pgIRQB 1, IRQ_SRC_LINE, line, 8), (pgIRQB 1, IRQ_LEVEL_LEVELS, 0xFFFF, 0)]
def gmS : State := { gaS 5 6 with gab := [(1, { pc := 0x40, ss := [5, 8], u := { mar := 0x10000006, mdr := 0x12345678, t0 := 5 } })], gcode := [(codeKey 1 0x40, { data := 0x38 })], gdata := (List.range 34).map fun k => (2 ^ 15 + k, { data := 0x100 }) }
def gmD : BitVec 96 := dw [(81, 3), (56, 1), (48, 3), (60, 5)]
def linkS : State := { run0 with regs := [(0x50, 0x4), (0x800c, 0x2), (0x51008, 0x1), (0x51040, 0x10031), (0x51044, 0x80000000), (0x51048, 0x46),
    (0x51050, 0x2ee0), (0x51054, 0x2ee0), (0x51058, 0x9), (0x5105c, 0x9), (0x52108, 0x10), (0x52118, 0x11),
    (0x52128, 0x12), (0x52138, 0x13), (0x52148, 0x14), (0x52158, 0x15), (0x52168, 0x16), (0x52178, 0x17),
    (0x52188, 0x28), (0x53104, 0x80000010), (0x53124, 0x80000011), (0x53144, 0x80000012), (0x53164, 0x80000013), (0x53184, 0x80000014),
    (0x531a4, 0x80000015), (0x531c4, 0x80000016), (0x531e4, 0x80000017), (0x53204, 0x28), (0x54040, 0x40090309), (0x54044, 0x10800004),
    (0x54048, 0x10800004)] }
def bS (l : List (Nat × Fld × Nat × Nat)) (x : BtxSt) : State := { sets linkS l with btx := { x with on := true, light := true } }
def bOff (l : List (Nat × Fld × Nat × Nat)) : State := { runW l with btx := { on := true, light := true } }
def seven : List (Nat × Fld × Nat × Nat) := (List.range 7).map fun p => (pgBTXR, BTX_RX_STAT_LOCK, 1, p)
def cf (nr : Nat) : CtrlFrame := { sfn := 3, pos := 0, nring := nr, calseq := 4, out := 8, phase := 1, map := [0, 1, 2, 3, 4, 5, 6, 7, 8], step := 0, relay := [{ stamp := 128 }, { stamp := 129 }, { cred := [5, 300, 2, 0], stamp := 130 }] }
def obR : Obj := { state := .resident, pin := true, domain := 0, place := 4, size1 := 15, pages := [7] }
def pst (p : PurSt) (l : List (Nat × Fld × Nat × Nat)) (x : BtxSt) : State := { bS ([(pgPUR, PUR_OT_CFG_LOG2, 16, 0)] ++ l) x with pur := p }
def hd : List Byte := leBytes 4 0x0440B7C5 ++ leBytes 4 9 ++ leBytes 4 16 ++ [0, 0, 0, 0] ++ leBytes 8 0 ++ List.replicate 40 0
def po (h : Nat) : List (Nat × Fld × Nat × Nat) := [(pgBTXC, BTX_PST_OBJ_VALID, 1, 5), (pgBTXC, BTX_PST_OBJ_HANDLE, h, 5), (pgBTXC, BTX_PST_TAG_TAG, 9, 5)]
def rc : RxCons := { tag := 9, post := 5, handle := 6, size := 16, pages := [9], got := 17, crcIn := 0xDB, crc := 0x12345678 ^^^ 0xFFFFFFFF }
def gd (s : State) : State := { s.wf pgCRS CRS_STAT_PHASE 3 with crs := { running := true } }
def txP : Plan := { img := 5, objs := [{ handle := 6, use := 0 }], engs := List.replicate 8 {} ++ [{ present := true, count := 2, descOff := 64 }] }
def txR : Run := { plan := txP }
def txS (sz : Nat) : State := { bS [(pgCRS, CRS_STAT_PHASE, 2, 0), (pgBTXC, BTX_STAT_RING_OK, 1, 0)] { seq := [(1, 65535)], slot := 9 } with crs := { running := true, run := some txR }, pur := { objs := [(5, { state := .resident, pages := [7] }), (6, { state := .resident, size1 := 4095, pages := [8] })] }, hbm := { bytes := [(7 * 2 ^ 21 + 64, 6), (7 * 2 ^ 21 + 72, BitVec.ofNat 8 sz), (7 * 2 ^ 21 + 80, 1)] } }
def ms (a : Nat) : Msg := { dest := a, src := 2, hops := 0, data := leBytes 32 5 }
def w1 : State := runW [(pgCRS, PG_STAT_QUIESCING, 1, 0)]
def w2 : State := runW [(pgPUR, PG_CTRL_EN, 1, 0)]
def w3 : State := runW [(pgPUR, PG_CTRL_EN, 1, 0), (pgPUR, PG_STAT_QUIESCING, 1, 0)]
def w4 : State := runW [(pgGUT, PG_CTRL_EN, 1, 0)]
def w5 : State := runW [(pgGUT, PG_STAT_QUIESCING, 1, 0)]
def w9 : State := runW [(pgPUR, PG_CTRL_FREEZE, 1, 0)]
def w12 : State := runW [(pgPUR, PG_ERR_VALID, 1, 0)]
def w20 : State := runW [(pgCRS, CRS_OVR_CNT_COUNT, 9, 0)]
def w21 : State := runW [(pgIRQB 1, IRQ_SRC_STATE, 1, 8), (pgIRQB 1, IRQ_SRC_EN, 1, 8), (pgIRQB 1, IRQ_LEVEL_LEVELS, 0xFFFF, 0)]
def w22 : State := runW [(pgIRQB 0, IRQ_SRC_STATE, 1, 1), (pgIRQB 0, IRQ_SRC_EN, 1, 1), (pgIRQB 0, IRQ_SRC_LINE, 1, 1), (pgIRQB 0, IRQ_LEVEL_LEVELS, 0xFFFF, 0)]
def w25 : State := runW [(pgIRQB 1, IRQ_SRC_STATE, 2, 8)]
def w26 : State := { runW [(pgIRQ, IRQ_SRC_STATE, 2, 32)] with irq := { serve := [(32, { target := 2 })] } }
def w29 : State := runW [(pgIRQB 1, IRQ_SRC_STATE, 2, 8)]
def w35 : State := { run0 with eav := { vfs := 8 }, pur := { queue := [{ fn := 8 }, { fn := 0 }] } }
def w36 : State := { runW [(pgGUT, GUT_PCQ_CFG_EN, 1, 0), (pgGUT, GUT_PCQ_CFG_LOG2, 12, 0), (pgGUT, GUT_PCQ_TAIL_TAIL, 4095, 0), (pgGUT, GUT_PCQ_HEAD_HEAD, 5, 0)] with eav := { backlog := [(0, [{ id := 7, status := 0, cause := 0, course := 3 }])] } }
def w39 : State := sets (fall 3) [(pgPWR, PWR_STAT_TGT, 1, 0)]
def w40 : State := sets (fall 3) [(pgPWR, PWR_STAT_ON_PEND, 1, 0)]
def w45 : State := sets (rise 5) [(pgPWR, PWR_STAT_OFF_PEND, 1, 0)]
def w53 : State := { inTray 2 with dmr := { wake := some 1 } }
def w61 : State := { run0 with pwr := { cold := false, hot := [(63, 2)] } }
def w62 : State := runW [(pgGLB, GLB_FAIL_HBM_TEMP, 1, 0)]
def w65 : State := { run0 with pwr := { cold := false, j1 := 2 } }
def w67 : State := { run0 with pwr := { cold := false, j1 := 2 } }
def w73 : State := runW [(pgDMR, DMR_STAT_SUPPLY, 1, 0)]
def w75 : State := { run0 with dmr := { stopped := true } }
def w77 : State := runW [(pgDMR, DMR_STAT_OSC_RC, 1, 0)]
def w78 : State := { run0 with dmr := { sec := 2 ^ 40 - 1 } }
def w79 : State := { runW [(pgDMR, DMR_ALM_CTL_EN, 1, 1), (pgDMR, DMR_ALM_LO_ALM, 1, 1)] with dmr := { sec := 0 } }
def w81 : State := runW [(pgDMR, DMR_STAT_COMMIT_PEND, 1, 0), (pgDMR, DMR_SET_HI_SEC, 255, 0)]
def w83 : State := runW [(pgFSC, FSC_CONN_J3_MOD, 1, 0), (pgFSC, FSC_CONN_J3_PLUG, 1, 0)]
def w85 : State := runW [(pgFLS, FLS_SEC_DBG, 2, 0)]
def w89 : State := runW [(pgFLS, FLS_SEC_DBG, 3, 0)]
def w92 : State := { runW [(pgGLB, GLB_SCRATCH_DATA, 0x11FF0000, 1)] with sfc := { recovery := true, flash := [(5, 0)] } }
def w93 : State := { runW [(pgGLB, GLB_SCRATCH_DATA, 0x21FFFF00, 1), (pgGLB, GLB_SCRATCH_DATA, 0x04030201, 2)] with sfc := { recovery := true } }
def w94 : State := { runW [(pgGLB, GLB_SCRATCH_DATA, 0x30000000, 1)] with sfc := { recovery := true } }
def w96 : State := { runW [(pgPWR, PWR_PMB_STAT_BUSY, 1, 0)] with pwr := { pmb := some { rd := true, r := 6, len := 4, code := 0 } } }
def w97 : State := runW [(pgSNS, SNS_OFF_OFF, 0x10, 63)]
def w98 : State := runW [(pgSNS, SNS_OFF_OFF, 0x10, 64)]
def w99 : State := runW [(pgSNS, SNS_BAT_VALID, 1, 63)]
def w103 : State := { armed with fls := { margin := [(0x80, 7)] } }
def w104 : State := { armed with fls := { normal := [(0x80, 7)] } }
def w105 : State := sets armed [(pgFLS, FLS_RB_VALUE, 63, 3)]
def w106 : State := sets armed [(pgFLS, FLS_SEC_DBG, 0, 0)]
def w108 : State := { armed with fls := { cmd := some (.advRb 3) } }
def w113 : State := { flashS with sfc := { flash := [(0x100, 0xF3)], cmd := some (.prog 0x100 [0x3F]) } }
def w114 : State := { flashS with sfc := { flash := [(0x100, 0xF3)], cmd := some (.erase 0x100) } }
def w115 : State := { flashS with sfc := { flash := [(0x100, 0xF3)], cmd := some (.read 0x100 3) } }
def w116 : State := runW [(pgFSC, FSC_PE_CTL_MODE, 1, 3), (pgFSC, FSC_PE_LVL_INC, 8, 3), (pgFSC, FSC_PE_LVL_HI, 200, 3)]
def w118 : State := runW [(pgFSC, FSC_CFG_AUTO, 0, 0)]
def w121 : State := runW [(pgFSC, FSC_TEST_STAT_RUN, 1, 0)]
def w123 : State := { run0 with fsc := { seen := [(16, true)] } }
def w124 : State := runW [(pgCRS, CRS_SRC_SYNC_OUT_EN, 1, 0)]
def w126 : State := runW [(pgFSC, FSC_CONN_J5, 0, 0)]
def w127 : State := runW [(pgGLB, GLB_SCRATCH_DATA, 99, 0)]
def w130 : State := { run0 with tap := { svc := [(1, true)] } }
def w131 : State := { run0 with tap := { svc := [(1, true)] }, gab := [(1, { r := [(3, 5), (31, 2 ^ 64 - 1)] })] }
def w137 : State := sets objS [(pgVFC 8, VF_DOMAIN_HI_D, 0x80000000, 0)]
def w141 : State := { objS with pur := { objs := [(5, { state := .resident, pages := [17764], size1 := 4095 })] } }
def w143 : State := sets objS [(pgVMB 8, VMB_STAT_BUSY, 1, 0), (pgEAV, EAV_MB_PEND_PEND, 0x80, 0), (pgEAV, EAV_MB_RSP_DATA, 42, 127)]
def w145 : State := sets objS [(pgGUT, GUT_CH_CFG_FUNC, 8, 7)]
def w150 : State := { gutS 0 5 0 4 with eav := { gut := [(7, 1)] } }
def w151 : State := runW [(pgEAV, PG_STAT_READY, 0, 0)]
def w157 : State := { crsP 3 with crs := { running := true, judged := true } }
def w158 : State := { crsP 0 with crs := { running := true, first := true } }
def w159 : State := { sets (crsP 3) [(pgCRS, PG_STAT_QUIESCING, 1, 0)] with crs := { running := true, judged := true } }
def w161 : State := { crsP 2 with crs := { running := true, run := some { plan := {} } } }
def w162 : State := { crsP 2 with crs := { running := true, run := some { plan := { engs := [{ present := true }] } } } }
def w163 : State := sets (crsP 2) [(pgGLB, GLB_STATE_FAILED, 1, 0)]
def w164 : State := { crsP 3 with crs := { running := true, judged := true, volt := 3, next := some { op := 2 } } }
def w165 : State := { crsP 1 with crs := { running := true, limitDue := true } }
def w167 : State := sets (crsP 3) [(pgCRS, CRS_SRC_SYNC_OUT_EN, 1, 0)]
def w169 : State := sets follow [(pgCRS, CRS_SRC_HOLD, 3, 0)]
def w170 : State := { follow with crs := { running := true, backDue := true } }
def w172 : State := sets (crsP 2) [(pgCRS, CRS_STAT_NEXT_ARMED, 1, 0), (pgCRS, CRS_NEXT_AT_AT, 9, 0)]
def w174 : State := { govS with gov := { resv := some 4, count := 8 } }
def w181 : State := { sets (cmdS 5 0) [(pgPUR, PUR_HB_SLOTS_SLOTS, 1, 0)] with pur := { objs := [(5, { state := .resident, pages := [3] })] } }
def w182 : State := { cmdS 5 0 with pur := { objs := [(5, { state := .evicted, slots := [3] })] } }
def w174b : State := sets govS [(pgPUE, PUE_PRI_STAT_BUSY, 1, 0)]
def w186 : State := grantS { free := false, bad := false, batten := 63, len := 1000, num := 255 }
def w187 : State := grantS { free := true, bad := false, batten := 0, len := 0, num := 9 }
def w188 : State := pageS { state := .resident, pages := [3] } none [{ out := true, handle := 5 }]
def w189 : State := pageS { state := .evicted, slots := [3] } none [{ out := false, handle := 5 }]
def w190 : State := pageS { state := .resident, pages := [3], moving := true } (some { out := true, handle := 5, pages := [3], slots := [2] }) []
def w191 : State := pageS { state := .evicted, slots := [3], moving := true } (some { out := false, handle := 5, pages := [3], slots := [2] }) []
def w192 : State := pageS { state := .resident, pages := [3] } none []
def w193 : State := { objS with pur := { unrep := [(1, 0)], tab := [[0], [17760]] } }
def w196 : State := { bstS { writeBack := [262143] } with store := [(63 * 2 ^ 19 + 262143, { data := 5, err := .single })] }
def w197 : State := sets (bstS { ceCourse := 7 }) [(pgBST 63, BST_CFG_CE_FENCE, 7, 0)]
def w199 : State := bstS { fenceTick := true }
def w200 : State := sets (bstS { backTick := true }) [(pgBST 63, BST_FENCE_FENCED, 1, 0)]
def w201 : State := runW [(pgBST 63, BST_MARCH_BANKS_BANKS, 0x80000000, 0)]
def w202 : State := sets (bstS { march := some { mode := 1, banks := 5, waiting := true, fenced := true } }) [(pgBST 63, BST_FENCE_FENCED, 1, 0)]
def w203 : State := { bstS { march := some { mode := 0, banks := 0x80000000, waiting := false, fenced := false } } with store := [(63 * 2 ^ 19 + 31, { data := 5 })] }
def w205 : State := { run0 with store := [(63 * 2 ^ 19 + 262143, { data := 5 })] }
def w206 : State := { run0 with store := [(63 * 2 ^ 19 + 262143, { data := 5 })] }
def w207 : State := { run0 with store := [(63 * 2 ^ 19 + 262143, { data := 5 })] }
def w208 : State := { run0 with slt := { arrs := [(255, { want := [1] })] } }
def w209 : State := { run0 with slt := { arrs := [(255, { want := [2], changing := true })], pock := [(255 * 32768, 5)], acc := [(255 * 65536, 5)] } }
def w210 : State := { run0 with slt := { arrs := [(255, { queue := 4 })], busyRest := [(63, 1000)] } }
def w216 : State := runW [(pgSLT 63, SLT_MCTL_STATE, 1, 95)]
def w217 : State := sltS [(arrNo 63 3 * 32768 + 5, 7)]
def w218 : State := { sltS [] with store := [(63 * 2 ^ 19 + 31 * 32, { data := 77 })] }
def w222 : State := { sltS [] with store := [(63 * 2 ^ 19, { data := 77 })] }
def w223 : State := { sltS [] with store := [(63 * 2 ^ 19, { data := 77 + 2 ^ 36 * 5 })] }
def w224 : State := { sltS [] with store := [(63 * 2 ^ 19, { data := 77 })] }
def w226 : State := { sets (sltS []) [(pgSLT 63, SLT_MODE_MODE, 1, 3)] with store := [(63 * 2 ^ 19, { data := 0x80 })] }
def w227 : State := { sets (sltS []) [(pgSLT 63, SLT_MODE_MODE, 2, 3)] with store := [(63 * 2 ^ 19, { data := 0x80 })] }
def w232 : State := { regS 63 with store := [(63 * 2 ^ 19, { data := 2 ^ 71 + 5 })] }
def w240 : State := runW [(pgSPR 71, SPR_STAT_PARKED, 1, 0)]
def w241 : State := runW [(pgSPR 71, SPR_PARK_PARK, 1, 0)]
def w245 : State := { regS 71 with spr := [(71, { hold := .wait 9 })] }
def w246 : State := runW [(pgSPR 71, SPR_STAT_PARKED, 1, 0), (pgSPR 71, SPR_CS_ADDR_ADDR, 7679, 0), (pgSPR 71, SPR_CS_ADDR_INC, 1, 0), (pgSPR 71, SPR_CS_D_DATA, 7, 1)]
def w247 : State := runW [(pgSPR 71, SPR_STAT_PARKED, 1, 0)]
def w248 : State := runW [(pgSPR 71, SPR_STAT_PARKED, 1, 0)]
def w249 : State := { run0 with spr := [(71, { march := 1 })] }
def w285 : State := { sets drvS [(pgSPR 0, SPR_STINT_NST, 2, 0)] with store := [(8, { data := 8191 }), (15, { data := 0xFFFFFFFFFFFFFFFFFF })] }
def w286 : State := sqS 71 { hold := .wait 0, word := mw [(114, 5)] }
def w287 : State := sqS 73 { hold := .wait 1, word := mw [(114, 16383)] }
def w288 : State := sqS 71 { hold := .wait 1, word := mw [(104, 1), (114, 5)], frame := [{}, {}, {}] }
def w289 : State := sqS 73 { hold := .wait 1, word := mw [(104, 1), (114, 5)], frame := [{}, {}, {}] }
def w290 : State := aluS 0x800000000 0x800000000
def w303 : State := sets { sparS 63 with spr := [(63, { hold := .ending })] } [(pgBST 63, BST_CW_PTR_P, 77, 1)]
def w304 : State := gaS 0x8000000000000000 0x8000000000000000
def w307 : State := gaS 0x7FFFFFFFFFFFFFFF 0x8000000000000041
def w320 : State := { ligS 71 1023 8 0 0x87 with spr := [(71, { hold := .acquire 1023 false })] }
def w322 : State := { ligE 1023 8 0 0x88 with lig := { posts := [(1023, 2)] } }
def w330 : State := yS { next := 1, recs := [yRec 1] } 1
def w331 : State := yS { next := 1, recs := [yRec 2] } 1
def w332 : State := yS { next := 1, recs := [yRec 2] } 1
def w333 : State := yS { next := 1, recs := [yRec 3] } 1
def w334 : State := yS { next := 1, recs := [yRec 4] } 1
def w336 : State := runW [(pgYLM 3, YLM_KAT_STAT_RUN, 1, 0), (pgYLM 3, PG_CTRL_EN, 1, 0)]
def w348 : State := hS { retry := [(255, { st := .check, fails := 2 })] }
def w349 : State := hS { retry := [(255, { st := .check, fails := 1 })] }
def w350 : State := hS { retry := [(255, { st := .check, fails := 2 })] }
def w351 : State := hS { retry := [(255, { st := .check, fails := 3 })] }
def w354 : State := sets laneS [(pgPHY 3, PHY_SPARE_CA, 1, 31)]
def w355 : State := runW [(pgHBM 3, HBM_LOST_WHY_WHY, 4, 0)]
def w359 : State := { runW [(pgHBM 3, HBM_STAT_CLASS, 2, 0)] with hbm := { down := [(3, true)], low := [(3, 9)] } }
def w360 : State := { runW [(pgHBM 3, HBM_SCRUB_CFG_EN, 1, 0), (pgHBM 3, HBM_SCRUB_POS_BLOCK, 555007, 0), (pgHBM 3, HBM_SCRUB_CFG_BLOCKS, 8191, 0)] with hbm := { scrub := [(3, [5, 6])] } }
def w362 : State := runW [(pgPHY 3, PHY_TRAIN_STAT_RUN, 1, 0)]
def w363 : State := runW [(pgPHY 3, PHY_TRAIN_STAT_RUN, 1, 0), (pgPHY 3, PHY_TRAIN_STAT_PHASE, 6, 0)]
def w364 : State := { runW [(pgPHY 3, PHY_TRAIN_STAT_RUN, 1, 0), (pgPHY 3, PHY_TRAIN_STAT_PHASE, 7, 0)] with hbm := { bytes := [(3 * 17344 * 2 ^ 21, 7)] } }
def w365 : State := runW [(pgPHY 3, PHY_TRAIN_STAT_RUN, 1, 0), (pgPHY 3, PHY_TRAIN_STAT_PHASE, 5, 0)]
def w366 : State := gS 1 (gX 0x7FFFFFFFFFFFFFFF 1) (iR 0 2 1 3)
def w367 : State := gS 1 (gX 5 1) (iI 0x3FFF 1 0 2)
def w368 : State := gS 1 (gX 0x8000000000000000 67) (iR 8 2 1 3)
def w369 : State := gS 1 (gX 0x8000000000000000 67) (iU 0x40005 3 0x0B)
def w370 : State := gS 1 (gX 0x8000000000000000 (-1)) (iR 14 2 1 3)
def w371 : State := gS 1 (gX 0x8000000000000000 0) (iR 16 2 1 3)
def w379 : State := gS 1 (gX 5 5) (iU 0x7FFFF 3 0x28)
def w380 : State := gS 1 (gX 0x80 5) (iI 4 1 3 0x2B)
def w381 : State := gS 1 { gX 0x80 5 with ss := (List.range 64).map fun k => BitVec.ofNat 64 (1000 + k) } (iU 5 3 0x2A)
def w382 : State := gS 1 { gX 0x80 5 with ss := [0x80, 7] } (iI 0 1 0 0x2C)
def w383 : State := tabS (gX 1 2) 0xFFC0030#32
def w385 : State := tabS { gX 1 2 with lvl := 0, protCode := 0 } 0x31
def w386 : State := tabS { gX 1 2 with lvl := 0, protCode := 0 } 0x33
def w389 : State := tabS { gX 7 0 with ss := [8, 7] } (iI 0 1 0 0x2C)
def w390 : State := gS 1 { gX 1 2 with epc := 0x88, estat := 0xF00, enest := true, dbl := true } 0x31
def w391 : State := gS 1 { gX 1 2 with bank := true, r := [(46, 0x2D), (47, 0x90)] } 0x32
def w392 : State := gS 1 { gX 1 2 with lvl := 1, protCode := 0 } 0x33
def w395 : State := gS 1 { gX 1 2 with estat := 9 } (0x00080334 : Word32)
def w396 : State := gS 1 { gX 1 2 with lvl := 0, protCode := 0 } (0x01400334 : Word32)
def w397 : State := gS 1 { gX 0x1FFF 2 with excBase := 0x10000000 } (0x000C2336 : Word32)
def w398 : State := gS 1 { gX 0x1FFF 2 with excBase := 0x10000000 } (0x000C2336 : Word32)
def w399 : State := pendS { ie := true, bank := true } 0
def w400 : State := pendS { fie := true, ie := true, pc := 0x88 } 1
def w403 : State := pendS { halted := true, wdLoad := 9 } 0
def w406 : State := runW [(pgGAB 0, GAB_WDOG_STAGE, 1, 0)]
def w409 : State := sets { run0 with gab := [(1, { stopped := true, ss := [5], r := [(3, 4)] })] } [(pgGAB 1, GAB_ENTRY_ADDR, 0x444, 0)]
def w410 : State := { run0 with gab := [(1, { stopReq := true, wfi := true, pc := 4 })] }
def w412 : State := { run0 with gab := [(1, { march := some (8, false) })], gdata := [(5, { data := 5 }), (2 ^ 15 + 5, { data := 6 })] }
def w441 : State := bS [] { ringBack := true, credSeen := [(0, 2)] }
def w442 : State := bS [] { ringBack := true, credSeen := [(0, 2)] }
def w444 : State := pst { objs := [(6, obR)] } [] {}
def w445 : State := pst { objs := [(6, obR)] } (po 6) {}
def w446 : State := pst { objs := [(6, obR)] } (po 6) { rxSeq := [(1, 8)] }
def w447 : State := pst { objs := [(6, obR)] } [] {}
def w448 : State := pst { objs := [(6, { obR with size1 := 16 })] } (po 6) {}
def w449 : State := pst { objs := [(6, obR)] } (po 6) { rx := [(0, .take { rc with crcIn := 0x78 })], rxSeq := [(0, 8)] }
def w450 : State := pst { objs := [(6, obR)] } (po 6) { rx := [(0, .take rc)], rxSeq := [(0, 8)] }
def w451 : State := gd (bS [] { ready := [rc] })
def w457 : State := bS [] { slot := 9, fwd := [(1, [ms 0, ms 2])] }
def w458 : State := bS [] { slot := 9, msgOut := [(1, [ms 0])] }
def w459 : State := bS [] { fifo := [(1, [ms 1])] }
def w460 : State := bS [] { fwd := [(1, [ms 1])] }
def w462 : State := bS [] { fifo := [(1, [ms 1, ms 1])] }
def w464 : State := gd (bS [(pgBTXL, BTX_CAL_STAT_STEP, 7, 0), (pgBTXL, BTX_CAL_STAT_STEP, 6, 1)] {})
def w465 : State := bS [(pgBTXL, BTX_CAL_STAT_STEP, 8, 0)] { shadowDue := true }
def w466 : State := bS [(pgBTXL, BTX_CAL_STAT_PHASE, 2, 1)] { rxPass := true }
def w467 : State := bS [(pgBTXL, BTX_CAL_STAT_PHASE, 2, 1)] { rxPass := true }
def w468 : State := bS [(pgBTXL, BTX_CAL_STAT_PHASE, 2, 0)] { accept := true }
def w469 : State := bS [(pgBTXL, BTX_CAL_STAT_PHASE, 2, 0), (pgBTXC, BTX_SFN_SFN, 5, 0)] { shadowAt := 2 ^ 32 - 251 }
def w470 : State := bS [(pgBTXL, BTX_CAL_STAT_PHASE, 2, 0), (pgBTXL, BTX_CAL_STAT_TRY, 2, 0), (pgBTXC, BTX_SFN_SFN, 5, 0)] { shadowAt := 2 ^ 32 - 251 }
def w473 : State := { runW [(pgSPR 3, SPR_STAT_RUNNING, 1, 0), (pgSPR 3, SPR_STAT_WAITING, 1, 0)] with spr := [(3, { hold := .sway 1, next := 7 })] }
def w479 : State := runW [(pgCRS, PG_LOCK_LOCK, 1, 0)]
def w480 : State := runW [(pgDMR, DMR_STAT_COMMIT_PEND, 1, 0)]
def w481 : State := runW [(pgDMR, DMR_STAT_COMMIT_PEND, 1, 0)]
def w482 : State := runW [(pgDMR, DMR_STAT_COMMIT_PEND, 1, 0), (pgDMR, PG_ERR_VALID, 1, 0)]
def w483 : State := { runW [(pgIRQ, IRQ_SRC_STATE, 1, 40), (pgIRQ, IRQ_SRC_EN, 1, 40), (pgIRQ, IRQ_SRC_TARGET, 1, 40)] with gab := [(1, { wfi := true })] }
def w484 : State := { runW [(pgIRQ, IRQ_SRC_STATE, 1, 40), (pgIRQ, IRQ_SRC_EN, 1, 40), (pgIRQ, IRQ_SRC_TARGET, 1, 40)] with gab := [(0, { wfi := true })] }

/-- Sequencer i stands at a word with these datapath fields, whose micro-operation, or whose ALU operation, is next to take effect. -/
def onOp (s : State) (i : Nat) (d : BitVec 96) : State := s.setSq i { s.sq i with word := d.zeroExtend 128, opDue := true }
def onAlu (s : State) (i : Nat) (d : BitVec 96) : State := s.setSq i { s.sq i with word := d.zeroExtend 128, aluDue := true }
/-- Datapath fields with an OP code. -/
def op (code : Nat) (l : List (Nat × Nat)) : BitVec 96 := dw ((88, code) :: l)
def lloadD : BitVec 96 := op 0x11 [(84, 8), (32, 1), (0, 1023)]
def macD1 : BitVec 96 := op 0x12 [(84, 8), (80, 9), (32, 1)]
def macD2 : BitVec 96 := op 0x12 [(84, 8), (80, 7)]
def w226o : State := onOp w226 63 macD1
def w227o : State := onOp w227 63 macD2
def w232o : State := onOp w232 63 (op 0x40 [(72, 4), (80, 1), (60, 1)])
def drvA : State := { sets drvS [(pgSPR 0, SPR_STINT_NST, 2, 0)] with spr := [(0, { ahead := [(List.replicate 8 5, false)] })] }
/-- Sequencer i of a state is about to fetch this word, from the last word of a spar's patch store or of a gable's control store. -/
def atWord (s : State) (i : Nat) (w : BitVec 128) : State :=
  let s := s.setSq i { s.sq i with next := if i < 72 then 7679 else 16383 }
  if i < 72 then { s with cs := [(csKey i 7679, w)] } else { s with gcs := [((i - 72) * 2 ^ 14 + 16383, w)] }
def sqW (i : Nat) (p : SprSt) (w : BitVec 128) : State := atWord (sqS i p) i w
def endW : BitVec 128 := mw [(110, 15)]
/-- A spar's ALU word, a gable's. -/
def aluD (code : Nat) : BitVec 96 := dw [(76, code), (72, 3), (68, 1), (64, 2)]
def gluD (code : Nat) : BitVec 96 := gg + dw [(84, code)]
/-- Owner and bound of batten 24, and the other condition of its array use, for the limbs of yealm 3. -/
def yL (s : State) : State := sets s ((pgBST 24, BST_BOUND_D, 1023, 0) :: (List.range 32).map fun k => (pgBST 24, BST_OWNER_BANK, 0x31, k))
def porQ (q : Nat) (p : List BeatPair) : State := { run0 with lig := { ports := [(portKey 255 255 7, p)], seqs := [(portKey 255 255 7, q)], credits := [(hopKey 255 7, 3)], robin := [(hopKey 255 7, 255)] } }
def swS : State := { sets run0 [(pgCRS, CRS_STAT_PHASE, 2, 0)] with crs := { running := true, run := some { plan := { engs := List.replicate 9 { present := true } } } }, ylm := [(3, { swayWait := true })], stk := [(3, { swayWait := true })], btx := { swayWait := true } }
/-- Without codeword errors no read is uncorrectable. -/
theorem no_bad (s : State) (h : s.hbm.syms = []) (n b : Nat) : s.decodeAt n b ≠ .bad := by
  have : s.symErrs n b = [] := by simp [State.symErrs, h]
  simp [State.decodeAt, this]
/-- Gable 1 at address 0x40 with r1 an address, in a state with an exception table. -/
def ldS (a : Nat) (w : Word32) : State := { tabS (gX (BitVec.ofNat 64 a) 0xFFFFFFFFFFFFFFFF) w with gdata := (List.range 34).map fun k => (2 ^ 15 + k, { data := if k = 1 then 0x8182838485868788 else 0x100 }) }
def expS : GabSt := { wdLoad := 9, wdFrom := 9, wdCyc := 9 * 1024 }
/-- A gable at a word whose micro-operation is next to take effect. -/
def gmO (d : BitVec 96) : State := onOp gmS 73 d
def gmC (code : Nat) : BitVec 96 := gmD + dw [(88, code)]
def lanesS (h : List (Nat × List Bool)) : State := bS [] { hist := h }
def gdJ (x : BtxSt) : State := { bS [] x with regs := (gd (bS [] x)).regs, crs := { running := true, judged := true } }

/-! ## What meets the hypotheses of each statement -/

theorem wit_HeaderCommands : enPage pgCRS = some (PgKind.crs, 0) ∧ run0.accepts Src.debug (pgCRS + 8) = true ∧ run0.bit pgCRS PG_CTRL_EN = false ∧
  run0.bit pgCRS PG_STAT_QUIESCING = false ∧ (PgKind.crs = PgKind.hbm → run0.bit pgCRS PG_CTRL_EN = false) ∧ w1.accepts Src.debug (pgCRS + 8) = true
  ∧ w1.bit pgCRS PG_CTRL_EN = false ∧ w1.bit pgCRS PG_STAT_QUIESCING = true ∧ (PgKind.crs = PgKind.hbm → w1.bit pgCRS PG_CTRL_EN = false) ∧ enPage
  pgPUR = some (PgKind.pur, 0) ∧ w2.accepts Src.host (pgPUR + 8) = true ∧ w2.bit pgPUR PG_CTRL_EN = true ∧ w2.bit pgPUR PG_STAT_QUIESCING = false ∧
  (PgKind.pur = PgKind.crs → w2.crs.first = false) ∧ (PgKind.pur = PgKind.hbm → w2.bit pgCRS PG_CTRL_EN = false) ∧ w3.accepts (Src.gable 0) (pgPUR +
  8) = true ∧ w3.bit pgPUR PG_CTRL_EN = true ∧ w3.bit pgPUR PG_STAT_QUIESCING = true ∧ (PgKind.pur = PgKind.hbm → w3.bit pgCRS PG_CTRL_EN = false) ∧
  enPage pgGUT = some (PgKind.gut, 0) ∧ w4.bit pgGUT PG_CTRL_EN = true ∧ w4.bit pgGUT PG_STAT_QUIESCING = false ∧ w4.ready pgGUT = false ∧
  w4.started pgGUT PgKind.gut = true ∧ w5.bit pgGUT PG_STAT_QUIESCING = true ∧ w5.frozenPage pgGUT = false ∧ w5.drained pgGUT PgKind.gut = true ∧
  pgPUE % 4096 = 0 ∧ pageOf pgPUE = some (PgKind.pue, 0) ∧ PgKind.pue.srsts = true ∧ run0.accepts Src.host (pgPUE + 8) = true ∧ run0.bit pgPUE
  PG_CTRL_EN = false ∧ run0.bit pgPUE PG_STAT_QUIESCING = false ∧ run0.bit pgPUE PG_STAT_EN_PEND = false ∧ pgPUR % 4096 = 0 ∧ pageOf pgPUR = some
  (PgKind.pur, 0) ∧ PgKind.pur.freezes = true ∧ run0.accepts Src.host (pgPUR + 8) = true ∧ PgKind.pur.enables = true ∧ w9.bit pgPUR PG_CTRL_FREEZE =
  true ∧ run0.accepts Src.host (pgPUR + 28) = true ∧ run0.locked pgPUR = false ∧ pgPUR ≠ pgIRQ ∧ pgIRQ % 4096 = 0 ∧ pageOf pgIRQ = some (PgKind.irq,
  0) ∧ run0.accepts Src.host (pgIRQ + 28) = true ∧ run0.locked pgIRQ = false ∧ w12.accepts Src.host (pgPUR + 32) = true ∧ PgKind.pur.lockable = true
  ∧ run0.accepts Src.host (pgPUR + 44) = true := by
  and_intros <;> decide +kernel

theorem wit_RegisterAccess :
  (let s : State := run0;
    let src : Src := Src.debug;
    let off : Fin 0x4000000 := ⟨pgHBM 3 + (HBM_SCRUB_CFG_BLOCKS.off), by decide⟩;
    let v : Word32 := 4096;
    let key : Nat := pgHBM 3 + (HBM_SCRUB_CFG_BLOCKS.off);
    let pg : Nat := pgHBM 3;
    let o : Nat := (HBM_SCRUB_CFG_BLOCKS.off);
    let k : PgKind := PgKind.hbm;
    let i : Nat := 3;
    (key = srcKey src (off.val / 4 * 4)) ∧ (pg = pgBaseOf key) ∧ (o = key % 0x1000) ∧ (pageOf key = some (k, i)) ∧ (s.accepts src key = true) ∧ (0x30
      ≤ o) ∧ (regExists k i o = true) ∧ (k ∈ [PgKind.sns, .stk, .rdg, .lig, .hbm, .btn, .btxl, .vfc]) ∧ (rangeBad k i o v = false) ∧ (s.lockBad pg
      k i o v = false) ∧ ((recordRegs k o = [] ∨ v.getLsbD 31 = false))) ∧
  (let s : State := run0;
    let src : Src := Src.debug;
    let off : Fin 0x4000000 := ⟨pgHBM 3 + 0x60, by decide⟩;
    let v : Word32 := 0x7FFFFFFF;
    let key : Nat := pgHBM 3 + 0x60;
    let pg : Nat := pgHBM 3;
    let o : Nat := 0x60;
    let k : PgKind := PgKind.hbm;
    let i : Nat := 3;
    (key = srcKey src (off.val / 4 * 4)) ∧ (pg = pgBaseOf key) ∧ (o = key % 0x1000) ∧ (pageOf key = some (k, i)) ∧ (s.accepts src key = true) ∧ (0x30
      ≤ o) ∧ (regExists k i o = true) ∧ (k ∈ [PgKind.sns, .stk, .rdg, .lig, .hbm, .btn, .btxl, .vfc]) ∧ (rangeBad k i o v = false) ∧ (s.lockBad pg
      k i o v = false) ∧ ((recordRegs k o = [] ∨ v.getLsbD 31 = false))) ∧
  (let s : State := run0;
    let src : Src := Src.debug;
    let off : Fin 0x4000000 := ⟨pgHBM 3 + (HBM_SCRUB_CFG_BLOCKS.off), by decide⟩;
    let v : Word32 := 4097;
    let key : Nat := pgHBM 3 + (HBM_SCRUB_CFG_BLOCKS.off);
    let pg : Nat := pgHBM 3;
    let o : Nat := (HBM_SCRUB_CFG_BLOCKS.off);
    let k : PgKind := PgKind.hbm;
    let i : Nat := 3;
    (key = srcKey src (off.val / 4 * 4)) ∧ (pg = pgBaseOf key) ∧ (o = key % 0x1000) ∧ (pageOf key = some (k, i)) ∧ (s.accepts src key = true) ∧ (0x30
      ≤ o) ∧ (regExists k i o = true) ∧ (k ∈ [PgKind.sns, .stk, .rdg, .lig, .hbm, .btn, .btxl, .vfc]) ∧ (rangeBad k i o v = true)) ∧
  (let s : State := runW [(pgHBM 3, PG_LOCK_LOCK, 1, 0)];
    let src : Src := Src.debug;
    let off : Fin 0x4000000 := ⟨pgHBM 3 + (HBM_SCRUB_CFG_BLOCKS.off), by decide⟩;
    let v : Word32 := 9;
    let key : Nat := pgHBM 3 + (HBM_SCRUB_CFG_BLOCKS.off);
    let pg : Nat := pgHBM 3;
    let o : Nat := (HBM_SCRUB_CFG_BLOCKS.off);
    let k : PgKind := PgKind.hbm;
    let i : Nat := 3;
    (key = srcKey src (off.val / 4 * 4)) ∧ (pg = pgBaseOf key) ∧ (o = key % 0x1000) ∧ (pageOf key = some (k, i)) ∧ (s.accepts src key = true) ∧ (0x30
      ≤ o) ∧ (regExists k i o = true) ∧ (k ∈ [PgKind.sns, .stk, .rdg, .lig, .hbm, .btn, .btxl, .vfc]) ∧ (rangeBad k i o v = false) ∧ (s.lockBad pg
      k i o v = true) ∧ ((recordRegs k o = [] ∨ v.getLsbD 31 = false))) ∧
  (let s : State := run0;
    let src : Src := Src.debug;
    let off : Fin 0x4000000 := ⟨pgHBM 3 + 0x60, by decide⟩;
    let v : Word32 := 0x80000000;
    let key : Nat := pgHBM 3 + 0x60;
    let pg : Nat := pgHBM 3;
    let o : Nat := 0x60;
    let k : PgKind := PgKind.hbm;
    let i : Nat := 3;
    (key = srcKey src (off.val / 4 * 4)) ∧ (pg = pgBaseOf key) ∧ (o = key % 0x1000) ∧ (pageOf key = some (k, i)) ∧ (s.accepts src key = true) ∧ (0x30
      ≤ o) ∧ (regExists k i o = true) ∧ (k ∈ [PgKind.sns, .stk, .rdg, .lig, .hbm, .btn, .btxl, .vfc]) ∧ (rangeBad k i o v = false) ∧ (s.lockBad pg
      k i o v = false) ∧ (v.getLsbD 31 = true) ∧ (recordRegs k o ≠ [])) ∧
  (let s : State := run0;
    let src : Src := Src.debug;
    let off : Fin 0x4000000 := ⟨pgHBM 3 + 0xFFC, by decide⟩;
    let key : Nat := pgHBM 3 + 0xFFC;
    let pg : Nat := pgHBM 3;
    let o : Nat := 0xFFC;
    let k : PgKind := PgKind.hbm;
    let i : Nat := 3;
    (key = srcKey src (off.val / 4 * 4)) ∧ (pg = pgBaseOf key) ∧ (o = key % 0x1000) ∧ (pageOf key = some (k, i)) ∧ (s.accepts src key = true) ∧
      (regExists k i o = false)) ∧
  (let s : State := run0;
    let src : Src := Src.gable 1;
    let off : Fin 0x4000000 := ⟨pgPWR + 0x40, by decide⟩;
    let key : Nat := pgPWR + 0x40;
    let pg : Nat := pgPWR;
    let o : Nat := 0x40;
    let k : PgKind := PgKind.pwr;
    let i : Nat := 0;
    (key = srcKey src (off.val / 4 * 4)) ∧ (pg = pgBaseOf key) ∧ (o = key % 0x1000) ∧ (pageOf key = some (k, i)) ∧ (reaches src key = true) ∧
      (s.admits src = true) ∧ (s.pageOff k = false) ∧ (isWriter k i src = false)) ∧
  (let s : State := run0;
    let src : Src := Src.host;
    let off : Fin 0x4000000 := 100;
    let m : Fin 4 := 3;
    (off.val = 0x58 + 4 * m.val) ∧ (s.accepts src off = true) ∧ ((m.val = 0 → src = .gable 0 → s.tray ≠ tRISING))) ∧
  (let s : State := run0;
    let src : Src := Src.gable 0;
    let off : Fin 0x4000000 := 88;
    let m : Fin 4 := 0;
    (off.val = 0x58 + 4 * m.val) ∧ (s.accepts src off = true) ∧ ((m.val = 0 → src = .gable 0 → s.tray ≠ tRISING))) ∧
  (let s : State := objS;
    let src : Src := Src.vf 7;
    let off : Fin 0x4000000 := 0x2FFC;
    let be : BitVec 8 := 0xAF;
    (off.val % 4 = 0) ∧ (off.val + 4 ≤ barSize src) ∧ (s.admits src = true) ∧ (be.truncate 4 = (0xF : BitVec 4))) ∧
  (let s : State := run0;
    let src : Src := Src.host;
    let off : Fin 0x4000000 := 0x58;
    (off.val = 0x58) ∧ (s.accepts src 0x58 = true) ∧ (src = .host)) ∧
  (let s : State := run0;
    let src : Src := Src.host;
    let off : Fin 0x4000000 := 0xA040;
    let be : BitVec 8 := 0xF7;
    let k : PgKind := PgKind.crs;
    let i : Nat := 0;
    (off.val % 4 = 0) ∧ (off.val + 4 ≤ barSize src) ∧ (be.truncate 4 ≠ (0xF : BitVec 4)) ∧ (s.accepts src (srcKey src off) = true) ∧ (pageOf (srcKey
      src off) = some (k, i)) ∧ (regExists k i (srcKey src off % 0x1000) = true)) := by
  and_intros <;> decide +kernel

theorem wit_RegisterAccess_2 :
  (let s : State := run0;
    let src : Src := Src.host;
    let off : Fin 0x4000000 := 0xA040;
    let k : PgKind := PgKind.crs;
    let i : Nat := 0;
    (off.val % 4 = 0) ∧ (off.val + 4 ≤ barSize src) ∧ (reaches src (srcKey src off) = true) ∧ (s.admits src = true) ∧ (windowOf (srcKey src off) =
      none) ∧ (pageOf (srcKey src off) = some (k, i)) ∧ (s.pageOff k = false) ∧ (regExists k i (srcKey src off % 0x1000) = true) ∧ ((k = .irq →
      srcKey src off % 0x1000 ∉ [0x40, 0x44])) ∧ ((k = .dmr → srcKey src off % 0x1000 ≠ 0x44)) ∧ ((k = .btxt → srcKey src off % 0x1000 < 0x100 ∨
      srcKey src off % 0x10 ≠ 4))) ∧
  (let s : State := w73;
    let src : Src := Src.gable 0;
    let off : Fin 0x4000000 := 0x3040;
    let k : PgKind := PgKind.dmr;
    let i : Nat := 0;
    (off.val % 4 = 0) ∧ (off.val + 4 ≤ barSize src) ∧ (reaches src (srcKey src off) = true) ∧ (s.admits src = true) ∧ (windowOf (srcKey src off) =
      none) ∧ (pageOf (srcKey src off) = some (k, i)) ∧ (s.pageOff k = false) ∧ (regExists k i (srcKey src off % 0x1000) = true) ∧ ((k = .irq →
      srcKey src off % 0x1000 ∉ [0x40, 0x44])) ∧ ((k = .dmr → srcKey src off % 0x1000 ≠ 0x44)) ∧ ((k = .btxt → srcKey src off % 0x1000 < 0x100 ∨
      srcKey src off % 0x10 ≠ 4))) ∧
  (let s : State := run0;
    let src : Src := Src.host;
    let off : Fin 0x4000000 := 67108863;
    (off.val < barSize src) ∧ (s.admits src = true)) ∧
  (let s : State := run0;
    let src : Src := Src.gable 1;
    (reaches src 0xA054 = true) ∧ (s.admits src = true) ∧ (s.pwr.core = true)) ∧
  (let s : State := w20;
    let src : Src := Src.gable 0;
    let off : Fin 0x4000000 := 41084;
    let key : Nat := 0xA07C;
    let k : PgKind := PgKind.crs;
    let i : Nat := 0;
    (key = srcKey src (off.val / 4 * 4)) ∧ (pageOf key = some (k, i)) ∧ (holdsRc key = true) ∧ (reaches src key = true) ∧ (s.admits src = true) ∧
      (s.pageOff k = false)) := by
  and_intros <;> decide +kernel

theorem wit_RegisterWritesStartTheirCommands :
  (let src : Src := Src.debug;
    let off : Fin 0x4000000 := Fin.ofNat 0x4000000 (pgSFC + 0x1C);
    let pg := pgSFC;
    let k := PgKind.sfc;
    let i := 0;
    (off.val % 4 = 0) ∧ (pg % 0x1000 = 0) ∧ (pageOf pg = some (k, i)) ∧ (srcKey src off = pg + 0x1C)) ∧
  (∀ x ∈ [0x50, 0x54, 0x70, 0x74, 0x80 + 4 * 15],
    let src : Src := Src.debug;
    let off : Fin 0x4000000 := Fin.ofNat 0x4000000 (pgSPR 71 + x);
    let i : Fin 72 := 71;
    let e := (x, ());
    (off.val % 4 = 0) ∧ (srcKey src off = pgSPR i + e.1)) ∧
  (∀ x ∈ [0x40 + 4 * 7, 0x200 + 4 * 31],
    let src : Src := Src.debug;
    let off : Fin 0x4000000 := Fin.ofNat 0x4000000 (pgBST 63 + x);
    let b : Fin 64 := 63;
    let e := (x, ());
    (off.val % 4 = 0) ∧ (srcKey src off = pgBST b + e.1)) ∧
  (let src : Src := Src.debug;
    let off : Fin 0x4000000 := Fin.ofNat 0x4000000 (pgBST 63 + 0x68);
    let v : Word32 := 4;
    let b : Fin 64 := 63;
    (off.val % 4 = 0) ∧ (fldOf BST_FENCE_REQ v = 1) ∧ (srcKey src off = pgBST b + 0x68)) ∧
  (let src : Src := Src.debug;
    let off : Fin 0x4000000 := Fin.ofNat 0x4000000 (pgBST 63 + 0x70);
    let v : Word32 := 0x80000001;
    let b : Fin 64 := 63;
    let mode : Fin 4 := 1;
    (off.val % 4 = 0) ∧ (fldOf BST_MARCH_GO v = 1) ∧ (fldOf BST_MARCH_MODE v = mode.val) ∧ (srcKey src off = pgBST b + 0x70)) ∧
  (let src : Src := Src.debug;
    let off : Fin 0x4000000 := Fin.ofNat 0x4000000 (pgSLT 63 + 0x400 + 32 * 95 + 4 * 3);
    let b : Fin 64 := 63;
    let e : Fin 96 := 95;
    let k : Fin 4 := 3;
    (off.val % 4 = 0) ∧ (srcKey src off = pgSLT b + 0x400 + 32 * e.val + 4 * k.val)) ∧
  (let src : Src := Src.debug;
    let off : Fin 0x4000000 := Fin.ofNat 0x4000000 (pgSLT 63 + 0x400 + 32 * 95 + 16);
    let b : Fin 64 := 63;
    let e : Fin 96 := 95;
    (off.val % 4 = 0) ∧ (srcKey src off = pgSLT b + 0x400 + 32 * e.val + 16)) ∧
  (let src : Src := Src.debug;
    let off : Fin 0x4000000 := Fin.ofNat 0x4000000 (pgYLM 3 + 0x5C);
    let n : Fin 4 := 3;
    (off.val % 4 = 0) ∧ (srcKey src off = pgYLM n + 0x5C)) ∧
  (let src : Src := Src.debug;
    let off : Fin 0x4000000 := Fin.ofNat 0x4000000 (pgPHY 3 + 0x44);
    let v : Word32 := 1;
    let n : Fin 4 := 3;
    (off.val % 4 = 0) ∧ (srcKey src off = pgPHY n + 0x44) ∧ (fldOf PHY_TRAIN_GO v = 1) ∧ (fldOf PHY_TRAIN_ABORT v = 0)) ∧
  (let src : Src := Src.debug;
    let off : Fin 0x4000000 := Fin.ofNat 0x4000000 (pgPHY 3 + 0x44);
    let v : Word32 := 2;
    let n : Fin 4 := 3;
    (off.val % 4 = 0) ∧ (srcKey src off = pgPHY n + 0x44) ∧ (fldOf PHY_TRAIN_GO v = 0) ∧ (fldOf PHY_TRAIN_ABORT v = 1)) ∧
  (let src : Src := Src.debug;
    let off : Fin 0x4000000 := Fin.ofNat 0x4000000 (pgFSC + 0x80 + 0x10 * 3);
    let n : Fin 4 := 3;
    (off.val % 4 = 0) ∧ (srcKey src off = pgFSC + 0x80 + 0x10 * n.val)) ∧
  (let src : Src := Src.debug;
    let off : Fin 0x4000000 := Fin.ofNat 0x4000000 (pgGAB 1 + 0x60);
    let g : Fin 2 := 1;
    (off.val % 4 = 0) ∧ (srcKey src off = pgGAB g + 0x60)) := by
  and_intros <;> decide +kernel

theorem wit_RegisterWritesStartTheirCommands_2 :
  (let src : Src := Src.debug;
    let off : Fin 0x4000000 := Fin.ofNat 0x4000000 (pgGAB 1 + 0x80 + 4 * 31);
    let g : Fin 2 := 1;
    let m : Fin 32 := 31;
    (off.val % 4 = 0) ∧ (srcKey src off = pgGAB g + 0x80 + 4 * m.val)) ∧
  (let src : Src := Src.debug;
    let off : Fin 0x4000000 := Fin.ofNat 0x4000000 (pgGAB 1 + 0x48);
    let v : Word32 := 1;
    let g : Fin 2 := 1;
    (off.val % 4 = 0) ∧ (srcKey src off = pgGAB g + 0x48) ∧ (v = 1)) ∧
  (let src : Src := Src.debug;
    let off : Fin 0x4000000 := Fin.ofNat 0x4000000 (pgGAB 1 + 0x48);
    let v : Word32 := 2;
    let g : Fin 2 := 1;
    (off.val % 4 = 0) ∧ (srcKey src off = pgGAB g + 0x48) ∧ (v = 2)) ∧
  (let src : Src := Src.debug;
    let off : Fin 0x4000000 := Fin.ofNat 0x4000000 (pgGAB 1 + 0x48);
    let v : Word32 := 4;
    let g : Fin 2 := 1;
    (off.val % 4 = 0) ∧ (srcKey src off = pgGAB g + 0x48) ∧ (v = 4)) ∧
  (let src : Src := Src.debug;
    let off : Fin 0x4000000 := Fin.ofNat 0x4000000 (pgIRQ + 0x400 + 4 * 255);
    let n : Fin 256 := 255;
    (off.val % 4 = 0) ∧ (srcKey src off = pgIRQ + 0x400 + 4 * n.val)) ∧
  (let src : Src := Src.debug;
    let off : Fin 0x4000000 := Fin.ofNat 0x4000000 (pgIRQ + 0x48);
    let v : Word32 := 255;
    let n : Fin 256 := 255;
    (off.val % 4 = 0) ∧ (v.toNat = n.val) ∧ (srcKey src off = pgIRQ + 0x48)) ∧
  (let src : Src := Src.debug;
    let off : Fin 0x4000000 := Fin.ofNat 0x4000000 (pgIRQ + 0x58);
    let v : Word32 := 255;
    let n : Fin 256 := 255;
    (off.val % 4 = 0) ∧ (v.toNat = n.val) ∧ (srcKey src off = pgIRQ + 0x58)) ∧
  (let src : Src := Src.debug;
    let off : Fin 0x4000000 := Fin.ofNat 0x4000000 (pgIRQ + 0x50);
    let v : Word32 := 15;
    let h : Fin 16 := 15;
    (off.val % 4 = 0) ∧ (v.toNat = h.val) ∧ (srcKey src off = pgIRQ + 0x50)) ∧
  (let src : Src := Src.debug;
    let off : Fin 0x4000000 := Fin.ofNat 0x4000000 (pgIRQ + 0x54);
    let v : Word32 := 271;
    let h : Fin 16 := 15;
    let g : Fin 2 := 1;
    (off.val % 4 = 0) ∧ (v.toNat = h.val + 256 * g.val) ∧ (srcKey src off = pgIRQ + 0x54)) ∧
  (∀ x ∈ [1, 2, 3, 4, 5, 6, 7, 8, 9],
    let src : Src := Src.debug;
    let off : Fin 0x4000000 := Fin.ofNat 0x4000000 (pgPUR + 0xD0 + 0x20 * 1);
    let v : Word32 := BitVec.ofNat 32 x;
    let q : Fin 2 := 1;
    let e := (x, ());
    (off.val % 4 = 0) ∧ (fldOf PUR_CMD_OP v = e.1) ∧ (srcKey src off = pgPUR + 0xD0 + 0x20 * q.val)) ∧
  (let src : Src := Src.debug;
    let off : Fin 0x4000000 := Fin.ofNat 0x4000000 (pgPUE + 0x114 + 0x10 * 1);
    let v : Word32 := 0x807;
    let q : Fin 2 := 1;
    let f : Fin 16 := 8;
    let p : Fin 16 := 7;
    (off.val % 4 = 0) ∧ (fldOf PUE_PRI_FUNC v = f.val) ∧ (fldOf PUE_PRI_PRIO v = p.val) ∧ (srcKey src off = pgPUE + 0x114 + 0x10 * q.val)) ∧
  (let src : Src := Src.debug;
    let off : Fin 0x4000000 := Fin.ofNat 0x4000000 (pgEAV + 0x64 + 0x10 * 1);
    let v : Word32 := 0x80000008;
    let q : Fin 2 := 1;
    let f : Fin 16 := 8;
    (off.val % 4 = 0) ∧ (v.getLsbD 31 = true) ∧ (v.toNat % 16 = f.val) ∧ (srcKey src off = pgEAV + 0x64 + 0x10 * q.val)) := by
  and_intros <;> decide +kernel

theorem wit_RegisterWritesStartTheirCommands_3 :
  (let src : Src := Src.debug;
    let off : Fin 0x4000000 := Fin.ofNat 0x4000000 (pgEAV + 0xC0 + 4 * 7);
    let v : Word32 := 0x80FFFFFF;
    let w : Fin 8 := 7;
    let h : Fin (2 ^ 24) := 0xFFFFFF;
    (off.val % 4 = 0) ∧ (v.toNat % 2 ^ 24 = h.val) ∧ (srcKey src off = pgEAV + 0xC0 + 4 * w.val)) ∧
  (let src : Src := Src.debug;
    let off : Fin 0x4000000 := Fin.ofNat 0x4000000 (pgGUT + 0x10C + 0x20 * 7);
    let v : Word32 := 4095;
    let w : Fin 8 := 7;
    let tail : Fin 4096 := 4095;
    (off.val % 4 = 0) ∧ (v.toNat % 4096 = tail.val) ∧ (srcKey src off = pgGUT + 0x10C + 0x20 * w.val)) ∧
  (let src : Src := Src.debug;
    let off : Fin 0x4000000 := Fin.ofNat 0x4000000 (pgBTXC + 0x404 + 0x10 * 63);
    let v : Word32 := 0x80FFFFFF;
    let h : Fin (2 ^ 24) := 0xFFFFFF;
    let q : Fin 64 := 63;
    (off.val % 4 = 0) ∧ (v.toNat % 2 ^ 24 = h.val) ∧ (srcKey src off = pgBTXC + 0x404 + 0x10 * q.val)) ∧
  (let src : Src := Src.debug;
    let off : Fin 0x4000000 := Fin.ofNat 0x4000000 (pgBTXC + 0x120 + 0x80 * 1);
    let v : Word32 := 0x8000000F;
    let g : Fin 2 := 1;
    let dest : Fin 16 := 15;
    (off.val % 4 = 0) ∧ (fldOf BTX_MSG_TXCTL_GO v = 1) ∧ (fldOf BTX_MSG_TXCTL_DEST v = dest.val) ∧ (srcKey src off = pgBTXC + 0x120 + 0x80 * g.val)) ∧
  (let src : Src := Src.debug;
    let off : Fin 0x4000000 := Fin.ofNat 0x4000000 (pgBTXC + 0x164 + 0x80 * 1);
    let v : Word32 := 1;
    let g : Fin 2 := 1;
    (off.val % 4 = 0) ∧ (v.getLsbD 0 = true) ∧ (srcKey src off = pgBTXC + 0x164 + 0x80 * g.val)) ∧
  (∀ x ∈ [pgCRS + 0x60, pgFLS + 0x64, pgPWR + 0x48, pgPWR + 0x70, pgDMR + 0x68, pgDMR + 0x9C],
    let src : Src := Src.debug;
    let off : Fin 0x4000000 := Fin.ofNat 0x4000000 (x);
    let e := (x, ());
    (off.val % 4 = 0) ∧ (srcKey src off = e.1)) ∧
  (∀ x ∈ [(pgSFC + 0x50, 1), (pgSFC + 0x50, 2), (pgSFC + 0x50, 3), (pgSFC + 0x50, 4), (pgCRS + 0x8C, 1), (pgFSC + 0xD0, 1), (pgPWR + 0x44, 0x80000000), (pgPWR + 0x44, 0x80000001), (pgPWR + 0x44, 0x80000011), (pgPWR + 0x44, 0x80000101), (pgPWR + 0x44, 0x80000002), (pgPWR + 0x44, 0x80000003), (pgEAV + 0x48, 0xA55A)],
    let src : Src := Src.debug;
    let off : Fin 0x4000000 := Fin.ofNat 0x4000000 (x.1);
    let v : Word32 := BitVec.ofNat 32 x.2;
    let e := (x.1, x.2, ());
    (off.val % 4 = 0) ∧ (v.toNat = e.2.1) ∧ (srcKey src off = e.1)) ∧
  (∀ x ∈ [1, 2, 3],
    let src : Src := Src.debug;
    let off : Fin 0x4000000 := Fin.ofNat 0x4000000 (pgFLS + 0x68);
    let word : Fin 1024 := 1023;
    let v : Word32 := flsWord x 0 word;
    let e := (x, ());
    (off.val % 4 = 0) ∧ (srcKey src off = pgFLS + 0x68) ∧ (v = flsWord e.1 0 word)) := by
  and_intros <;> decide +kernel

theorem wit_InterruptCommands : w21.admits (Src.gable 1) = true ∧ w22.admits (Src.gable 0) = true ∧ (Src.host = Src.host ∨ Src.host = Src.debug) ∧
  run0.admits Src.host = true ∧ (Src.debug = Src.host ∨ Src.debug = Src.debug) ∧ run0.admits Src.debug = true ∧ w25.accepts (Src.gable 1) 28744 =
  true ∧ 1 ≤ 8 ∧ 8 ≤ 8 ∧ w25.rf (pgIRQB 1) IRQ_SRC_STATE 8 = srcActive ∧ w26.accepts Src.host 28760 = true ∧ 32 ≤ 32 ∧ 32 < 164 ∧ w26.rf pgIRQ
  IRQ_SRC_STATE 32 = srcActive ∧ (w26.irqServing 32).target = 2 ∧ run0.accepts (Src.gable 1) 28752 = true ∧ run0.rf (pgIRQB 1) IRQ_SRC_STATE 8 =
  srcIdle ∧ run0.accepts Src.host 28756 = true ∧ 1 ≤ 1 ∧ run0.rf (pgIRQB 1) IRQ_SRC_STATE 1 = srcIdle ∧ w29.accepts (Src.gable 1) (29696 + 4 * 8) =
  true ∧ msixS.msixNext = some 33 := by
  and_intros <;> decide +kernel

theorem wit_ResetsAndReports : run0.tray = tRUN ∧ Src.host = Src.host ∧ 42330 = 42330 ∧ run0.accepts Src.host 32840 = true ∧ run0.pwr.core = true ∧
  run0.ready pgEAV = true ∧ w35.pwr.core = true ∧ w35.ready pgEAV = true ∧ 1 ≤ 8 ∧ 8 ≤ w35.eav.vfs ∧ w36.backlog 0 =
  [{ id := 7, status := 0, cause := 0, course := 3 : Report }] ∧ w36.bit (ringOf 0).pg (ringOf 0).en = true ∧ w36.ringRoom (ringOf 0) = true ∧
  w36.rf (ringOf 0).pg (ringOf 0).log2 ≤ 12 := by
  and_intros <;> decide +kernel

theorem wit_PowerCommands : 4 ≤ 8 ∧ 8 ≤ 8 ∧ (fall 8).tray = tFALLING ∧ (fall 8).trayStep = 8 ∧ (fall 3).tray = tFALLING ∧ (fall 3).trayStep = 3 ∧
  (fall 3).onPend = false ∧ (fall 3).bit pgPWR PWR_STAT_TGT = false ∧ w39.tray = tFALLING ∧ w39.trayStep = 3 ∧ w39.onPend = false ∧ w39.bit pgPWR
  PWR_STAT_TGT = true ∧ w40.tray = tFALLING ∧ w40.trayStep = 3 ∧ w40.onPend = true ∧ (fall 2).tray = tFALLING ∧ (fall 2).trayStep = 2 ∧ (fall
  2).onPend = false ∧ (fall 1).tray = tFALLING ∧ (fall 1).trayStep = 1 ∧ (fall 1).onPend = false ∧ 1 ≤ 3 ∧ 3 ≤ 5 ∧ 3 ≠ 2 ∧ (rise 3).tray = tRISING ∧
  (rise 3).trayStep = 3 ∧ (rise 3).bit pgPWR PWR_STAT_OFF_PEND = false ∧ (rise 2).tray = tRISING ∧ (rise 2).trayStep = 2 ∧ (rise 2).bit pgPWR
  PWR_STAT_OFF_PEND = false ∧ (5 = 1 ∨ 3 ≤ 5 ∧ 5 ≤ 5) ∧ w45.tray = tRISING ∧ w45.trayStep = 5 ∧ w45.bit pgPWR PWR_STAT_OFF_PEND = true ∧ (rise
  9).accepts (Src.gable 0) 4168 = true ∧ BitVec.getLsbD (2147483657 : Word32) 31 = true ∧ BitVec.getLsbD (2147483657 : Word32) 4 = false ∧
  BitVec.toNat (2147483657 : Word32) % 16 = 9 ∧ 7 ≤ 9 ∧ 9 ≤ 9 ∧ (rise 9).tray = tRISING ∧ (rise 9).trayStep = 9 ∧ (rise 9).bit pgPWR
  PWR_STAT_OFF_PEND = false ∧ (rise 10).accepts (Src.gable 0) 4168 = true ∧ BitVec.getLsbD (2147483658 : Word32) 31 = true ∧ BitVec.getLsbD
  (2147483658 : Word32) 4 = false ∧ BitVec.toNat (2147483658 : Word32) % 16 = 10 ∧ (rise 10).tray = tRISING ∧ (rise 10).trayStep = 10 ∧ (rise
  10).bit pgPWR PWR_STAT_OFF_PEND = false ∧ (fall 9).accepts (Src.gable 0) 4168 = true ∧ BitVec.getLsbD (2147483673 : Word32) 31 = true ∧
  BitVec.getLsbD (2147483673 : Word32) 4 = true ∧ BitVec.toNat (2147483673 : Word32) % 16 = 9 ∧ 9 ≤ 10 ∧ (fall 9).tray = tFALLING ∧ (fall
  9).trayStep = 9 ∧ ((rise 7).tray = tRISING ∧ 7 ≤ (rise 7).trayStep ∨ (rise 7).tray = tFALLING ∧ 9 ≤ (rise 7).trayStep) ∧ (inTray 2).tray =
  tSTANDBY ∧ (fall 5).tray = tFALLING ∧ w53.tray = tSTANDBY ∧ w53.dmr.wake = some 1 ∧ (inTray 2).accepts (Src.gable 0) 4164 = true ∧ ((inTray
  3).tray = tRUN ∨ (inTray 3).tray = tIDLE) ∧ run0.accepts (Src.gable 0) 4164 = true ∧ (run0.tray = tRUN ∨ run0.tray = tIDLE) ∧ run0.accepts
  Src.debug 4164 = true ∧ run0.tray = tRUN ∧ run0.bit pgCRS PG_CTRL_EN = false ∧ run0.bit pgCRS PG_STAT_QUIESCING = false ∧ run0.pwr.idle = 0 ∧
  (inTray 3).accepts (Src.gable 0) 4164 = true ∧ (inTray 3).tray = tIDLE ∧ (inTray 3).pwr.idle = 0 ∧ run0.railGood 3 = true ∧ w61.pwr.core = true ∧
  2 ≤ smGet (fun x => 0) w61.pwr.hot 63 ∧ w61.tray = tRUN ∧ w62.pwr.core = true ∧ w62.bit pgGLB GLB_FAIL_HBM_TEMP = true ∧ w62.pwr.hbmOff = false := by
  and_intros <;> decide +kernel

theorem wit_InputAndDormer : (inTray 0).tray = tOFF ∧ (inTray 0).pwr.j1 ≠ 1 ∧ (inTray 0).dmr.stopped = false ∧ (inTray 0).bit pgDMR
  DMR_STAT_SUPPLY = false ∧ (run0.pwr.j1 = 0 ∨ run0.pwr.j1 = 3) ∧ run0.reports = true ∧ (w65.pwr.j1 = 0 ∨ w65.pwr.j1 = 2) ∧ w65.reports = true ∧
  w67.pwr.j1 ≠ 0 ∧ run0.tray ≠ tOFF ∧ run0.sfc.cmd = none ∧ reaches Src.host 12356 = true ∧ run0.admits Src.host = true ∧ run0.dmr.stopped = false
  ∧ run0.dmr.sub < 32768 ∧ run0.accepts Src.host 12444 = true ∧ run0.dmr.stopped = false ∧ run0.bit pgDMR DMR_STAT_SUPPLY = false ∧ 500 ≤
  BitVec.toInt (500 : BitVec 16) ∧ w73.dmr.stopped = false ∧ w73.bit pgDMR DMR_STAT_SUPPLY = true ∧ w75.dmr.stopped = true ∧ run0.rf pgDMR
  DMR_STAT_OSC_FAULT = 0 ∧ w77.dmr.stopped = false ∧ w77.bit pgDMR DMR_STAT_OSC_RC = true ∧ w78.dmr.stopped = false ∧ w79.dmr.stopped = false ∧
  w79.bit pgDMR DMR_ALM_CTL_EN 1 = true ∧ w79.alarm 1 = (w79.dmr.sec + 1) % 2 ^ 40 ∧ run0.accepts Src.host 12392 = true ∧ run0.bit pgDMR
  DMR_STAT_COMMIT_PEND = false ∧ w81.dmr.stopped = false ∧ w81.bit pgDMR DMR_STAT_COMMIT_PEND = true := by
  and_intros <;> decide +kernel

theorem wit_PortsAndSensors : run0.watched = true ∧ w83.watched = true ∧ w83.bit pgFSC FSC_CONN_J3_MOD = true ∧ w83.bit pgFSC FSC_CONN_J3_PLUG =
  true ∧ w85.watched = true ∧ w85.rf pgFLS FLS_SEC_DBG ≤ 2 ∧ run0.rf pgFLS FLS_SEC_DBG ≤ 2 ∧ w89.watched = true ∧ 2 < w89.rf pgFLS FLS_SEC_DBG ∧
  w92.sfc.recovery = true ∧ w92.recCmd = 1 ∧ w92.recAddr < 33554432 ∧ w93.sfc.recovery = true ∧ w93.recCmd = 2 ∧ w93.recAddr < 33554432 ∧
  w93.recAddr % 256 = 0 ∧ w93.sfc.stage = none ∧ w94.sfc.recovery = true ∧ w94.recCmd = 3 ∧ run0.accepts (Src.gable 0) 4208 = true ∧ BitVec.getLsbD
  (3221619712 : Word32) 31 = true ∧ BitVec.getLsbD (3221619712 : Word32) 30 = true ∧ bits (BitVec.toNat (3221619712 : Word32)) 18 16 ≤ 6 ∧ bits
  (BitVec.toNat (3221619712 : Word32)) 10 8 ≤ 4 ∧ run0.bit pgPWR PWR_PMB_STAT_BUSY = false ∧ w96.pwr.pmb = some
  { rd := true, r := 6, len := 4, code := 0 : Pmb } ∧ { rd := true, r := 6, len := 4, code := 0 : Pmb }.rd = true ∧ 0 = 0 ∧ 63 < 64 ∧ w97.snsUp =
  true ∧ w97.pwr.core = true ∧ w98.snsUp = true ∧ w99.snsUp = true ∧ run0.snsUp = true := by
  and_intros <;> decide +kernel

theorem wit_FuseAndFlash : run0.accepts (Src.gable 0) (pgFLS + 100) = true ∧ armed.accepts (Src.gable 0) (pgFLS + 104) = true ∧ armed.bit pgFLS
  FLS_STAT_ARMED = true ∧ armed.bit pgFLS FLS_CMD_STAT_BUSY = false ∧ fuseRegion 655 = some 6 ∧ armed.flsLocked 6 = false ∧ armed.burnTemp = false ∧
  w103.accepts (Src.gable 0) (pgFLS + 104) = true ∧ w103.bit pgFLS FLS_STAT_ARMED = true ∧ w103.bit pgFLS FLS_CMD_STAT_BUSY = false ∧ (fuseRegion
  128).isSome = true ∧ w104.accepts (Src.gable 0) (pgFLS + 104) = true ∧ w104.bit pgFLS FLS_STAT_ARMED = true ∧ w104.bit pgFLS FLS_CMD_STAT_BUSY =
  false ∧ w105.accepts (Src.gable 0) (pgFLS + 104) = true ∧ w105.bit pgFLS FLS_STAT_ARMED = true ∧ w105.bit pgFLS FLS_CMD_STAT_BUSY = false ∧ 3 ≤ 3
  ∧ w105.flsLocked 3 = false ∧ w105.burnTemp = false ∧ w105.rf pgFLS FLS_RB_VALUE 3 < 64 ∧ w106.accepts (Src.gable 0) (pgFLS + 104) = true ∧
  w106.bit pgFLS FLS_STAT_ARMED = true ∧ w106.bit pgFLS FLS_CMD_STAT_BUSY = false ∧ w106.rf pgFLS FLS_SEC_DBG < 3 ∧ w106.flsLocked 2 = false ∧
  w106.burnTemp = false ∧ run0.accepts (Src.gable 0) (pgFLS + 96) = true ∧ w108.fls.cmd = some (FlsCmd.advRb 3) ∧ flashS.accepts (Src.gable 0)
  (pgSFC + 80) = true ∧ flashS.bit pgSFC SFC_STAT_BUSY = false ∧ 1 ≤ flashS.rf pgSFC SFC_LEN_LEN ∧ flashS.rf pgSFC SFC_LEN_LEN ≤ 256 ∧ flashS.rf
  pgSFC SFC_ADDR_ADDR + flashS.rf pgSFC SFC_LEN_LEN ≤ 67108864 ∧ flashS.rf pgSFC SFC_ADDR_ADDR % 256 + flashS.rf pgSFC SFC_LEN_LEN ≤ 256 ∧ bitOf
  (flashS.rf pgSFC SFC_WP_WP) (flashPart (flashS.rf pgSFC SFC_ADDR_ADDR)) = false ∧ w113.sfc.cmd = some (SfcCmd.prog 256 [63]) ∧ w114.sfc.cmd = some
  (SfcCmd.erase 256) ∧ w115.sfc.cmd = some (SfcCmd.read 256 3) ∧ 3 ≤ 256 := by
  and_intros <;> decide +kernel

theorem wit_LampsAndConnectors : tDORMANT < w116.tray ∧ w116.bit pgFSC PG_CTRL_FREEZE = false ∧ w116.pePat 3 = some (((runW [(pgFSC,
  FSC_PE_CTL_MODE, 1, 3), (pgFSC, FSC_PE_LVL_INC, 8, 3), (pgFSC, FSC_PE_LVL_HI, 200, 3)]).pePat 3).getD
  { mode := 0, dir := false, inc := 0, hi := 0, lo := 0, mask := 0 : PePat }) ∧ tDORMANT < (rise 3).tray ∧ (rise 3).bit pgFSC PG_CTRL_FREEZE = false
  ∧ (rise 3).autoPat = some { mode := 2, dir := false, inc := 0, hi := 128, lo := 0, mask := 255 : PePat } ∧ w118.accepts (Src.gable 0) (pgFSC + 128
  + 16 * 1) = true ∧ bits (BitVec.toNat (258 : Word32)) 15 8 ≠ 0 ∧ (1 < 2 ∨ bits (BitVec.toNat (258 : Word32)) 1 0 ≠ 2) ∧ w118.bit pgFSC
  FSC_CFG_AUTO = false ∧ supp.accepts Src.host (pgFSC + 208) = true ∧ supp.fsc.supply = true ∧ supp.bit pgFSC PG_CTRL_EN = true ∧ w121.bit pgFSC
  FSC_TEST_STAT_RUN = true ∧ supp.sinks = true ∧ w123.watched = true ∧ w124.watched = true ∧ w124.bit pgCRS CRS_SRC_SYNC_OUT_EN = true ∧
  run0.watched = true ∧ w126.watched = true ∧ w126.fsc.supply = false ∧ w126.rf pgFSC FSC_CONN_J5 = 0 := by
  and_intros <;> decide +kernel

theorem wit_DebugAndWindows : w127.watched = true ∧ w127.dbgOpen = true ∧ run0.watched = true ∧ run0.dbgOpen = true ∧ run0.accepts Src.debug 88 =
  true ∧ run0.gabLive = true ∧ (run0.gable 1).halted = false ∧ run0.inSvc 1 = false ∧ (run0.gable 1).u.q.frame.length < 4 ∧ w130.watched = true ∧
  w130.dbgOpen = true ∧ w130.inSvc 1 = true ∧ w131.watched = true ∧ w131.dbgOpen = true ∧ w131.inSvc 1 = true ∧ (w131.gable 1).ov = false ∧ 31 ≠ 0 ∧
  reaches Src.debug 16777216 = true ∧ run0.admits Src.debug = true ∧ run0.windowOpen Src.debug = true ∧ run0.selfRegion Src.debug (1) (4 * 65535 /
  65536) = false ∧ reaches (Src.gable 1) 16777216 = true ∧ run0.admits (Src.gable 1) = true ∧ run0.windowOpen (Src.gable 1) = false ∧ run0.bit
  (pgGAB (524287 / 262144)) PG_ERR_VALID = false ∧ 12288 ≤ 16383 ∧ run0.selfRegion Src.debug (1) 9 = false := by
  and_intros <;> decide +kernel

theorem wit_HostCommands : objS.accepts Src.host (pgEAV + 100 + 16 * 0) = true ∧ slotOwner (0) Src.host = true ∧ objS.accepts Src.host (pgEAV +
  80) = true ∧ objS.fnOn 8 = true ∧ 63 < objS.rf pgFLS FLS_SEC_D ∧ (∀ (f : Fin 9), f ≠ 8 → objS.bound ↑f 63 = false) ∧ w137.accepts Src.host
  (pgEAV + 80) = true ∧ w137.fnOn 8 = true ∧ 63 < w137.rf pgFLS FLS_SEC_D ∧ 63 ≠ 0 ∧ (∀ (p : Plan), p ∈ w137.livePlans → p.domain ≠ 63) ∧
  objS.accepts Src.host (pgEAV + 192 + 4 * 7) = true ∧ objS.isObj 5 = true ∧ (objS.obj 5).pin = true ∧ objS.pwr.core = true ∧ smGet (fun x =>
  false) objS.eav.d3 0 = false ∧ objS.ready pgEAV = true ∧ objS.trayIdle = false ∧ objS.bit pgEAV EAV_WIN_VALID ((7 * 2 ^ 31) / 2 ^ 31) = true ∧
  (7 * 2 ^ 31) % 2 ^ 31 + 4096 ≤ (objS.obj (objS.rf pgEAV EAV_WIN_HANDLE ((7 * 2 ^ 31) / 2 ^ 31))).size1 + 1 ∧ (objS.obj (objS.rf pgEAV
  EAV_WIN_HANDLE ((7 * 2 ^ 31) / 2 ^ 31))).moving = false ∧ (objS.obj (objS.rf pgEAV EAV_WIN_HANDLE ((7 * 2 ^ 31) / 2 ^ 31))).state =
  ObjState.empty ∧ w141.pwr.core = true ∧ smGet (fun x => false) w141.eav.d3 0 = false ∧ w141.ready pgEAV = true ∧ w141.trayIdle = false ∧
  w141.bit pgEAV EAV_WIN_VALID ((7 * 2 ^ 31 + 4095) / 2 ^ 31) = true ∧ { state := ObjState.resident, size1 := 4095, pages := [17764] : Obj } =
  w141.obj (w141.rf pgEAV EAV_WIN_HANDLE ((7 * 2 ^ 31 + 4095) / 2 ^ 31)) ∧ (7 * 2 ^ 31 + 4095) % 2 ^ 31 ≤
  { state := ObjState.resident, size1 := 4095, pages := [17764] : Obj }.size1 ∧
  { state := ObjState.resident, size1 := 4095, pages := [17764] : Obj }.moving = false ∧
  { state := ObjState.resident, size1 := 4095, pages := [17764] : Obj }.state = ObjState.resident ∧ w141.courseNames (w141.rf pgEAV EAV_WIN_HANDLE
  ((7 * 2 ^ 31 + 4095) / 2 ^ 31)) = false ∧ 17764 * 2097152 + 4095 = pagedAddr
  { state := ObjState.resident, size1 := 4095, pages := [17764] : Obj }.pages ((7 * 2 ^ 31 + 4095) % 2 ^ 31) ∧ w141.stackStopped (beatOf (17764 *
  2097152 + 4095)).fst = false ∧ w141.hbm.syms = [] ∧ objS.accepts (Src.vf 7) (pgVMB (7 + 1) + 128) = true ∧ objS.bit (pgVMB (7 + 1))
  VMB_STAT_BUSY = false ∧ w143.accepts (Src.gable 1) (pgEAV + 448 + 256 * 7) = true ∧ w143.bit (pgVMB (7 + 1)) VMB_STAT_BUSY = true ∧ (∀ (v : Fin
  8), Src.host ≠ Src.vf v) ∧ Src.host ≠ Src.gable 1 ∧ objS.accepts Src.host (pgGUT + 268 + 32 * 7) = true ∧ w145.accepts (Src.vf 7) (pgVDB (7 + 1)
  + 88) = true ∧ w145.vfChan (7 + 1) = some 7 ∧ (gutS 0 5 0 4).gutStarts 7 = true ∧ (gutS 0 5 0 4).rf pgGUT GUT_CH_CFG_LOG2 7 ≤ 12 ∧ (gutS 0 5 0
  4).gutGate ((gutS 0 5 0 4).rf pgGUT GUT_CH_CFG_FUNC 7) ((gutS 0 5 0 4).gutDesc 7) = 0 ∧ (gutS 0 5 0 4).gutWaits ((gutS 0 5 0 4).gutDesc 7) =
  false ∧ ((gutS 0 5 0 4).gutDesc 7).op = 0 ∧ (gutS 1 5 0 4).gutStarts 7 = true ∧ (gutS 1 5 0 4).rf pgGUT GUT_CH_CFG_LOG2 7 ≤ 12 ∧ (gutS 1 5 0
  4).gutGate ((gutS 1 5 0 4).rf pgGUT GUT_CH_CFG_FUNC 7) ((gutS 1 5 0 4).gutDesc 7) = 0 ∧ (gutS 1 5 0 4).gutWaits ((gutS 1 5 0 4).gutDesc 7) =
  false ∧ ((gutS 1 5 0 4).gutDesc 7).op = 1 ∧ ((gutS 1 5 0 4).obj ((gutS 1 5 0 4).gutDesc 7).target).state ≠ ObjState.resident ∧ (gutS 2 63 9
  1).gutStarts 7 = true ∧ (gutS 2 63 9 1).rf pgGUT GUT_CH_CFG_LOG2 7 ≤ 12 ∧ (gutS 2 63 9 1).gutGate ((gutS 2 63 9 1).rf pgGUT GUT_CH_CFG_FUNC 7)
  ((gutS 2 63 9 1).gutDesc 7) = 0 ∧ (gutS 2 63 9 1).gutWaits ((gutS 2 63 9 1).gutDesc 7) = false ∧ ((gutS 2 63 9 1).gutDesc 7).op = 2 ∧ ((gutS 2
  63 9 1).gutDesc 7).len = 1 ∧ (gutS 2 63 9 1).stWaits ((gutS 2 63 9 1).gutDesc 7).target ((gutS 2 63 9 1).gutDesc 7).offset ownGutter true =
  false ∧ (gutS 2 63 9 1).stDenied ((gutS 2 63 9 1).gutDesc 7).target ((gutS 2 63 9 1).gutDesc 7).offset ownGutter true false = none ∧ (gutS 3 63
  9 1).gutStarts 7 = true ∧ (gutS 3 63 9 1).rf pgGUT GUT_CH_CFG_LOG2 7 ≤ 12 ∧ (gutS 3 63 9 1).gutGate ((gutS 3 63 9 1).rf pgGUT GUT_CH_CFG_FUNC 7)
  ((gutS 3 63 9 1).gutDesc 7) = 0 ∧ (gutS 3 63 9 1).gutWaits ((gutS 3 63 9 1).gutDesc 7) = false ∧ ((gutS 3 63 9 1).gutDesc 7).op = 3 ∧ ((gutS 3
  63 9 1).gutDesc 7).len = 1 ∧ (gutS 3 63 9 1).stWaits ((gutS 3 63 9 1).gutDesc 7).target ((gutS 3 63 9 1).gutDesc 7).offset ownGutter false =
  false ∧ (gutS 3 63 9 1).stDenied ((gutS 3 63 9 1).gutDesc 7).target ((gutS 3 63 9 1).gutDesc 7).offset ownGutter false false = none ∧ ((gutS 3
  63 9 1).stRead ((gutS 3 63 9 1).gutDesc 7).target ((gutS 3 63 9 1).gutDesc 7).offset StErr.clean).snd.snd = false ∧ smGet (fun x => 0)
  w150.eav.gut 7 ≠ 0 ∧ w150.rf pgGUT GUT_CH_CFG_LOG2 7 ≤ 12 ∧ w150.gutGate (w150.rf pgGUT GUT_CH_CFG_FUNC 7) (w150.gutDesc 7) = 0 ∧ w150.gutWaits
  (w150.gutDesc 7) = false ∧ (w150.gutDesc 7).op = 0 ∧ w151.pwr.core = true ∧ w151.ready pgEAV = false ∧ objS.ready pgEAV = true ∧ run0.pwr.core =
  true ∧ run0.ready pgEAV = true ∧ (16 = 4 ∨ 16 = 8 ∨ 16 = 16) ∧ 6 ≠ 0 := by
  and_intros <;> decide +kernel

theorem wit_TickAdvancesTheCourse : w157.crs.running = true ∧ w157.crs.first = false ∧ w157.crs.judged = true ∧ w157.lastCourse = false ∧
  w158.crs.running = true ∧ w158.crs.first = true ∧ w158.lastCourse = false ∧ (w158.bit pgCRS CRS_SRC_MODE = false ∨ w158.crs.marked = true) ∧
  w159.crs.running = true ∧ w159.crs.first = false ∧ w159.crs.judged = true ∧ w159.lastCourse = true ∧ w159.bit pgCRS PG_STAT_EN_PEND = false := by
  and_intros <;> decide +kernel

theorem wit_CourseInstants : (crsP 1).crs.running = true ∧ (crsP 1).phase = 1 ∧ w161.live = some { plan := { : Plan } : Run } ∧ w161.phase = 2 ∧
  w161.planEnded { plan := { : Plan } : Run } = true ∧ w162.crs.run = some { plan := { engs := [{ present := true : EngEnt }] : Plan } : Run } ∧
  w162.phase = 2 ∧ w162.crs.slipped = false ∧ w162.crs.trayFail = false ∧ w162.planEnded
  { plan := { engs := [{ present := true : EngEnt }] : Plan } : Run } = false ∧ w163.crs.running = true ∧ w163.crs.judged = false ∧ w163.crs.first =
  false ∧ w163.phase = 2 ∧ w164.crs.running = true ∧ w164.crs.judged = true ∧ w164.crs.next = some { op := 2 : Selected } ∧
  { op := 2 : Selected }.op < w164.crs.volt ∧ w165.crs.limitDue = true := by
  and_intros <;> decide +kernel

theorem wit_RingAndGovernor : follow.rf pgFSC FSC_CONN_J4_IN = 0 ∧ follow.bit pgCRS CRS_SRC_MODE = true ∧ follow.crs.running = true ∧
  follow.crs.first = false ∧ follow.crs.lost = false ∧ markChecks (markWord 7 1000).toNat = true ∧ (-100 : BitVec 16).toInt.natAbs ≤ 100 ∧
  w167.crs.running = true ∧ w167.bit pgCRS CRS_SRC_MODE = false ∧ w167.bit pgCRS CRS_SRC_SYNC_OUT_EN = true ∧ follow.follows = true ∧ w169.follows
  = true ∧ w169.crs.lost = false ∧ 1 ≤ w169.crs.missed ∧ w169.rf pgCRS CRS_SRC_HOLD ≤ w169.crs.missed ∧ w170.crs.backDue = true ∧ (crsP 2).accepts
  Src.host (pgCRS + 96) = true ∧ (crsP 2).bit pgCRS CRS_STAT_NEXT_ARMED = false ∧ (crsP 2).lenLate (BitVec.toNat (9 : Word32)) = false ∧
  w172.accepts Src.host (pgCRS + 140) = true ∧ w172.bit pgCRS CRS_STAT_NEXT_ARMED = true ∧ w172.lenLate (w172.rf pgCRS CRS_NEXT_AT_AT) = false ∧
  govS.crs.running = true ∧ govS.gov.due = some 4 ∧ govS.gov.resv = none ∧ govS.queued 4 = some
  { seq := 4, id := 77, passed := 2, ready := true : Plan } ∧ { seq := 4, id := 77, passed := 2, ready := true : Plan }.ready = true ∧ govS.rf
  pgPUE PUE_CFG_STARVE ≠ 0 ∧ w174.crs.running = true ∧ w174.gov.resv = some 4 ∧ 4 * w174.rf pgPUE PUE_CFG_STARVE ≤ w174.gov.count ∧ govS.accepts
  Src.host (pgPUE + 276 + 16 * 0) = true ∧ slotOwner (0) Src.host = true ∧ 0 ≤ 8 ∧ govS.bit pgPUE PUE_PRI_STAT_BUSY 0 = false ∧ govS.findPlan (0)
  (govS.rf pgPUE PUE_PRI_ID_ID 0) = some (4, true) ∧ 8 ≤ 8 ∧ govS.findPlan (8) (govS.rf pgPUE PUE_PRI_ID_ID 0) = none ∧ w174b.accepts Src.host
  (pgPUE + 276 + 16 * 0) = true ∧ w174b.bit pgPUE PUE_PRI_STAT_BUSY 0 = true := by
  and_intros <;> decide +kernel

theorem wit_ObjectsAndPager : (cmdS 4096 17408).accepts Src.debug (pgPUR + 208 + 32 * 1) = true ∧ slotOwner (1) Src.debug = true ∧ (cmdS 4096
  17408).bit pgPUR PUR_CMD_STAT_BUSY 1 = false ∧ (cmdS 4096 17408).cmdGate (1) false = 0 ∧ (cmdS 4096 17408).arg0 1 < 2 ^ 31 ∧ (cmdS 4096
  17408).arg1 1 < 2 ^ 15 ∧ bits ((cmdS 4096 17408).arg1 1) 7 6 = 0 ∧ bits ((cmdS 4096 17408).arg1 1) 11 8 ≤ 4 ∧ bits ((cmdS 4096 17408).arg1 1) 14
  12 ≤ 4 ∧ (cmdS 4096 17408).domainBad ((cmdS 4096 17408).cmdFunc 1) (bits ((cmdS 4096 17408).arg1 1) 5 0) = false ∧ (cmdS 4096 17408).handleOk
  (cmdS 4096 17408).lowestFree = true ∧ (cmdS 5 0).accepts (Src.gable 1) (pgPUR + 208 + 32 * 1) = true ∧ slotOwner (1) (Src.gable 1) = true ∧ (cmdS
  5 0).bit pgPUR PUR_CMD_STAT_BUSY 1 = false ∧ (cmdS 5 0).cmdGate (1) false = 0 ∧ (cmdS 5 0).arg0 1 < 2 ^ 24 ∧ (cmdS 5 0).handleOk ((cmdS 5 0).arg0
  1) = true ∧ ((cmdS 5 0).obj ((cmdS 5 0).arg0 1)).state ≠ ObjState.free ∧ ((cmdS 5 0).cmdFunc 1 = 0 ∨ ((cmdS 5 0).obj ((cmdS 5 0).arg0 1)).owner =
  (cmdS 5 0).cmdFunc 1) ∧ (cmdS 5 0).inPlan ((cmdS 5 0).arg0 1) = false ∧ (((cmdS 5 0).obj ((cmdS 5 0).arg0 1)).pin = true ∨ (cmdS 5 0).pinnedPages
  + ((cmdS 5 0).obj ((cmdS 5 0).arg0 1)).npages ≤ (cmdS 5 0).rf pgPUR PUR_PIN_MAX_PAGES) ∧ w181.accepts (Src.gable 1) (pgPUR + 208 + 32 * 1) = true
  ∧ w181.bit pgPUR PUR_CMD_STAT_BUSY 1 = false ∧ w181.cmdGate (1) false = 0 ∧ w181.arg0 1 < 2 ^ 24 ∧ w181.handleOk (w181.arg0 1) = true ∧ (w181.obj
  (w181.arg0 1)).state ≠ ObjState.free ∧ (w181.cmdFunc 1 = 0 ∨ (w181.obj (w181.arg0 1)).owner = w181.cmdFunc 1) ∧ w181.candidate (w181.arg0 1) =
  true ∧ (w181.obj (w181.arg0 1)).npages ≤ w181.slotsFree ∧ w182.accepts (Src.gable 1) (pgPUR + 208 + 32 * 1) = true ∧ w182.bit pgPUR
  PUR_CMD_STAT_BUSY 1 = false ∧ w182.cmdGate (1) false = 0 ∧ w182.arg0 1 < 2 ^ 24 ∧ w182.handleOk (w182.arg0 1) = true ∧ (w182.obj (w182.arg0
  1)).state ≠ ObjState.free ∧ (w182.cmdFunc 1 = 0 ∨ (w182.obj (w182.arg0 1)).owner = w182.cmdFunc 1) ∧ (w182.obj (w182.arg0 1)).state =
  ObjState.evicted ∧ (w182.obj (w182.arg0 1)).moving = false ∧ w188.pagerFree = true ∧ w188.pagerPick = some { out := true, handle := 5 : Ask } ∧
  { out := true, handle := 5 : Ask }.out = true ∧ w189.pagerFree = true ∧ w189.pagerPick = some { out := false, handle := 5 : Ask } ∧
  { out := false, handle := 5 : Ask }.out = false ∧ w190.frozenPage pgPUR = false ∧ w190.tray ≠ tIDLE ∧ w190.pur.move = some
  { out := true, handle := 5, pages := [3], slots := [2] : Move } ∧ w190.pur.dying = [] ∧ w190.hbm.syms = [] ∧
  { out := true, handle := 5, pages := [3], slots := [2] : Move }.pages.length ≤
  { out := true, handle := 5, pages := [3], slots := [2] : Move }.next + 1 ∧ { out := true, handle := 5, pages := [3], slots := [2] : Move }.out =
  true ∧ w191.frozenPage pgPUR = false ∧ w191.tray ≠ tIDLE ∧ w191.pur.move = some { out := false, handle := 5, pages := [3], slots := [2] : Move } ∧
  w191.pur.dying = [] ∧ w191.hbm.syms = [] ∧ { out := false, handle := 5, pages := [3], slots := [2] : Move }.pages.length ≤
  { out := false, handle := 5, pages := [3], slots := [2] : Move }.next + 1 ∧ { out := false, handle := 5, pages := [3], slots := [2] : Move }.out =
  false ∧ w192.pur.move = none ∧ 3 ≤ smGet (fun x => 0) w192.pur.tries (tryKey true 5) ∧ List.find? (fun e => decide (0 < w193.freeCount e.fst))
  w193.pur.unrep = some (1, 0) ∧ w193.hbm.syms = [] := by
  and_intros <;> decide +kernel

theorem wit_StandingGrants : w186.selPoint = true ∧ w186.frozenPage pgPUR = false ∧ w186.pur.stWait = [(1,
  { free := false, bad := false, batten := 63, len := 1000, num := 255 : StCmd })] ∧ 1 < 2 ∧ w186.ready pgPUR = true ∧
  { free := false, bad := false, batten := 63, len := 1000, num := 255 : StCmd }.bad = false ∧
  { free := false, bad := false, batten := 63, len := 1000, num := 255 : StCmd }.free = false ∧ (w186.grant
  { free := false, bad := false, batten := 63, len := 1000, num := 255 : StCmd }.num).len = 0 ∧ w186.bit (pgBST
  { free := false, bad := false, batten := 63, len := 1000, num := 255 : StCmd }.batten) BST_FENCE_FENCED = false ∧ w186.grantRun
  { free := false, bad := false, batten := 63, len := 1000, num := 255 : StCmd }.batten
  { free := false, bad := false, batten := 63, len := 1000, num := 255 : StCmd }.len = some 0 ∧ w187.selPoint = true ∧ w187.frozenPage pgPUR =
  false ∧ w187.pur.stWait = [(1, { free := true, bad := false, batten := 0, len := 0, num := 9 : StCmd })] ∧ w187.ready pgPUR = true ∧
  { free := true, bad := false, batten := 0, len := 0, num := 9 : StCmd }.bad = false ∧
  { free := true, bad := false, batten := 0, len := 0, num := 9 : StCmd }.free = true ∧ (w187.grant
  { free := true, bad := false, batten := 0, len := 0, num := 9 : StCmd }.num).len ≠ 0 := by
  and_intros <;> decide +kernel

theorem wit_BattenStores : run0.accepts (Src.gable 0) (pgBST 63 + 64 + 4 * 7) = true ∧ (∀ (i : Fin 4), ownValid (bits (BitVec.toNat (70459648 :
  Word32)) (8 * ↑i + 7) (8 * ↑i)) = true) ∧ run0.planOn 63 = false ∧ (w196.batten 63).writeBack = [262143] ∧ w196.bankTested 63 (bankOf 262143) =
  false ∧ w197.rf (pgBST 63) BST_CFG_CE_FENCE ≠ 0 ∧ w197.rf (pgBST 63) BST_CFG_CE_FENCE ≤ (w197.batten 63).ceCourse ∧ w197.bit (pgBST 63)
  BST_FENCE_FENCED = false ∧ (w197.batten 63).fenceDue = false ∧ (w197.batten 63).fenceTick = false ∧ run0.accepts (Src.gable 1) (pgBST 63 + 104)
  = true ∧ run0.bit (pgBST 63) BST_FENCE_FENCED = false ∧ (w199.batten 63).fenceTick = true ∧ w200.bit (pgBST 63) BST_FENCE_FENCED = true ∧
  (w200.batten 63).backTick = true ∧ w201.accepts (Src.gable 0) (pgBST 63 + 112) = true ∧ w201.marchStatus (63) (1) (w201.rf (pgBST 63)
  BST_MARCH_BANKS_BANKS) false = 0 ∧ (w202.batten 63).march = some { mode := 1, banks := 5, waiting := true, fenced := true : March } ∧
  { mode := 1, banks := 5, waiting := true, fenced := true : March }.waiting = true ∧ w202.gated = false ∧ w202.bit (pgBST 63) BST_FENCE_FENCED =
  true ∧ (w203.batten 63).march = some { mode := 0, banks := 2147483648, waiting := false, fenced := false : March } ∧
  { mode := 0, banks := 2147483648, waiting := false, fenced := false : March }.waiting = false ∧ w203.gated = false ∧ w203.bit (pgBST 63)
  BST_FENCE_FENCED = false ∧ run0.accepts (Src.gable 0) (pgBST 63 + 512 + 4 * 31) = true ∧ run0.planUses 63 = false ∧ run0.bit (pgBST 63)
  BST_REPAIR_VALID0 31 = false ∧ bits (BitVec.toNat (255 : Word32)) 7 7 = 1 ∧ bits (BitVec.toNat (255 : Word32)) 23 16 = 0 ∧ run0.bit (pgBST 63)
  BST_REPAIR_VALID1 31 = false ∧ 262143 < 2 ^ 18 ∧ 63 < 64 ∧ (w205.stWord 63 262143).err = StErr.clean ∧ (w206.stWord 63 262143).err = StErr.clean
  ∧ (w207.stWord 63 262143).err = StErr.clean := by
  and_intros <;> decide +kernel

theorem wit_SlateTablesAndLoads :
  (let s : State := w208;
    let b : Fin 64 := 63;
    let a : Fin 4 := 3;
    let m := 1;
    let r := ([] : List Nat);
    ((s.arr (arrNo b a)).want = m :: r) ∧ ((s.arr (arrNo b a)).queue = 0)) ∧
  (let s : State := w209;
    let b : Fin 64 := 63;
    let a : Fin 4 := 3;
    let m := 2;
    let r := ([] : List Nat);
    ((s.arr (arrNo b a)).changing = true) ∧ ((s.arr (arrNo b a)).want = m :: r) ∧ (m < 3) ∧ (s.gated = false)) ∧
  (let s : State := w210;
    let b : Fin 64 := 63;
    let a : Fin 4 := 3;
    ((s.arr (arrNo b a)).queue ≠ 0) ∧ (s.gated = false)) ∧
  (let s : State := run0;
    let b : Fin 64 := 63;
    let src := Src.gable 1;
    let e : Fin 96 := 95;
    (s.accepts src (pgSLT b + 0x410 + 32 * e.val) = true) ∧ (s.planUses b = false)) ∧
  (let s : State := run0;
    let b : Fin 64 := 63;
    let src := Src.gable 1;
    let e : Fin 96 := 95;
    (s.planUses b = false) ∧ (s.accepts src (pgSLT b + 0x400 + 32 * e.val) = true)) ∧
  (let s : State := run0;
    let b : Fin 64 := 63;
    let src := Src.gable 1;
    let e : Fin 96 := 95;
    (s.planUses b = false) ∧ (s.accepts src (pgSLT b + 0x404 + 32 * e.val) = true)) ∧
  (let s : State := run0;
    let b : Fin 64 := 63;
    let src := Src.gable 1;
    let e : Fin 96 := 95;
    (s.planUses b = false) ∧ (s.accepts src (pgSLT b + 0x408 + 32 * e.val) = true)) ∧
  (let s : State := run0;
    let b : Fin 64 := 63;
    let src := Src.gable 1;
    let e : Fin 96 := 95;
    (s.planUses b = false) ∧ (s.accepts src (pgSLT b + 0x40C + 32 * e.val) = true)) ∧
  (let s : State := w216;
    let b : Fin 64 := 63;
    let e : Fin 96 := 95;
    (s.rf (pgSLT b) SLT_MCTL_STATE e = 1)) ∧
  (let d : BitVec 96 := op 0x10 [(84, 8)];
    let s : State := onOp w217 63 d;
    let b : Fin 64 := 63;
    (s.issues b d 0x10 (arraysOf (dpAM d)) { modes := .all } = true)) ∧
  (let d : BitVec 96 := lloadD;
    let s : State := onOp w218 63 d;
    let b : Fin 64 := 63;
    let ups : List StErr := [];
    let ws : List (BitVec 72) := (List.range 32).map fun k => if k = 31 then 77 else 0;
    (s.issues b d 0x11 (arraysOf (dpAM d)) { modes := .all } = true) ∧ (((s.arrQueue b (arraysOf (dpAM d)) []).operandWords b (dpWA d) (dpAA d)
      (s.dpOffset b d) ((dpP16 d + 1) * (arraysOf (dpAM d)).foldl (fun m a => max m (vecWords (s.arrMode (arrNo b a)))) 0) ups).2 = some ws)) ∧
  (let d : BitVec 96 := op 0x20 [(84, 8), (0, 255)];
    let s : State := onOp w222 63 d;
    let b : Fin 64 := 63;
    let ups : List StErr := [];
    let ws : List (BitVec 72) := [77];
    ((s.operandWords b (dpWA d) (dpAA d) (s.dpOffset b d) 1 ups).2 = some ws) ∧ (s.opGoes b d 0x20 = true)) := by
  and_intros <;> decide +kernel

theorem wit_SlateTablesAndLoads_2 :
  (let d : BitVec 96 := op 0x21 [(84, 8), (0, 95 + 17 * 256)];
    let s : State := onOp w223 63 d;
    let b : Fin 64 := 63;
    let ups : List StErr := [];
    let ws : List (BitVec 72) := [0x500000004D];
    ((s.operandWords b (dpWA d) (dpAA d) (s.dpOffset b d) 1 ups).2 = some ws) ∧ (s.opGoes b d 0x21 = true) ∧ (immEntry d < 96)) ∧
  (let d : BitVec 96 := op 0x22 [];
    let s : State := onOp w224 63 d;
    let b : Fin 64 := 63;
    let ups : List StErr := [];
    let ws : List (BitVec 72) := [77, 0, 0, 0];
    (s.opGoes b d 0x22 = true) ∧ ((s.operandWords b (dpWA d) (dpAA d) (s.dpOffset b d) 4 ups).2 = some ws)) := by
  and_intros <;> decide +kernel

theorem wit_MultiplyAccumulate :
  (let s : State := w226o;
    let b : Fin 64 := 63;
    let d : BitVec 96 := macD1;
    let upsA : List StErr := [];
    let upsB : List StErr := [];
    let par : ArrPar := none;
    let k := dpP16 d + 1;
    let wa : List (BitVec 72) := (List.range 30).map fun k => if k = 0 then 128 else 0;
    let wb : List (BitVec 72) := [];
    let as := arraysOf (dpAM d);
    let o := dpOPT d;
    let mode := s.arrMode (arrNo b (as.headD 0));
    let n := vecWords mode;
    let u := s.arrQueue b (arraysOf (dpAM d)) [];
    (mode ≠ 0) ∧ (s.issues b d 0x12 as { modes := .gang, par := par } = true) ∧ (u = s.arrQueue b as []) ∧ ((o.testBit 2 = false → (u.operandWords b
      (dpWA d) (dpAA d) (s.dpOffset b d) (k * n) upsA).2 = some wa)) ∧ ((o.testBit 3 = false → ((if o.testBit 2 = true then u else (u.operandWords
      b (dpWA d) (dpAA d) (s.dpOffset b d) (k * n) upsA).1).operandWords b (dpWB d) (dpAB d) (s.dpOffset b d) (k * n) upsB).2 = some wb))) ∧
  (let s : State := w227o;
    let b : Fin 64 := 63;
    let d : BitVec 96 := macD2;
    let upsA : List StErr := [];
    let upsB : List StErr := [];
    let par : ArrPar := none;
    let wa : List (BitVec 72) := [];
    let k := dpP16 d + 1;
    let wb : List (BitVec 72) := (List.range 15).map fun k => if k = 0 then 128 else 0;
    let as := arraysOf (dpAM d);
    let o := dpOPT d;
    let mode := s.arrMode (arrNo b (as.headD 0));
    let n := vecWords mode;
    let u := s.arrQueue b (arraysOf (dpAM d)) [];
    (mode ≠ 0) ∧ (s.issues b d 0x12 as { modes := .gang, par := par } = true) ∧ (u = s.arrQueue b as []) ∧ ((o.testBit 2 = false → (u.operandWords b
      (dpWA d) (dpAA d) (s.dpOffset b d) (k * n) upsA).2 = some wa)) ∧ ((o.testBit 3 = false → ((if o.testBit 2 = true then u else (u.operandWords
      b (dpWA d) (dpAA d) (s.dpOffset b d) (k * n) upsA).1).operandWords b (dpWB d) (dpAB d) (s.dpOffset b d) (k * n) upsB).2 = some wb))) := by
  and_intros <;> decide +kernel

theorem wit_Spars :
  (let s : State := sparS 71;
    let i : Fin 72 := 71;
    (s.sparFree i = true) ∧ ((s.sp i).hold = .none) ∧ ((s.sp i).attn = none)) ∧
  (let d : BitVec 96 := op 0x28 [(68, 1), (64, 2), (53, 7), (0, 262143)];
    let s : State := onOp (regS 63) 63 d;
    let b : Fin 64 := 63;
    (s.opGoes b d 0x28 = true) ∧ (1 ≤ ((s.sp b).rdPre (dpRB d)).toNat) ∧ (((s.sp b).rdPre (dpRB d)).toNat ≤ 262144) ∧ (bits (dpIMM d) 17 0 < ((s.sp
      b).rdPre (dpRB d)).toNat)) ∧
  (let d : BitVec 96 := op 0x29 [(53, 7), (0, 644)];
    let s : State := onOp (winS 63) 63 d;
    let b : Fin 64 := 63;
    (s.opGoes b d 0x29 = true) ∧ (groupOk (bits (dpIMM d) 15 0) = true)) ∧
  (let d : BitVec 96 := op 0x29 [(53, 7), (0, 517)];
    let s : State := onOp (winS 63) 63 d;
    let b : Fin 64 := 63;
    (s.opGoes b d 0x29 = true) ∧ (groupOk (bits (dpIMM d) 15 0) = true)) ∧
  (let s : State := w232o;
    let b : Fin 64 := 63;
    let d : BitVec 96 := op 0x40 [(72, 4), (80, 1), (60, 1)];
    let w := 0x800000000000000005;
    let up := StErr.single;
    (s.opGoes b d 0x40 = true) ∧ (s.staysOn b = true) ∧ (s.bit (pgSPR b) SPR_STAT_SEALED = false) ∧ ((s.operandWords b (dpWA d) (dpAA d) (s.dpOffset b
      d) 1 [up]).2 = some [w])) ∧
  (let d : BitVec 96 := op 0x41 [(68, 3), (64, 4), (52, 1)];
    let s : State := onOp (regS 63) 63 d;
    let b : Fin 64 := 63;
    (s.opGoes b d 0x41 = true) ∧ (s.winUser b (dpWD d) ownSpar = true) ∧ (s.stDenied b (s.winAddr b (dpWD d) (s.dpOffset b d)) ownSpar true (s.drives
      b) = none)) ∧
  (let d : BitVec 96 := op 0x48 [(80, 1), (0, 2147483649)];
    let s : State := onOp (regS 63) 63 d;
    let b : Fin 64 := 63;
    (s.opGoes b d 0x48 = true) ∧ (s.marchStatus b (dpOPT d % 2) (dpIMM d) true = 0)) ∧
  (let d : BitVec 96 := op 0x49 [(80, 2), (0, 32543)];
    let s : State := onOp (regS 63) 63 d;
    let b : Fin 64 := 63;
    (s.opGoes b d 0x49 = true) ∧ (s.listInBanks b (2 ^ bits (dpIMM d) 4 0) = false) ∧ (s.planUses b = false) ∧ (dpOPT d % 4 = 2) ∧ (s.bit (pgBST b)
      BST_REPAIR_VALID0 (bits (dpIMM d) 4 0) = false) ∧ (s.bit (pgBST b) BST_REPAIR_VALID1 (bits (dpIMM d) 4 0) = false)) ∧
  (let d : BitVec 96 := op 0x4A [(80, 1)];
    let s : State := onOp (sparS 71) 71 d;
    let i : Fin 72 := 71;
    (s.opGoes i d 0x4A = true) ∧ (s.csStatus i (dpOPT d % 4) true = 0)) ∧
  (let d : BitVec 96 := op 127 [];
    let s : State := onOp (sparS 71) 71 d;
    let i : Fin 72 := 71;
    (s.opGoes i d (dpOP d) = true) ∧ (opEngine (dpOP d) = true) ∧ (64 ≤ i.val)) ∧
  (let d : BitVec 96 := op 96 [];
    let s : State := onOp (sparS 63) 63 d;
    let i : Fin 72 := 63;
    (s.opGoes i d (dpOP d) = true) ∧ (opEngine (dpOP d) = true) ∧ (i.val < 64) ∧ ((s.sp i).attn = none) ∧ ((s.sp i).frame.length < 4)) ∧
  (let s : State := run0;
    let i : Fin 72 := 71;
    let src : Src := Src.debug;
    (s.accepts src (pgSPR i + 0x50) = true) ∧ (isMaster0 src = true)) := by
  and_intros <;> decide +kernel

theorem wit_Spars_2 :
  (let s : State := w240;
    let i : Fin 72 := 71;
    let src : Src := Src.gable 0;
    (s.accepts src (pgSPR i + 0x50) = true) ∧ (isMaster0 src = true)) ∧
  (let s : State := w241;
    let i : Fin 72 := 71;
    (s.bit (pgSPR i) SPR_PARK_PARK = true) ∧ (s.bit (pgSPR i) SPR_STAT_PARKED = false) ∧ (s.drives i = false)) ∧
  (let s : State := run0;
    let i : Fin 72 := 71;
    let src : Src := Src.gable 1;
    let v : Word32 := 2147491839;
    (s.accepts src (pgSPR i + 0x54) = true) ∧ (v.getLsbD 31 = true) ∧ (s.sparIdle i = true)) ∧
  (let s : State := drvS;
    let i : Fin 72 := 0;
    let src : Src := Src.gable 1;
    let v : Word32 := 1;
    (s.accepts src (pgSPR i + 0x58) = true) ∧ (v.getLsbD 0 = true) ∧ (s.drives i = true)) ∧
  (let s : State := regS 71;
    let i : Fin 72 := 71;
    let src : Src := Src.gable 1;
    let v : Word32 := 1;
    (s.accepts src (pgSPR i + 0x58) = true) ∧ (v.getLsbD 0 = true) ∧ (s.drives i = false) ∧ (s.bit (pgSPR i) SPR_STAT_RUNNING = true) ∧ ((s.sp i).hold
      = .none) ∧ ((s.sp i).busy = false) ∧ ((s.sp i).frame.length < 4)) ∧
  (let s : State := w245;
    let i : Fin 72 := 71;
    let src : Src := Src.gable 1;
    let v : Word32 := 1;
    let lim := 9;
    (s.accepts src (pgSPR i + 0x58) = true) ∧ (v.getLsbD 0 = true) ∧ (s.drives i = false) ∧ (s.bit (pgSPR i) SPR_STAT_RUNNING = true) ∧ ((s.sp i).hold
      = .wait lim) ∧ ((s.sp i).frame.length < 4)) ∧
  (let s : State := w246;
    let i : Fin 72 := 71;
    let src : Src := Src.gable 0;
    (s.accepts src (pgSPR i + 0x70) = true) ∧ (s.csRefusal src i = 0)) ∧
  (let s : State := w247;
    let i : Fin 72 := 71;
    let src : Src := Src.gable 0;
    let v : Word32 := 2650742783;
    let m : Fin 16 := 15;
    (s.accepts src (pgSPR i + 0x80 + 4 * m.val) = true) ∧ (6144 ≤ bits v.toNat 28 16) ∧ (bits v.toNat 28 16 < 7680) ∧ ((bits v.toNat 12 0 < 16 ∨ 24 ≤
      bits v.toNat 12 0)) ∧ (s.lockBad (pgSPR i) .spr i (0x80 + 4 * m.val) v = false) ∧ (s.bit (pgSPR i) SPR_STAT_PARKED = true)) ∧
  (let s : State := w248;
    let i : Fin 72 := 71;
    let src : Src := Src.gable 0;
    let v : Word32 := 2147483649;
    (s.accepts src (pgSPR i + 0x74) = true) ∧ (v.getLsbD 31 = true) ∧ (s.csStatus i (bits v.toNat 1 0) false = 0)) ∧
  (let s : State := w249;
    let i : Fin 72 := 71;
    ((s.sp i).march ≠ 0) ∧ (s.gated = false)) := by
  and_intros <;> decide +kernel

theorem wit_MicroSequencing :
  (let i : Fin 74 := 71;
    let w : BitVec 128 := mw [(110, 1)];
    let s : State := sqW i {} w;
    (s.sqWord i false = some w) ∧ (wSEQ w = 1)) ∧
  (let i : Fin 74 := 73;
    let w : BitVec 128 := mw [(110, 1)];
    let s : State := sqW i {} w;
    (s.sqWord i false = some w) ∧ (wSEQ w = 1)) ∧
  (let i : Fin 74 := 71;
    let w : BitVec 128 := mw [(110, 2), (114, 8191)];
    let s : State := sqW i {} w;
    (s.sqWord i false = some w) ∧ (wSEQ w = 2)) ∧
  (let i : Fin 74 := 73;
    let w : BitVec 128 := mw [(110, 2), (114, 16383)];
    let s : State := sqW i {} w;
    (s.sqWord i false = some w) ∧ (wSEQ w = 2)) ∧
  (let i : Fin 74 := 71;
    let w : BitVec 128 := mw [(110, 3), (104, 15), (114, 8191)];
    let s : State := sqW i {} w;
    (s.sqWord i false = some w) ∧ (wSEQ w = 3)) ∧
  (let i : Fin 74 := 73;
    let w : BitVec 128 := mw [(110, 3), (104, 15), (114, 16383)];
    let s : State := sqW i {} w;
    (s.sqWord i false = some w) ∧ (wSEQ w = 3)) ∧
  (let i : Fin 74 := 71;
    let w : BitVec 128 := mw [(110, 4), (104, 15), (114, 8191)];
    let s : State := sqW i {} w;
    (s.sqWord i false = some w) ∧ (wSEQ w = 4)) ∧
  (let i : Fin 74 := 73;
    let w : BitVec 128 := mw [(110, 4), (104, 15), (114, 16383)];
    let s : State := sqW i {} w;
    (s.sqWord i false = some w) ∧ (wSEQ w = 4)) ∧
  (let i : Fin 74 := 71;
    let w : BitVec 128 := mw [(110, 5), (114, 8191)];
    let s : State := sqW i { stack := [1,2,3,4,5,6,7] } w;
    (s.sqWord i false = some w) ∧ (wSEQ w = 5) ∧ ((s.sq i).stack.length < 8)) ∧
  (let i : Fin 74 := 73;
    let w : BitVec 128 := mw [(110, 5), (114, 16383)];
    let s : State := sqW i { stack := [1,2,3,4,5,6,7] } w;
    (s.sqWord i false = some w) ∧ (wSEQ w = 5) ∧ ((s.sq i).stack.length < 8)) ∧
  (let i : Fin 74 := 71;
    let w : BitVec 128 := mw [(110, 6), (104, 8), (114, 8191)];
    let s : State := sqW i { stack := [1,2,3,4,5,6,7] } w;
    (s.sqWord i false = some w) ∧ (wSEQ w = 6) ∧ ((s.sq i).stack.length < 8)) ∧
  (let i : Fin 74 := 73;
    let w : BitVec 128 := mw [(110, 6), (104, 8), (114, 16383)];
    let s : State := sqW i { stack := [1,2,3,4,5,6,7] } w;
    (s.sqWord i false = some w) ∧ (wSEQ w = 6) ∧ ((s.sq i).stack.length < 8)) := by
  and_intros <;> decide +kernel

theorem wit_MicroSequencing_2 :
  (let i : Fin 74 := 71;
    let w : BitVec 128 := mw [(110, 7)];
    let s : State := sqW i { stack := [1,2] } w;
    let a := 1;
    let r := [2];
    (s.sqWord i false = some w) ∧ (wSEQ w = 7) ∧ ((s.sq i).stack = a :: r)) ∧
  (let i : Fin 74 := 73;
    let w : BitVec 128 := mw [(110, 7)];
    let s : State := sqW i { stack := [1,2] } w;
    let a := 1;
    let r := [2];
    (s.sqWord i false = some w) ∧ (wSEQ w = 7) ∧ ((s.sq i).stack = a :: r)) ∧
  (let i : Fin 74 := 71;
    let w : BitVec 128 := mw [(110, 8), (104, 8)];
    let s : State := sqW i { stack := [1,2] } w;
    let a := 1;
    let r := [2];
    (s.sqWord i false = some w) ∧ (wSEQ w = 8) ∧ ((s.sq i).stack = a :: r)) ∧
  (let i : Fin 74 := 73;
    let w : BitVec 128 := mw [(110, 8), (104, 8)];
    let s : State := sqW i { stack := [1,2] } w;
    let a := 1;
    let r := [2];
    (s.sqWord i false = some w) ∧ (wSEQ w = 8) ∧ ((s.sq i).stack = a :: r)) ∧
  (let i : Fin 74 := 71;
    let w : BitVec 128 := mw [(110, 9), (114, 7)];
    let s : State := sqW i { lc0 := 1 } w;
    (s.sqWord i false = some w) ∧ (wSEQ w = 9)) ∧
  (let i : Fin 74 := 73;
    let w : BitVec 128 := mw [(110, 9), (114, 7)];
    let s : State := sqW i { lc0 := 1 } w;
    (s.sqWord i false = some w) ∧ (wSEQ w = 9)) ∧
  (let i : Fin 74 := 71;
    let w : BitVec 128 := mw [(110, 10), (114, 7)];
    let s : State := sqW i { lc1 := 0 } w;
    (s.sqWord i false = some w) ∧ (wSEQ w = 10)) ∧
  (let i : Fin 74 := 73;
    let w : BitVec 128 := mw [(110, 10), (114, 7)];
    let s : State := sqW i { lc1 := 0 } w;
    (s.sqWord i false = some w) ∧ (wSEQ w = 10)) ∧
  (let i : Fin 74 := 71;
    let w : BitVec 128 := mw [(110, 11), (114, 8191), (80, 8), (68, 3), (0, 8)];
    let s : State := sqW i { v := [(3, 0x1FF)] } w;
    (s.sqWord i false = some w) ∧ (wSEQ w = 11)) ∧
  (let i : Fin 74 := 73;
    let w : BitVec 128 := mw [(110, 11), (114, 8191), (80, 8), (68, 3), (0, 8)];
    let s : State := sqW i { v := [(3, 0x1FF)] } w;
    (s.sqWord i false = some w) ∧ (wSEQ w = 11)) ∧
  (let i : Fin 74 := 71;
    let w : BitVec 128 := mw [(110, 12), (96, 195)];
    let s : State := sqW i { residue := 5 } w;
    (s.sqWord i false = some w) ∧ (wSEQ w = 12)) ∧
  (let i : Fin 74 := 73;
    let w : BitVec 128 := mw [(110, 12), (96, 195)];
    let s : State := sqW i { residue := 5 } w;
    (s.sqWord i false = some w) ∧ (wSEQ w = 12)) := by
  and_intros <;> decide +kernel

theorem wit_MicroSequencing_3 :
  (let i : Fin 74 := 71;
    let w : BitVec 128 := mw [(110, 13), (114, 99)];
    let s : State := sqW i { cl := true, frame := [{}, {}, {}] } w;
    (s.sqWord i false = some w) ∧ (wSEQ w = 13) ∧ ((s.sq i).frame.length < 4)) ∧
  (let i : Fin 74 := 73;
    let w : BitVec 128 := mw [(110, 13), (114, 99)];
    let s : State := sqW i { cl := true, frame := [{}, {}, {}] } w;
    (s.sqWord i false = some w) ∧ (wSEQ w = 13) ∧ ((s.sq i).frame.length < 4)) ∧
  (let i : Fin 74 := 71;
    let w : BitVec 128 := mw [(110, 14), (114, 99)];
    let s : State := sqW i { cl := true, frame := [{ saved := 3 }, {}, {}] } w;
    let f := { saved := 3 };
    let r := [{}, {}];
    (s.sqWord i false = some w) ∧ (wSEQ w = 14) ∧ ((s.sq i).frame = f :: r)) ∧
  (let i : Fin 74 := 73;
    let w : BitVec 128 := mw [(110, 14), (114, 99)];
    let s : State := sqW i { cl := true, frame := [{ saved := 3 }, {}, {}] } w;
    let f := { saved := 3 };
    let r := [{}, {}];
    (s.sqWord i false = some w) ∧ (wSEQ w = 14) ∧ ((s.sq i).frame = f :: r)) ∧
  (let i : Fin 74 := 71;
    let w : BitVec 128 := 0;
    let s : State := sqW i {} w;
    (s.sqWord i false = some w) ∧ (wSEQ w = 0)) ∧
  (let i : Fin 74 := 73;
    let w : BitVec 128 := 0;
    let s : State := sqW i {} w;
    (s.sqWord i false = some w) ∧ (wSEQ w = 0)) ∧
  (let i : Fin 74 := 73;
    let w : BitVec 128 := endW;
    let s : State := sqW i {} w;
    (s.sqWord i false = some w) ∧ (wSEQ w = 15) ∧ (72 ≤ i.val)) ∧
  (let i : Fin 74 := 71;
    let w : BitVec 128 := mw [(110, 15), (76, 1)];
    let s : State := sqW i {} w;
    (s.sqWord i false = some w) ∧ (wSEQ w = 15) ∧ (i.val < 72) ∧ (¬(dpALU (wDP w) = 0 ∧ dpOP (wDP w) = 0))) ∧
  (let i : Fin 74 := 71;
    let w : BitVec 128 := endW;
    let s : State := sqW i {} w;
    (s.sqWord i false = some w) ∧ (wSEQ w = 15) ∧ (i.val < 72) ∧ (dpALU (wDP w) = 0) ∧ (dpOP (wDP w) = 0) ∧ (s.drives i = false) ∧ ((s.sq i).attn =
      none)) ∧
  (let i : Fin 74 := 0;
    let w : BitVec 128 := endW;
    let s : State := atWord drvS i w;
    (s.sqWord i false = some w) ∧ (wSEQ w = 15) ∧ (i.val < 64) ∧ (dpALU (wDP w) = 0) ∧ (dpOP (wDP w) = 0) ∧ (s.drives i = true) ∧ ((s.sq i).attn =
      none) ∧ (s.rf (pgSPR i) SPR_STINT_NST ≤ s.rf (pgSPR i) SPR_STINT_INDEX + 1)) ∧
  (let i : Fin 74 := 0;
    let w : BitVec 128 := endW;
    let s : State := atWord drvA i w;
    let ws := List.replicate 8 5;
    let r := [];
    (s.sqWord i false = some w) ∧ (wSEQ w = 15) ∧ (i.val < 64) ∧ (dpALU (wDP w) = 0) ∧ (dpOP (wDP w) = 0) ∧ (s.drives i = true) ∧ (s.rf (pgSPR i)
      SPR_STINT_INDEX + 1 < s.rf (pgSPR i) SPR_STINT_NST) ∧ ((s.sp i).ahead = (ws, false) :: r) ∧ ((ws.getD 0 0).testBit 16 = false)) ∧
  (let i : Fin 74 := 0;
    let w : BitVec 128 := endW;
    let s : State := atWord { w285 with bst := [(0, { stWords := 16 })] } i w;
    (s.sqWord i false = some w) ∧ (wSEQ w = 15) ∧ (i.val < 64) ∧ (dpALU (wDP w) = 0) ∧ (dpOP (wDP w) = 0) ∧ (s.drives i = true) ∧ (s.rf (pgSPR i)
      SPR_STINT_INDEX + 1 < s.rf (pgSPR i) SPR_STINT_NST) ∧ ((s.sp i).ahead = []) ∧ (8 * (s.rf (pgSPR i) SPR_STINT_INDEX + 1) < (s.batten
      i).stWords) ∧ ((∀ j, j < 8 → (s.stWord i ((s.batten i).stFirst + 8 * (s.rf (pgSPR i) SPR_STINT_INDEX + 1) + j)).err = .clean)) ∧ ((s.stWord
      i ((s.batten i).stFirst + 8 * (s.rf (pgSPR i) SPR_STINT_INDEX + 1))).data.toNat.testBit 16 = false)) := by
  and_intros <;> decide +kernel

theorem wit_MicroSequencing_4 :
  (let s : State := w286;
    let i : Fin 74 := 71;
    let lim : Nat := 0;
    ((s.sq i).hold = .wait lim) ∧ (s.sqGoes i = true) ∧ (s.sqCond i (s.sq i).word = true)) ∧
  (let s : State := w287;
    let i : Fin 74 := 73;
    let lim : Nat := 1;
    ((s.sq i).hold = .wait lim) ∧ (s.sqGoes i = true) ∧ (s.sqCond i (s.sq i).word = true)) ∧
  (let s : State := w288;
    let i : Fin 74 := 71;
    let lim : Nat := 1;
    ((s.sq i).hold = .wait lim) ∧ (s.sqGoes i = true) ∧ (lim ≠ 0) ∧ (s.sqCond i (s.sq i).word = false) ∧ ((s.sq i).frame.length < 4)) ∧
  (let s : State := w289;
    let i : Fin 74 := 73;
    let lim : Nat := 1;
    ((s.sq i).hold = .wait lim) ∧ (s.sqGoes i = true) ∧ (lim ≠ 0) ∧ (s.sqCond i (s.sq i).word = false) ∧ ((s.sq i).frame.length < 4)) := by
  and_intros <;> decide +kernel

theorem wit_MicroAlu :
  (∀ c ∈ [1, 2, 9],
    let d : BitVec 96 := aluD c;
    let s : State := onAlu w290 71 d;
    let i : Fin 72 := 71;
    let k : Fin 74 := 71;
    let e := (c, ());
    (k.val = i.val) ∧ (s.sparFree i = true) ∧ (((s.sp i).opDue = true ∨ s.staysOn i = true)) ∧ ((s.sp i).aluTurn d e.1 = true)) ∧
  (∀ c ∈ [3, 4, 5, 6, 7, 8, 10, 11, 12],
    let d : BitVec 96 := aluD c;
    let s : State := onAlu (aluS 34359738367 36) 71 d;
    let i : Fin 72 := 71;
    let k : Fin 74 := 71;
    let e := (c, ());
    (k.val = i.val) ∧ (s.sparFree i = true) ∧ (((s.sp i).opDue = true ∨ s.staysOn i = true)) ∧ ((s.sp i).aluTurn d e.1 = true)) ∧
  (∀ c ∈ [13, 14, 15],
    let d : BitVec 96 := aluD c;
    let s : State := onAlu (aluS 7 32771) 71 d;
    let i : Fin 72 := 71;
    let k : Fin 74 := 71;
    let e := (c, ());
    (k.val = i.val) ∧ (s.sparFree i = true) ∧ (((s.sp i).opDue = true ∨ s.staysOn i = true)) ∧ ((s.sp i).aluTurn d e.1 = true)) ∧
  (let d : BitVec 96 := aluD 13;
    let s : State := onAlu (aluS 7 32771) 71 d;
    let i : Fin 72 := 71;
    let k : Fin 74 := 71;
    (k.val = i.val) ∧ (s.sparFree i = true) ∧ (((s.sp i).opDue = true ∨ s.staysOn i = true)) ∧ ((s.sp i).aluTurn d 13 = true)) ∧
  (let d : BitVec 96 := aluD 14;
    let s : State := onAlu (aluS 7 32771) 71 d;
    let i : Fin 72 := 71;
    let k : Fin 74 := 71;
    (k.val = i.val) ∧ (s.sparFree i = true) ∧ (((s.sp i).opDue = true ∨ s.staysOn i = true)) ∧ ((s.sp i).aluTurn d 14 = true)) ∧
  (let d : BitVec 96 := aluD 15;
    let s : State := onAlu (aluS 7 32771) 71 d;
    let i : Fin 72 := 71;
    let k : Fin 74 := 71;
    (k.val = i.val) ∧ (s.sparFree i = true) ∧ (((s.sp i).opDue = true ∨ s.staysOn i = true)) ∧ ((s.sp i).aluTurn d 15 = true)) ∧
  (let d : BitVec 96 := aluD 15;
    let s : State := onAlu w303 63 d;
    let i : Fin 72 := 63;
    let k : Fin 74 := 63;
    (k.val = i.val) ∧ (s.sparFree i = true) ∧ (((s.sp i).opDue = true ∨ s.staysOn i = true)) ∧ ((s.sp i).aluTurn d 15 = true)) ∧
  (let s : State := w290;
    let k : Fin 74 := 71;
    ((s.sq k).aluDue = false)) ∧
  (let s : State := gaS 5 6;
    let k : Fin 74 := 73;
    ((s.sq k).aluDue = false)) ∧
  (∀ c ∈ [1, 2, 9],
    let d : BitVec 96 := gluD c;
    let s : State := onAlu w304 73 d;
    let g : Fin 2 := 1;
    let k : Fin 74 := 73;
    let e := (c, ());
    (k.val = 72 + g.val) ∧ (s.gabWordFree g = true) ∧ ((s.gable g).u.attn = false) ∧ (guDSEL d = 2) ∧ ((s.gable g).u.q.gabAluTurn d e.1 = true)) ∧
  (∀ c ∈ [3, 4, 5, 6, 7, 8, 10, 11, 12],
    let d : BitVec 96 := gluD c;
    let s : State := onAlu w307 73 d;
    let g : Fin 2 := 1;
    let k : Fin 74 := 73;
    let e := (c, ());
    (k.val = 72 + g.val) ∧ (s.gabWordFree g = true) ∧ ((s.gable g).u.attn = false) ∧ (guDSEL d = 2) ∧ ((s.gable g).u.q.gabAluTurn d e.1 = true)) ∧
  (let d : BitVec 96 := gluD 13;
    let s : State := onAlu (gaS 5 9223372036854775808) 73 d;
    let g : Fin 2 := 1;
    let k : Fin 74 := 73;
    (k.val = 72 + g.val) ∧ (s.gabWordFree g = true) ∧ ((s.gable g).u.attn = false) ∧ (guDSEL d = 2) ∧ ((s.gable g).u.q.gabAluTurn d 13 = true)) := by
  and_intros <;> decide +kernel

theorem wit_MicroAlu_2 :
  (let d : BitVec 96 := gluD 14;
    let s : State := onAlu (gaS 5 9223372036854775808) 73 d;
    let g : Fin 2 := 1;
    let k : Fin 74 := 73;
    (k.val = 72 + g.val) ∧ (s.gabWordFree g = true) ∧ ((s.gable g).u.attn = false) ∧ (guDSEL d = 2) ∧ ((s.gable g).u.q.gabAluTurn d 14 = true)) ∧
  (let d : BitVec 96 := gluD 15;
    let s : State := onAlu (gaS 5 9223372036854775808) 73 d;
    let g : Fin 2 := 1;
    let k : Fin 74 := 73;
    (k.val = 72 + g.val) ∧ (s.gabWordFree g = true) ∧ ((s.gable g).u.attn = false) ∧ (guDSEL d = 2) ∧ ((s.gable g).u.q.gabAluTurn d 15 = true)) := by
  and_intros <;> decide +kernel

theorem wit_LiggerPairs :
  (let s : State := onOp (ligS 71 1023 8 0 0x87) 71 (op 0x30 [(80, 7)]);
    let m : Mover := Mover.spar 71 7;
    let e : Nat := 0x87;
    let p : Fin 1024 := 1023;
    ((∀ i slot, m = .spar i slot → s.staysOn i = true)) ∧ (s.ligCheck e p true = none) ∧ (s.moves m 0x30 e p = true) ∧ (s.ligFree p ≠ 0)) ∧
  (let s : State := ligE 1023 8 0 0x88;
    let m : Mover := Mover.engine 0x88 1023;
    let e : Nat := 0x88;
    let p : Fin 1024 := 1023;
    ((∀ i slot, m = .spar i slot → s.staysOn i = true)) ∧ (s.ligCheck e p true = none) ∧ (s.moves m 0x30 e p = true) ∧ (s.ligFree p ≠ 0)) ∧
  (let s : State := onOp (ligS 71 1023 0 0 0x87) 71 (op 0x30 [(80, 7)]);
    let m : Mover := Mover.spar 71 7;
    let e : Nat := 0x87;
    let p : Fin 1024 := 1023;
    let i := 71;
    let slot := 7;
    ((∀ i slot, m = .spar i slot → s.staysOn i = true)) ∧ (s.ligCheck e p true = none) ∧ (m = .spar i slot) ∧ (s.moves m 0x30 e p = true) ∧ (s.ligFree
      p = 0)) ∧
  (let s : State := onOp (ligS 71 1023 8 0 0x87) 71 (op 0x31 [(80, 7)]);
    let m : Mover := Mover.spar 71 7;
    let e : Nat := 0x87;
    let p : Fin 1024 := 1023;
    ((∀ i slot, m = .spar i slot → s.staysOn i = true)) ∧ (s.ligCheck e p true = none) ∧ (s.moves m 0x31 e p = true)) ∧
  (let s : State := onOp (ligS 71 1023 7 1 0x87) 71 (op 0x32 [(80, 7)]);
    let m : Mover := Mover.spar 71 7;
    let e : Nat := 0x87;
    let p : Fin 1024 := 1023;
    ((∀ i slot, m = .spar i slot → s.staysOn i = true)) ∧ (s.ligCheck e p false = none) ∧ (s.moves m 0x32 e p = true) ∧ (s.ligFull p ≠ 0)) ∧
  (let s : State := ligE 1023 7 0 0x88;
    let m : Mover := Mover.engine 0x88 1023;
    let e : Nat := 0x88;
    let p : Fin 1024 := 1023;
    ((∀ i slot, m = .spar i slot → s.staysOn i = true)) ∧ (s.ligCheck e p false = none) ∧ (s.moves m 0x32 e p = true) ∧ (s.ligFull p = 0) ∧ (s.bit
      (ligPg p) LIG_STAT_SW (ligIx p) = false)) ∧
  (let s : State := sets (ligE 1023 7 0 0x88) [(ligPg 1023, LIG_STAT_SW, 1, ligIx 1023)];
    let m : Mover := Mover.engine 0x88 1023;
    let e : Nat := 0x88;
    let p : Fin 1024 := 1023;
    ((∀ i slot, m = .spar i slot → s.staysOn i = true)) ∧ (s.ligCheck e p false = none) ∧ (s.moves m 0x32 e p = true) ∧ (s.ligFull p = 0) ∧ (s.bit
      (ligPg p) LIG_STAT_SW (ligIx p) = true)) ∧
  (let s : State := ligE 1023 7 0 0x88;
    let m : Mover := Mover.engine 0x88 1023;
    let e : Nat := 0x88;
    let p : Fin 1024 := 1023;
    ((∀ i slot, m = .spar i slot → s.staysOn i = true)) ∧ (s.ligCheck e p false = none) ∧ (s.moves m 0x33 e p = true) ∧ (s.ligFree p < s.rf (ligPg p)
      LIG_STAT_NB (ligIx p))) ∧
  (let s : State := ligE 1023 8 0 0x88;
    let m : Mover := Mover.engine 0x88 1023;
    let e : Nat := 0x88;
    let p : Fin 1024 := 1023;
    ((∀ i slot, m = .spar i slot → s.staysOn i = true)) ∧ (s.ligCheck e p false = none) ∧ (s.moves m 0x33 e p = true) ∧ (s.rf (ligPg p) LIG_STAT_NB
      (ligIx p) ≤ s.ligFree p) ∧ (s.bit pgRDG RDG_PROTO_VALID = false)) ∧
  (let s : State := w320;
    let m : Mover := Mover.spar 71 7;
    let p : Fin 1024 := 1023;
    let i : Fin 72 := 71;
    let slot := 7;
    let last := false;
    ((∀ i slot, m = .spar i slot → s.staysOn i = true)) ∧ ((s.sp i).hold = .acquire p last) ∧ (s.sparGoes i = true) ∧ (s.ligCheck (engOfSpar i) p true
      = none) ∧ (s.ligFree p ≠ 0)) ∧
  (let s : State := ligE 1023 8 0 0x88;
    let m : Mover := Mover.engine 0x88 1023;
    let p : Fin 1024 := 1023;
    let k : Fin 256 := 0x88;
    ((∀ i slot, m = .spar i slot → s.staysOn i = true)) ∧ (s.engMoves k = true) ∧ (s.ligCheck k p true = none) ∧ (s.ligFree p ≠ 0)) ∧
  (let s : State := w322;
    let m : Mover := Mover.engine 0x88 1023;
    let p : Fin 1024 := 1023;
    ((∀ i slot, m = .spar i slot → s.staysOn i = true)) ∧ (smGet (fun _ => 0) s.lig.posts p ≠ 0) ∧ (s.ligActive p = true) ∧ ((∀ x ∈ s.lig.ports, ∀ b ∈
      x.2, b.pair ≠ some p.val))) := by
  and_intros <;> decide +kernel

theorem wit_LiggerPairs_2 :
  (let s : State := porQ 3 [];
    let recv : Fin 256 := 255;
    let issuer : Fin 256 := 255;
    let cls : Fin 8 := 7;
    let q : Fin 4 := 3;
    let rivals : List (Fin 256 × Fin 8) := [(254, 7)];
    let k := portKey recv issuer cls;
    let rs := rivals.map fun r => (r.1.val, r.2.val);
    (s.mayIssue k q = true) ∧ (s.valleyTakes recv issuer cls rs = true) ∧ (s.port k = [])) ∧
  (let b := { seq := 2, lo := true };
    let s : State := porQ 3 [b];
    let recv : Fin 256 := 255;
    let issuer : Fin 256 := 255;
    let cls : Fin 8 := 7;
    let q : Fin 4 := 3;
    let n : Fin 4 := 3;
    let rivals : List (Fin 256 × Fin 8) := [(254, 7)];
    let k := portKey recv issuer cls;
    let rs := rivals.map fun r => (r.1.val, r.2.val);
    (s.mayIssue k q = true) ∧ (s.valleyTakes recv issuer cls rs = true) ∧ (s.port k = [b]) ∧ (b.lone = true) ∧ (b.seq ≠ q.val) ∧ (s.chargee n = none)) ∧
  (let s : State := porQ 3 [];
    let recv : Fin 256 := 255;
    let issuer : Fin 256 := 255;
    let cls : Fin 8 := 7;
    let q : Fin 4 := 3;
    let h : Fin 2 := 0;
    let rivals : List (Fin 256 × Fin 8) := [(254, 7)];
    let k := portKey recv issuer cls;
    let rs := rivals.map fun r => (r.1.val, r.2.val);
    (s.mayIssue k q = true) ∧ (s.valleyTakes recv issuer cls rs = true) ∧ (h = 0)) ∧
  (let b := { seq := 3, lo := true };
    let r := [{ seq := 2, hi := true }];
    let s : State := porQ 0 (b :: r);
    let recv : Fin 256 := 255;
    let issuer : Fin 256 := 255;
    let cls : Fin 8 := 7;
    let q : Fin 4 := 3;
    let h : Fin 2 := 1;
    let k := portKey recv issuer cls;
    (s.port k = b :: r) ∧ (b.seq = q.val) ∧ ((∀ x ∈ r, x.seq ≠ q.val)) ∧ (r.takeWhile BeatPair.whole = []) ∧ (b.lone = true) ∧ (b.take h.val ≠ b)) ∧
  (let b := { seq := 3, replay := true };
    let r := [{ seq := 2, hi := true }];
    let s : State := porQ 0 (b :: r);
    let recv : Fin 256 := 255;
    let issuer : Fin 256 := 255;
    let cls : Fin 8 := 7;
    let q : Fin 4 := 3;
    let rivals : List (Fin 256 × Fin 8) := [(254, 7)];
    let k := portKey recv issuer cls;
    let rs := rivals.map fun r => (r.1.val, r.2.val);
    (s.port k = b :: r) ∧ (b.seq = q.val) ∧ ((∀ x ∈ r, x.seq ≠ q.val)) ∧ (r.takeWhile BeatPair.whole = []) ∧ (b.replay = true) ∧ (b.fresh = none) ∧
      (s.valleyTakes recv issuer 1 rs = true)) ∧
  (let b := { seq := 3, replay := true, fresh := some 0 };
    let r := [{ seq := 2, hi := true }];
    let s : State := porQ 0 (b :: r);
    let recv : Fin 256 := 255;
    let issuer : Fin 256 := 255;
    let cls : Fin 8 := 7;
    let q : Fin 4 := 3;
    let h : Fin 2 := 1;
    let k := portKey recv issuer cls;
    let h0 := 0;
    (s.port k = b :: r) ∧ (b.seq = q.val) ∧ ((∀ x ∈ r, x.seq ≠ q.val)) ∧ (r.takeWhile BeatPair.whole = []) ∧ (b.replay = true) ∧ (b.fresh = some h0) ∧
      (h0 ≠ h.val)) ∧
  (let b := { seq := 3, hi := true };
    let s : State := porQ 0 [b];
    let recv : Fin 256 := 255;
    let issuer : Fin 256 := 255;
    let cls : Fin 8 := 7;
    let n : Fin 4 := 3;
    let k := portKey recv issuer cls;
    (s.port k = [b]) ∧ (b.lone = true) ∧ (s.chargee n = none)) ∧
  (let s : State := { w473 with spr := [(3, { hold := .sway 1, next := 7, ahead := [([7], false)] })] };
    let e : Fin 256 := 3;
    let idx := 1;
    let ws := [7];
    let bad := false;
    let r := ([] : List (List Nat × Bool));
    (e.val < 64) ∧ ((s.sp e).hold = .sway idx) ∧ (s.sparGoes e = true) ∧ ((s.sp e).ahead = (ws, bad) :: r) ∧ ((s.swayMet e (s.stintsAcked e)).2 =
      true)) ∧
  (let s : State := swS;
    let e : Fin 256 := 0x83;
    let y : Fin 4 := 3;
    (e.val = 0x80 + y.val) ∧ ((s.engRun y).isSome = true) ∧ ((s.yealm y).swayWait = true) ∧ ((s.swayMet e (s.yealm y).recs.isEmpty).2 = true)) ∧
  (let s : State := swS;
    let e : Fin 256 := 0x87;
    let n : Fin 4 := 3;
    (e.val = 0x84 + n.val) ∧ ((s.engRun (4 + n.val)).isSome = true) ∧ ((s.stook n).swayWait = true) ∧ ((s.swayMet e true).2 = true)) ∧
  (let s : State := swS;
    let e : Fin 256 := 0x88;
    (e.val = 0x88) ∧ (s.live.isSome = true) ∧ (s.phase = 2) ∧ (s.btx.swayWait = true) ∧ ((s.swayMet e true).2 = true)) := by
  and_intros <;> decide +kernel

theorem wit_KeySwitching :
  (let s : State := yL (yS {} 1);
    let y : Fin 4 := 3;
    let r := ysR;
    (s.engRun y = some r) ∧ ((s.yealm y).next < (r.plan.eng y).count) ∧ ((s.yealm y).slotOpen (s.yealm y).next = true) ∧ (((s.ksDesc r y (s.yealm
      y).next).sway = false ∨ (s.yealm y).swayOk = true)) ∧ ((∀ n b, s.decodeAt n b ≠ .bad)) ∧ (s.limbWaits y (r.plan.limbBattens y (s.ksDesc r y
      (s.yealm y).next).level) = false) ∧ (s.ksCheck r y (s.ksDesc r y (s.yealm y).next) = .ok) ∧ ((∀ b ∈ r.plan.limbBattens y (s.ksDesc r y
      (s.yealm y).next).level, s.limbDenied y b = none))) ∧
  (let s : State := yL (yS {} 0);
    let y : Fin 4 := 3;
    let r := ysR;
    let c := 1;
    let h := 6;
    (s.engRun y = some r) ∧ ((s.yealm y).next < (r.plan.eng y).count) ∧ ((s.yealm y).slotOpen (s.yealm y).next = true) ∧ (((s.ksDesc r y (s.yealm
      y).next).sway = false ∨ (s.yealm y).swayOk = true)) ∧ ((∀ n b, s.decodeAt n b ≠ .bad)) ∧ (s.limbWaits y (r.plan.limbBattens y (s.ksDesc r y
      (s.yealm y).next).level) = false) ∧ (s.ksCheck r y (s.ksDesc r y (s.yealm y).next) = .code c h) ∧ (c ≠ 9) ∧ (s.bit (pgYLM y)
      YLM_REFUSE_VALID = false)) ∧
  (let s : State := w330;
    let y : Fin 4 := 3;
    let r := ysR;
    let d := yRec 1;
    (s.engRun y = some r) ∧ ((s.yealm y).recs.find? (fun e => e.stage == 1) = some d) ∧ (s.ksEntryBad r.plan y d.level = none)) ∧
  (let s : State := w331;
    let y : Fin 4 := 3;
    let r := ysR;
    let d := yRec 2;
    (s.engRun y = some r) ∧ ((s.yealm y).recs.find? (fun e => decide (e.stage ≤ 2)) = some d) ∧ (d.stage = 2) ∧ ((((s.yealm y).find (d.idx +
      1)).isSome = true ∨ s.ksHeld r y (d.idx + 1) = true)) ∧ ((∀ z ∈ (s.yealm y).recs, d.idx < z.idx + 2)) ∧ ((∀ n b, s.decodeAt n b ≠ .bad)) ∧
      (s.seedEntryBad r.plan y d = none)) ∧
  (let s : State := w332;
    let y : Fin 4 := 3;
    let r := ysR;
    let d := yRec 2;
    (s.engRun y = some r) ∧ ((s.yealm y).recs.find? (fun e => decide (e.stage ≤ 2)) = some d) ∧ (d.stage = 2) ∧ ((((s.yealm y).find (d.idx +
      1)).isSome = true ∨ s.ksHeld r y (d.idx + 1) = true)) ∧ ((∀ z ∈ (s.yealm y).recs, d.idx < z.idx + 2))) ∧
  (let s : State := yL w333;
    let y : Fin 4 := 3;
    let r := ysR;
    let d := yRec 3;
    (s.engRun y = some r) ∧ ((s.yealm y).recs.find? (fun e => e.stage == 3) = some d) ∧ (s.limbWaits y (r.plan.limbBattens y d.level) = false) ∧ ((∀ b
      ∈ r.plan.limbBattens y d.level, s.limbDenied y b = none))) ∧
  (let s : State := w334;
    let y : Fin 4 := 3;
    let r := ysR;
    let d := yRec 4;
    (s.engRun y = some r) ∧ ((s.yealm y).recs.head? = some d) ∧ (d.stage = 4) ∧ (s.holdsBuffers (0x80 + y.val) = true) ∧ ((∀ e, (s.yealm y).find
      (d.idx + 1) = some e → 3 ≤ e.stage)) ∧ (((s.yealm y).find (d.idx + 1) = none → s.ksHeld r y (d.idx + 1) = true))) ∧
  (let s : State := run0;
    let y : Fin 4 := 3;
    let src := Src.gable 1;
    let v : Word32 := 1;
    (s.accepts src (pgYLM y + 0x5C) = true) ∧ (v.getLsbD 0 = true) ∧ (s.bit (pgYLM y) YLM_STAT_ACTIVE = false) ∧ (s.bit (pgYLM y) YLM_KAT_STAT_RUN =
      false)) ∧
  (let s : State := w336;
    let y : Fin 4 := 3;
    (s.bit (pgYLM y) YLM_KAT_STAT_RUN = true) ∧ (s.gated = false)) := by
  and_intros <;> first
    | decide +kernel
    | exact no_bad _ (by decide +kernel)

theorem wit_StookDescriptors :
  (let s : State := tS pilD none;
    let n : Fin 4 := 3;
    let r : Run := tR [];
    let pils := runsOf PtRec.cellKey (sortKey PtRec.cellKey ((tS pilD none).stkIntake (tR []) ((tS pilD none).stkDesc (tR []) 3 0)).1);
    let words := (List.range ((tS pilD none).stkDesc (tR []) 3 0).pmax).flatMap (fun p => let ws := pillarWords ((tS pilD none).stkDesc (tR []) 3 0) (keepRecs ((tS pilD none).stkDesc (tR []) 3 0).pcap (pils.getD p [])); ws ++ List.replicate (((tS pilD none).stkDesc (tR []) 3 0).pcap - ws.length) 0);
    let coords := packAll 2 36 ((List.range ((tS pilD none).stkDesc (tR []) 3 0).pmax).map fun p => coordEntry (keepRecs ((tS pilD none).stkDesc (tR []) 3 0).pcap (pils.getD p [])));
    (s.engRun (4 + n.val) = some r) ∧ ((s.stook n).next < (r.plan.eng (4 + n.val)).count) ∧ (((s.stkDesc r n (s.stook n).next).sway = false ∨ (s.stook
      n).swayOk = true)) ∧ (s.stkCheck r n (s.stkDesc r n (s.stook n).next) = .ok) ∧ (s.stkWaits n (s.stkDesc r n (s.stook n).next) = false) ∧
      (((s.stkDesc r n (s.stook n).next).op = 2 ∨ s.holdsBuffers (0x84 + n.val) = true)) ∧ ((∀ m b, s.decodeAt m b ≠ .bad)) ∧ ((s.stkDesc r n
      (s.stook n).next).op = 1) ∧ (pils = runsOf PtRec.cellKey (sortKey PtRec.cellKey (s.stkIntake r (s.stkDesc r n (s.stook n).next)).1)) ∧
    (words = (List.range (s.stkDesc r n (s.stook n).next).pmax).flatMap (fun p => let ws := pillarWords (s.stkDesc r n (s.stook n).next) (keepRecs (s.stkDesc r n (s.stook n).next).pcap (pils.getD p [])); ws ++ List.replicate ((s.stkDesc r n (s.stook n).next).pcap - ws.length) 0)) ∧
    (coords = packAll 2 36 ((List.range (s.stkDesc r n (s.stook n).next).pmax).map fun p => coordEntry (keepRecs (s.stkDesc r n (s.stook n).next).pcap
      (pils.getD p [])))) ∧ ((s.engPutAll (s.stkDesc r n (s.stook n).next).dbat (s.stkDesc r n (s.stook n).next).fwin (ownStook n) (68 + n.val)
      words).2 = true) ∧ (((s.engPutAll (s.stkDesc r n (s.stook n).next).dbat (s.stkDesc r n (s.stook n).next).fwin (ownStook n) (68 + n.val)
      words).1.engPutAll (s.stkDesc r n (s.stook n).next).dbat (s.stkDesc r n (s.stook n).next).cwin (ownStook n) (68 + n.val) coords).2 = true)) ∧
  (let s : State := tS (srtD 2) none;
    let n : Fin 4 := 3;
    let r : Run := tR [];
    (s.engRun (4 + n.val) = some r) ∧ ((s.stook n).next < (r.plan.eng (4 + n.val)).count) ∧ (((s.stkDesc r n (s.stook n).next).sway = false ∨ (s.stook
      n).swayOk = true)) ∧ (s.stkCheck r n (s.stkDesc r n (s.stook n).next) = .ok) ∧ (s.stkWaits n (s.stkDesc r n (s.stook n).next) = false) ∧
      (((s.stkDesc r n (s.stook n).next).op = 2 ∨ s.holdsBuffers (0x84 + n.val) = true)) ∧ ((∀ m b, s.decodeAt m b ≠ .bad)) ∧ ((s.stkDesc r n
      (s.stook n).next).op = 2)) ∧
  (let s : State := tS (nbD 4) (some so1);
    let n : Fin 4 := 3;
    let r : Run := tR [];
    let c := (Instr.knn 3 0 none, 4);
    let words := List.flatMap (queryWords ((tS (nbD 4) none).stkDesc (tR []) 3 0) so1.2) (List.range 2);
    (s.engRun (4 + n.val) = some r) ∧ ((s.stook n).next < (r.plan.eng (4 + n.val)).count) ∧ (((s.stkDesc r n (s.stook n).next).sway = false ∨ (s.stook
      n).swayOk = true)) ∧ (s.stkCheck r n (s.stkDesc r n (s.stook n).next) = .ok) ∧ (s.stkWaits n (s.stkDesc r n (s.stook n).next) = false) ∧
      (((s.stkDesc r n (s.stook n).next).op = 2 ∨ s.holdsBuffers (0x84 + n.val) = true)) ∧ ((∀ m b, s.decodeAt m b ≠ .bad)) ∧ ((s.stkDesc r n
      (s.stook n).next).op = c.2) ∧ (words = (List.range (s.stkDesc r n (s.stook n).next).qmax).flatMap (queryWords (s.stkDesc r n (s.stook
      n).next) (((s.stook n).sort.map (·.2)).getD []))) ∧ ((s.engPutAll (s.stkDesc r n (s.stook n).next).dbat (s.stkDesc r n (s.stook
      n).next).fwin (ownStook n) (68 + n.val) words).2 = true)) := by
  and_intros <;> first
    | decide +kernel
    | exact no_bad _ (by decide +kernel)

theorem wit_StookDescriptors_2 :
  (let s : State := tS (nbD 3) (some so1);
    let n : Fin 4 := 3;
    let r : Run := tR [];
    let c := (Instr.ball 3 0 none, 3);
    let words := List.flatMap (queryWords ((tS (nbD 3) none).stkDesc (tR []) 3 0) so1.2) (List.range 2);
    (s.engRun (4 + n.val) = some r) ∧ ((s.stook n).next < (r.plan.eng (4 + n.val)).count) ∧ (((s.stkDesc r n (s.stook n).next).sway = false ∨ (s.stook
      n).swayOk = true)) ∧ (s.stkCheck r n (s.stkDesc r n (s.stook n).next) = .ok) ∧ (s.stkWaits n (s.stkDesc r n (s.stook n).next) = false) ∧
      (((s.stkDesc r n (s.stook n).next).op = 2 ∨ s.holdsBuffers (0x84 + n.val) = true)) ∧ ((∀ m b, s.decodeAt m b ≠ .bad)) ∧ ((s.stkDesc r n
      (s.stook n).next).op = c.2) ∧ (words = (List.range (s.stkDesc r n (s.stook n).next).qmax).flatMap (queryWords (s.stkDesc r n (s.stook
      n).next) (((s.stook n).sort.map (·.2)).getD []))) ∧ ((s.engPutAll (s.stkDesc r n (s.stook n).next).dbat (s.stkDesc r n (s.stook
      n).next).fwin (ownStook n) (68 + n.val) words).2 = true)) := by
  and_intros <;> first
    | decide +kernel
    | exact no_bad _ (by decide +kernel)

theorem wit_StackedMemory :
  (let b : Nat := poolBeats;
    (poolBeats ≤ b)) ∧
  (let b : Nat := poolBeats;
    (poolBeats ≤ b)) ∧
  (let s : State := hS { bytes := [(5, 7)] };
    let n : Fin 4 := 0;
    let b : Nat := 0;
    let errs : List (Fin 68 × Byte) := [];
    (b < poolBeats) ∧ (s.stackStopped n = false) ∧ (s.pcWaits n (pcOf b) = false) ∧ ((s.strike n b (errs.map fun e => (e.1.val, e.2.toNat))).decodeAt
      n b = .clean)) ∧
  (let s : State := hS { bytes := [(5, 7)] };
    let n : Fin 4 := 0;
    let b : Nat := 0;
    let errs : List (Fin 68 × Byte) := [(5, 9)];
    let k := 1;
    (b < poolBeats) ∧ (s.stackStopped n = false) ∧ (s.pcWaits n (pcOf b) = false) ∧ ((s.strike n b (errs.map fun e => (e.1.val, e.2.toNat))).decodeAt
      n b = .fixed k)) ∧
  (let s : State := hS { bytes := [(5, 7)] };
    let n : Fin 4 := 0;
    let b : Nat := 0;
    let errs : List (Fin 68 × Byte) := [(5, 9), (6, 9), (7, 9)];
    (b < poolBeats) ∧ (s.stackStopped n = false) ∧ (s.pcWaits n (pcOf b) = false) ∧ ((s.strike n b (errs.map fun e => (e.1.val, e.2.toNat))).decodeAt
      n b = .bad) ∧ (s.pur.tab = [])) ∧
  (let s : State := hS { bytes := [(5, 7)] };
    let n : Fin 4 := 3;
    let b : Nat := 568328191;
    let first : Fin 64 := 60;
    let bs : List Byte := [1, 2, 3, 4];
    (b < poolBeats) ∧ (s.stackStopped n = false) ∧ (s.pcWaits n (pcOf b) = false) ∧ (first.val + bs.length ≤ 64) ∧ (s.decodeAt n b = .clean)) ∧
  (let s : State := hS { bytes := [(5, 7)] };
    let n : Fin 4 := 0;
    let b : Nat := 0;
    let first : Fin 64 := 0;
    let bs : List Byte := List.replicate 64 3;
    (b < poolBeats) ∧ (s.stackStopped n = false) ∧ (s.pcWaits n (pcOf b) = false) ∧ (first.val + bs.length ≤ 64) ∧ (s.decodeAt n b = .clean)) := by
  and_intros <;> decide +kernel

theorem wit_StackRepairAndUpkeep :
  (let s : State := run0;
    let n : Fin 4 := 3;
    let pc : Fin 64 := 63;
    (s.stackStopped n = false) ∧ (s.pcWaits n pc = false)) ∧
  (let s : State := w348;
    let n : Fin 4 := 3;
    let pc : Fin 64 := 63;
    ((s.pcRetry n pc).st = .check) ∧ ((s.pcRetry n pc).fails < 3)) ∧
  (let s : State := w349;
    let n : Fin 4 := 3;
    let pc : Fin 64 := 63;
    ((s.pcRetry n pc).st = .check) ∧ ((s.pcRetry n pc).fails < 3) ∧ ((s.pcRetry n pc).fails < 2)) ∧
  (let s : State := w350;
    let n : Fin 4 := 3;
    let pc : Fin 64 := 63;
    ((s.pcRetry n pc).st = .check) ∧ ((s.pcRetry n pc).fails < 3) ∧ ((s.pcRetry n pc).fails = 2)) ∧
  (let s : State := w351;
    let n : Fin 4 := 3;
    let pc : Fin 64 := 63;
    ((s.pcRetry n pc).st = .check) ∧ (3 ≤ (s.pcRetry n pc).fails)) ∧
  (let s : State := laneS;
    let n : Fin 4 := 3;
    let pc : Fin 64 := 63;
    let lane := Lane.dq 1 15;
    let t0 := ((laneS.wf (pgPHY 3) PHY_SPARE_DQ1 1 31).wf (pgPHY 3) PHY_SPARE_DQ1_LANE 15 31).raise (pgPHY 3) 2;
    ((s.pcRetry n pc).st = .lane) ∧ (s.laneSpare n (pc.val / 2) lane = some t0)) ∧
  (let s : State := laneS;
    let n : Fin 4 := 3;
    let pc : Fin 64 := 63;
    let lane := Lane.dq 1 15;
    let t0 := ((laneS.wf (pgPHY 3) PHY_SPARE_DQ1 1 31).wf (pgPHY 3) PHY_SPARE_DQ1_LANE 15 31).raise (pgPHY 3) 2;
    ((s.pcRetry n pc).st = .lane) ∧ (s.laneSpare n (pc.val / 2) lane = some t0) ∧ (s.rf (pgHBM n) HBM_LOST_WHY_WHY = 0)) ∧
  (let s : State := w354;
    let n : Fin 4 := 3;
    let pc : Fin 64 := 63;
    let lane := Lane.ca 1;
    ((s.pcRetry n pc).st = .lane) ∧ (s.laneSpare n (pc.val / 2) lane = none) ∧ (s.rf (pgHBM n) HBM_LOST_WHY_WHY = 0)) ∧
  (let s : State := w355;
    let n : Fin 4 := 3;
    (s.rf (pgHBM n) HBM_LOST_WHY_WHY ≠ 0) ∧ (s.bit (pgHBM n) HBM_STAT_LOST = false)) ∧
  (let s : State := w359;
    let n : Fin 4 := 3;
    (smGet (fun _ => false) s.hbm.down n = true)) ∧
  (let s : State := w360;
    let n : Fin 4 := 3;
    (s.bit (pgHBM n) HBM_SCRUB_CFG_EN = true) ∧ (s.stackStopped n = false) ∧ (s.crs.run = none)) ∧
  (let s : State := run0;
    let n : Fin 4 := 3;
    let src := Src.gable 0;
    (s.accepts src (pgPHY n + 0x44) = true) ∧ (s.bit (pgPHY n) PHY_TRAIN_STAT_RUN = false)) := by
  and_intros <;> decide +kernel

theorem wit_StackRepairAndUpkeep_2 :
  (let s : State := w362;
    let n : Fin 4 := 3;
    let src := Src.gable 0;
    (s.accepts src (pgPHY n + 0x44) = true) ∧ (s.bit (pgPHY n) PHY_TRAIN_STAT_RUN = true)) ∧
  (let s : State := w363;
    let n : Fin 4 := 3;
    (s.bit (pgPHY n) PHY_TRAIN_STAT_RUN = true) ∧ (smGet (fun _ => false) s.hbm.stop n = false) ∧ (smGet (fun _ => false) s.hbm.abort n = false) ∧
      (s.bit pgPWR PWR_STAT_OFF_PEND = false) ∧ (s.rf (pgPHY n) PHY_TRAIN_STAT_PHASE < 7)) ∧
  (let s : State := w364;
    let n : Fin 4 := 3;
    (s.bit (pgPHY n) PHY_TRAIN_STAT_RUN = true) ∧ (smGet (fun _ => false) s.hbm.stop n = false) ∧ (smGet (fun _ => false) s.hbm.abort n = false) ∧
      (s.bit pgPWR PWR_STAT_OFF_PEND = false) ∧ (s.rf (pgPHY n) PHY_TRAIN_STAT_PHASE = 7)) ∧
  (let s : State := w365;
    let n : Fin 4 := 3;
    let f : BitVec 32 := 2147483648;
    (s.bit (pgPHY n) PHY_TRAIN_STAT_RUN = true) ∧ (smGet (fun _ => false) s.hbm.stop n = false) ∧ (smGet (fun _ => false) s.hbm.abort n = false) ∧
      (s.bit pgPWR PWR_STAT_OFF_PEND = false) ∧ (2 ≤ s.rf (pgPHY n) PHY_TRAIN_STAT_PHASE) ∧ (s.rf (pgPHY n) PHY_TRAIN_STAT_PHASE ≤ 5) ∧ (f ≠ 0) ∧
      (s.rf (pgHBM n) HBM_LOST_WHY_WHY = 0)) := by
  and_intros <;> decide +kernel

theorem wit_GableArithmetic : w366.gabRuns 1 { : GabIn } (iR 0 2 1 3) = true ∧ gabKey (iR 0 2 1 3) = 256 ∧ ((w366.gable 1).ov = false ∨ -2 ^ 63 ≤
  BitVec.toInt (w366.gRd (1) (iRa (iR 0 2 1 3))) + BitVec.toInt ((gS 1 (gX 9223372036854775807 1) (iR 0 2 1 3)).gRd 1 (iRb (iR 0 2 1 3))) ∧
  BitVec.toInt (w366.gRd (1) (iRa (iR 0 2 1 3))) + BitVec.toInt ((gS 1 (gX 9223372036854775807 1) (iR 0 2 1 3)).gRd 1 (iRb (iR 0 2 1 3))) < 2 ^ 63)
  ∧ w367.gabRuns 1 { : GabIn } (iI 16383 1 0 2) = true ∧ gabKey (iI 16383 1 0 2) = 2 ∧ ((w367.gable 1).ov = false ∨ -2 ^ 63 ≤ BitVec.toInt (w367.gRd
  (1) (iRa (iI 16383 1 0 2))) + BitVec.toInt (iImm14 (iI 16383 1 0 2)) ∧ BitVec.toInt (w367.gRd (1) (iRa (iI 16383 1 0 2))) + BitVec.toInt (iImm14
  (iI 16383 1 0 2)) < 2 ^ 63) ∧ w368.gabRuns 1 { : GabIn } (iR 8 2 1 3) = true ∧ gabKey (iR 8 2 1 3) = 264 ∧ w369.gabRuns 1 { : GabIn } (iU 262149 3
  11) = true ∧ gabKey (iU 262149 3 11) = 11 ∧ w370.gabRuns 1 { : GabIn } (iR 14 2 1 3) = true ∧ gabKey (iR 14 2 1 3) = 270 ∧ ((w370.gable 1).dz =
  false ∨ w370.gRd (1) (iRb (iR 14 2 1 3)) ≠ 0) ∧ (270 = 270 → (w370.gable 1).ov = true → BitVec.toInt (w370.gRd (1) (iRa (iR 14 2 1 3))) ≠ -2 ^ 63
  ∨ w370.gRd (1) (iRb (iR 14 2 1 3)) ≠ -1) ∧ w371.gabRuns 1 { : GabIn } (iR 16 2 1 3) = true ∧ gabKey (iR 16 2 1 3) = 272 ∧ ((w371.gable 1).dz =
  false ∨ w371.gRd (1) (iRb (iR 16 2 1 3)) ≠ 0) ∧ (272 = 270 → (w371.gable 1).ov = true → BitVec.toInt (w371.gRd (1) (iRa (iR 16 2 1 3))) ≠ -2 ^ 63
  ∨ w371.gRd (1) (iRb (iR 16 2 1 3)) ≠ -1) := by
  and_intros <;> decide +kernel

theorem wit_GableLoadsAndStores :
  (∀ c ∈ [(0x10, 1), (0x11, 1), (0x12, 2), (0x13, 2), (0x14, 4), (0x15, 4), (0x16, 8)],
    let w : Word32 := iI 0 1 3 c.1;
    let s : State := ldS 0x10000008 w;
    let g : Fin 2 := 1;
    let x : GabIn := {};
    let a : Nat := 0x10000008 + 0;
    let lvl : Nat := 2;
    let h : Nat := 256;
    let e := ((), c.1, c.2, ());
    let v : Nat := 0x8182838485868788 % 2 ^ (8 * c.2);
    (s.gabRuns g x w = true) ∧ (a = s.gabEa g w) ∧ (lvl = (s.gable g).lvl) ∧ (h < 2 ^ 64) ∧ (gabKey w = e.2.1) ∧ (gabRange g a = .code ∧ levelOk lvl
      ((s.gable g).codeRd a) = true ∧ a % e.2.2.1 = 0 ∧ s.gabMarching g a = false ∧ (s.codeWord g a).err = .clean ∧ (e.2.2.1 = 8 → (s.codeWord g
      (a + 4)).err = .clean) ∧ x.mem = .clean ∧ v = (if e.2.2.1 = 8 then (s.codeWord g a).data.toNat + 2 ^ 32 * (s.codeWord g (a + 4)).data.toNat
      else bits (s.codeWord g a).data.toNat (8 * (a % 4) + 8 * e.2.2.1 - 1) (8 * (a % 4))) ∨ gabRange g a = .rom ∧ lvl = 2 ∧ a % e.2.2.1 = 0 ∧ v =
      s.romLoad g a e.2.2.1 ∨ gabRange g a = .data ∧ levelOk lvl ((s.gable g).dataRd a) = true ∧ a % e.2.2.1 = 0 ∧ s.gabMarching g a = false ∧
      (s.dataWord g a).err = .clean ∧ x.mem = .clean ∧ v = bits (s.dataWord g a).data.toNat (8 * (a % 8) + 8 * e.2.2.1 - 1) (8 * (a % 8)))) ∧
  (∀ c ∈ [(0x10, 1), (0x11, 1), (0x12, 2), (0x13, 2), (0x14, 4), (0x15, 4), (0x16, 8)],
    let w : Word32 := iI 0 1 3 c.1;
    let s : State := ldS 0x40 w;
    let g : Fin 2 := 1;
    let x : GabIn := {};
    let a : Nat := 0x40 + 0;
    let lvl : Nat := 2;
    let h : Nat := 256;
    let e := ((), c.1, c.2, ());
    let v : Nat := w.toNat % 2 ^ (8 * c.2);
    (s.gabRuns g x w = true) ∧ (a = s.gabEa g w) ∧ (lvl = (s.gable g).lvl) ∧ (h < 2 ^ 64) ∧ (gabKey w = e.2.1) ∧ (gabRange g a = .code ∧ levelOk lvl
      ((s.gable g).codeRd a) = true ∧ a % e.2.2.1 = 0 ∧ s.gabMarching g a = false ∧ (s.codeWord g a).err = .clean ∧ (e.2.2.1 = 8 → (s.codeWord g
      (a + 4)).err = .clean) ∧ x.mem = .clean ∧ v = (if e.2.2.1 = 8 then (s.codeWord g a).data.toNat + 2 ^ 32 * (s.codeWord g (a + 4)).data.toNat
      else bits (s.codeWord g a).data.toNat (8 * (a % 4) + 8 * e.2.2.1 - 1) (8 * (a % 4))) ∨ gabRange g a = .rom ∧ lvl = 2 ∧ a % e.2.2.1 = 0 ∧ v =
      s.romLoad g a e.2.2.1 ∨ gabRange g a = .data ∧ levelOk lvl ((s.gable g).dataRd a) = true ∧ a % e.2.2.1 = 0 ∧ s.gabMarching g a = false ∧
      (s.dataWord g a).err = .clean ∧ x.mem = .clean ∧ v = bits (s.dataWord g a).data.toNat (8 * (a % 8) + 8 * e.2.2.1 - 1) (8 * (a % 8)))) ∧
  (∀ c ∈ [(0x10, 1), (0x11, 1), (0x12, 2), (0x13, 2), (0x14, 4), (0x15, 4), (0x16, 8)],
    let w : Word32 := iI 0 1 3 c.1;
    let s : State := ldS 0x10000008 w;
    let g : Fin 2 := 1;
    let x : GabIn := {};
    let a : Nat := 0x10000008 + 0;
    let lvl : Nat := 2;
    let h : Nat := 256;
    let e := ((), c.1, c.2, ());
    let v := 0x8182838485868788 % 2 ^ (8 * c.2);
    (s.gabRuns g x w = true) ∧ (a = s.gabEa g w) ∧ (lvl = (s.gable g).lvl) ∧ (h < 2 ^ 64) ∧ (gabKey w = e.2.1) ∧ ((s.gabLoad g lvl a e.2.2.1 x.mem).2
      = .ok v)) ∧
  (∀ c ∈ [(0x14, 4), (0x15, 4), (0x16, 8)],
    let w : Word32 := iI 0 1 3 c.1;
    let s : State := ldS 0x40000058 w;
    let g : Fin 2 := 1;
    let x : GabIn := {};
    let a : Nat := 0x40000058 + 0;
    let lvl : Nat := 2;
    let h : Nat := 256;
    let e := ((), c.1, c.2, ());
    (s.gabRuns g x w = true) ∧ (a = s.gabEa g w) ∧ (lvl = (s.gable g).lvl) ∧ (h < 2 ^ 64) ∧ (gabKey w = e.2.1) ∧ (gabRange g a = .window) ∧ (levelOk
      lvl (s.gable g).regRd = true) ∧ (windowFits a e.2.2.1 = true)) ∧
  (∀ c ∈ [(0x14, 4), (0x15, 4)],
    let w : Word32 := iI 0 1 3 c.1;
    let s : State := ldS 0x40000058 w;
    let g : Fin 2 := 1;
    let x : GabIn := {};
    let a : Nat := 0x40000058 + 0;
    let lvl : Nat := 2;
    let h : Nat := 256;
    let e := ((), c.1, c.2, ());
    let k := PgKind.glb;
    let i := 0;
    (s.gabRuns g x w = true) ∧ (a = s.gabEa g w) ∧ (lvl = (s.gable g).lvl) ∧ (h < 2 ^ 64) ∧ (gabKey w = e.2.1) ∧ (gabRange g a = .window) ∧ (levelOk
      lvl (s.gable g).regRd = true) ∧ (a % 4 = 0) ∧ (e.2.2.1 = 4) ∧ (windowOf (a - 0x40000000) = none) ∧ (pageOf (a - 0x40000000) = some (k, i)) ∧
      (s.pageOff k = false) ∧ (2 ≤ s.rf pgGLB GLB_STATE_STATE) ∧ (regExists k i (a % 0x1000) = true) ∧ ((k = .irq → a % 0x1000 ∉ [0x40, 0x44])) ∧
      ((k = .dmr → a % 0x1000 ≠ 0x44)) ∧ ((k = .btxt → a % 0x1000 < 0x100 ∨ a % 0x10 ≠ 4)) ∧ (iRd w ≠ 0)) ∧
  (∀ c ∈ [(0x10, 1), (0x11, 1), (0x12, 2), (0x13, 2)],
    let w : Word32 := iI 0 1 3 c.1;
    let s : State := ldS 0x40000058 w;
    let g : Fin 2 := 1;
    let x : GabIn := {};
    let a : Nat := 0x40000058 + 0;
    let lvl : Nat := 2;
    let h : Nat := 256;
    let e := ((), c.1, c.2, ());
    (s.gabRuns g x w = true) ∧ (a = s.gabEa g w) ∧ (lvl = (s.gable g).lvl) ∧ (h < 2 ^ 64) ∧ (gabKey w = e.2.1) ∧ (s.readOk g lvl a = false ∨ gabRange
      g a = .window ∧ windowFits a e.2.2.1 = false) ∧ (s.trapTo g 5 h (x.tab.headD .clean) = true)) ∧
  (∀ c ∈ [(0x10, 1), (0x14, 4), (0x15, 4), (0x16, 8)],
    let w : Word32 := iI 0 1 3 c.1;
    let s : State := ldS 0x20000000 w;
    let g : Fin 2 := 1;
    let x : GabIn := {};
    let a : Nat := 0x20000000 + 0;
    let lvl : Nat := 2;
    let h : Nat := 256;
    let e := ((), c.1, c.2, ());
    (s.gabRuns g x w = true) ∧ (a = s.gabEa g w) ∧ (lvl = (s.gable g).lvl) ∧ (h < 2 ^ 64) ∧ (gabKey w = e.2.1) ∧ (s.readOk g lvl a = false ∨ gabRange
      g a = .window ∧ windowFits a e.2.2.1 = false) ∧ (s.trapTo g 5 h (x.tab.headD .clean) = true)) ∧
  (∀ c ∈ [(0x16, 8)],
    let w : Word32 := iI 0 1 3 c.1;
    let s : State := ldS 0x40000054 w;
    let g : Fin 2 := 1;
    let x : GabIn := {};
    let a : Nat := 0x40000054 + 0;
    let lvl : Nat := 2;
    let h : Nat := 256;
    let e := ((), c.1, c.2, ());
    (s.gabRuns g x w = true) ∧ (a = s.gabEa g w) ∧ (lvl = (s.gable g).lvl) ∧ (h < 2 ^ 64) ∧ (gabKey w = e.2.1) ∧ (s.readOk g lvl a = false ∨ gabRange
      g a = .window ∧ windowFits a e.2.2.1 = false) ∧ (s.trapTo g 5 h (x.tab.headD .clean) = true)) ∧
  (∀ c ∈ [(0x12, 2), (0x13, 2), (0x14, 4), (0x15, 4), (0x16, 8)],
    let w : Word32 := iI 1 1 3 c.1;
    let s : State := ldS 0x10000008 w;
    let g : Fin 2 := 1;
    let x : GabIn := {};
    let a : Nat := 0x10000008 + 1;
    let lvl : Nat := 2;
    let h : Nat := 256;
    let e := ((), c.1, c.2, ());
    (s.gabRuns g x w = true) ∧ (a = s.gabEa g w) ∧ (lvl = (s.gable g).lvl) ∧ (h < 2 ^ 64) ∧ (gabKey w = e.2.1) ∧ (s.readOk g lvl a = true) ∧ (gabRange
      g a ≠ .window) ∧ (a % e.2.2.1 ≠ 0) ∧ (s.trapTo g 7 h (x.tab.headD .clean) = true)) ∧
  (∀ c ∈ [(0x18, 1), (0x19, 2), (0x1A, 4), (0x1B, 8)],
    let w : Word32 := iI 0 1 3 c.1;
    let s : State := ldS 0x10000008 w;
    let g : Fin 2 := 1;
    let x : GabIn := {};
    let a : Nat := 0x10000008 + 0;
    let lvl : Nat := 2;
    let h : Nat := 256;
    let e := ((), c.1, c.2);
    (s.gabRuns g x w = true) ∧ (a = s.gabEa g w) ∧ (lvl = (s.gable g).lvl) ∧ (h < 2 ^ 64) ∧ (gabKey w = e.2.1) ∧ (gabRange g a = .data) ∧ (levelOk lvl
      ((s.gable g).dataWr a) = true) ∧ (a % e.2.2 = 0)) ∧
  (∀ c ∈ [(0x1A, 4), (0x1B, 8)],
    let w : Word32 := iI 0 1 3 c.1;
    let s : State := ldS 0x40000058 w;
    let g : Fin 2 := 1;
    let x : GabIn := {};
    let a : Nat := 0x40000058 + 0;
    let lvl : Nat := 2;
    let h : Nat := 256;
    let e := ((), c.1, c.2);
    (s.gabRuns g x w = true) ∧ (a = s.gabEa g w) ∧ (lvl = (s.gable g).lvl) ∧ (h < 2 ^ 64) ∧ (gabKey w = e.2.1) ∧ (gabRange g a = .window) ∧ (levelOk
      lvl (s.gable g).regWr = true) ∧ (windowFits a e.2.2 = true)) ∧
  (∀ c ∈ [(0x18, 1), (0x19, 2)],
    let w : Word32 := iI 0 1 3 c.1;
    let s : State := ldS 0x40000058 w;
    let g : Fin 2 := 1;
    let x : GabIn := {};
    let a : Nat := 0x40000058 + 0;
    let lvl : Nat := 2;
    let h : Nat := 256;
    let e := ((), c.1, c.2);
    (s.gabRuns g x w = true) ∧ (a = s.gabEa g w) ∧ (lvl = (s.gable g).lvl) ∧ (h < 2 ^ 64) ∧ (gabKey w = e.2.1) ∧ (s.writeOk g lvl a = false ∨ gabRange
      g a = .window ∧ windowFits a e.2.2 = false) ∧ (s.trapTo g 6 h (x.tab.headD .clean) = true)) := by
  and_intros <;> decide +kernel

theorem wit_GableLoadsAndStores_2 :
  (∀ c ∈ [(0x18, 1), (0x1A, 4), (0x1B, 8)],
    let w : Word32 := iI 0 1 3 c.1;
    let s : State := ldS 0x40 w;
    let g : Fin 2 := 1;
    let x : GabIn := {};
    let a : Nat := 0x40 + 0;
    let lvl : Nat := 2;
    let h : Nat := 256;
    let e := ((), c.1, c.2);
    (s.gabRuns g x w = true) ∧ (a = s.gabEa g w) ∧ (lvl = (s.gable g).lvl) ∧ (h < 2 ^ 64) ∧ (gabKey w = e.2.1) ∧ (s.writeOk g lvl a = false ∨ gabRange
      g a = .window ∧ windowFits a e.2.2 = false) ∧ (s.trapTo g 6 h (x.tab.headD .clean) = true)) ∧
  (∀ c ∈ [(0x19, 2), (0x1A, 4), (0x1B, 8)],
    let w : Word32 := iI 1 1 3 c.1;
    let s : State := ldS 0x10000008 w;
    let g : Fin 2 := 1;
    let x : GabIn := {};
    let a : Nat := 0x10000008 + 1;
    let lvl : Nat := 2;
    let h : Nat := 256;
    let e := ((), c.1, c.2);
    (s.gabRuns g x w = true) ∧ (a = s.gabEa g w) ∧ (lvl = (s.gable g).lvl) ∧ (h < 2 ^ 64) ∧ (gabKey w = e.2.1) ∧ (s.writeOk g lvl a = true) ∧
      (gabRange g a ≠ .window) ∧ (a % e.2.2 ≠ 0) ∧ (s.trapTo g 8 h (x.tab.headD .clean) = true)) := by
  and_intros <;> decide +kernel

/-- A load from the boot ROM of gable 0 (the third range of the first clause). -/
theorem wit_GableLoadsAndStores_rom : ∀ c ∈ [(0x10, 1), (0x11, 1), (0x12, 2), (0x13, 2), (0x14, 4), (0x15, 4), (0x16, 8)],
    let s : State := gS 0 { pc := 0x40, lvl := 2, r := [(1, 0x107FF8)] } (iI 0 1 3 c.1)
    s.gabRuns 0 {} (iI 0 1 3 c.1) = true ∧ s.gabEa 0 (iI 0 1 3 c.1) = 0x107FF8 ∧ gabKey (iI 0 1 3 c.1) = c.1 ∧
      gabRange 0 0x107FF8 = .rom ∧ (s.gable 0).lvl = 2 ∧ 0x107FF8 % c.2 = 0 ∧ ∃ v, v = s.romLoad 0 0x107FF8 c.2 := by
  simp only [List.forall_mem_cons, List.not_mem_nil, false_implies, implies_true, and_true]
  and_intros <;> first | exact ⟨_, rfl⟩ | decide +kernel

theorem wit_GableJumps : (gS 1 (gX 5 6) 4210976).gabRuns 1 { : GabIn } 4210976 = true ∧ gabKey 4210976 = 32 ∧ jcHolds (iCond 4210976) ((gS 1 (gX 5
  6) 4210976).gRd (1) (cRa 4210976)) ((gS 1 (gX 5 6) 4210976).gRd (1) (cRb 4210976)) = false ∧ (gS 1 (gX 5 5) 4210976).gabRuns 1 { : GabIn } 4210976
  = true ∧ jcHolds (iCond 4210976) ((gS 1 (gX 5 5) 4210976).gRd (1) (cRa 4210976)) ((gS 1 (gX 5 5) 4210976).gRd (1) (cRb 4210976)) = true ∧ (gS 1
  (gX 5 5) 4210976).jumpBad (1) ((gS 1 (gX 5 5) 4210976).gable 1).lvl (BitVec.toNat ((gS 1 (gX 5 5) 4210976).gPc 1 + iOff11 4210976)) = none ∧
  w379.gabRuns 1 { : GabIn } (iU 524287 3 40) = true ∧ gabKey (iU 524287 3 40) = 40 ∧ w379.jumpBad (1) (w379.gable 1).lvl (BitVec.toNat (64 + iOff19
  (iU 524287 3 40))) = none ∧ w380.gabRuns 1 { : GabIn } (iI 4 1 3 43) = true ∧ gabKey (iI 4 1 3 43) = 43 ∧ w380.jumpBad (1) (w380.gable 1).lvl
  (BitVec.toNat (128 + iImm14 (iI 4 1 3 43))) = none ∧ (w380.gable 1).ss.length < 64 ∧ w381.gabRuns 1 { : GabIn } (iU 5 3 42) = true ∧ gabKey (iU 5
  3 42) = 42 ∧ w381.jumpBad (1) (w381.gable 1).lvl (BitVec.toNat (64 + iOff19 (iU 5 3 42))) = none ∧ (w381.gable 1).ss.length = 64 ∧ (w381.gable
  1).spillFits 1 = true ∧ w382.gabRuns 1 { : GabIn } (iI 0 1 0 44) = true ∧ gabKey (iI 0 1 0 44) = 44 ∧ (w382.gable 1).ss = [w382.gRd (1) (iRa (iI 0
  1 0 44)), 7] ∧ w382.jumpBad (1) (w382.gable 1).lvl (BitVec.toNat (w382.gRd (1) (iRa (iI 0 1 0 44)))) = none := by
  and_intros <;> decide +kernel

theorem wit_GableTrapsAndInterrupts :
  (let s : State := w383;
    let g : Fin 2 := 1;
    let x : GabIn := {};
    let w : Word32 := 268173360;
    let h : Nat := 256;
    (s.gabRuns g x w = true) ∧ (h < 2 ^ 64) ∧ (gabKey w = 0x30) ∧ (s.trapTo g (13 + (s.gable g).lvl) h (x.tab.headD .clean) = true)) ∧
  (let s : State := tabS (gX 1 2) 56;
    let g : Fin 2 := 1;
    let x : GabIn := {};
    let w : Word32 := 56;
    let h : Nat := 256;
    (s.gabRuns g x w = true) ∧ (h < 2 ^ 64) ∧ (gabKey w = 0x38) ∧ (s.trapTo g 16 h (x.tab.headD .clean) = true)) ∧
  (let s : State := w385;
    let g : Fin 2 := 1;
    let x : GabIn := {};
    let w : Word32 := 0x31;
    let h : Nat := 256;
    let e := ((), 0x31, 2);
    (s.gabRuns g x w = true) ∧ (h < 2 ^ 64) ∧ (gabKey w = e.2.1) ∧ ((s.gable g).lvl < e.2.2) ∧ (s.trapTo g 2 h (x.tab.headD .clean) = true)) ∧
  (let w : Word32 := 0x32;
    let s : State := tabS { gX 1 2 with lvl := 1, protCode := 0 } w;
    let g : Fin 2 := 1;
    let x : GabIn := {};
    let h : Nat := 256;
    let e := ((), 0x32, 2);
    (s.gabRuns g x w = true) ∧ (h < 2 ^ 64) ∧ (gabKey w = e.2.1) ∧ ((s.gable g).lvl < e.2.2) ∧ (s.trapTo g 2 h (x.tab.headD .clean) = true)) ∧
  (let s : State := w386;
    let g : Fin 2 := 1;
    let x : GabIn := {};
    let w : Word32 := 0x33;
    let h : Nat := 256;
    let e := ((), 0x33, 1);
    (s.gabRuns g x w = true) ∧ (h < 2 ^ 64) ∧ (gabKey w = e.2.1) ∧ ((s.gable g).lvl < e.2.2) ∧ (s.trapTo g 2 h (x.tab.headD .clean) = true)) ∧
  (let w : Word32 := iR 0 2 1 3;
    let s : State := tabS { gX 0x7FFFFFFFFFFFFFFF 2 with ov := true } w;
    let g : Fin 2 := 1;
    let x : GabIn := {};
    let h : Nat := 256;
    let e := ((), 0x100, s.gRd g (iRb w), (fun a b => a + b : Int → Int → Int));
    (s.gabRuns g x w = true) ∧ (h < 2 ^ 64) ∧ (gabKey w = e.2.1) ∧ ((s.gable g).ov = true) ∧ (¬(-2 ^ 63 ≤ e.2.2.2 (s.gRd g (iRa w)).toInt
      e.2.2.1.toInt ∧ e.2.2.2 (s.gRd g (iRa w)).toInt e.2.2.1.toInt < 2 ^ 63)) ∧ (s.trapTo g 10 h (x.tab.headD .clean) = true)) ∧
  (let w : Word32 := iR 0x0B 2 1 3;
    let s : State := tabS { gX 0x7FFFFFFFFFFFFFFF 2 with ov := true } w;
    let g : Fin 2 := 1;
    let x : GabIn := {};
    let h : Nat := 256;
    let e := ((), 0x10B, s.gRd g (iRb w), (fun a b => a * b : Int → Int → Int));
    (s.gabRuns g x w = true) ∧ (h < 2 ^ 64) ∧ (gabKey w = e.2.1) ∧ ((s.gable g).ov = true) ∧ (¬(-2 ^ 63 ≤ e.2.2.2 (s.gRd g (iRa w)).toInt
      e.2.2.1.toInt ∧ e.2.2.2 (s.gRd g (iRa w)).toInt e.2.2.1.toInt < 2 ^ 63)) ∧ (s.trapTo g 10 h (x.tab.headD .clean) = true)) ∧
  (let w : Word32 := iI 2 1 3 2;
    let s : State := tabS { gX 0x7FFFFFFFFFFFFFFF 2 with ov := true } w;
    let g : Fin 2 := 1;
    let x : GabIn := {};
    let h : Nat := 256;
    let e := ((), 0x02, iImm14 w, (fun a b => a + b : Int → Int → Int));
    (s.gabRuns g x w = true) ∧ (h < 2 ^ 64) ∧ (gabKey w = e.2.1) ∧ ((s.gable g).ov = true) ∧ (¬(-2 ^ 63 ≤ e.2.2.2 (s.gRd g (iRa w)).toInt
      e.2.2.1.toInt ∧ e.2.2.2 (s.gRd g (iRa w)).toInt e.2.2.1.toInt < 2 ^ 63)) ∧ (s.trapTo g 10 h (x.tab.headD .clean) = true)) ∧
  (let w : Word32 := iR 1 2 1 3;
    let s : State := tabS { gX 0x8000000000000000 2 with ov := true } w;
    let g : Fin 2 := 1;
    let x : GabIn := {};
    let h : Nat := 256;
    let e := ((), 0x101, s.gRd g (iRb w), (fun a b => a - b : Int → Int → Int));
    (s.gabRuns g x w = true) ∧ (h < 2 ^ 64) ∧ (gabKey w = e.2.1) ∧ ((s.gable g).ov = true) ∧ (¬(-2 ^ 63 ≤ e.2.2.2 (s.gRd g (iRa w)).toInt
      e.2.2.1.toInt ∧ e.2.2.2 (s.gRd g (iRa w)).toInt e.2.2.1.toInt < 2 ^ 63)) ∧ (s.trapTo g 10 h (x.tab.headD .clean) = true)) ∧
  (∀ k ∈ [0x0E, 0x0F, 0x10, 0x11],
    let w : Word32 := iR k 2 1 3;
    let s : State := tabS { gX 7 0 with dz := true } w;
    let g : Fin 2 := 1;
    let x : GabIn := {};
    let h : Nat := 256;
    let e := ((), 0x100 + k);
    (s.gabRuns g x w = true) ∧ (h < 2 ^ 64) ∧ (gabKey w = e.2) ∧ ((s.gable g).dz = true) ∧ (s.gRd g (iRb w) = 0) ∧ (s.trapTo g 9 h (x.tab.headD
      .clean) = true)) ∧
  (let s : State := w389;
    let g : Fin 2 := 1;
    let x : GabIn := {};
    let w : Word32 := iI 0 1 0 44;
    let h : Nat := 256;
    let a := 8;
    let r := [7];
    (s.gabRuns g x w = true) ∧ (h < 2 ^ 64) ∧ (gabKey w = 0x2C) ∧ ((s.gable g).ss = a :: r) ∧ (a ≠ s.gRd g (iRa w)) ∧ (s.trapTo g 11 h (x.tab.headD
      .clean) = true)) ∧
  (let s : State := w399;
    let g : Fin 2 := 1;
    let tab : List StErr := [];
    let h : Nat := 256;
    (h < 2 ^ 64) ∧ (s.gabAt g = true) ∧ ((s.gable g).wdPend = false) ∧ (s.gabFirq g = false) ∧ (s.gabIrq g = true) ∧ (s.trapTo g 32 h (tab.headD
      .clean) = true)) := by
  and_intros <;> decide +kernel

theorem wit_GableTrapsAndInterrupts_2 :
  (let s : State := w400;
    let g : Fin 2 := 1;
    let tab : List StErr := [];
    let h : Nat := 256;
    (h < 2 ^ 64) ∧ (s.gabAt g = true) ∧ ((s.gable g).wdPend = false) ∧ (s.gabFirq g = true) ∧ (s.tableBusy g = false) ∧ ((s.gabTable g 33 (tab.headD
      .clean)).2 = .ok h) ∧ (s.jumpBad g 2 h = none)) ∧
  (let s : State := pendS { wfi := true } 0;
    let g : Fin 2 := 1;
    let h : Nat := 256;
    let wait := 799999999;
    (h < 2 ^ 64) ∧ (s.gabLive = true) ∧ ((s.gable g).wfi = true) ∧ ((s.gable g).stopped = false) ∧ ((s.gable g).halted = false) ∧ (s.irqWake g = true)
      ∧ (wait ≤ (s.gable g).wdLeft)) ∧
  (let s : State := pendS { wfi := true, wdFrom := 9, wdCyc := 16 } 0;
    let g : Fin 2 := 1;
    let h : Nat := 256;
    let wait := 9200;
    (h < 2 ^ 64) ∧ (s.gabLive = true) ∧ ((s.gable g).wfi = true) ∧ ((s.gable g).stopped = false) ∧ ((s.gable g).halted = false) ∧ (s.irqWake g = true)
      ∧ (wait ≤ (s.gable g).wdLeft)) ∧
  (let s : State := pendS { fence := true, wdFrom := 9, wdCyc := 16 } 0;
    let g : Fin 2 := 1;
    let h : Nat := 256;
    let wait := 9200;
    (h < 2 ^ 64) ∧ (s.gabLive = true) ∧ ((s.gable g).fence = true) ∧ ((s.gable g).stopped = false) ∧ ((s.gable g).halted = false) ∧ (wait ≤ (s.gable
      g).wdLeft)) ∧
  (let s : State := w403;
    let g : Fin 2 := 1;
    let h : Nat := 256;
    (h < 2 ^ 64) ∧ (s.wdogRuns g = true) ∧ (s.bit (pgGAB g) GAB_WDOG_STAGE = false) ∧ (((s.wdogPass g).wdogExpire g).gabAt g = false)) ∧
  (let s : State := pendS { expS with stopReq := true } 0;
    let g : Fin 2 := 1;
    let h : Nat := 256;
    (h < 2 ^ 64) ∧ (s.wdogRuns g = true) ∧ (s.bit (pgGAB g) GAB_WDOG_STAGE = false) ∧ (((s.wdogPass g).wdogExpire g).gabAt g = false)) ∧
  (let s : State := pendS expS 0;
    let g : Fin 2 := 1;
    let tab : List StErr := [];
    let h : Nat := 256;
    (h < 2 ^ 64) ∧ (s.wdogRuns g = true) ∧ (s.bit (pgGAB g) GAB_WDOG_STAGE = false) ∧ (((s.wdogPass g).wdogExpire g).gabAt g = true) ∧ (((s.wdogPass
      g).wdogExpire g).trapTo g 17 h (tab.headD .clean) = true)) ∧
  (let s : State := pendS { expS with wdCyc := 0, wfi := true } 0;
    let g : Fin 2 := 1;
    let tab : List StErr := [];
    let h : Nat := 256;
    (h < 2 ^ 64) ∧ (s.wdogRuns g = true) ∧ (s.bit (pgGAB g) GAB_WDOG_STAGE = false) ∧ (((s.wdogPass g).wdogExpire g).gabAt g = true) ∧ (((s.wdogPass
      g).wdogExpire g).trapTo g 17 h (tab.headD .clean) = true)) ∧
  (let s : State := sets (pendS expS 0) [(pgGAB 1, GAB_WDOG_STAGE, 1, 0)];
    let g : Fin 2 := 1;
    let h : Nat := 256;
    (h < 2 ^ 64) ∧ (s.wdogRuns g = true) ∧ (s.bit (pgGAB g) GAB_WDOG_STAGE = true) ∧ (g = 1)) ∧
  (let s : State := { w406 with gab := [(0, expS)] };
    let g : Fin 2 := 0;
    let h : Nat := 256;
    (h < 2 ^ 64) ∧ (s.wdogRuns g = true) ∧ (s.bit (pgGAB g) GAB_WDOG_STAGE = true) ∧ (g = 0) ∧ (s.tray = tRUN ∨ s.tray = tIDLE)) := by
  and_intros <;> decide +kernel

theorem wit_GableSystemAndControl : w390.gabRuns 1 { : GabIn } 49 = true ∧ gabKey 49 = 49 ∧ 2 ≤ (w390.gable 1).lvl ∧ w391.gabRuns 1 { : GabIn } 50 =
  true ∧ gabKey 50 = 50 ∧ 2 ≤ (w391.gable 1).lvl ∧ (w391.gable 1).bank = true ∧ w392.gabRuns 1 { : GabIn } 51 = true ∧ gabKey 51 = 51 ∧ 1 ≤
  (w392.gable 1).lvl ∧ (gS 1 (gX 1 2) 51).gabRuns 1 { : GabIn } 51 = true ∧ 1 ≤ ((gS 1 (gX 1 2) 51).gable 1).lvl ∧ (gS 1 (gX 1 2) 57).gabRuns 1
  { : GabIn } 57 = true ∧ gabKey 57 = 57 ∧ w395.gabRuns 1 { : GabIn } 525108 = true ∧ gabKey 525108 = 52 ∧ csrLevels (iCsr 525108) = some (2, some
  2) ∧ 2 ≤ (w395.gable 1).lvl ∧ w396.gabRuns 1 { : GabIn } 20972340 = true ∧ gabKey 20972340 = 52 ∧ csrLevels (iCsr 20972340) = some (0, none) ∧ 0 ≤
  (w396.gable 1).lvl ∧ w397.gabRuns 1 { : GabIn } 795446 = true ∧ gabKey 795446 = 54 ∧ csrLevels (iCsr 795446) = some (2, some 2) ∧ 2 ≤ (w397.gable
  1).lvl ∧ iCsr 795446 ≠ 35 ∧ w398.gabRuns 1 { : GabIn } 795446 = true ∧ 2 ≤ (w398.gable 1).lvl ∧ iCsr 795446 = 3 ∧ run0.accepts Src.debug (pgGAB 0
  + 72) = true ∧ Src.debug ≠ Src.gable 1 ∧ (Src.debug = Src.gable 0 → 0 ≠ 0) ∧ (run0.gable 0).stopped = false ∧ run0.accepts (Src.gable 0) (pgGAB 1
  + 72) = true ∧ Src.gable 0 ≠ Src.gable 1 ∧ (Src.gable 0 = Src.gable 0 → 1 ≠ 0) ∧ ((run0.gable 1).stopped = true ∨ (run0.gable 1).halted = true) ∧
  w409.accepts (Src.gable 0) (pgGAB 1 + 72) = true ∧ ((w409.gable 1).stopped = true ∨ (w409.gable 1).halted = true) ∧ (w410.gable 1).stopReq = true
  ∧ (w410.gable 1).stopped = false ∧ (w410.gable 1).halted = false ∧ (w410.gable 1).fence = false ∧ (w410.gable 1).resetReq = false ∧ run0.accepts
  (Src.gable 0) (pgGAB 1 + 96) = true ∧ BitVec.getLsbD (2147483911 : Word32) 31 = true ∧ run0.gabMarchStatus (0) (1) (bits (BitVec.toNat (2147483911
  : Word32)) 3 0) (BitVec.getLsbD (2147483911 : Word32) 8) = 0 ∧ (w412.gable 1).march = some (8, false) ∧ run0.accepts (Src.gable 0) (pgGAB 1 + 128
  + 4 * 31) = true ∧ 12288 ≤ bits (BitVec.toNat (3221172223 : Word32)) 29 16 ∧ bits (BitVec.toNat (3221172223 : Word32)) 13 0 ≤ 12287 ∧ run0.lockBad
  (pgGAB 1) PgKind.gab (1) (128 + 4 * 31) 3221172223 = false ∧ (1 = 1 → (run0.gable 1).stopped = true) := by
  and_intros <;> decide +kernel

theorem wit_GableMicroOperations :
  (let s : State := gaS 5 6;
    let g : Fin 2 := 1;
    let d : BitVec 96 := gg;
    let p : GabPre := s.gabPre 1 d;
    (s.gabWordFree g = true) ∧ ((s.gable g).u.attn = false) ∧ (p = (s.gable g).u.pre.getD (s.gabPre g d)) ∧ ((s.gable g).u.q.opDue = false)) ∧
  (let d : BitVec 96 := gmC 1;
    let s : State := gmO d;
    let g : Fin 2 := 1;
    let x : GabIn := {};
    let p : GabPre := s.gabPre 1 d;
    (s.gabWordFree g = true) ∧ ((s.gable g).u.attn = false) ∧ (p = (s.gable g).u.pre.getD (s.gabPre g d)) ∧ ((s.gable g).u.q.gabOpTurn d 0x01 = true)
      ∧ (s.jumpBad g (s.gable g).lvl p.pc.toNat = none) ∧ (s.gabMarching g p.pc.toNat = false) ∧ (gabRange g p.pc.toNat = .code) ∧ ((s.codeWord g
      p.pc.toNat).err = .clean) ∧ (x.up = .clean)) ∧
  (let d : BitVec 96 := gmC 2;
    let s : State := gmO d;
    let g : Fin 2 := 1;
    let x : GabIn := {};
    let p : GabPre := s.gabPre 1 d;
    let v := 0;
    (s.gabWordFree g = true) ∧ ((s.gable g).u.attn = false) ∧ (p = (s.gable g).u.pre.getD (s.gabPre g d)) ∧ ((s.gable g).u.q.gabOpTurn d 0x02 = true)
      ∧ ((s.gabLoad g (s.gable g).lvl p.mar.toNat (guSIZE d) x.mem).2 = .ok v)) ∧
  (let d : BitVec 96 := gmC 3;
    let s : State := gmO d;
    let g : Fin 2 := 1;
    let p : GabPre := s.gabPre 1 d;
    (s.gabWordFree g = true) ∧ ((s.gable g).u.attn = false) ∧ (p = (s.gable g).u.pre.getD (s.gabPre g d)) ∧ ((s.gable g).u.q.gabOpTurn d 0x03 = true)
      ∧ (gabRange g p.mar.toNat = .data) ∧ (levelOk (s.gable g).lvl ((s.gable g).dataWr p.mar.toNat) = true) ∧ (p.mar.toNat % guSIZE d = 0)) ∧
  (let d : BitVec 96 := gmC 4;
    let s : State := gmO d;
    let g : Fin 2 := 1;
    let p : GabPre := s.gabPre 1 d;
    (s.gabWordFree g = true) ∧ ((s.gable g).u.attn = false) ∧ (p = (s.gable g).u.pre.getD (s.gabPre g d)) ∧ ((s.gable g).u.q.gabOpTurn d 0x04 = true)) ∧
  (let d : BitVec 96 := gmC 5;
    let s : State := gmO d;
    let g : Fin 2 := 1;
    let p : GabPre := s.gabPre 1 d;
    (s.gabWordFree g = true) ∧ ((s.gable g).u.attn = false) ∧ (p = (s.gable g).u.pre.getD (s.gabPre g d)) ∧ ((s.gable g).u.q.gabOpTurn d 0x05 = true)
      ∧ ((s.gable g).csrOf d = 0x005)) ∧
  (let d : BitVec 96 := gmC 6;
    let s : State := gmO d;
    let g : Fin 2 := 1;
    let x : GabIn := {};
    let p : GabPre := s.gabPre 1 d;
    let h := 256;
    (s.gabWordFree g = true) ∧ ((s.gable g).u.attn = false) ∧ (p = (s.gable g).u.pre.getD (s.gabPre g d)) ∧ ((s.gable g).u.q.gabOpTurn d 0x06 = true)
      ∧ (h < 2 ^ 64) ∧ (trapVec (guVEC d) = true) ∧ (s.trapTo g (guVEC d) h (x.tab.headD .clean) = true)) ∧
  (let d : BitVec 96 := gmC 7;
    let s : State := gmO d;
    let g : Fin 2 := 1;
    let p : GabPre := s.gabPre 1 d;
    (s.gabWordFree g = true) ∧ ((s.gable g).u.attn = false) ∧ (p = (s.gable g).u.pre.getD (s.gabPre g d)) ∧ ((s.gable g).u.q.gabOpTurn d 0x07 = true)) ∧
  (let d : BitVec 96 := gmC 8;
    let s : State := gmO d;
    let g : Fin 2 := 1;
    let x : GabIn := {};
    let p : GabPre := s.gabPre 1 d;
    let h := 256;
    (s.gabWordFree g = true) ∧ ((s.gable g).u.attn = false) ∧ (p = (s.gable g).u.pre.getD (s.gabPre g d)) ∧ ((s.gable g).u.q.gabOpTurn d 0x08 = true)
      ∧ (h < 2 ^ 64) ∧ (s.tableBusy g = false) ∧ ((s.gabTable g 33 (x.tab.headD .clean)).2 = .ok h) ∧ (s.jumpBad g 2 h = none)) ∧
  (let d : BitVec 96 := gmC 9;
    let s : State := gmO d;
    let g : Fin 2 := 1;
    let p : GabPre := s.gabPre 1 d;
    (s.gabWordFree g = true) ∧ ((s.gable g).u.attn = false) ∧ (p = (s.gable g).u.pre.getD (s.gabPre g d)) ∧ ((s.gable g).u.q.gabOpTurn d 0x09 = true)) ∧
  (let d : BitVec 96 := gmC 10;
    let s : State := gmO d;
    let g : Fin 2 := 1;
    let p : GabPre := s.gabPre 1 d;
    (s.gabWordFree g = true) ∧ ((s.gable g).u.attn = false) ∧ (p = (s.gable g).u.pre.getD (s.gabPre g d)) ∧ ((s.gable g).u.q.gabOpTurn d 0x0A = true)
      ∧ ((s.gable g).ss.length < 64)) ∧
  (let d : BitVec 96 := gmC 11;
    let s : State := gmO d;
    let g : Fin 2 := 1;
    let p : GabPre := s.gabPre 1 d;
    let a := 5;
    let r := [8];
    (s.gabWordFree g = true) ∧ ((s.gable g).u.attn = false) ∧ (p = (s.gable g).u.pre.getD (s.gabPre g d)) ∧ ((s.gable g).u.q.gabOpTurn d 0x0B = true)
      ∧ ((s.gable g).ss = a :: r)) := by
  and_intros <;> decide +kernel

theorem wit_GableMicroOperations_2 :
  (let d : BitVec 96 := gmC 12;
    let s : State := gmO d;
    let g : Fin 2 := 1;
    let p : GabPre := s.gabPre 1 d;
    (s.gabWordFree g = true) ∧ ((s.gable g).u.attn = false) ∧ (p = (s.gable g).u.pre.getD (s.gabPre g d)) ∧ ((s.gable g).u.q.gabOpTurn d 0x0C = true)) ∧
  (let d : BitVec 96 := gmC 13;
    let s : State := gmO d;
    let g : Fin 2 := 1;
    let p : GabPre := s.gabPre 1 d;
    (s.gabWordFree g = true) ∧ ((s.gable g).u.attn = false) ∧ (p = (s.gable g).u.pre.getD (s.gabPre g d)) ∧ ((s.gable g).u.q.gabOpTurn d 0x0D = true)) ∧
  (let d : BitVec 96 := gmC 14;
    let s : State := gmO d;
    let g : Fin 2 := 1;
    let p : GabPre := s.gabPre 1 d;
    (s.gabWordFree g = true) ∧ ((s.gable g).u.attn = false) ∧ (p = (s.gable g).u.pre.getD (s.gabPre g d)) ∧ ((s.gable g).u.q.gabOpTurn d 0x0E = true)) := by
  and_intros <;> decide +kernel

theorem wit_BatrixLink :
  (let s : State := bS [] { slot := 9 };
    (s.btx.on = true)) ∧
  (let s : State := bOff seven;
    let p : Fin 9 := 7;
    (s.btx.on = true) ∧ (s.laneRetired 1 p = false)) ∧
  (let s : State := bOff seven;
    (s.btx.on = true) ∧ (s.linkUp = false) ∧ (s.rf pgBTXL BTX_RETIRED_RX = 0)) ∧
  (let s : State := bOff [];
    (s.btx.on = true) ∧ (s.linkUp = false) ∧ (s.rf pgBTXL BTX_RETIRED_TX = 0)) ∧
  (let s : State := bOff [(pgBTXL, BTX_CAL_CFG_TRIES, 1, 0), (pgBTXL, BTX_CAL_CFG_CE_MAX, 9, 0)];
    let c : CalStep := { bias := 5, mod := 6, tint := 0, offset := 0, thresh := 0, lock := true, ce := 9 };
    (s.btx.on = true) ∧ (s.linkUp = false) ∧ (s.rf pgBTXL BTX_RETIRED_TX = 0) ∧ (c.lock = true) ∧ (c.ce.val ≤ s.rf pgBTXL BTX_CAL_CFG_CE_MAX) ∧ (1 ≤
      s.rf pgBTXL BTX_CAL_CFG_TRIES)) ∧
  (let s : State := lanesS [(3, [false, false, false, false])];
    let p : Fin 9 := 3;
    (s.linkUp = true) ∧ (s.laneRetired 1 p = false) ∧ (s.lane 1 p = 1) ∧ (histDown (s.laneHist p) = true) ∧ ((∀ q, q < 9 → q ≠ p.val → s.lane 1 q = 1
      → histDown (s.laneHist q) = false)) ∧ (s.btx.fell.length < 2)) ∧
  (let s : State := lanesS [(3, [true, false, false, true] ++ List.replicate 14 false)];
    let p : Fin 9 := 3;
    (s.linkUp = true) ∧ (s.laneRetired 1 p = false) ∧ (s.lane 1 p = 1) ∧ (histDown (s.laneHist p) = true) ∧ ((∀ q, q < 9 → q ≠ p.val → s.lane 1 q = 1
      → histDown (s.laneHist q) = false)) ∧ (s.btx.fell.length < 2)) ∧
  (let s : State := lanesS [(1, List.replicate 4 false), (2, List.replicate 4 false), (3, List.replicate 4 false)];
    let n := 3;
    (n = ((List.range 9).filter fun q => s.lane 1 q == 1 && histDown (s.laneHist q)).length) ∧ (s.linkUp = true) ∧ (n ≠ 0) ∧ (3 ≤ s.btx.fell.length +
      n)) ∧
  (let s : State := bS [] { hist := [(1, List.replicate 4 false)], fell := [2, 3] };
    let n := 1;
    (n = ((List.range 9).filter fun q => s.lane 1 q == 1 && histDown (s.laneHist q)).length) ∧ (s.linkUp = true) ∧ (n ≠ 0) ∧ (3 ≤ s.btx.fell.length +
      n)) ∧
  (let s : State := bS [] { retTx := [3, 4] };
    let p : Fin 9 := 3;
    let r := [4];
    (s.btx.retTx = p.val :: r) ∧ (s.laneRetired 0 p = false)) ∧
  (let s : State := bS [] { retRx := [3, 4] };
    let p : Fin 9 := 3;
    let r := [4];
    (s.btx.retRx = p.val :: r) ∧ (s.laneRetired 1 p = false)) ∧
  (let s : State := bS [] { mapBad := 16 };
    (16 ≤ s.btx.mapBad) ∧ (s.linkUp = true)) := by
  and_intros <;> decide +kernel

theorem wit_BatrixLink_2 :
  (let s : State := bS [] { mapBad := 4 };
    let p : Fin 9 := 3;
    (s.laneReads p = true) ∧ (s.lane 1 p = 1)) ∧
  (let s : State := w441;
    let p : Fin 9 := 3;
    let f := cf 3;
    (s.laneReads p = true) ∧ (f.nring = s.rf pgBTXC BTX_CFG_NRING) ∧ (f.pos = (s.ringPos + s.ringSize16 - 1) % s.ringSize16) ∧ (s.btx.ringBack = true)) ∧
  (let s : State := w442;
    let p : Fin 9 := 3;
    let f := cf 4;
    (s.laneReads p = true) ∧ (f.nring ≠ s.rf pgBTXC BTX_CFG_NRING)) ∧
  (let s : State := bS [] {};
    (s.linkUp = true) ∧ (s.btx.ringBack = false) ∧ (64 ≤ s.rf pgBTXC BTX_SFN_SFN)) := by
  and_intros <;> decide +kernel

theorem wit_ConsignmentsAndMessages :
  (let s : State := w444;
    let src := Src.gable 1;
    let q : Fin 64 := 63;
    let h : Fin (2 ^ 24) := 6;
    (s.accepts src (pgBTXC + 0x404 + 0x10 * q.val) = true) ∧ (s.postBusy q = false) ∧ (s.isObj h = true) ∧ ((s.obj h).pin = true) ∧ ((s.obj h).place =
      4) ∧ ((s.obj h).size1 < 268435456) ∧ (s.inPlan h = false)) ∧
  (let s : State := w445;
    let src := Src.gable 1;
    let q : Fin 64 := 5;
    (s.accepts src (pgBTXC + 0x404 + 0x10 * q.val) = true) ∧ (s.postBusy q = false)) ∧
  (let s : State := w446;
    let p : Fin 9 := 3;
    let v : Fin 2 := 1;
    let q := 5;
    let bs := hd ++ [1, 2, 3];
    (s.laneReads p = true) ∧ (s.lane 1 p = 1) ∧ (s.rxOf v = .idle) ∧ (s.headCheck (bs.take 64) = (0, some q))) ∧
  (let s : State := w447;
    let p : Fin 9 := 3;
    let v : Fin 2 := 1;
    let w := 3;
    let q := none;
    let bs := hd ++ [1, 2, 3];
    (s.laneReads p = true) ∧ (s.lane 1 p = 1) ∧ (s.rxOf v = .idle) ∧ (s.headCheck (bs.take 64) = (w, q)) ∧ (w ≠ 0)) ∧
  (let s : State := w448;
    let p : Fin 9 := 3;
    let v : Fin 2 := 1;
    let w := 7;
    let q := some 5;
    let bs := hd ++ [1, 2, 3];
    (s.laneReads p = true) ∧ (s.lane 1 p = 1) ∧ (s.rxOf v = .idle) ∧ (s.headCheck (bs.take 64) = (w, q)) ∧ (w ≠ 0)) ∧
  (let s : State := w449;
    let p : Fin 9 := 3;
    let v : Fin 2 := 0;
    let seq : Fin 65536 := 8;
    let c := { rc with crcIn := 0x78 };
    let bs := ([86, 52, 18] : List Byte);
    (s.laneReads p = true) ∧ (s.lane 1 p = 1) ∧ (s.rxOf v = .take c) ∧ (smGet (fun _ => 0) s.btx.rxSeq v = seq.val) ∧ (c.broken = false) ∧ (c.got +
      bs.length = c.size + 4) ∧ (c.size ≤ c.got) ∧ (c.crcIn + leNat bs * 256 ^ (c.got - c.size) = c.crc ^^^ 0xFFFFFFFF) ∧ (s.btx.eoc = none)) ∧
  (let s : State := w450;
    let p : Fin 9 := 3;
    (s.linkUp = true) ∧ (s.laneRetired 1 p = false) ∧ (s.lane 1 p = 1)) ∧
  (let s : State := w451;
    let p : Fin 9 := 3;
    (s.laneReads p = true) ∧ (s.crs.running = true) ∧ (s.phase = 3) ∧ (s.btx.eoc = none)) ∧
  (let s : State := txS 100;
    let r := txR;
    (s.live = some r) ∧ (s.phase = 2) ∧ ((r.plan.eng 8).present = true) ∧ (s.btx.txStop = false) ∧ (s.btx.txIdx < (r.plan.eng 8).count) ∧ (s.linkUp =
      true) ∧ (s.ringOk = true) ∧ (s.btx.txSent = 0) ∧ (s.bit pgBTXC PG_CTRL_EN = true) ∧ (s.bit pgBTXC PG_STAT_QUIESCING = false) ∧ (s.hbm.syms =
      []) ∧ (((s.txDesc r s.btx.txIdx).sway = false ∨ s.btx.swayOk = true)) ∧ (s.txCheck r (s.txDesc r s.btx.txIdx) = 0) ∧ ((s.txDesc r
      s.btx.txIdx).size ≤ 406) ∧ (s.btx.slot < 504) ∧ (s.crs.failWhy = 0) ∧ (s.rf pgBTXC BTX_CRED_CRED (s.txDesc r s.btx.txIdx).vc ≠ 0)) ∧
  (let s : State := txS 0;
    let r := txR;
    (s.live = some r) ∧ (s.phase = 2) ∧ ((r.plan.eng 8).present = true) ∧ (s.btx.txStop = false) ∧ (s.btx.txIdx < (r.plan.eng 8).count) ∧ (s.linkUp =
      true) ∧ (s.ringOk = true) ∧ (s.btx.txSent = 0) ∧ (s.bit pgBTXC PG_CTRL_EN = true) ∧ (s.bit pgBTXC PG_STAT_QUIESCING = false) ∧ (s.hbm.syms =
      []) ∧ (((s.txDesc r s.btx.txIdx).sway = false ∨ s.btx.swayOk = true)) ∧ (s.txCheck r (s.txDesc r s.btx.txIdx) ≠ 0)) ∧
  (let s : State := gdJ { slot := 9 };
    let k := 2;
    (k = (s.btx.slot + 7) / 8) ∧ (s.btx.on = true) ∧ (s.crs.running = true) ∧ (s.phase = 3) ∧ (s.crs.judged = true) ∧ (s.btx.eocSent = false)) ∧
  (let s : State := gdJ { slot := 497 };
    let k := 63;
    (k = (s.btx.slot + 7) / 8) ∧ (s.btx.on = true) ∧ (s.crs.running = true) ∧ (s.phase = 3) ∧ (s.crs.judged = true) ∧ (s.btx.eocSent = false)) := by
  and_intros <;> decide +kernel

theorem wit_ConsignmentsAndMessages_2 :
  (let s : State := bS [] {};
    let g : Fin 2 := 1;
    (s.accepts (.gable g) (pgBTXC + 0x120 + 0x80 * g.val) = true) ∧ (s.bit pgBTXC BTX_MSG_TXSTAT_BUSY g = false)) ∧
  (let s : State := w457;
    let g : Fin 2 := 1;
    let m := ms 0;
    let r := [ms 2];
    (s.btx.on = true) ∧ (s.rf pgBTXC BTX_CRED_CRED (2 + g.val) ≠ 0) ∧ (s.btx.slot < 504) ∧ (s.consFills = false) ∧ (State.msgQ s.btx.fwd g = m :: r)) ∧
  (let s : State := w458;
    let g : Fin 2 := 1;
    let m := ms 0;
    (s.btx.on = true) ∧ (s.rf pgBTXC BTX_CRED_CRED (2 + g.val) ≠ 0) ∧ (s.btx.slot < 504) ∧ (s.consFills = false) ∧ (State.msgQ s.btx.fwd g = []) ∧
      (State.msgQ s.btx.msgOut g = [m])) ∧
  (let s : State := w459;
    let g : Fin 2 := 1;
    let p : Fin 9 := 3;
    let dest : Byte := 1;
    (s.laneReads p = true) ∧ (s.lane 1 p = 1) ∧ (dest.toNat = s.ringPos) ∧ ((State.msgQ s.btx.fifo g).length < 16)) ∧
  (let s : State := w460;
    let p : Fin 9 := 3;
    let dest : Byte := 2;
    let hops : Byte := 1;
    (s.laneReads p = true) ∧ (s.lane 1 p = 1) ∧ (dest.toNat ≠ s.ringPos) ∧ (hops.toNat + 1 < s.ringSize16)) ∧
  (let s : State := bS [] {};
    let p : Fin 9 := 3;
    let dest : Byte := 2;
    let hops : Byte := 2;
    (s.laneReads p = true) ∧ (s.lane 1 p = 1) ∧ (dest.toNat ≠ s.ringPos) ∧ (s.ringSize16 ≤ hops.toNat + 1)) ∧
  (let s : State := w462;
    let g : Fin 2 := 1;
    let m := ms 1;
    let r := [ms 1];
    (s.accepts (.gable g) (pgBTXC + 0x164 + 0x80 * g.val) = true) ∧ (State.msgQ s.btx.fifo g = m :: r)) := by
  and_intros <;> decide +kernel

theorem wit_LaneCalibration :
  (let s : State := gd (bS [] {});
    (s.crs.running = true) ∧ (s.phase = 3) ∧ (s.btx.calUsed = false) ∧ (s.linkUp = true)) ∧
  (let s : State := w464;
    (s.crs.running = true) ∧ (s.phase = 3) ∧ (s.btx.calUsed = false) ∧ (s.linkUp = true)) ∧
  (let s : State := gd (bS [] { recal := true });
    (s.crs.running = true) ∧ (s.phase = 3) ∧ (s.btx.calUsed = false) ∧ (s.linkUp = true)) ∧
  (let s : State := w465;
    (s.btx.shadowDue = true) ∧ (s.calPhase 0 = 1) ∧ (s.outLane 0 < 9)) ∧
  (let s : State := w466;
    let same := true;
    let ce : Fin 65536 := 9;
    let skew : BitVec 16 := -900;
    let ok := true;
    (s.calPhase 1 = 2) ∧ (s.outLane 1 < 9) ∧ (s.btx.own.verdict = 0) ∧ ((ok = true ↔ s.btx.rxPass = true ∧ same = true ∧ ce.val ≤ s.rf pgBTXL
      BTX_CAL_CFG_CE_MAX ∧ skew.toInt.natAbs ≤ 100 * s.rf pgBTXL BTX_CAL_CFG_SKEW_MAX))) ∧
  (let s : State := w467;
    let same := true;
    let ce : Fin 65536 := 9;
    let skew : BitVec 16 := -901;
    let ok := false;
    (s.calPhase 1 = 2) ∧ (s.outLane 1 < 9) ∧ (s.btx.own.verdict = 0) ∧ ((ok = true ↔ s.btx.rxPass = true ∧ same = true ∧ ce.val ≤ s.rf pgBTXL
      BTX_CAL_CFG_CE_MAX ∧ skew.toInt.natAbs ≤ 100 * s.rf pgBTXL BTX_CAL_CFG_SKEW_MAX))) ∧
  (let s : State := w468;
    let y := 0;
    (s.btx.accept = true) ∧ (s.calPhase 0 = 2) ∧ (s.outLane 0 < 9) ∧ (s.nextLane (s.outLane 0) = some y)) ∧
  (let s : State := w469;
    let n := 256;
    (n = (s.rf pgBTXC BTX_SFN_SFN + 2 ^ 32 - s.btx.shadowAt) % 2 ^ 32) ∧ (s.calPhase 0 = 2) ∧ (s.btx.accept = false) ∧ (s.btx.recal = false) ∧ (256 ≤
      n) ∧ (n < 2 ^ 31)) ∧
  (let s : State := w470;
    let n := 256;
    (n = (s.rf pgBTXC BTX_SFN_SFN + 2 ^ 32 - s.btx.shadowAt) % 2 ^ 32) ∧ (s.calPhase 0 = 2) ∧ (s.btx.accept = false) ∧ (s.btx.recal = false) ∧ (256 ≤
      n) ∧ (n < 2 ^ 31)) ∧
  (let s : State := bS [] { down := some 3 };
    let p := 3;
    (s.btx.down = some p) ∧ (p < 9) ∧ (s.lane 0 p = 1) ∧ (s.outLane 0 < 9) ∧ (s.outLane 0 ≠ p)) ∧
  (let s : State := bS [] {};
    (s.pwr.core = true)) := by
  and_intros <;> decide +kernel

theorem wit_EventSetWritesEventsAlone : pgCRS % 4096 = 0 ∧ pageOf pgCRS = some (PgKind.crs, 0) ∧ PgKind.crs.events = true ∧ run0.accepts (Src.gable
  0) (pgCRS + 28) = true ∧ run0.locked pgCRS = false ∧ pgIRQ % 4096 = 0 ∧ pageOf pgIRQ = some (PgKind.irq, 0) ∧ PgKind.irq.events = true ∧
  run0.accepts (Src.gable 0) (pgIRQ + 28) = true ∧ run0.locked pgIRQ = false ∧ w479.accepts (Src.gable 0) (pgCRS + 28) = true ∧ w479.locked pgCRS =
  true := by
  and_intros <;> decide +kernel

theorem wit_TimeSettingWaitsForItsCommit : w480.bit pgDMR DMR_STAT_COMMIT_PEND = true ∧ ((12388) = pgDMR + 96 ∨ (12388) = pgDMR + 100) ∧
  w480.accepts Src.host (12388) = true ∧ w481.bit pgDMR DMR_STAT_COMMIT_PEND = true ∧ ((12384) = pgDMR + 96 ∨ (12384) = pgDMR + 100) ∧ w481.accepts
  Src.host (12384) = true ∧ w482.bit pgDMR DMR_STAT_COMMIT_PEND = true ∧ w482.accepts Src.debug (pgDMR + 104) = true := by
  and_intros <;> decide +kernel

theorem wit_WfiEndsOnAnEnabledSource :
  (let s : State := w483;
    let g : Fin 2 := 1;
    let wait : Nat := 800000000;
    let n := 40;
    (s.gabLive = true) ∧ ((s.gable g).wfi = true) ∧ ((s.gable g).stopped = false) ∧ ((s.gable g).halted = false) ∧ (n < 256) ∧ (irqExists n = true) ∧
      (s.rf (irqPage g n) IRQ_SRC_STATE n = srcPending) ∧ (s.bit (irqPage g n) IRQ_SRC_EN n = true) ∧ ((32 ≤ n → s.rf (irqPage g n) IRQ_SRC_TARGET
      n = g.val)) ∧ (wait ≤ (s.gable g).wdLeft)) ∧
  (let s : State := w484;
    let g : Fin 2 := 0;
    (s.gabLive = true) ∧ ((s.gable g).wfi = true) ∧ ((s.gable g).stopped = false) ∧ ((s.gable g).halted = false) ∧ ((∀ n, n < 256 → irqExists n = true
      → s.rf (irqPage g n) IRQ_SRC_STATE n = srcPending → s.bit (irqPage g n) IRQ_SRC_EN n = true → 32 ≤ n ∧ s.rf (irqPage g n) IRQ_SRC_TARGET n ≠
      g.val))) := by
  and_intros <;> decide +kernel

/-! ### Arrays: operands of hundreds of words, and tables of moduli -/

/-- A register of the modulus table that no write has touched holds no VALID entry. -/
theorem mctl_default (b : Fin 64) (e : Fin 96) : fieldGet (regDefault (pgSLT b + (0x410 + 32 * e.val))) 30 2 = 0 := by
  have ho : 0x410 + 32 * e.val < 0x1000 := by omega
  have hm : (pgSLT b + (0x410 + 32 * e.val)) % 0x1000 = 0x410 + 32 * e.val := by simp only [pgSLT]; omega
  unfold regDefault
  rw [pageOf_slt b _ ho]
  simp only [hm, if_neg (show ¬ 0x410 + 32 * e.val < 0x40 by omega)]
  rw [show rowsOf .slt b.val = rowsOf .slt 0 from rfl]
  clear ho hm; revert e; decide +kernel

/-- Every VALID modulus is in range where one entry alone has been written, and that one is in range. -/
theorem modulusWf_one (s : State)
    (hk : (s.regs.all fun r => r.1 == pgSLT 63 + 0x410 || decide ((r.1 - 0x103000) % 0x4000 < 0x410)
      || decide (0x1000 ≤ (r.1 - 0x103000) % 0x4000) || decide (r.1 < 0x103000) || decide (0x203000 ≤ r.1)) = true)
    (hq : 2 ^ 20 < s.modQ 63 0 ∧ s.modQ 63 0 < 2 ^ 36) : s.modulusWf := by
  intro b e hb he h2
  by_cases h : b = 63 ∧ e = 0
  · rw [h.1, h.2]; exact hq
  · exfalso
    have hn : ∀ r ∈ s.regs, r.1 ≠ pgSLT b + (0x410 + 32 * e) := by
      intro r hr heq
      have := (List.all_eq_true.mp hk) r hr
      simp only [Bool.or_eq_true, beq_iff_eq, decide_eq_true_eq, heq, pgSLT] at this
      omega
    have hg : ∀ (m : SMap Word32), (∀ r ∈ m, r.1 ≠ pgSLT b + (0x410 + 32 * e)) →
        smGet regDefault m (pgSLT b + (0x410 + 32 * e)) = regDefault (pgSLT b + (0x410 + 32 * e)) := by
      intro m
      induction m with
      | nil => intro _; rfl
      | cons a r ih =>
        intro ha
        rw [smGet]
        split
        · rename_i hx; exact absurd hx (ha a (by simp))
        · exact ih fun r hr => ha r (by simp [hr])
    have ha : SLT_MCTL_STATE.addr e = 0x410 + 32 * e := by simp [Fld.addr, SLT_MCTL_STATE]; omega
    have h0 := mctl_default ⟨b, hb⟩ ⟨e, he⟩
    have hs : SLT_MCTL_STATE.sh e = 30 := by simp [Fld.sh, SLT_MCTL_STATE]
    rw [State.rf, ha, hs, State.reg, hg _ hn, show SLT_MCTL_STATE.width = 2 from rfl, h0] at h2
    exact absurd h2 (by decide)

/-- All windows of batten 63 of one word, which its spar owns. -/
def oneW (l : List (Nat × Fld × Nat × Nat)) : State :=
  sets (sparS 63) (((List.range 8).map fun w => (pgBST 63, BST_CW_LEN_LEN, 1, w)) ++ l)

theorem winAddr_one (s : State) (b w k : Nat) (h : s.rf (pgBST b) BST_CW_LEN_LEN w = 1) : s.winAddr b w k = s.winAddr b w 0 := by
  simp [State.winAddr, h, Nat.mod_one]

/-- Any number of words may be read through a window of one clean word. -/
theorem operand_one (s : State) (b w : Nat) (adv : Bool) (k n : Nat) (h : s.rf (pgBST b) BST_CW_LEN_LEN w = 1 ∧
    s.winUser b w ownSpar = true ∧ s.stDenied b (s.winAddr b w 0) ownSpar false (s.drives b) = none ∧
    (s.stWord b (s.winAddr b w 0)).err = .clean) : ∃ ws, (s.operandWords b w adv k n []).2 = some ws := by
  obtain ⟨t, ht, -⟩ := readWords_clean s b w k n h.2.1 fun j _ => by rw [winAddr_one s b w _ h.1]; exact h.2.2
  exact ⟨_, by rw [State.operandWords, ht]⟩

/-- Any words may be written through a window of one word. -/
theorem write_one (s : State) (b w k : Nat) (vs : List (BitVec 72)) (h : s.rf (pgBST b) BST_CW_LEN_LEN w = 1 ∧
    s.winUser b w ownSpar = true ∧ s.stDenied b (s.winAddr b w 0) ownSpar true (s.drives b) = none) :
    (s.writeWords b w k vs).2 = true :=
  writeWords_owned s b w h.2.1 (fun j => by rw [winAddr_one s b w _ h.1]; exact h.2.2) k vs

/-- Datapath fields of the operations on register planes, with their OP code. -/
def ldD : BitVec 96 := op 0x14 [(84, 8), (8, 31)]
def psD : BitVec 96 := op 0x15 [(84, 8), (8, 31)]
def drD : BitVec 96 := op 0x13 [(84, 8), (80, 4), (0, 1)]
def plD (code opt : Nat) : BitVec 96 := op code [(84, 8), (80, opt), (8, 1), (16, 31), (24, 30)]
def ntD (code : Nat) : BitVec 96 := op code [(84, 1), (80, 0)]
def macD : BitVec 96 := op 0x12 [(84, 8), (32, 1), (8, 31)]
/-- Batten 63 at a word with these fields, its windows of one word; an integer mode; a VALID modulus in entry 0. -/
def atOne (d : BitVec 96) (l : List (Nat × Fld × Nat × Nat)) : State := onOp (oneW l) 63 d
def intS : State := atOne drD [(pgSLT 63, SLT_MODE_MODE, 1, 3)]
def modOne (d : BitVec 96) : State :=
  atOne d [(pgSLT 63, SLT_Q_LO_Q, 0x100001, 0), (pgSLT 63, SLT_MCTL_STATE, 2, 0), (pgSLT 63, SLT_MCTL_LOGN, 14, 0)]

theorem wit_SlateTablesAndLoads_pload : (atOne ldD []).issues 63 ldD 0x14 (arraysOf (dpAM ldD)) { modes := .mod36 } = true ∧
    ∃ ws, (((atOne ldD []).arrQueue 63 (arraysOf (dpAM ldD)) []).operandWords 63 (dpWA ldD) (dpAA ldD)
      ((atOne ldD []).dpOffset 63 ldD) 512 []).2 = some ws :=
  ⟨by decide +kernel, operand_one _ _ _ _ _ _ (by decide +kernel)⟩

theorem wit_SlateTablesAndLoads_pstore : (atOne psD []).issues 63 psD 0x15 (arraysOf (dpAM psD)) { modes := .mod36 } = true ∧
    ∀ ws, (((atOne psD []).arrQueue 63 (arraysOf (dpAM psD)) []).writeWords 63 (dpWD psD) ((atOne psD []).dpOffset 63 psD) ws).2 = true :=
  ⟨by decide +kernel, fun ws => write_one _ _ _ _ ws (by decide +kernel)⟩

theorem wit_SlateTablesAndLoads_drain : intS.issues 63 drD 0x13 (arraysOf (dpAM drD)) { modes := .int } = true ∧ dpOPT drD % 8 ≤ 4 ∧
    ∀ ws, ((((intS.arrQueue 63 (arraysOf (dpAM drD)) []).drainOut 63 drD).1).writeWords 63 (dpWD drD) (intS.dpOffset 63 drD) ws).2 = true :=
  ⟨by decide +kernel, by decide +kernel, fun ws => write_one _ _ _ _ ws (by decide +kernel)⟩

/-- A plane operation may be issued at `modOne`, where its modulus is VALID. -/
def planeIssues (d : BitVec 96) (code : Nat) : Bool :=
  (modOne d).modValid 63 (immEntry d) &&
    (modOne d).issues 63 d code (arraysOf (dpAM d)) { modes := .mod36, entries := [immEntry d] }

theorem modOne_wf (d : BitVec 96) (hk : ((modOne d).regs.all fun r => r.1 == pgSLT 63 + 0x410 || decide ((r.1 - 0x103000) % 0x4000 < 0x410)
      || decide (0x1000 ≤ (r.1 - 0x103000) % 0x4000) || decide (r.1 < 0x103000) || decide (0x203000 ≤ r.1)) = true)
    (hq : 2 ^ 20 < (modOne d).modQ 63 0 ∧ (modOne d).modQ 63 0 < 2 ^ 36) : (modOne d).modulusWf :=
  modulusWf_one _ hk hq

theorem wit_PlaneOperations : (∀ c ∈ [0x16, 0x17, 0x18, 0x1B, 0x1C], planeIssues (plD c 0) c = true) ∧
    (∀ c ∈ [0x19, 0x1A], planeIssues (plD c 0) c = true ∧ dpOPT (plD c 0) % 2 = 0 ∧ planeIssues (plD c 1) c = true ∧ dpOPT (plD c 1) % 2 = 1) ∧
    (modOne (plD 0x16 0)).modulusWf ∧ (modOne (plD 0x19 0)).modulusWf ∧ (modOne (plD 0x19 1)).modulusWf ∧
    ∃ ws, (((modOne (plD 0x19 1)).arrQueue 63 (arraysOf (dpAM (plD 0x19 1))) [immEntry (plD 0x19 1)]).operandWords 63 (dpWB (plD 0x19 1))
      (dpAB (plD 0x19 1)) ((modOne (plD 0x19 1)).dpOffset 63 (plD 0x19 1)) 512 []).2 = some ws :=
  ⟨by decide +kernel, by decide +kernel, modOne_wf _ (by decide +kernel) (by decide +kernel), modOne_wf _ (by decide +kernel) (by decide +kernel),
    modOne_wf _ (by decide +kernel) (by decide +kernel), operand_one _ _ _ _ _ _ (by decide +kernel)⟩

theorem wit_Transforms : (modOne (ntD 0x1D)).modulusWf ∧ (modOne (ntD 0x1E)).modulusWf ∧ ∀ c ∈ [0x1D, 0x1E],
    (modOne (ntD c)).modValid 63 (immEntry (ntD c)) = true ∧ dpAM (ntD c) ≠ 0 ∧ 5 < 2 ^ (14 + dpOPT (ntD c) % 4) ∧
    (modOne (ntD c)).issues 63 (ntD c) c [0, 1, 2, 3]
      { modes := .mod36, entries := [immEntry (ntD c)], ntt := some (14 + dpOPT (ntD c) % 4, immD (ntD c)) } = true :=
  ⟨modOne_wf _ (by decide +kernel) (by decide +kernel), modOne_wf _ (by decide +kernel) (by decide +kernel), by decide +kernel⟩

theorem wit_ValidModuliStayInRange : (modOne 0).modulusWf ∧ ∃ t, step (modOne 0) = .next t :=
  ⟨modOne_wf _ (by decide +kernel) (by decide +kernel), _, rfl⟩

theorem wit_MultiplyAccumulate_mod36 : (modOne macD).modulusWf ∧ (modOne macD).arrMode (arrNo 63 ((arraysOf (dpAM macD)).headD 0)) = 0 ∧
    (modOne macD).issues 63 macD 0x12 (arraysOf (dpAM macD)) { modes := .gang, entries := (List.range 32).map ((modOne macD).colEntry 63) } = true ∧
    (∀ j, j < 32 → (modOne macD).modValid 63 ((modOne macD).colEntry 63 j) = true) ∧
    ∃ wa wb, let u := (modOne macD).arrQueue 63 (arraysOf (dpAM macD)) ((List.range 32).map ((modOne macD).colEntry 63))
      (u.operandWords 63 (dpWA macD) (dpAA macD) ((modOne macD).dpOffset 63 macD) 32 []).2 = some wa ∧
      ((u.operandWords 63 (dpWA macD) (dpAA macD) ((modOne macD).dpOffset 63 macD) 32 []).1.operandWords
        63 (dpWB macD) (dpAB macD) ((modOne macD).dpOffset 63 macD) 32 []).2 = some wb :=
  ⟨modOne_wf _ (by decide +kernel) (by decide +kernel), by decide +kernel, by decide +kernel, by decide +kernel,
    (List.range 32).map fun _ => 0, (List.range 32).map fun _ => 0, by decide +kernel, by decide +kernel⟩

/-! ### Frames: commands that answer a next state -/

theorem wit_HeaderFrames :
    (∀ (src : Src) (v : Word32), ∃ t, exec (.evtSet src pgCRS v) State.reset = .next t) ∧
    (pgCRS % 0x1000 = 0 ∧ pageOf pgCRS ≠ none) ∧
    (∀ (src : Src), ∃ t, exec (.enable src pgCRS) State.reset = .next t) ∧
    (∃ t, exec (.drainComplete pgCRS) State.reset = .next t) ∧
    (∃ t, exec (.startComplete pgCRS) State.reset = .next t) ∧
    (∃ t, exec (.srstDone pgCRS) State.reset = .next t) ∧
    (∃ t, exec (.freezeEffect pgCRS) State.reset = .next t) ∧
    (∀ (src : Src) (n : Fin 256), ∃ t, exec (.irqComplete src n) State.reset = .next t) ∧
    (∀ (src : Src) (n : Fin 16), ∃ t, exec (.irqSet src n) State.reset = .next t) ∧
    (∀ (src : Src) (n : Fin 256) (v : Word32), ∃ t, exec (.irqSrcWrite src n v) State.reset = .next t) ∧
    (∀ (src : Src), ∃ t, exec (.irqClaim src) State.reset = .next t) ∧
    (∀ (src : Src) (addr : Fin 0x4000000), ∃ t, exec (.oversizeRequest src addr) State.reset = .next t) ∧
    (∀ (src : Src) (reg : Fin 0x80000) (wr : Option Word32) (up : StErr), ∃ t, exec (.storeWindowAccess src reg wr up) State.reset = .next t) ∧
    (∀ (src : Src) (g : Fin 2) (w : Fin 16384) (v : Word32), ∃ t, exec (.controlWordCommit src g w v) State.reset = .next t) :=
  ⟨fun _ _ => ⟨_, rfl⟩, by decide, fun _ => ⟨_, rfl⟩, ⟨_, rfl⟩, ⟨_, rfl⟩, ⟨_, rfl⟩, ⟨_, rfl⟩, fun _ _ => ⟨_, rfl⟩, fun _ _ => ⟨_, rfl⟩, fun _ _
   _ => ⟨_, rfl⟩, fun _ => ⟨_, rfl⟩, fun _ _ => ⟨_, rfl⟩, fun _ _ _ _ => ⟨_, rfl⟩, fun _ _ _ _ => ⟨_, rfl⟩⟩

theorem wit_SupplyFrames :
    (∀ (stat : BitVec 16) (lc : BitVec 8) (nsS nsL : Bool), ∃ t, exec (.testDone stat lc nsS nsL) State.reset = .next t) ∧
    (∀ (why : Option Src), ∃ t, exec (.lampTest why) State.reset = .next t) ∧
    (∀ (cap data : List Bool), ∃ t, exec (.extest cap data) State.reset = .next t) ∧
    (∀ (out : Bool), ∃ t, exec (.j7Session out) State.reset = .next t) ∧
    (∀ (src : Src) (word : Fin 1024), ∃ t, exec (.burn src word) State.reset = .next t) ∧
    (∀ (src : Src) (v : Word32), ∃ t, exec (.flsLock src v) State.reset = .next t) ∧
    (∀ (res : List BitBurn), ∃ t, exec (.flsCmdDone res) State.reset = .next t) ∧
    (∀ (src : Src), ∃ t, exec (.erase src) State.reset = .next t) ∧
    (∀ (fail : Bool), ∃ t, exec (.flashCommandDone fail) State.reset = .next t) ∧
    (∀ (fail : Bool), ∃ t, exec (.recoveryWrite fail) State.reset = .next t) ∧
    (∃ t, exec .restart State.reset = .next t) ∧
    (∃ t, exec .oscBack State.reset = .next t) ∧
    (∀ (mv : BitVec 16), ∃ t, exec (.cell mv) State.reset = .next t) ∧
    (∀ (cell : Bool), ∃ t, exec (.lostPwr cell) State.reset = .next t) ∧
    (∃ t, exec .dormerStop State.reset = .next t) ∧
    (∀ (src : Src) (edges : Fin 32768), ∃ t, exec (.dmrSnap src edges) State.reset = .next t) ∧
    (∀ (src : Src) (go : Bool), ∃ t, exec (.dmrCommit src go) State.reset = .next t) ∧
    (∀ (k : Fin 66) (raw : BitVec 16), ∃ t, exec (.sensorUpdate k raw) State.reset = .next t) ∧
    (∀ (k : Fin 73), ∃ t, exec (.snsReadingInvalid k) State.reset = .next t) ∧
    (∃ t, exec .inUv State.reset = .next t) ∧
    (∃ t, exec .j1Clear State.reset = .next t) ∧
    (∃ t, exec .inputValid State.reset = .next t) ∧
    (∀ (src : Src) (v : Word32), ∃ t, exec (.pmbTransaction src v) State.reset = .next t) ∧
    (∀ (st : Fin 5) (data : Word32), ∃ t, exec (.pmbDone st data) State.reset = .next t) ∧
    (∀ (rs : List (Fin 7 × BitVec 16 × BitVec 16)), ∃ t, exec (.pmbusPoll rs) State.reset = .next t) ∧
    (∃ t, exec .u9Timeout State.reset = .next t) ∧
    (∀ (src : Src) (v : Word32), ∃ t, exec (.pwrAdv src v) State.reset = .next t) ∧
    (∀ (b : Fin 64), ∃ t, exec (.trip b) State.reset = .next t) ∧
    (∀ (r : Fin 6), ∃ t, exec (.powerGoodLoss r) State.reset = .next t) ∧
    (∃ t, exec .stepTmo State.reset = .next t) ∧
    (∃ t, exec .hbmOff State.reset = .next t) ∧
    (∀ (by' : OffBy), ∃ t, exec (.offRequest by') State.reset = .next t) ∧
    (∀ (src : Src), ∃ t, exec (.idleRequest src) State.reset = .next t) ∧
    (∀ (mo plug : Bool), ∃ t, exec (.j3Plug mo plug) State.reset = .next t) ∧
    (∃ t, exec .laserEnable State.reset = .next t) ∧
    (∀ (b : WarmBy), ∃ t, exec (.warmReset b) State.reset = .next t) :=
  ⟨fun _ _ _ _ => ⟨_, rfl⟩, fun _ => ⟨_, rfl⟩, fun _ _ => ⟨_, rfl⟩, fun _ => ⟨_, rfl⟩, fun _ _ => ⟨_, rfl⟩, fun _ _ => ⟨_, rfl⟩, fun _ => ⟨_,
   rfl⟩, fun _ => ⟨_, rfl⟩, fun _ => ⟨_, rfl⟩, fun _ => ⟨_, rfl⟩, ⟨_, rfl⟩, ⟨_, rfl⟩, fun _ => ⟨_, rfl⟩, fun _ => ⟨_, rfl⟩, ⟨_, rfl⟩, fun _ _
   => ⟨_, rfl⟩, fun _ _ => ⟨_, rfl⟩, fun _ _ => ⟨_, rfl⟩, fun _ => ⟨_, rfl⟩, ⟨_, rfl⟩, ⟨_, rfl⟩, ⟨_, rfl⟩, fun _ _ => ⟨_, rfl⟩, fun _ _ => ⟨_,
   rfl⟩, fun _ => ⟨_, rfl⟩, ⟨_, rfl⟩, fun _ _ => ⟨_, rfl⟩, fun _ => ⟨_, rfl⟩, fun _ => ⟨_, rfl⟩, ⟨_, rfl⟩, ⟨_, rfl⟩, fun _ => ⟨_, rfl⟩, fun _
   => ⟨_, rfl⟩, fun _ _ => ⟨_, rfl⟩, ⟨_, rfl⟩, fun _ => ⟨_, rfl⟩⟩

theorem wit_HostFrames :
    (∀ (src : Src) (slot : Fin 2) (fn : Fin 16), ∃ t, exec (.submit src slot fn) State.reset = .next t) ∧
    (∀ (c : Fin 8) (e : GutEnd), ∃ t, exec (.hostToObject c e) State.reset = .next t) ∧
    (∀ (c : Fin 8) (e : GutEnd) (ups : List (Fin 262144 × StErr)), ∃ t, exec (.storeToHost c e ups) State.reset = .next t) ∧
    (∀ (src : Src) (c : Fin 8) (tail : Fin 4096), ∃ t, exec (.gutterDoorbell src c tail) State.reset = .next t) ∧
    (∀ (src : Src) (fn : Fin 16) (d : Fin 64), ∃ t, exec (.bind src fn d) State.reset = .next t) ∧
    (∀ (src : Src) (w : Fin 8) (valid : Bool) (h : Fin (2 ^ 24)), ∃ t, exec (.windowMap src w valid h) State.reset = .next t) ∧
    (∀ (src : Src) (v : Fin 8) (status : Fin 65536), ∃ t, exec (.mbDone src v status) State.reset = .next t) ∧
    (∀ (v : Fin 8) (code : Fin 256), ∃ t, exec (.vmbDoor v code) State.reset = .next t) ∧
    (∀ (addr : Fin (2 ^ 34)) (len : Nat) (wr : Option (List Byte)), ∃ t, exec (.bar2Access addr len wr) State.reset = .next t) ∧
    (∀ (fn : Fin 9), ∃ t, exec (.cqBacklogWrite fn) State.reset = .next t) ∧
    (∃ t, exec .perst State.reset = .next t) ∧
    (∀ (up : Bool) (width : Fin 17) (gen : Fin 7) (flit : Bool), ∃ t, exec (.linkChg up width gen flit) State.reset = .next t) ∧
    (∀ (op : CfgOp), ∃ t, exec (.configRequest op) State.reset = .next t) :=
  ⟨fun _ _ _ => ⟨_, rfl⟩, fun _ _ => ⟨_, rfl⟩, fun _ _ _ => ⟨_, rfl⟩, fun _ _ _ => ⟨_, rfl⟩, fun _ _ _ => ⟨_, rfl⟩, fun _ _ _ _ => ⟨_, rfl⟩,
   fun _ _ _ => ⟨_, rfl⟩, fun _ _ => ⟨_, rfl⟩, fun _ _ _ => ⟨_, rfl⟩, fun _ => ⟨_, rfl⟩, ⟨_, rfl⟩, fun _ _ _ _ => ⟨_, rfl⟩, fun _ => ⟨_, rfl⟩⟩

theorem wit_CourseFrames :
    (∀ (uj : Fin (2 ^ 31)) (valid : Bool), ∃ t, exec (.tick uj valid) State.reset = .next t) ∧
    (∃ t, exec .syncLost State.reset = .next t) ∧
    (∀ (w : BitVec 48) (phase : BitVec 16) (gap : Nat), ∃ t, exec (.syncMark w phase gap) State.reset = .next t) ∧
    (∃ t, exec .syncMarkEmit State.reset = .next t) ∧
    (∃ t, exec .planDone State.reset = .next t) ∧
    (∃ t, exec .voltageRamp State.reset = .next t) ∧
    (∀ (actual : Fin 65536), ∃ t, exec (.selectionPoint actual) State.reset = .next t) ∧
    (∃ t, exec .runPhaseStart State.reset = .next t) ∧
    (∀ (src : Src) (v : Word32), ∃ t, exec (.nextLenArm src v) State.reset = .next t) ∧
    (∃ t, exec .resvStart State.reset = .next t) ∧
    (∃ t, exec .resvLapse State.reset = .next t) ∧
    (∀ (src : Src) (slot : Fin 2) (fn prio : Fin 16), ∃ t, exec (.priorityChange src slot fn prio) State.reset = .next t) ∧
    (∀ (src : Src) (slot : Fin 2), ∃ t, exec (.create src slot) State.reset = .next t) ∧
    (∀ (src : Src) (slot : Fin 2), ∃ t, exec (.free src slot) State.reset = .next t) ∧
    (∀ (src : Src) (slot : Fin 2), ∃ t, exec (.query src slot) State.reset = .next t) ∧
    (∀ (h : Fin (2 ^ 24)) (o : Bool), ∃ t, exec (.pagerPoison h o) State.reset = .next t) ∧
    (∃ t, exec .standingGrantApply State.reset = .next t) ∧
    (∃ t, exec .pageOut State.reset = .next t) ∧
    (∃ t, exec .pageIn State.reset = .next t) ∧
    (∀ (ok : Bool), ∃ t, exec (.pageMove ok) State.reset = .next t) ∧
    (∃ t, exec .otRepaired State.reset = .next t) :=
  ⟨fun _ _ => ⟨_, rfl⟩, ⟨_, rfl⟩, fun _ _ _ => ⟨_, rfl⟩, ⟨_, rfl⟩, ⟨_, rfl⟩, ⟨_, rfl⟩, fun _ => ⟨_, rfl⟩, ⟨_, rfl⟩, fun _ _ => ⟨_, rfl⟩, ⟨_,
   rfl⟩, ⟨_, rfl⟩, fun _ _ _ _ => ⟨_, rfl⟩, fun _ _ => ⟨_, rfl⟩, fun _ _ => ⟨_, rfl⟩, fun _ _ => ⟨_, rfl⟩, fun _ _ => ⟨_, rfl⟩, ⟨_, rfl⟩, ⟨_,
   rfl⟩, ⟨_, rfl⟩, fun _ => ⟨_, rfl⟩, ⟨_, rfl⟩⟩

theorem wit_StoreFrames :
    (∀ (b : Fin 64), ∃ t, exec (.fenced b) State.reset = .next t) ∧
    (∀ (src : Src) (b : Fin 64), ∃ t, exec (.fenceRequest src b) State.reset = .next t) ∧
    (∀ (b : Fin 64), ∃ t, exec (.correctionWriteBack b) State.reset = .next t) ∧
    (∀ (src : Src) (b : Fin 64) (bank : Fin 32) (v : Word32), ∃ t, exec (.repairWrite src b bank v) State.reset = .next t) ∧
    (∀ (b : Fin 64) (bank : Fin 32), ∃ t, exec (.handoverComplete b bank) State.reset = .next t) ∧
    (∀ (b : Fin 64) (faults : List (Nat × Nat)), ∃ t, exec (.marchDone b faults) State.reset = .next t) ∧
    (∀ (b : Fin 64) (a : Fin 4), ∃ t, exec (.modeChange b a) State.reset = .next t) ∧
    (∀ (b : Fin 64) (a : Fin 4), ∃ t, exec (.modeChangeDone b a) State.reset = .next t) ∧
    (∀ (b : Fin 64) (e : Fin 96), ∃ t, exec (.modValid b e) State.reset = .next t) ∧
    (∀ (src : Src) (b : Fin 64) (e : Fin 96) (v : Word32), ∃ t, exec (.modulusEntryCheck src b e v) State.reset = .next t) ∧
    (∀ (b : Fin 64) (a : Fin 4) (busy : Nat), ∃ t, exec (.arrayOperationDone b a busy) State.reset = .next t) :=
  ⟨fun _ => ⟨_, rfl⟩, fun _ _ => ⟨_, rfl⟩, fun _ => ⟨_, rfl⟩, fun _ _ _ _ => ⟨_, rfl⟩, fun _ _ => ⟨_, rfl⟩, fun _ _ => ⟨_, rfl⟩, fun _ _ => ⟨_,
   rfl⟩, fun _ _ => ⟨_, rfl⟩, fun _ _ => ⟨_, rfl⟩, fun _ _ _ _ => ⟨_, rfl⟩, fun _ _ _ => ⟨_, rfl⟩⟩

theorem wit_SparFrames :
    (∀ (ix : Fin 74) (bad : Bool), ∃ t, exec (.seqNext ix bad) State.reset = .next t) ∧
    (∀ (ix : Fin 74), ∃ t, exec (.waitTimeout ix) State.reset = .next t) ∧
    (∀ (ix : Fin 74) (bad : Bool), ∃ t, exec (.seqHalt ix bad) State.reset = .next t) ∧
    (∀ (ix : Fin 74) (bad : Bool), ∃ t, exec (.endstint ix bad) State.reset = .next t) ∧
    (∀ (ix : Fin 74) (d : BitVec 96), ∃ t, exec (.aluNop ix d) State.reset = .next t) ∧
    (∀ (ix : Fin 74) (d : BitVec 96), ∃ t, exec (.getp ix d) State.reset = .next t) ∧
    (∀ (ix : Fin 72), ∃ t, exec (.nop ix) State.reset = .next t) ∧
    (∀ (ix : Fin 72) (d : BitVec 96), ∃ t, exec (.engineMicroOperation ix d) State.reset = .next t) ∧
    (∀ (b : Fin 64) (d : BitVec 96), ∃ t, exec (.wset b d) State.reset = .next t) ∧
    (∀ (b : Fin 64) (d : BitVec 96), ∃ t, exec (.storeRepair b d) State.reset = .next t) ∧
    (∀ (b : Fin 64) (d : BitVec 96) (up : StErr), ∃ t, exec (.srd b d up) State.reset = .next t) ∧
    (∀ (b : Fin 64) (d : BitVec 96), ∃ t, exec (.swr b d) State.reset = .next t) ∧
    (∀ (ix : Fin 72) (d : BitVec 96), ∃ t, exec (.csTest ix d) State.reset = .next t) ∧
    (∀ (src : Src) (ix : Fin 72) (v : Word32), ∃ t, exec (.park src ix v) State.reset = .next t) ∧
    (∀ (ix : Fin 72), ∃ t, exec (.parked ix) State.reset = .next t) ∧
    (∀ (src : Src) (ix : Fin 72) (v : Word32), ∃ t, exec (.sprRun src ix v) State.reset = .next t) ∧
    (∀ (src : Src) (ix : Fin 72) (v : Word32) (left : Nat), ∃ t, exec (.attn src ix v left) State.reset = .next t) ∧
    (∀ (src : Src) (ix : Fin 72) (v : Word32), ∃ t, exec (.csCommit src ix v) State.reset = .next t) :=
  ⟨fun _ _ => ⟨_, rfl⟩, fun _ => ⟨_, rfl⟩, fun _ _ => ⟨_, rfl⟩, fun _ _ => ⟨_, rfl⟩, fun _ _ => ⟨_, rfl⟩, fun _ _ => ⟨_, rfl⟩, fun _ => ⟨_, rfl⟩,
   fun _ _ => ⟨_, rfl⟩, fun _ _ => ⟨_, rfl⟩, fun _ _ => ⟨_, rfl⟩, fun _ _ _ => ⟨_, rfl⟩, fun _ _ => ⟨_, rfl⟩, fun _ _ => ⟨_, rfl⟩, fun _ _ _ => ⟨_, rfl⟩, fun _ => ⟨_, rfl⟩,
   fun _ _ _ => ⟨_, rfl⟩, fun _ _ _ _ => ⟨_, rfl⟩, fun _ _ _ => ⟨_, rfl⟩⟩

theorem wit_SlateFrames :
    (∀ (b : Fin 64) (d : BitVec 96), ∃ t, exec (.clear b d) State.reset = .next t) ∧
    (∀ (b : Fin 64) (d : BitVec 96) (par : ArrPar), ∃ t, exec (.drain b d par) State.reset = .next t) ∧
    (∀ (b : Fin 64) (d : BitVec 96) (ups : List StErr), ∃ t, exec (.rqload b d ups) State.reset = .next t) ∧
    (∀ (b : Fin 64) (d : BitVec 96) (ups : List StErr), ∃ t, exec (.modload b d ups) State.reset = .next t) :=
  ⟨fun _ _ => ⟨_, rfl⟩, fun _ _ _ => ⟨_, rfl⟩, fun _ _ _ => ⟨_, rfl⟩, fun _ _ _ => ⟨_, rfl⟩⟩

theorem wit_EngineFrames :
    (∀ (m : Mover), ∃ t, exec (.acquire m) State.reset = .next t) ∧
    (∀ (m : Mover), ∃ t, exec (.post m) State.reset = .next t) ∧
    (∀ (p : Fin 1024), ∃ t, exec (.postApply p) State.reset = .next t) ∧
    (∀ (recv issuer : Fin 256) (cls : Fin 8) (n : Fin 4) (ch : Fin 32), ∃ t, exec (.splitTimeout recv issuer cls n ch) State.reset = .next t) ∧
    (∀ (recv issuer : Fin 256) (cls : Fin 8) (seq : Fin 4) (half : Fin 2) (hbm : Option (Fin 4 × Fin 32)) (eng : Option (Fin 256)) (pair : Option (Fin 1024)) (rivals : List (Fin 256 × Fin 8)),
      ∃ t, exec (.beatPairArrival recv issuer cls seq half hbm eng pair rivals) State.reset = .next t) ∧
    (∀ (e : Fin 256), ∃ t, exec (.swayWaitEnd e) State.reset = .next t) ∧
    (∀ (n : Fin 4) (ce : Nat) (ue : Option (Fin 1310720)), ∃ t, exec (.pillar n ce ue) State.reset = .next t) ∧
    (∀ (y : Fin 4), ∃ t, exec (.ksDescriptor y) State.reset = .next t) ∧
    (∀ (y : Fin 4), ∃ t, exec (.preStages y) State.reset = .next t) ∧
    (∀ (y : Fin 4) (bad : Bool), ∃ t, exec (.keyStream y bad) State.reset = .next t) ∧
    (∀ (y : Fin 4), ∃ t, exec (.postStages y) State.reset = .next t) ∧
    (∀ (y : Fin 4), ∃ t, exec (.outputWrite y) State.reset = .next t) ∧
    (∀ (src : Src) (y : Fin 4) (v : Word32), ∃ t, exec (.kat src y v) State.reset = .next t) ∧
    (∀ (y : Fin 4) (fail : BitVec 32), ∃ t, exec (.katDone y fail) State.reset = .next t) :=
  ⟨fun _ => ⟨_, rfl⟩, fun _ => ⟨_, rfl⟩, fun _ => ⟨_, rfl⟩, fun _ _ _ _ _ => ⟨_, rfl⟩, fun _ _ _ _ _ _ _ _ _ => ⟨_, rfl⟩, fun _ => ⟨_, rfl⟩, fun
   _ _ _ => ⟨_, rfl⟩, fun _ => ⟨_, rfl⟩, fun _ => ⟨_, rfl⟩, fun _ _ => ⟨_, rfl⟩, fun _ => ⟨_, rfl⟩, fun _ => ⟨_, rfl⟩, fun _ _ _ => ⟨_, rfl⟩,
   fun _ _ => ⟨_, rfl⟩⟩

theorem wit_StackFrames :
    (∀ (n : Fin 4) (errs : List (Fin 68 × Byte)) (planReads : Bool), ∃ t, exec (.hbmRead n 5 errs planReads) State.reset = .next t) ∧
    (∀ (n : Fin 4) (first : Fin 64) (bs : List Byte) (errs : List (Fin 68 × Byte)), ∃ t, exec (.partialWrite n 5 first bs errs) State.reset = .next t) ∧
    (∀ (n : Fin 4) (pc : Fin 64) (kind : Fin 4), ∃ t, exec (.parity n pc kind) State.reset = .next t) ∧
    (∀ (n : Fin 4) (pc : Fin 64), ∃ t, exec (.lane n pc) State.reset = .next t) ∧
    (∀ (n : Fin 4) (pc : Fin 64) (lane : Lane) (ok : Bool), ∃ t, exec (.repair n pc lane ok) State.reset = .next t) ∧
    (∀ (n : Fin 4), ∃ t, exec (.stackLost n) State.reset = .next t) ∧
    (∀ (n : Fin 4), ∃ t, exec (.classDown n) State.reset = .next t) ∧
    (∀ (n : Fin 4) (v : Bool) (c : BitVec 16), ∃ t, exec (.tempReading n v c) State.reset = .next t) ∧
    (∀ (src : Src) (n : Fin 4), ∃ t, exec (.trainStart src n) State.reset = .next t) ∧
    (∀ (src : Src) (n : Fin 4), ∃ t, exec (.abort src n) State.reset = .next t) ∧
    (∀ (n : Fin 4) (fail : BitVec 32) (lanes : List (Fin 32 × Lane)), ∃ t, exec (.trainPhaseDone n fail lanes) State.reset = .next t) :=
  ⟨fun _ _ _ => ⟨_, rfl⟩, fun _ _ _ _ => ⟨_, rfl⟩, fun _ _ _ => ⟨_, rfl⟩, fun _ _ => ⟨_, rfl⟩, fun _ _ _ _ => ⟨_, rfl⟩, fun _ => ⟨_, rfl⟩, fun
   _ => ⟨_, rfl⟩, fun _ _ _ => ⟨_, rfl⟩, fun _ _ => ⟨_, rfl⟩, fun _ _ => ⟨_, rfl⟩, fun _ _ _ => ⟨_, rfl⟩⟩

theorem wit_GableFrames :
    (∀ (src : Src) (g : Fin 2), ∃ t, exec (.stop src g) State.reset = .next t) ∧
    (∀ (g : Fin 2), ∃ t, exec (.stopped g) State.reset = .next t) ∧
    (∀ (src : Src) (g : Fin 2) (v : Word32), ∃ t, exec (.gableMarch src g v) State.reset = .next t) ∧
    (∀ (g : Fin 2) (pass : Bool), ∃ t, exec (.gableMarchDone g pass) State.reset = .next t) ∧
    (∀ (src : Src) (g : Fin 2) (m : Fin 32) (v : Word32), ∃ t, exec (.gablePatchWrite src g m v) State.reset = .next t) ∧
    (∀ (g : Fin 2) (wait : Nat), ∃ t, exec (.wfiEnd g wait) State.reset = .next t) ∧
    (∀ (g : Fin 2) (d : BitVec 96), ∃ t, exec (.uopNop g d) State.reset = .next t) ∧
    (∀ (g : Fin 2) (d : BitVec 96), ∃ t, exec (.xret g d) State.reset = .next t) ∧
    (∀ (g : Fin 2) (d : BitVec 96), ∃ t, exec (.sspush g d) State.reset = .next t) ∧
    (∀ (g : Fin 2) (d : BitVec 96), ∃ t, exec (.csrrd g d) State.reset = .next t) ∧
    (∀ (g : Fin 2) (d : BitVec 96) (x : GabIn), ∃ t, exec (.uopFetch g d x) State.reset = .next t) ∧
    (∀ (g : Fin 2) (d : BitVec 96), ∃ t, exec (.wkick g d) State.reset = .next t) ∧
    (∀ (g : Fin 2) (cmd : Fin 4) (left : Nat) (data : List Bool), ∃ t, exec (.dbgGattn g cmd left data) State.reset = .next t) :=
  ⟨fun _ _ => ⟨_, rfl⟩, fun _ => ⟨_, rfl⟩, fun _ _ _ => ⟨_, rfl⟩, fun _ _ => ⟨_, rfl⟩, fun _ _ _ _ => ⟨_, rfl⟩, fun _ _ => ⟨_, rfl⟩, fun _ _ =>
   ⟨_, rfl⟩, fun _ _ => ⟨_, rfl⟩, fun _ _ => ⟨_, rfl⟩, fun _ _ => ⟨_, rfl⟩, fun _ _ _ => ⟨_, rfl⟩, fun _ _ => ⟨_, rfl⟩, fun _ _ _ _ => ⟨_, rfl⟩⟩

theorem wit_LinkFrames :
    (∃ t, exec .failover State.reset = .next t) ∧
    (∀ (same : Bool) (ce : Fin 65536) (skew : BitVec 16), ∃ t, exec (.verdict same ce skew) State.reset = .next t) ∧
    (∃ t, exec .superframe State.reset = .next t) ∧
    (∃ t, exec .ringTimeout State.reset = .next t) ∧
    (∃ t, exec .eocSend State.reset = .next t) ∧
    (∀ (p : Fin 9) (ce : Fin 17) (zeros : Bool), ∃ t, exec (.idleFrame p ce zeros) State.reset = .next t) ∧
    (∀ (p : Fin 9) (ce : Fin 17) (g : Fin 2) (seq : Fin 65536) (dest src hops : Byte) (data : BitVec 256), ∃ t, exec (.msgFrame p ce g seq dest src hops data) State.reset = .next t) ∧
    (∀ (p : Fin 9) (ce : Fin 17) (course : Word64) (ovr : Bool), ∃ t, exec (.eocFrame p ce course ovr) State.reset = .next t) ∧
    (∀ (p : Fin 9) (ce : Fin 17) (v : Fin 2) (first last : Bool) (seq : Fin 65536) (bs : List Byte), ∃ t, exec (.dataFrame p ce v first last seq bs) State.reset = .next t) ∧
    (∀ (p : Fin 9) (ce : Fin 17) (f : CtrlFrame), ∃ t, exec (.ctrlFrame p ce f) State.reset = .next t) ∧
    (∀ (p : Fin 9), ∃ t, exec (.linkUp p) State.reset = .next t) ∧
    (∀ (side : Fin 2) (lock : BitVec 9) (runs : List (Fin 9 × CalStep)), ∃ t, exec (.bringupLock side lock runs) State.reset = .next t) ∧
    (∃ t, exec .laneDown State.reset = .next t) ∧
    (∀ (side : Fin 2), ∃ t, exec (.retired side) State.reset = .next t) ∧
    (∃ t, exec .j3Map State.reset = .next t) ∧
    (∀ (src : Src) (g : Fin 2) (dest : Fin 16), ∃ t, exec (.msgSend src g dest) State.reset = .next t) ∧
    (∀ (src : Src) (q : Fin 64) (valid : Bool) (h : Fin (2 ^ 24)), ∃ t, exec (.postingWrite src q valid h) State.reset = .next t) ∧
    (∃ t, exec .consignmentSend State.reset = .next t) ∧
    (∀ (p : Fin 9) (pwr : Fin 4096), ∃ t, exec (.monFault p pwr) State.reset = .next t) :=
  ⟨⟨_, rfl⟩, fun _ _ _ => ⟨_, rfl⟩, ⟨_, rfl⟩, ⟨_, rfl⟩, ⟨_, rfl⟩, fun _ _ _ => ⟨_, rfl⟩, fun _ _ _ _ _ _ _ _ => ⟨_, rfl⟩, fun _ _ _ _ => ⟨_,
   rfl⟩, fun _ _ _ _ _ _ _ => ⟨_, rfl⟩, fun _ _ _ => ⟨_, rfl⟩, fun _ => ⟨_, rfl⟩, fun _ _ _ => ⟨_, rfl⟩, ⟨_, rfl⟩, fun _ => ⟨_, rfl⟩,
   ⟨_, rfl⟩, fun _ _ _ => ⟨_, rfl⟩, fun _ _ _ _ => ⟨_, rfl⟩, ⟨_, rfl⟩, fun _ _ => ⟨_, rfl⟩⟩

/-! ### The queue, the invariants, and selection -/

theorem wit_StepRunsTheFrontCommand : { run0 with pending := [.syncMiss] }.pending = .syncMiss :: [] ∧ State.reset.pending = [] := ⟨rfl, rfl⟩

theorem wit_EveryCommandGoesOn : poolBeats ≤ poolBeats + 1 := by decide

def askS : State := runW [(pgIRQ, IRQ_SRC_STATE, 1, 42), (pgCRS, PG_EVT_RAW, 2, 0), (pgCRS, PG_EVT_EN, 6, 0)]

theorem wit_PendingSourcesAreRequested :
    (∀ n, n < 164 → 32 ≤ n → askS.rf pgIRQ IRQ_SRC_STATE n = srcPending → askS.irqRequest n = true) ∧
      askS.rf pgIRQ IRQ_SRC_STATE 42 = srcPending ∧ ∃ t, step askS = .next t :=
  ⟨by decide +kernel, by decide +kernel, _, rfl⟩

def lightPlan : Plan := { img := 5, minOp := 3, refClass := 2 }
def coolS : State := sets run0 [(pgPUE, PUE_CFG_OP_MAX, 2, 0), (pgPUE, PUE_LEVEL_UJ, 200000, 0)]

theorem wit_SelectionFollowsRank : coolS.pick 2000 [lightPlan] = some (lightPlan, 2) := by decide +kernel

/-! ## Commands that are not well-formed -/

theorem test_wf_page : (Instr.enable .host pgCRS).wf = true ∧ (Instr.enable .host (pgCRS + 4)).wf = false ∧
    (Instr.disable .host 4).wf = false ∧ (Instr.startComplete 4).wf = false ∧ (Instr.drainComplete 4).wf = false ∧
    (Instr.srst .host 4).wf = false ∧ (Instr.srstDone 4).wf = false ∧ (Instr.freeze .host 4 true).wf = false ∧
    (Instr.freezeEffect 4).wf = false ∧ (Instr.evtSet .host 4 0).wf = false ∧ (Instr.errClear .host 4).wf = false ∧
    (Instr.lock .host 0x90000).wf = false := by decide +kernel

theorem test_wf_beat : (Instr.hbmRead 3 (poolBeats - 1) [] false).wf = true ∧ (Instr.hbmRead 3 poolBeats [] false).wf = false ∧
    (Instr.partialWrite 0 poolBeats 0 [] []).wf = false := by decide +kernel

theorem test_wf_ctrl : (cf 3).wf = false ∧
    CtrlFrame.wf { cf 3 with relay := List.replicate 16 {} } = true ∧
    CtrlFrame.wf { cf 3 with relay := List.replicate 16 {}, map := [0, 1, 2, 3, 4, 5, 6, 7, 16] } = false ∧
    CtrlFrame.wf { cf 3 with relay := List.replicate 16 { stamp := 256 } } = false ∧
    CtrlFrame.wf { cf 256 with relay := List.replicate 16 {} } = false := by decide +kernel

/-! ## Worked examples of the spec -/

/-- 03_register_pages.md: the BST page of batten 45; 06_batten_store.md: that of batten 19. -/
theorem test_bst_pages : pgBST 45 = 0x01B6000 ∧ pgBST 19 = 0x014E000 := by decide

/-- 12_stacked_memory.md: byte 0x12345 of pool page 34 700 lies in stack 2, in beat pair 394 381. -/
theorem test_beat_pair : beatOf (34700 * 2 ^ 21 + 0x12345) = (2, 394381) := by decide +kernel

/-- R350, R351, the example of chapter 12: pseudo-channel, data slot, group and raw slot of that beat pair, and where its check bytes lie. -/
theorem test_code_group : pcOf 394381 = 31 ∧ slotOf 394381 = 6162 ∧ groupOf 6162 = 385 ∧ rawSlot 6162 = 6547 ∧
    (List.range 4).map (fun k => symCell 6162 (64 + k)) = [(6561, 8), (6561, 9), (6561, 10), (6561, 11)] := by decide +kernel

/-- R354: one and two symbols in error are corrected, three in these places are not. -/
theorem test_symbol_code : decodeErr [(66, 200)] = some [(66, 200)] ∧ decodeErr [(0, 1), (1, 200)] = some [(0, 1), (1, 200)] := by
  decide +kernel

/-- A gable about to run one word. -/
def gableAt (x : GabSt) (w : Word32) : State := { run0 with gab := [(0, x)], gcode := [(codeKey 0 x.pc.toNat, { data := w })] }

/-- 14_gable_controllers.md: CALL g1 to 0x13000 from 0x12340, in 2 cycles. -/
theorem test_call : let x := ((gableAt { pc := 0x12340, lvl := 2 } 0x0066012A).gabRow 0 {} 0x2A bodyCall).gable 0
    (x.pc, x.r, x.ss, x.cycle, x.instret) = (0x13000, [(1, 0x12344)], [0x12344], 2, 1) := by decide +kernel

/-- 14_gable_controllers.md: LDH g4, 0x20005. -/
theorem test_ldh : let x := ((gableAt { pc := 0x13000, lvl := 2 } 0x4000A40A).gabRow 0 {} 0x0A bodyLdh).gable 0
    (x.pc, x.r, x.cycle) = (0x13004, [(4, 0x4000A000)], 1) := by decide +kernel

/-- 13_spar_microcode.md: the word at 0x1A05, a WAIT for FREE_1 of at most 768 cycles with an ACQUIRE. -/
theorem test_wait_word : let w : BitVec 128 := 0x681B0D83300100000000000000000000
    (wNA w, wSEQ w, wCSEL w, waitLimit (wWLIM w), dpOP (wDP w), dpOPT (wDP w)) = (0x1A06, 12, 13, 768, 0x30, 1) := by decide +kernel

/-- 11_ligger_pairs_and_prefetch.md and 13_spar_microcode.md: pair 434 from stook 1 to batten 27, pair 435 from there to its ridge engine. -/
theorem test_pairs : ligAllowed 434 0x85 0x1B = true ∧ ligAllowed 435 0x1B 0x5B = true ∧ ligAllowed 418 0x85 0x1B = false := by decide

/-- R310: the two-axis key of CX 67 and CY 51, by hand. -/
theorem test_morton : morton 11 [67, 51] = 0x1A0F := by decide +kernel

/-- 22_fascia_lamps.md: a lamp of level 64 is lit for 196 counts. -/
theorem test_gamma : gamma 64 = 196 := by decide +kernel

/-- 17_fuses_and_calibration_store.md: counter 0 goes from 6 to 7 by bit 6 of words 0x0D2, 0x0D4 and 0x0D6. -/
theorem test_counter : (runW [(pgFLS, FLS_RB_VALUE, 6, 0)]).flsBits (.advRb 0) = [(0xD2, 6), (0xD4, 6), (0xD6, 6)] := by decide +kernel

/-- 15_interrupt_controller.md: where IRQ_SRC42 and IRQ_LOST42 lie. -/
theorem test_source_registers : pgIRQ + IRQ_SRC_PRIO.addr 42 = 0x74A8 ∧ pgIRQ + IRQ_LOST_LOST.addr 42 = 0x78A8 := by decide

end Sys2Proof.Tests
end

section
/-! PROOF. The fields of a register: which register an occurrence lies in, and that no two fields of a page share a bit (R10, R70). -/

namespace Sys2Proof.Machine

/-- The occurrences of a field in the register at an offset: none, or all bit groups of register r of view o. -/
theorem Fld.instsAt_eq (f : Fld) (off : Nat) : f.instsAt off = [] ∨ ∃ o r, o < f.n2 ∧ r < f.n1 ∧
    off = f.off + f.s2 * o + f.s1 * r ∧ f.instsAt off = (List.range f.nb).map fun b => (o * f.n1 + r) * f.nb + b := by
  have parts : ∀ d s : Nat, d = s * (if s = 0 then 0 else d / s) + (if s = 0 then d else d % s) := by
    intro d s
    by_cases h : s = 0
    · simp [h]
    · rw [if_neg h, if_neg h, Nat.div_add_mod]
  have hview := parts (off - f.off) f.s2
  have hreg := parts (if f.s2 = 0 then off - f.off else (off - f.off) % f.s2) f.s1
  simp only [Fld.instsAt]
  generalize (if f.s2 = 0 then 0 else (off - f.off) / f.s2) = o at *
  generalize (if f.s2 = 0 then off - f.off else (off - f.off) % f.s2) = d at *
  generalize (if f.s1 = 0 then 0 else d / f.s1) = r at *
  generalize (if f.s1 = 0 then d else d % f.s1) = e at *
  by_cases hoff : off < f.off
  · exact .inl (if_pos hoff)
  · rw [if_neg hoff]
    by_cases hc : e = 0 ∧ o < f.n2 ∧ r < f.n1
    · obtain ⟨he, ho, hr⟩ := hc
      exact .inr ⟨o, r, ho, hr, by omega, if_pos ⟨he, ho, hr⟩⟩
    · exact .inl (if_neg hc)

/-- An occurrence in the register at an offset, by its view o, its register r in the view, and its bit group b in the register. -/
theorem Fld.of_mem_instsAt {f : Fld} {off i : Nat} (h : i ∈ f.instsAt off) : ∃ o r b, o < f.n2 ∧ r < f.n1 ∧ b < f.nb ∧
    i = (o * f.n1 + r) * f.nb + b ∧ off = f.off + f.s2 * o + f.s1 * r := by
  rcases f.instsAt_eq off with h0 | ⟨o, r, ho, hr, hoff, he⟩
  · simp [h0] at h
  · rw [he] at h
    obtain ⟨b, hb, rfl⟩ := List.mem_map.1 h
    exact ⟨o, r, b, ho, hr, List.mem_range.1 hb, rfl, hoff⟩

/-- The place of an occurrence, given by view, register and bit group. -/
theorem Fld.addr_sh_of_parts (f : Fld) {o r b : Nat} (ho : o < f.n2) (hr : r < f.n1) (hb : b < f.nb) :
    f.addr ((o * f.n1 + r) * f.nb + b) = f.off + f.s2 * o + f.s1 * r ∧ f.sh ((o * f.n1 + r) * f.nb + b) = f.lo + f.sb * b := by
  have hdiv : ((o * f.n1 + r) * f.nb + b) / f.nb = o * f.n1 + r := by
    rw [Nat.mul_comm, Nat.mul_add_div (by omega), Nat.div_eq_of_lt hb, Nat.add_zero]
  have hview : (o * f.n1 + r) / f.n1 = o := by
    rw [Nat.mul_comm, Nat.mul_add_div (by omega), Nat.div_eq_of_lt hr, Nat.add_zero]
  have hreg : (o * f.n1 + r) % f.n1 = r := by rw [Nat.mul_comm, Nat.mul_add_mod, Nat.mod_eq_of_lt hr]
  have hbit : ((o * f.n1 + r) * f.nb + b) % f.nb = b := by rw [Nat.mul_comm, Nat.mul_add_mod, Nat.mod_eq_of_lt hb]
  constructor
  · rw [Fld.addr, ← Nat.div_div_eq_div_mul, hdiv, hview, hreg, Nat.mod_eq_of_lt ho]
  · rw [Fld.sh, hbit]

/-- An occurrence that a register lists lies in that register. -/
theorem Fld.addr_of_mem_instsAt {f : Fld} {off i : Nat} (h : i ∈ f.instsAt off) : f.addr i = off := by
  obtain ⟨o, r, b, ho, hr, hb, rfl, rfl⟩ := Fld.of_mem_instsAt h
  exact (f.addr_sh_of_parts ho hr hb).1

/-- One past the highest bit of a field's groups, and the offset of its last register. -/
def Fld.top (f : Fld) : Nat := f.lo + f.sb * (f.nb - 1) + f.width
def Fld.last (f : Fld) : Nat := f.off + f.s2 * (f.n2 - 1) + f.s1 * (f.n1 - 1)

/-- In each view of length d the registers of f lie below those of g. -/
def Fld.belowIn (f g : Fld) (d : Nat) : Bool :=
  decide (f.off % d + f.s1 * (f.n1 - 1) < g.off % d) && decide (g.off % d + g.s1 * (g.n1 - 1) < d)

/-- A test that two fields share no bit of a register: by their bits, by where their registers begin and end, by the steps in which their registers come, or by their places in views of one length. -/
def Fld.clearOf (f g : Fld) : Bool :=
  decide (f.top ≤ g.lo) || decide (g.top ≤ f.lo) || decide (f.last < g.off) || decide (g.last < f.off)
    || (let d := Nat.gcd (Nat.gcd f.s1 f.s2) (Nat.gcd g.s1 g.s2); f.off % d != g.off % d)
    || (f.s2 == g.s2 && (f.belowIn g f.s2 || g.belowIn f f.s2))

/-- The bits of an occurrence lie below its field's top; its register lies between the field's first and last. -/
theorem Fld.bounds_of_mem {f : Fld} {off i : Nat} (h : i ∈ f.instsAt off) :
    f.lo ≤ f.sh i ∧ f.sh i + f.width ≤ f.top ∧ f.off ≤ off ∧ off ≤ f.last := by
  obtain ⟨o, r, b, ho, hr, hb, rfl, rfl⟩ := Fld.of_mem_instsAt h
  rw [(f.addr_sh_of_parts ho hr hb).2, Fld.top, Fld.last]
  have h1 := Nat.mul_le_mul_left f.sb (Nat.le_sub_one_of_lt hb)
  have h2 := Nat.mul_le_mul_left f.s2 (Nat.le_sub_one_of_lt ho)
  have h3 := Nat.mul_le_mul_left f.s1 (Nat.le_sub_one_of_lt hr)
  omega

/-- The registers of a field leave one remainder by whatever divides both its steps. -/
theorem Fld.mod_of_mem {f : Fld} {off i d : Nat} (h : i ∈ f.instsAt off) (h1 : d ∣ f.s1) (h2 : d ∣ f.s2) : off % d = f.off % d := by
  obtain ⟨o, r, b, -, -, -, -, rfl⟩ := Fld.of_mem_instsAt h
  obtain ⟨a, ha⟩ := h1
  obtain ⟨c, hc⟩ := h2
  rw [ha, hc, Nat.mul_assoc, Nat.mul_assoc, Nat.add_mul_mod_self_left, Nat.add_mul_mod_self_left]

/-- The place of a register in its view. -/
theorem Fld.mod_view_of_mem {f : Fld} {off i : Nat} (h : i ∈ f.instsAt off) (hd : f.off % f.s2 + f.s1 * (f.n1 - 1) < f.s2) :
    f.off % f.s2 ≤ off % f.s2 ∧ off % f.s2 ≤ f.off % f.s2 + f.s1 * (f.n1 - 1) := by
  obtain ⟨o, r, b, -, hr, -, -, rfl⟩ := Fld.of_mem_instsAt h
  have hm := Nat.mul_le_mul_left f.s1 (Nat.le_sub_one_of_lt hr)
  have e : (f.off + f.s2 * o + f.s1 * r) % f.s2 = f.off % f.s2 + f.s1 * r := by
    rw [Nat.add_right_comm, Nat.add_mul_mod_self_left, ← Nat.mod_add_mod, Nat.mod_eq_of_lt (by omega)]
  omega

/-- Fields of which one lies below the other in every view have no register in common. -/
theorem Fld.not_mem_of_belowIn {f g : Fld} {off i j : Nat} (hs : f.s2 = g.s2) (h : f.belowIn g f.s2 = true)
    (hi : i ∈ f.instsAt off) : j ∉ g.instsAt off := by
  intro hj
  simp only [Fld.belowIn, Bool.and_eq_true, decide_eq_true_eq] at h
  have h1 := Fld.mod_view_of_mem hi (by omega)
  have h2 := Fld.mod_view_of_mem hj (by rw [← hs]; omega)
  rw [← hs] at h2
  omega

/-- Two occurrences of fields of a register that share none of its bits. -/
def BitsApart (e e' : Row × Nat) : Prop :=
  e.1.f.sh e.2 + e.1.f.width ≤ e'.1.f.sh e'.2 ∨ e'.1.f.sh e'.2 + e'.1.f.width ≤ e.1.f.sh e.2

theorem BitsApart.symm {e e' : Row × Nat} (h : BitsApart e e') : BitsApart e' e := Or.symm h

/-- The test is right: occurrences in one register of two fields that pass it share no bit. -/
theorem bitsApart_of_clearOf {r r' : Row} {off i j : Nat} (h : r.f.clearOf r'.f = true) (hi : i ∈ r.f.instsAt off)
    (hj : j ∈ r'.f.instsAt off) : BitsApart (r, i) (r', j) := by
  obtain ⟨hlo, htop, hoff, hlast⟩ := Fld.bounds_of_mem hi
  obtain ⟨hlo', htop', hoff', hlast'⟩ := Fld.bounds_of_mem hj
  simp only [Fld.clearOf, Bool.or_eq_true, Bool.and_eq_true, decide_eq_true_eq, bne_iff_ne, beq_iff_eq] at h
  rcases h with ((((h | h) | h) | h) | h) | ⟨hs, h | h⟩
  · exact .inl (show _ ≤ _ by simp only; omega)
  · exact .inr (show _ ≤ _ by simp only; omega)
  · omega
  · omega
  · refine absurd ?_ h
    have hf := Nat.gcd_dvd_left (Nat.gcd r.f.s1 r.f.s2) (Nat.gcd r'.f.s1 r'.f.s2)
    have hg := Nat.gcd_dvd_right (Nat.gcd r.f.s1 r.f.s2) (Nat.gcd r'.f.s1 r'.f.s2)
    rw [← Fld.mod_of_mem hi (Nat.dvd_trans hf (Nat.gcd_dvd_left ..)) (Nat.dvd_trans hf (Nat.gcd_dvd_right ..)),
      ← Fld.mod_of_mem hj (Nat.dvd_trans hg (Nat.gcd_dvd_left ..)) (Nat.dvd_trans hg (Nat.gcd_dvd_right ..))]
  · exact absurd hj (Fld.not_mem_of_belowIn hs h hi)
  · exact absurd hi (Fld.not_mem_of_belowIn hs.symm (hs ▸ h) hj)

/-- The fields of a page's rows. -/
def fldsOf (k : PgKind) (inst : Nat) : List Fld := (rowsOf k inst).map (·.f)

/-- The number of a page chooses Cold values, and no field. -/
theorem fldsOf_eq (k : PgKind) (inst : Nat) : fldsOf k inst = fldsOf k 0 := by cases k <;> rfl

/-- The register tables, field by field: every field lies within its register, and its groups do not meet. -/
theorem fldsOf_ok (k : PgKind) (inst : Nat) : ∀ f ∈ fldsOf k inst, f.ok = true ∧ (f.nb = 1 ∨ f.width ≤ f.sb) := by
  rw [fldsOf_eq]; cases k <;> decide

/-- The register tables, two fields at a time: no two fields of a page share a bit. -/
theorem fldsOf_clear (k : PgKind) (inst : Nat) : (fldsOf k inst).Pairwise fun f g => f.clearOf g = true := by
  rw [fldsOf_eq]; cases k <;> decide +kernel

theorem mem_fieldsAt {k : PgKind} {inst off : Nat} {e : Row × Nat} (h : e ∈ fieldsAt k inst off) :
    e.1 ∈ rowsOf k inst ∧ e.2 ∈ e.1.f.instsAt off := by
  obtain ⟨r, hr, he⟩ := List.mem_flatMap.1 h
  obtain ⟨i, hi, rfl⟩ := List.mem_map.1 he
  exact ⟨hr, (List.mem_filter.1 hi).1⟩

theorem addr_of_mem_fieldsAt {k : PgKind} {inst off : Nat} {e : Row × Nat} (h : e ∈ fieldsAt k inst off) :
    e.1.f.addr e.2 = off := Fld.addr_of_mem_instsAt (mem_fieldsAt h).2

theorem ok_of_mem_fieldsAt {k : PgKind} {inst off : Nat} {e : Row × Nat} (h : e ∈ fieldsAt k inst off) : e.1.f.ok = true :=
  (fldsOf_ok k inst _ (List.mem_map_of_mem (mem_fieldsAt h).1)).1

/-- The occurrences of one field in a register share no bit. -/
theorem pairwise_bitsApart_at (r : Row) (off : Nat) (h : r.f.nb = 1 ∨ r.f.width ≤ r.f.sb) :
    ((r.at off).map fun i => (r, i)).Pairwise BitsApart := by
  rw [List.pairwise_map, Row.at]
  refine List.Pairwise.filter _ ?_
  rcases r.f.instsAt_eq off with h0 | ⟨o, q, -, -, -, he⟩
  · rw [h0]; exact .nil
  · rw [he, List.pairwise_map]
    refine List.Pairwise.imp_of_mem ?_ List.pairwise_lt_range
    intro b b' hb hb' hlt
    rw [List.mem_range] at hb hb'
    simp only [BitsApart, Fld.sh, Nat.mul_add_mod_self_right, Nat.mod_eq_of_lt hb, Nat.mod_eq_of_lt hb']
    rcases h with h | h
    · omega
    · have := Nat.mul_le_mul_left r.f.sb hlt
      rw [Nat.mul_succ] at this
      omega

/-- No two occurrences of fields of a register share a bit, on any page. -/
theorem pairwise_fieldsAt (k : PgKind) (inst off : Nat) : (fieldsAt k inst off).Pairwise BitsApart := by
  rw [fieldsAt, List.pairwise_flatMap]
  constructor
  · intro r hr
    exact pairwise_bitsApart_at r off (fldsOf_ok k inst _ (List.mem_map_of_mem hr)).2
  · refine (List.pairwise_map.1 (fldsOf_clear k inst)).imp ?_
    intro r r' h x hx y hy
    obtain ⟨i, hi, rfl⟩ := List.mem_map.1 hx
    obtain ⟨j, hj, rfl⟩ := List.mem_map.1 hy
    exact bitsApart_of_clearOf h (List.mem_filter.1 hi).1 (List.mem_filter.1 hj).1

end Sys2Proof.Machine
end

section
/-! PROOF. What a write or a read of a register does to its fields, and what an error record holds (R10, R11, R85). -/

namespace Sys2Proof.Machine

/-! ## Updates of the fields of one register -/

section
variable {pg : Nat} {up : State → Row × Nat → State} {new : Row × Nat → Nat → Nat}

/-- A fold over occurrences of fields leaves a field that is apart from all of them. -/
theorem rf_foldl_of_apart {l : List (Row × Nat)} {e : Row × Nat} (hl : ∀ e' ∈ l, BitsApart e' e)
    (other : ∀ a, ∀ e' ∈ l, BitsApart e' e → (up a e').rf pg e.1.f e.2 = a.rf pg e.1.f e.2) (s : State) :
    (l.foldl up s).rf pg e.1.f e.2 = s.rf pg e.1.f e.2 := by
  induction l generalizing s with
  | nil => rfl
  | cons e' l ih =>
    rw [List.foldl_cons, ih (fun x hx => hl x (.tail _ hx)) (fun a x hx => other a x (.tail _ hx))]
    exact other s e' (.head _) (hl e' (.head _))

/-- A fold over occurrences of fields that share no bit, each step of which gives its own field a new value and leaves fields apart from it. -/
theorem rf_foldl_pairwise {l : List (Row × Nat)} (hl : l.Pairwise BitsApart)
    (own : ∀ a, ∀ e ∈ l, (up a e).rf pg e.1.f e.2 = new e (a.rf pg e.1.f e.2))
    (other : ∀ a, ∀ e' ∈ l, ∀ e ∈ l, BitsApart e' e → (up a e').rf pg e.1.f e.2 = a.rf pg e.1.f e.2) (s : State) :
    ∀ e ∈ l, (l.foldl up s).rf pg e.1.f e.2 = new e (s.rf pg e.1.f e.2) := by
  induction l generalizing s with
  | nil => simp
  | cons e0 l ih =>
    obtain ⟨h0, hl⟩ := List.pairwise_cons.1 hl
    intro e he
    rw [List.foldl_cons]
    rcases List.mem_cons.1 he with rfl | he
    · rw [rf_foldl_of_apart (fun x hx => (h0 x hx).symm) (fun a x hx => other a x (.tail _ hx) e (.head _)), own s e (.head _)]
    · rw [ih hl (fun a x hx => own a x (.tail _ hx)) (fun a x hx y hy => other a x (.tail _ hx) y (.tail _ hy)) _ e he,
        other s e0 (.head _) e (.tail _ he) (h0 e he)]

end

/-- R10: what a field takes from a write fits in the field. -/
theorem fieldWrite_lt {w old v : Nat} (lock : Bool) (acc : Acc) (ho : old < 2 ^ w) (hv : v < 2 ^ w) : fieldWrite lock acc old v < 2 ^ w := by
  cases acc with
  | rw => exact hv
  | rwl => simp only [fieldWrite]; split <;> assumption
  | w1c => exact Nat.lt_of_le_of_lt Nat.and_le_left ho
  | w1s => exact Nat.or_lt_two_pow ho hv
  | ro | wo | rc => exact ho

/-- R10: after a write each field of the register holds what its access type gives. -/
theorem rf_writeFields (s : State) (pg : Nat) (k : PgKind) (i o : Nat) (v : Word32) : ∀ e ∈ fieldsAt k i o,
    (s.writeFields pg k i o v).rf pg e.1.f e.2 = fieldWrite (s.locked pg) e.1.acc (s.rf pg e.1.f e.2) (partOf e.1 e.2 v) := by
  refine rf_foldl_pairwise (new := fun e old => fieldWrite (s.locked pg) e.1.acc old (partOf e.1 e.2 v))
    (pairwise_fieldsAt k i o) ?own ?other s
  case own =>
    intro a e he
    rw [rf_wf_same _ _ _ _ _ (ok_of_mem_fieldsAt he)]
    exact Nat.mod_eq_of_lt (fieldWrite_lt _ _ (rf_lt ..) (Nat.mod_lt _ (Nat.two_pow_pos _)))
  case other =>
    intro a e' he' e _ h
    exact rf_wf_of_disjoint _ _ _ _ _ _ _ (ok_of_mem_fieldsAt he') h.symm

/-- R11: after a read each counter of the register is cleared, and its other fields are as before. -/
theorem rf_rcClear (s : State) (pg : Nat) (k : PgKind) (i o : Nat) : ∀ e ∈ fieldsAt k i o,
    (s.rcClear pg k i o).rf pg e.1.f e.2 = if e.1.acc = .rc then 0 else s.rf pg e.1.f e.2 := by
  refine rf_foldl_pairwise (new := fun e old => if e.1.acc = .rc then 0 else old) (pairwise_fieldsAt k i o) ?own ?other s
  case own =>
    intro a e he
    by_cases h : e.1.acc = .rc
    · simp only [h, if_true]
      rw [rf_wf_same _ _ _ _ _ (ok_of_mem_fieldsAt he), Nat.zero_mod]
    · simp only [h, if_false]
  case other =>
    intro a e' he' e _ h
    by_cases h' : e'.1.acc = .rc
    · simp only [h', if_true]
      exact rf_wf_of_disjoint _ _ _ _ _ _ _ (ok_of_mem_fieldsAt he') h.symm
    · simp only [h', if_false]

section
variable {R : Nat → Bool} {P : List Part} {s t : State}

/-- The footprint of a write is its register. -/
theorem Only.writeFields (h : Only R P s t) (pg : Nat) (k : PgKind) (i o : Nat) (v : Word32) (hk : R (pg + o) = true) :
    Only R P s (t.writeFields pg k i o v) :=
  h.foldl _ _ fun _ _ he => (Only.refl _).wf _ _ _ _ (by rw [addr_of_mem_fieldsAt he]; exact hk)

/-- The footprint of a read of counters is their register. -/
theorem Only.rcClear (h : Only R P s t) (pg : Nat) (k : PgKind) (i o : Nat) (hk : R (pg + o) = true) :
    Only R P s (t.rcClear pg k i o) :=
  h.foldl _ _ fun _ _ he => .ite ((Only.refl _).wf _ _ _ _ (by rw [addr_of_mem_fieldsAt he]; exact hk)) (.refl _)

end

/-! ## Error records -/

/-- An error record of a page depends on the first of its registers alone. -/
theorem State.records.of_reg {s t u : State} {pg code : Nat} (h : s.records t pg code) (e : u.reg (pg + 0x20) = t.reg (pg + 0x20)) :
    s.records u pg code := by
  have hrf : ∀ f : Fld, f.addr 0 = 0x20 → u.rf pg f = t.rf pg f := fun f hf => by simp only [State.rf, hf, e]
  simpa only [State.records, State.bit, hrf PG_ERR_VALID rfl, hrf PG_ERR_OVF rfl, hrf PG_ERR_CODE rfl] using h

/-- R85: the first error of a page is recorded by its code, a further one by OVF. -/
theorem records_err (s : State) (pg code addr src : Nat) (hc : code < 2 ^ 16) : s.records (s.err pg code addr src) pg code := by
  unfold State.err
  by_cases hv : s.bit pg PG_ERR_VALID = true
  · rw [if_pos hv]
    refine ⟨?_, fun h => absurd hv (by simp [h]), fun _ => ⟨?_, ?_⟩⟩
    · rw [bit_wf_of_disjoint _ _ _ _ _ _ _ rfl (by decide), hv]
    · rw [bit_wf_same _ _ _ _ _ rfl]; rfl
    · rw [rf_wf_of_disjoint _ _ _ _ _ _ _ rfl (by decide)]
  · rw [if_neg hv]
    refine State.records.of_reg (t := (s.wf pg PG_ERR_VALID 1).wf pg PG_ERR_CODE code) ⟨?_, fun _ => ?_, fun h => absurd h hv⟩ ?_
    · rw [bit_wf_of_disjoint _ _ _ _ _ _ _ rfl (by decide), bit_wf_same _ _ _ _ _ rfl]; rfl
    · rw [rf_wf_same _ _ _ _ _ rfl]; exact Nat.mod_eq_of_lt hc
    · have hne : ∀ f : Fld, f.addr 0 ≠ 0x20 → pg + 0x20 ≠ pg + f.addr 0 := fun f hf => by omega
      rw [reg_wf_ne _ _ _ _ _ (hne _ (by decide)), reg_wf_ne _ _ _ _ _ (hne _ (by decide)), reg_wf_ne _ _ _ _ _ (hne _ (by decide))]

/-- The footprint of an error record, among registers that hold it. -/
theorem Only.err_of_errRegs {R : Nat → Bool} {P : List Part} {s t : State} (h : Only R P s t) (pg code addr src : Nat)
    (hR : ∀ r, errRegs pg r = true → R r = true) : Only R P s (t.err pg code addr src) :=
  h.err _ _ _ _ (hR _ (by simp [errRegs, regsOf])) (hR _ (by simp [errRegs, regsOf])) (hR _ (by simp [errRegs, regsOf]))

/-! ## Pages -/

theorem pgBaseOf_mod (key : Nat) : pgBaseOf key % 0x1000 = 0 := Nat.mul_mod_left ..

theorem pgBaseOf_add_mod (key : Nat) : pgBaseOf key + key % 0x1000 = key := by rw [pgBaseOf, Nat.mul_comm, Nat.div_add_mod]

theorem pageOf_pgBaseOf_add (key : Nat) {off : Nat} (ho : off < 0x1000) : pageOf (pgBaseOf key + off) = pageOf key := by
  rw [pageOf_add _ _ (pgBaseOf_mod key) ho, ← pageOf_add _ (key % 0x1000) (pgBaseOf_mod key) (Nat.mod_lt _ (by omega)), pgBaseOf_add_mod]

/-- An error about an access to a page is recorded there. -/
theorem errPage_of_page {key : Nat} {p : PgKind × Nat} (hp : pageOf key = some p) : errPage key = pgBaseOf key := by
  simp only [errPage, hp]

/-- No page lies in the gables' store windows. -/
theorem windowOf_of_page {key : Nat} {p : PgKind × Nat} (hp : pageOf key = some p) : windowOf key = none := by
  refine if_neg fun hw => ?_
  have low : ∀ n, n ≤ 0x200 → ¬ key / 0x1000 < n := by omega
  have high : key / 0x1000 < 0x8010 := by omega
  simp [pageOf, low, high] at hp

/-- The registers of a page other than IRQ are not the interrupt controller's own. -/
theorem irqOwn_of_page {key : Nat} {k : PgKind} {i : Nat} (hp : pageOf key = some (k, i)) (hk : k ≠ .irq) : irqOwn key = false := by
  rw [← pgBaseOf_add_mod key]
  refine irqOwn_off_page _ _ (pgBaseOf_mod key) (fun h7 => hk ?_) (Nat.mod_lt _ (by omega))
  have hirq : pageOf key = some (.irq, 0) := by rw [← pageOf_pgBaseOf_add key (show 0 < 0x1000 by omega), h7]; rfl
  rw [hp] at hirq
  exact (Prod.mk.inj (Option.some.inj hirq)).1

end Sys2Proof.Machine
end

section
/-! PROOF. Whole writes of registers through the bus (R10, R90 to R92, R96, R711). -/

namespace Sys2Proof.Machine

variable {s : State} {src : Src} {key : Nat} {v : Word32} {k : PgKind} {i : Nat}

theorem exec_registerWrite (src : Src) (off : Fin 0x4000000) (v : Word32) (s : State) :
    exec (.registerWrite src off v) s = done s (s.busWrite src (srcKey src (off.val / 4 * 4)) true v) := rfl

/-! ## Which write a bus write becomes -/

/-- A whole write of a register of a page. -/
theorem busWrite_of_page (hp : pageOf key = some (k, i)) :
    s.busWrite src key true v = s.ifWriter src key fun s => s.pageWrite src key k i v := by
  simp [State.busWrite, windowOf_of_page hp, hp]

/-- R96: one that is taken up. -/
theorem busWrite_of_accepts (h : s.accepts src key = true) (hp : pageOf key = some (k, i)) :
    s.busWrite src key true v = (s.pageWrite src key k i v).armEnds k (key % 0x1000) := by
  rw [busWrite_of_page hp, ifWriter_of_accepts _ h hp]

/-- R96: one by a source that is no writer of the page. -/
theorem busWrite_of_not_writer (hr : reaches src key = true) (ha : s.admits src = true) (hp : pageOf key = some (k, i))
    (hoff : s.pageOff k = false) (hw : isWriter k i src = false) : s.busWrite src key true v = s.accErr src key eWRITER := by
  rw [busWrite_of_page hp]
  simp [State.ifWriter, hr, ha, hp, hoff, hw]

/-- R92: a write to an offset at which the page has no register. -/
theorem pageWrite_unmapped (hx : regExists k i (key % 0x1000) = false) : s.pageWrite src key k i v = s.accErr src key eUNMAPPED := by
  have hh : isHeader (key % 0x1000) = false := by
    simp only [regExists, Bool.or_eq_false_iff] at hx
    exact hx.1.1
  simp [State.pageWrite, hh, hx]

/-- The kinds of page whose registers past the header start nothing. -/
def plainKinds : List PgKind := [.sns, .stk, .rdg, .lig, .hbm, .btn, .btxl, .vfc]

/-- On such a page, and on GLB, a write only updates fields, or clears a record. -/
theorem pageWrite_of_plainKinds (hk : k ∈ plainKinds) (ho : 0x30 ≤ key % 0x1000) (hx : regExists k i (key % 0x1000) = true) :
    s.pageWrite src key k i v = s.recWrite src key v := by
  have hh : isHeader (key % 0x1000) = false := by simp [isHeader, Nat.not_lt.2 ho]
  simp only [plainKinds, List.mem_cons, List.not_mem_nil, or_false] at hk
  rcases hk with rfl | rfl | rfl | rfl | rfl | rfl | rfl | rfl <;> simp [State.pageWrite, hh, hx]

theorem ne_irq_of_plainKinds (hk : k ∈ plainKinds) : k ≠ .irq := by rintro rfl; exact absurd hk (by decide)

theorem ne_fls_of_plainKinds (hk : k ∈ plainKinds) : k ≠ .fls := by rintro rfl; exact absurd hk (by decide)

/-- A whole write, taken up, of a register that starts nothing. -/
theorem busWrite_of_plainKinds (h : s.accepts src key = true) (hp : pageOf key = some (k, i)) (hk : k ∈ plainKinds)
    (ho : 0x30 ≤ key % 0x1000) (hx : regExists k i (key % 0x1000) = true) : s.busWrite src key true v = s.recWrite src key v := by
  rw [busWrite_of_accepts h hp, armEnds_of_ne _ _ _ (ne_fls_of_plainKinds hk), pageWrite_of_plainKinds hk ho hx]

/-! ## What a write of fields, or of a record's VALID, does -/

/-- R711: a value out of range. -/
theorem recWrite_range (hp : pageOf key = some (k, i)) (hb : rangeBad k i (key % 0x1000) v = true) :
    s.recWrite src key v = s.accErr src key eRANGE := by
  simp [State.recWrite, State.regWrite, hp, hb]

/-- R10, R90: the fields take the value, after the record of a locked field that would change. -/
theorem recWrite_fields (hp : pageOf key = some (k, i)) (hb : rangeBad k i (key % 0x1000) v = false)
    (hv : recordRegs k (key % 0x1000) = [] ∨ v.getLsbD 31 = false) :
    s.recWrite src key v = (if s.lockBad (pgBaseOf key) k i (key % 0x1000) v then s.accErr src key eLOCKED else s).writeFields
      (pgBaseOf key) k i (key % 0x1000) v := by
  simp only [State.recWrite, State.regWrite, hp, hb, Bool.false_eq_true, if_false]
  rcases hv with hv | hv
  · rw [hv, List.foldl_nil, ite_self]
  · rw [hv, if_neg Bool.false_ne_true]

/-- A write of 1 to VALID of a record clears the record's registers. -/
theorem recWrite_record (hp : pageOf key = some (k, i)) (hb : rangeBad k i (key % 0x1000) v = false)
    (hl : s.lockBad (pgBaseOf key) k i (key % 0x1000) v = false) (hv : v.getLsbD 31 = true) :
    s.recWrite src key v = (recordRegs k (key % 0x1000)).foldl (fun s o => s.setReg (pgBaseOf key + o) 0)
      (s.writeFields (pgBaseOf key) k i (key % 0x1000) v) := by
  simp [State.recWrite, State.regWrite, hp, hb, hl, hv]

/-- A record holds the register whose VALID clears it, and lies on the page. -/
theorem mem_recordRegs_self {o : Nat} (h : recordRegs k o ≠ []) : o ∈ recordRegs k o := by
  unfold recordRegs at h ⊢
  cases k <;> grind

theorem recordRegs_lt {o o' : Nat} (ho : o < 0x1000) (h : o' ∈ recordRegs k o) : o' < 0x1000 := by
  unfold recordRegs at h
  cases k <;> grind

/-- Registers that are cleared one after another all read 0. -/
theorem reg_foldl_clear (pg : Nat) (os : List Nat) (s : State) (r : Nat) :
    (os.foldl (fun s o => s.setReg (pg + o) 0) s).reg r = if ∃ o ∈ os, r = pg + o then 0 else s.reg r := by
  induction os generalizing s with
  | nil => simp
  | cons o os ih =>
    rw [List.foldl_cons, ih, reg_setReg]
    by_cases h0 : r = pg + o <;> simp [h0]

/-! ## What a recorded error leaves -/

theorem only_accErr (src : Src) (s : State) (code : Nat) (hp : pageOf key = some (k, i)) :
    Only (errRegs (pgBaseOf key)) [] s (s.accErr src key code) := by
  rw [State.accErr, errPage_of_page hp]
  exact (Only.refl s).err_of_errRegs _ _ _ _ fun _ h => h

theorem records_accErr (src : Src) (s : State) {code : Nat} (hp : pageOf key = some (k, i)) (hc : code < 2 ^ 16) :
    s.records (s.accErr src key code) (pgBaseOf key) code := by
  rw [State.accErr, errPage_of_page hp]
  exact records_err _ _ _ _ _ hc

/-- The register that holds an error's code is not the interrupt controller's own. -/
theorem irqOwn_errReg (key : Nat) : irqOwn (pgBaseOf key + 0x20) = false :=
  irqOwn_header _ _ (pgBaseOf_mod key) (by decide) (by decide)

/-- What an access refused on its page changes: the page's error record, which holds the code. -/
theorem settled_accErr (src : Src) (s : State) {code : Nat} (hp : pageOf key = some (k, i)) (hc : code < 2 ^ 16) :
    Only (fun r => errRegs (pgBaseOf key) r || irqOwn r) [] s (settled s (s.accErr src key code)) ∧
      s.records (settled s (s.accErr src key code)) (pgBaseOf key) code :=
  ⟨(only_accErr src s code hp).settled, (records_accErr src s hp hc).of_reg (settled_reg _ _ _ (irqOwn_errReg key))⟩

/-- The same where the access ends an arming of the fuses (R535). -/
theorem settled_accErr_armEnds (src : Src) (s : State) {code : Nat} (hp : pageOf key = some (k, i)) (hc : code < 2 ^ 16) (o : Nat) :
    Only (fun r => errRegs (pgBaseOf key) r || armReg k r || irqOwn r) [] s (settled s ((s.accErr src key code).armEnds k o)) ∧
      s.records (settled s ((s.accErr src key code).armEnds k o)) (pgBaseOf key) code := by
  have hreg : pgBaseOf key + 0x20 ≠ pgFLS + FLS_STAT_ARMED.addr 0 := by
    have := pgBaseOf_mod key
    simp only [pgFLS, show FLS_STAT_ARMED.addr 0 = 0x40 from rfl]
    omega
  have herr : Only (fun r => errRegs (pgBaseOf key) r || armReg k r) [] s (s.accErr src key code) :=
    (only_accErr src s code hp).mono (fun _ h => by simp [h]) fun _ h => h
  unfold State.armEnds
  split
  · next hf =>
    refine ⟨(herr.wf _ _ _ _ ?_).settled, (records_accErr src s hp hc).of_reg ?_⟩
    · simp [armReg, hf.1, show FLS_STAT_ARMED.addr 0 = FLS_STAT_ARMED.off from rfl]
    · rw [settled_reg _ _ _ (irqOwn_errReg key), reg_wf_ne _ _ _ _ _ hreg]
  · exact ⟨herr.settled, (records_accErr src s hp hc).of_reg (settled_reg _ _ _ (irqOwn_errReg key))⟩

end Sys2Proof.Machine
end

section
/-! PROOF. REGISTER_WRITE of the registers that start nothing, and of the scratch registers (R10, R90 to R92, R96, R711). -/

namespace Sys2Proof.Machine

section
variable {s : State} {src : Src} {off : Fin 0x4000000} {key : Nat} {v : Word32} {k : PgKind} {i : Nat}
  (hkey : key = srcKey src (off.val / 4 * 4))
include hkey

/-- A REGISTER_WRITE completes with what the bus write of its register leaves. -/
theorem completes_registerWrite {u : State} {Q : State → Prop} (hu : s.busWrite src key true v = u) (h : Q (settled s u)) :
    Completes (.registerWrite src off v) s Q :=
  .of_done (by rw [exec_registerWrite, ← hkey, hu]) h

variable (hp : pageOf key = some (k, i))
include hp

/-- R92: the write of an offset without a register. -/
theorem registerWrite_unmapped (ha : s.accepts src key = true) (hx : regExists k i (key % 0x1000) = false) :
    Completes (.registerWrite src off v) s fun t =>
      Only (fun r => errRegs (pgBaseOf key) r || armReg k r || irqOwn r) [] s t ∧ s.records t (pgBaseOf key) eUNMAPPED :=
  completes_registerWrite hkey (by rw [busWrite_of_accepts ha hp, pageWrite_unmapped hx])
    (settled_accErr_armEnds src s hp (by decide) _)

/-- R96: the write by a source that is no writer of the page. -/
theorem registerWrite_not_writer (hr : reaches src key = true) (ha : s.admits src = true) (hoff : s.pageOff k = false)
    (hw : isWriter k i src = false) : Completes (.registerWrite src off v) s fun t =>
      Only (fun r => errRegs (pgBaseOf key) r || irqOwn r) [] s t ∧ s.records t (pgBaseOf key) eWRITER :=
  completes_registerWrite hkey (busWrite_of_not_writer hr ha hp hoff hw) (settled_accErr src s hp (by decide))

variable (ha : s.accepts src key = true) (ho : 0x30 ≤ key % 0x1000) (hx : regExists k i (key % 0x1000) = true) (hk : k ∈ plainKinds)
include ha ho hx hk

/-- R711: the write of a value out of range. -/
theorem registerWrite_range (hb : rangeBad k i (key % 0x1000) v = true) : Completes (.registerWrite src off v) s fun t =>
    Only (fun r => errRegs (pgBaseOf key) r || irqOwn r) [] s t ∧ s.records t (pgBaseOf key) eRANGE :=
  completes_registerWrite hkey (by rw [busWrite_of_plainKinds ha hp hk ho hx, recWrite_range hp hb])
    (settled_accErr src s hp (by decide))

/-- R10: the write of a value that every field takes by its access type. -/
theorem registerWrite_fields (hb : rangeBad k i (key % 0x1000) v = false)
    (hl : s.lockBad (pgBaseOf key) k i (key % 0x1000) v = false) (hv : recordRegs k (key % 0x1000) = [] ∨ v.getLsbD 31 = false) :
    Completes (.registerWrite src off v) s fun t => Only (fun r => r == key || irqOwn r) [] s t ∧
      ∀ e ∈ fieldsAt k i (key % 0x1000), t.rf (pgBaseOf key) e.1.f e.2 =
        fieldWrite (s.locked (pgBaseOf key)) e.1.acc (s.rf (pgBaseOf key) e.1.f e.2) (partOf e.1 e.2 v) := by
  refine completes_registerWrite hkey
    (by rw [busWrite_of_plainKinds ha hp hk ho hx, recWrite_fields hp hb hv, hl, if_neg Bool.false_ne_true]) ⟨?_, fun e he => ?_⟩
  · exact Only.settled (R := fun r => r == key) ((Only.refl s).writeFields _ _ _ _ _ (by simp [pgBaseOf_add_mod]))
  · rw [settled_rf _ _ _ _ _ (by rw [addr_of_mem_fieldsAt he, pgBaseOf_add_mod]; exact irqOwn_of_page hp (ne_irq_of_plainKinds hk))]
    exact rf_writeFields s _ _ _ _ _ e he

/-- R90: the write of a value that would change a locked field. -/
theorem registerWrite_locked (hb : rangeBad k i (key % 0x1000) v = false)
    (hl : s.lockBad (pgBaseOf key) k i (key % 0x1000) v = true) (hv : recordRegs k (key % 0x1000) = [] ∨ v.getLsbD 31 = false) :
    Completes (.registerWrite src off v) s fun t => Only (fun r => r == key || errRegs (pgBaseOf key) r || irqOwn r) [] s t ∧
      s.records t (pgBaseOf key) eLOCKED ∧ ∀ e ∈ fieldsAt k i (key % 0x1000), t.rf (pgBaseOf key) e.1.f e.2 =
        fieldWrite true e.1.acc (s.rf (pgBaseOf key) e.1.f e.2) (partOf e.1 e.2 v) := by
  have herr := only_accErr src s eLOCKED hp
  have hlock : (s.accErr src key eLOCKED).locked (pgBaseOf key) = true := by
    have hreg := herr.1 (pgBaseOf key + PG_LOCK_LOCK.addr 0) (by simp [errRegs, regsOf, show PG_LOCK_LOCK.addr 0 = 0x2C from rfl])
    rw [State.lockBad, Bool.and_eq_true] at hl
    simpa only [State.locked, State.bit, State.rf, hreg] using hl.1
  have hfld : ∀ e ∈ fieldsAt k i (key % 0x1000), (s.accErr src key eLOCKED).rf (pgBaseOf key) e.1.f e.2 = s.rf (pgBaseOf key) e.1.f e.2 := by
    intro e he
    have hreg := herr.1 (pgBaseOf key + e.1.f.addr e.2) (by rw [addr_of_mem_fieldsAt he]; simp [errRegs, regsOf]; omega)
    simp only [State.rf, hreg]
  have hwr : Only (fun r => r == key) [] (s.accErr src key eLOCKED)
      ((s.accErr src key eLOCKED).writeFields (pgBaseOf key) k i (key % 0x1000) v) :=
    (Only.refl _).writeFields _ _ _ _ _ (by simp [pgBaseOf_add_mod])
  refine completes_registerWrite hkey
    (by rw [busWrite_of_plainKinds ha hp hk ho hx, recWrite_fields hp hb hv, if_pos hl]) ⟨?_, ?_, fun e he => ?_⟩
  · exact Only.settled (R := fun r => r == key || errRegs (pgBaseOf key) r)
      ((herr.mono (fun _ h => by simp [h]) (by simp)).trans (hwr.mono (fun _ h => by simp [h]) (by simp)))
  · refine (records_accErr src s hp (by decide)).of_reg ((settled_reg _ _ _ (irqOwn_errReg key)).trans (hwr.1 _ ?_))
    have := pgBaseOf_add_mod key
    simp only [beq_eq_false_iff_ne, ne_eq]
    omega
  · rw [settled_rf _ _ _ _ _ (by rw [addr_of_mem_fieldsAt he, pgBaseOf_add_mod]; exact irqOwn_of_page hp (ne_irq_of_plainKinds hk)),
      rf_writeFields _ _ _ _ _ _ e he, hlock, hfld e he]

/-- The write of 1 to VALID of a record. -/
theorem registerWrite_record (hb : rangeBad k i (key % 0x1000) v = false)
    (hl : s.lockBad (pgBaseOf key) k i (key % 0x1000) v = false) (hv : v.getLsbD 31 = true) (hr : recordRegs k (key % 0x1000) ≠ []) :
    Completes (.registerWrite src off v) s fun t =>
      Only (fun r => (recordRegs k (key % 0x1000)).contains (r - pgBaseOf key) || irqOwn r) [] s t ∧
        ∀ o' ∈ recordRegs k (key % 0x1000), t.reg (pgBaseOf key + o') = 0 := by
  have hin : ∀ o' ∈ recordRegs k (key % 0x1000), (recordRegs k (key % 0x1000)).contains (pgBaseOf key + o' - pgBaseOf key) = true :=
    fun o' h => by simpa using h
  refine completes_registerWrite hkey
    (by rw [busWrite_of_plainKinds ha hp hk ho hx, recWrite_record hp hb hl hv]) ⟨?_, fun o' ho' => ?_⟩
  · refine Only.settled (R := fun r => (recordRegs k (key % 0x1000)).contains (r - pgBaseOf key)) ?_
    exact ((Only.refl s).writeFields _ _ _ _ _ (hin _ (mem_recordRegs_self hr))).foldl _ _ fun _ o' h => (Only.refl _).setReg _ _ (hin o' h)
  · have hpage := (pageOf_pgBaseOf_add key (recordRegs_lt (Nat.mod_lt _ (by omega)) ho')).trans hp
    rw [settled_reg _ _ _ (irqOwn_of_page hpage (ne_irq_of_plainKinds hk)), reg_foldl_clear, if_pos ⟨o', ho', rfl⟩]

end

/-! ## The scratch registers of GLB -/

theorem exec_bar0Request (src : Src) (off : Fin 0x4000000) (n : Fin 8) (be : BitVec 8) (wr : Option Word64) (ups : List StErr) (s : State) :
    exec (.bar0Request src off n be wr ups) s = execBar0Request src off n be wr ups s := rfl

/-- Scratch register m is a register of its own, all 32 bits of it one RW field. -/
theorem fieldsAt_scratch (m : Fin 4) :
    fieldsAt .glb 0 (0x58 + 4 * m.val) = [({ f := GLB_SCRATCH_DATA, acc := .rw, warm := false }, m.val)] := by
  revert m; decide

theorem pageOf_scratch (m : Fin 4) : pageOf (0x58 + 4 * m.val) = some (.glb, 0) := by
  revert m; decide

/-- GLB is reached by its BAR0 offset, and by no VF. -/
theorem srcKey_of_reaches_low {src : Src} {off : Nat} (h : reaches src off = true) (hlow : off < 0x4000000) : srcKey src off = off := by
  cases src with
  | vf v =>
    simp only [reaches, vfBar, beq_iff_eq] at h
    omega
  | host | gable _ | debug => exact Nat.mod_eq_of_lt hlow

theorem reaches_of_accepts {s : State} {src : Src} {key : Nat} (h : s.accepts src key = true) : reaches src key = true := by
  simp only [State.accepts, Bool.and_eq_true] at h
  exact h.1.1

theorem admits_of_accepts {s : State} {src : Src} {key : Nat} (h : s.accepts src key = true) : s.admits src = true := by
  simp only [State.accepts, Bool.and_eq_true] at h
  exact h.1.2

/-- Scratch register m takes a value, whole. -/
def State.setScratch (s : State) (m : Fin 4) (v : Word32) : State := s.wf pgGLB GLB_SCRATCH_DATA v.toNat m.val

theorem reg_setScratch (s : State) (m : Fin 4) (v : Word32) (r : Nat) :
    (s.setScratch m v).reg r = if r = 0x58 + 4 * m.val then v else s.reg r := by
  have haddr : pgGLB + GLB_SCRATCH_DATA.addr m.val = 0x58 + 4 * m.val := by revert m; decide
  have hset : ∀ x : Word32, fieldSet x (GLB_SCRATCH_DATA.sh m.val) GLB_SCRATCH_DATA.width v.toNat = v := by
    intro x
    apply BitVec.eq_of_toNat_eq
    rw [show GLB_SCRATCH_DATA.sh m.val = 0 by simp [Fld.sh, GLB_SCRATCH_DATA, Nat.mod_one], show GLB_SCRATCH_DATA.width = 32 from rfl,
      fieldSet_toNat _ _ _ _ (by decide)]
    omega
  rw [State.setScratch, State.wf, reg_setReg, haddr, hset]

/-- Neither the tray's state nor what is admitted depends on a scratch register. -/
theorem tray_setScratch (s : State) (m : Fin 4) (v : Word32) : (s.setScratch m v).tray = s.tray := by
  simp only [State.tray, State.rf, reg_setScratch]
  rw [if_neg (by simp only [pgGLB, show GLB_STATE_STATE.addr 0 = 0x50 from rfl]; omega)]

theorem admits_setScratch (s : State) (m : Fin 4) (v : Word32) (src : Src) :
    (s.setScratch m v).admits src = s.admits src := by
  have hrf : ∀ (pg : Nat) (f : Fld), pg + f.addr 0 < 0x58 ∨ 0x68 ≤ pg + f.addr 0 →
      (s.setScratch m v).rf pg f = s.rf pg f := by
    intro pg f h
    simp only [State.rf, reg_setScratch]
    rw [if_neg (by omega)]
  have hpwr : (s.setScratch m v).pwr = s.pwr := State.wf_pwr ..
  have heav : (s.setScratch m v).eav = s.eav := State.wf_eav ..
  simp only [State.admits, State.ready, State.bit, hpwr, heav, hrf pgGLB GLB_STATE_STATE (by decide),
    hrf pgEAV PG_STAT_READY (by decide), hrf pgFLS FLS_SEC_DBG (by decide)]

/-- A whole write of a scratch register sets it; but gable 0's of the first one, in a rise, may be boot firmware's status (R566). -/
theorem busWrite_scratch {s : State} {src : Src} (m : Fin 4) (v : Word32) (h : s.accepts src (0x58 + 4 * m.val) = true)
    (hb : m.val = 0 → src = .gable 0 → s.tray ≠ tRISING) :
    s.busWrite src (0x58 + 4 * m.val) true v = s.setScratch m v := by
  have hm : (0x58 + 4 * m.val) % 0x1000 = 0x58 + 4 * m.val := by omega
  have hbase : pgBaseOf (0x58 + 4 * m.val) = pgGLB := by simp only [pgBaseOf, pgGLB]; omega
  have hp := pageOf_scratch m
  have hh : isHeader (0x58 + 4 * m.val) = false := by simp [isHeader]; omega
  have hx : regExists .glb 0 (0x58 + 4 * m.val) = true := by simp [regExists, fieldsAt_scratch]
  have hpart : partOf { f := GLB_SCRATCH_DATA, acc := .rw, warm := false } m.val v = v.toNat := by
    simp [partOf, fieldGet, Fld.sh, Fld.width, GLB_SCRATCH_DATA, Nat.mod_one]
    exact v.isLt
  have hrec : s.recWrite src (0x58 + 4 * m.val) v = s.setScratch m v := by
    rw [recWrite_fields hp (by simp [rangeBad, hm, fieldsAt_scratch]) (.inl rfl), hbase, hm,
      if_neg (by simp [State.lockBad, fieldsAt_scratch])]
    simp [State.writeFields, State.setScratch, fieldsAt_scratch, fieldWrite, hpart]
  have hboot : 0x58 + 4 * m.val = 0x58 ∧ src = .gable 0 →
      (s.setScratch m v).bootStatusWrite = s.setScratch m v := by
    rintro ⟨h0, h1⟩
    exact if_neg fun hc => hb (by omega) h1 (by rw [← tray_setScratch s m v]; exact hc.1)
  rw [busWrite_of_accepts h hp, armEnds_of_ne _ _ _ (by decide), State.pageWrite]
  simp only [hm, hh, hx, hrec, Bool.not_true, Bool.false_eq_true, if_false]
  exact ite_eq_right_iff.2 hboot

/-- The write of a scratch register by its offset in BAR0. -/
theorem registerWrite_scratch {s : State} {src : Src} {off : Fin 0x4000000} (m : Fin 4) (v : Word32) (hoff : off.val = 0x58 + 4 * m.val)
    (h : s.accepts src off = true) (hb : m.val = 0 → src = .gable 0 → s.tray ≠ tRISING) :
    Completes (.registerWrite src off v) s fun t => t.reg (0x58 + 4 * m.val) = v := by
  rw [hoff] at h
  have hkey : 0x58 + 4 * m.val = srcKey src (off.val / 4 * 4) := by
    rw [show off.val / 4 * 4 = 0x58 + 4 * m.val by omega, srcKey_of_reaches_low (reaches_of_accepts h) (by omega)]
  refine completes_registerWrite hkey (busWrite_scratch m v h hb) ?_
  rw [settled_reg _ _ _ (by simp [irqOwn]; omega), reg_setScratch, if_pos rfl]

end Sys2Proof.Machine
end

section
/-! PROOF. Requests to BAR0, and reads that change something (R11, R66, R93 to R95). -/

namespace Sys2Proof.Machine

/-! ## Requests of 4 bytes (R93, R94) -/

/-- The bytes of a 4-byte request that are enabled, lowest first. -/
def enabled4 (be : BitVec 8) : List Bool := (List.range 4).map be.getLsbD

/-- All are enabled where the low half of the byte enables is full. -/
theorem all_enabled4 (be : BitVec 8) : (enabled4 be).all id = decide (be.truncate 4 = (0xF : BitVec 4)) := by
  revert be; decide +kernel

/-- R93: an aligned request of 4 bytes touches one register. -/
theorem touched_word {addr : Nat} (h4 : addr % 4 = 0) (be : BitVec 8) : touched addr 4 be = [(addr, enabled4 be)] := by
  have hn : (addr + 4 - 1) / 4 - addr / 4 + 1 = 1 := by omega
  have ha : addr / 4 * 4 = addr := by omega
  have hb : (List.range 4).map (fun j => decide (addr ≤ addr + j ∧ addr + j < addr + 4) && be.getLsbD (addr + j - addr)) = enabled4 be := by
    refine List.map_congr_left fun j hj => ?_
    rw [List.mem_range] at hj
    simp [hj]
  simp only [touched, hn, List.range_one, List.map_singleton, ha, Nat.mul_zero, Nat.add_zero, hb]

/-- The bytes of one register are its value. -/
theorem gatherRead_word {addr v : Nat} (h4 : addr % 4 = 0) (hv : v < 2 ^ 32) : gatherRead addr 4 [v] = v := by
  simpa [gatherRead, h4] using hv

section
variable {s : State} {src : Src} {off : Fin 0x4000000} {be : BitVec 8} {ups : List StErr} (h4 : off.val % 4 = 0)
  (hsz : off.val + 4 ≤ barSize src) (ha : s.admits src = true)
include h4 hsz ha

/-- A write request of 4 bytes is a write of one register, whole or not. -/
theorem exec_bar0Request_write (d : Word64) : exec (.bar0Request src off 3 be (some d) ups) s =
    done s (s.busWrite src (srcKey src off) (decide (be.truncate 4 = (0xF : BitVec 4))) (d.truncate 32)) := by
  have hv : BitVec.ofNat 32 (d.toNat * 2 ^ (8 * (off.val % 4)) / 2 ^ (8 * (off.val - off.val / 4 * 4))) = d.truncate 32 := by
    rw [h4, show off.val - off.val / 4 * 4 = 0 by omega]
    apply BitVec.eq_of_toNat_eq
    simp
  rw [exec_bar0Request, execBar0Request]
  simp only [ha, Bool.not_true, Bool.false_eq_true, if_false, Nat.not_lt.2 hsz, show ((3 : Fin 8) : Nat) + 1 = 4 from rfl, touched_word h4,
    State.writeAll, List.foldl_cons, List.foldl_nil, all_enabled4, hv]

/-- A read request of 4 bytes answers with a read of one register. -/
theorem exec_bar0Request_read : exec (.bar0Request src off 3 be none ups) s =
    done s ((s.busRead src (srcKey src off) (decide (be.truncate 4 = (0xF : BitVec 4))) (ups.headD .clean)).1.answer src
      (s.busRead src (srcKey src off) (decide (be.truncate 4 = (0xF : BitVec 4))) (ups.headD .clean)).2.toNat) := by
  rw [exec_bar0Request, execBar0Request]
  simp only [ha, Bool.not_true, Bool.false_eq_true, if_false, Nat.not_lt.2 hsz, show ((3 : Fin 8) : Nat) + 1 = 4 from rfl, touched_word h4,
    State.readAll, all_enabled4, gatherRead_word h4 (BitVec.isLt _)]

/-- R93: whole byte enables make the request a REGISTER_WRITE. -/
theorem bar0Request_whole_write (d : Word64) (hbe : be.truncate 4 = (0xF : BitVec 4)) :
    ∃ t, exec (.bar0Request src off 3 be (some d) ups) s = .next t ∧ exec (.registerWrite src off (d.truncate 32)) s = .next t := by
  refine ⟨_, exec_bar0Request_write h4 hsz ha d, ?_⟩
  rw [exec_registerWrite, show off.val / 4 * 4 = off.val by omega, hbe, decide_eq_true rfl]
  rfl

end

/-- R94: a write with partial byte enables is not carried out, and recorded. -/
theorem bar0Request_partial_write {s : State} {src : Src} {off : Fin 0x4000000} {be : BitVec 8} {ups : List StErr} {d : Word64}
    {k : PgKind} {i : Nat} (h4 : off.val % 4 = 0) (hsz : off.val + 4 ≤ barSize src) (hbe : be.truncate 4 ≠ (0xF : BitVec 4))
    (ha : s.accepts src (srcKey src off) = true) (hp : pageOf (srcKey src off) = some (k, i))
    (hx : regExists k i (srcKey src off % 0x1000) = true) :
    Completes (.bar0Request src off 3 be (some d) ups) s fun t =>
      Only (fun r => errRegs (pgBaseOf (srcKey src off)) r || armReg k r || irqOwn r) [] s t ∧
        s.records t (pgBaseOf (srcKey src off)) eWIDTH := by
  refine .of_done ((exec_bar0Request_write h4 hsz (admits_of_accepts ha) d).trans ?_)
    (settled_accErr_armEnds src s hp (by decide) (srcKey src off % 0x1000))
  rw [decide_eq_false hbe, State.busWrite, windowOf_of_page hp]
  simp only [Bool.not_false, if_true, State.partWrite, ifWriter_of_accepts _ ha hp, hp, hx]

/-- A request of 8 bytes at the first scratch register writes two of them. -/
theorem bar0Request_scratch_pair {s : State} {src : Src} {off : Fin 0x4000000} (v : Word64) (hoff : off.val = 0x58)
    (ha : s.accepts src 0x58 = true) (hs : src = .host) : Completes (.bar0Request src off 7 0xFF (some v) []) s fun t =>
      t.reg 0x58 = v.truncate 32 ∧ t.reg 0x5C = (v >>> 32).truncate 32 := by
  subst hs
  have hlo : s.busWrite .host 0x58 true (v.truncate 32) = s.setScratch 0 (v.truncate 32) := busWrite_scratch 0 _ ha (by simp)
  have ha1 : (s.setScratch 0 (v.truncate 32)).accepts .host 0x5C = true := by
    have hadm := admits_of_accepts ha
    rw [← admits_setScratch s 0 (v.truncate 32)] at hadm
    simp only [State.accepts, hadm]
    simp [reaches, State.pageOff, isWriter, pageOf, PgKind.aux, pgWriters]
  have hhi : (s.setScratch 0 (v.truncate 32)).busWrite .host 0x5C true ((v >>> 32).truncate 32) =
      (s.setScratch 0 (v.truncate 32)).setScratch 1 ((v >>> 32).truncate 32) :=
    busWrite_scratch 1 _ ha1 (by simp)
  have htouch : touched 0x58 8 0xFF = [(0x58, List.replicate 4 true), (0x5C, List.replicate 4 true)] := by decide
  have e0 : BitVec.ofNat 32 (v.toNat * 2 ^ (8 * (0x58 % 4)) / 2 ^ (8 * (0x58 - 0x58 / 4 * 4))) = v.truncate 32 := by
    apply BitVec.eq_of_toNat_eq; simp
  have e1 : BitVec.ofNat 32 (v.toNat * 2 ^ (8 * (0x58 % 4)) / 2 ^ (8 * (0x5C - 0x58 / 4 * 4))) = (v >>> 32).truncate 32 := by
    apply BitVec.eq_of_toNat_eq; simp [Nat.shiftRight_eq_div_pow]
  have hexec : exec (.bar0Request .host off 7 0xFF (some v) []) s =
      done s ((s.setScratch 0 (v.truncate 32)).setScratch 1 ((v >>> 32).truncate 32)) := by
    rw [exec_bar0Request, execBar0Request]
    simp only [admits_of_accepts ha, Bool.not_true, Bool.false_eq_true, if_false, hoff, barSize, show ((7 : Fin 8) : Nat) + 1 = 8 from rfl,
      htouch, State.writeAll, List.foldl_cons, List.foldl_nil, e0, e1]
    rw [show srcKey .host 0x58 = 0x58 from rfl, show srcKey .host 0x5C = 0x5C from rfl, show (List.replicate 4 true).all id = true from rfl,
      hlo, hhi, if_neg (show ¬ 0x4000000 < 0x58 + 8 by decide)]
  refine .of_done hexec ⟨?_, ?_⟩
  · rw [settled_reg _ _ _ (by decide), reg_setScratch, if_neg (by decide), reg_setScratch, if_pos (by decide)]
  · rw [settled_reg _ _ _ (by decide), reg_setScratch, if_pos (by decide)]

/-! ## Reads -/

theorem key_mod_four {src : Src} {off : Nat} (h : off % 4 = 0) : srcKey src off % 4 = 0 := by
  cases src <;> simp only [srcKey, vfBar] <;> omega

section
variable {s : State} {src : Src} {key : Nat} {k : PgKind} {i : Nat} (hr : reaches src key = true) (ha : s.admits src = true)
  (hp : pageOf key = some (k, i)) (hoff : s.pageOff k = false) (hx : regExists k i (key % 0x1000) = true)
include hr ha hp hoff hx

/-- R94: a read of a register, whole or with partial byte enables. -/
theorem busRead_of_page (whole : Bool) (up : StErr) : s.busRead src key whole up =
    if whole then s.regRead src key k i else (s.accErr src key eWIDTH, s.regView src key) := by
  cases whole <;> simp [State.busRead, hr, ha, windowOf_of_page hp, hp, hoff, hx]

end

/-- A whole read that is no claim and measures nothing answers what the register shows. -/
theorem regRead_plain (s : State) (src : Src) (key : Nat) (k : PgKind) (i : Nat) (h4 : key % 4 = 0)
    (hirq : k = .irq → key % 0x1000 ∉ [0x40, 0x44]) (hdmr : k = .dmr → key % 0x1000 ≠ 0x44)
    (hbtx : k = .btxt → key % 0x1000 < 0x100 ∨ key % 0x10 ≠ 4) :
    s.regRead src key k i = (s.readEffect (pgBaseOf key) k i (key % 0x1000), s.regView src key) := by
  have h1 : ¬ (k = .irq ∧ key % 0x1000 < 0x48 ∧ 0x40 ≤ key % 0x1000) := by
    rintro ⟨hk, hlt, hge⟩
    have := hirq hk
    simp only [List.mem_cons, List.not_mem_nil, or_false] at this
    omega
  have h2 : ¬ (k = .dmr ∧ key % 0x1000 = 0x44) := fun h => hdmr h.1 h.2
  have h3 : ¬ (k = .btxt ∧ 0x100 ≤ key % 0x1000 ∧ key % 0x1000 % 0x10 = 4) := by
    rintro ⟨hk, hge, he⟩
    have := hbtx hk
    omega
  simp only [State.regRead, h1, h2, h3, if_false]

/-- No read of a register sends anything itself. -/
theorem readEffect_out (s : State) (pg : Nat) (k : PgKind) (i o : Nat) : (s.readEffect pg k i o).out = s.out := by
  have hrc : (s.rcClear pg k i o).out = s.out :=
    ((Only.refl (R := fun r => r == pg + o) (P := []) s).rcClear _ _ _ _ (by simp)).2 .out (by simp)
  unfold State.readEffect
  split
  · rfl
  · split
    · exact State.wf_out ..
    · split
      · rfl
      · split
        · exact State.wf_out ..
        · split
          · rfl
          · exact hrc

/-- R94: a read request of 4 bytes answers the register; with partial byte enables it is recorded besides. -/
theorem bar0Request_read {s : State} {src : Src} {off : Fin 0x4000000} {be : BitVec 8} {ups : List StErr} {k : PgKind} {i : Nat}
    (h4 : off.val % 4 = 0) (hsz : off.val + 4 ≤ barSize src) (hr : reaches src (srcKey src off) = true) (ha : s.admits src = true)
    (hp : pageOf (srcKey src off) = some (k, i)) (hoff : s.pageOff k = false) (hx : regExists k i (srcKey src off % 0x1000) = true)
    (hirq : k = .irq → srcKey src off % 0x1000 ∉ [0x40, 0x44]) (hdmr : k = .dmr → srcKey src off % 0x1000 ≠ 0x44)
    (hbtx : k = .btxt → srcKey src off % 0x1000 < 0x100 ∨ srcKey src off % 0x10 ≠ 4) :
    Completes (.bar0Request src off 3 be none ups) s fun t => t.out = .data src (s.regView src (srcKey src off)).toNat :: s.out ∧
      (be.truncate 4 ≠ (0xF : BitVec 4) → s.records t (pgBaseOf (srcKey src off)) eWIDTH) := by
  have hexec := exec_bar0Request_read (be := be) (ups := ups) h4 hsz ha
  rw [busRead_of_page hr ha hp hoff hx] at hexec
  by_cases hbe : be.truncate 4 = (0xF : BitVec 4)
  · rw [if_pos (decide_eq_true hbe), regRead_plain _ _ _ _ _ (key_mod_four h4) hirq hdmr hbtx] at hexec
    exact .of_done hexec ⟨by simp [State.answer, readEffect_out], fun h => absurd hbe h⟩
  · rw [if_neg (by simpa using hbe)] at hexec
    refine .of_done hexec ⟨?_, fun _ => ?_⟩
    · rw [settled_out, State.answer, State.emit_out, (only_accErr src s eWIDTH hp).2 .out (by simp)]
    · exact (records_accErr src s hp (by decide)).of_reg (settled_reg _ _ _ (irqOwn_errReg _))

/-! ## Oversize requests, CRS_NUM and the counters -/

theorem exec_oversizeRequest (src : Src) (off : Fin 0x4000000) (s : State) :
    exec (.oversizeRequest src off) s = execOversizeRequest src off s := rfl

/-- R95: a request longer than 8 bytes is aborted and recorded on GLB. -/
theorem oversizeRequest_aborts {s : State} {src : Src} {off : Fin 0x4000000} (hsz : off.val < barSize src) (ha : s.admits src = true) :
    Completes (.oversizeRequest src off) s fun t => t.out = .abort src :: s.out ∧ s.records t pgGLB eWIDTH ∧
      Only (fun r => errRegs pgGLB r || irqOwn r) [.out] s t := by
  have hexec : exec (.oversizeRequest src off) s = done s ((s.err pgGLB eWIDTH off (srcCode src)).emit (.abort src)) := by
    simp [exec_oversizeRequest, execOversizeRequest, ha, Nat.not_le.2 hsz]
  have herr : Only (errRegs pgGLB) [] s (s.err pgGLB eWIDTH off (srcCode src)) := (Only.refl s).err_of_errRegs _ _ _ _ fun _ h => h
  refine .of_done hexec ⟨?_, ?_, ?_⟩
  · rw [settled_out, State.emit_out, herr.2 .out (by simp)]
  · exact (records_err _ _ _ _ _ (by decide)).of_reg (settled_reg _ _ _ (by decide))
  · exact Only.settled (R := errRegs pgGLB) ((herr.mono (fun _ h => h) (by simp)).out (by simp) _)

theorem exec_crsNumRead (src : Src) (s : State) : exec (.crsNumRead src) s = execCrsNumRead src s := rfl

/-- R66: the read of CRS_NUM_LO latches CRS_NUM_HI. -/
theorem crsNumRead_latches {s : State} {src : Src} (hr : reaches src 0xA054 = true) (ha : s.admits src = true) (hc : s.pwr.core = true) :
    Completes (.crsNumRead src) s fun t => t.out = .data src (s.rf pgCRS CRS_NUM_LO_NUM) :: s.out ∧
      t.crs.numLatch = s.rf pgCRS CRS_NUM_HI_NUM ∧ Only irqOwn [.crs, .out] s t := by
  have hp : pageOf 0xA054 = some (.crs, 0) := rfl
  have hread : s.busRead src 0xA054 true .clean =
      ({ s with crs := { s.crs with numLatch := s.rf pgCRS CRS_NUM_HI_NUM } }, s.reg 0xA054) := by
    rw [busRead_of_page hr ha hp (by simp [State.pageOff, hc]) (by decide), if_pos rfl,
      regRead_plain _ _ _ _ _ (by decide) (by decide) (by decide) (by decide)]
    rfl
  have hval : (s.reg 0xA054).toNat = s.rf pgCRS CRS_NUM_LO_NUM := by
    have hlt : (s.reg 0xA054).toNat < 2 ^ 32 := BitVec.isLt _
    rw [State.rf, show pgCRS + CRS_NUM_LO_NUM.addr 0 = 0xA054 from rfl, fieldGet, show CRS_NUM_LO_NUM.sh 0 = 0 from rfl,
      show CRS_NUM_LO_NUM.width = 32 from rfl, Nat.pow_zero, Nat.div_one, Nat.mod_eq_of_lt hlt]
  have hexec : exec (.crsNumRead src) s =
      done s (({ s with crs := { s.crs with numLatch := s.rf pgCRS CRS_NUM_HI_NUM } } : State).answer src (s.rf pgCRS CRS_NUM_LO_NUM)) := by
    rw [exec_crsNumRead, execCrsNumRead, show pgCRS + 0x54 = 0xA054 from rfl, hread]
    simp only [hr, ha, hval, Bool.and_self, if_true]
  refine .of_done hexec ⟨by rw [settled_out]; rfl, by rw [settled_crs]; rfl, ?_⟩
  exact (((Only.refl s).crs (by simp) _).out (R := fun _ => false) (by simp) _).settled.mono (fun _ h => by simpa using h) (fun _ h => h)

theorem exec_rcRead (src : Src) (off : Fin 0x4000000) (s : State) : exec (.rcRead src off) s = execRcRead src off s := rfl

/-- A register holds a counter that a read clears. -/
def rcAt (k : PgKind) (i o : Nat) : Bool := (fieldsAt k i o).any fun e => decide (e.1.acc = .rc)

theorem rcAt_of_holdsRc {key : Nat} {k : PgKind} {i : Nat} (hp : pageOf key = some (k, i)) (h : holdsRc key = true) :
    rcAt k i (key % 0x1000) = true := by
  simp only [holdsRc, hp] at h
  exact h

theorem regExists_of_rcAt {k : PgKind} {i o : Nat} (h : rcAt k i o = true) : regExists k i o = true := by
  have hne : fieldsAt k i o ≠ [] := fun h0 => by simp [rcAt, h0] at h
  simp [regExists, hne]

/-- Pages on which a read does more than to answer a register have no counters there. -/
theorem ne_of_rcAt {k : PgKind} {i o : Nat} (h : rcAt k i o = true) : k ≠ .irq ∧ k ≠ .dmr ∧ k ≠ .btxt := by
  have none : (∀ r ∈ rowsOf k i, r.acc ≠ .rc) → False := by
    intro hr
    obtain ⟨e, he, hacc⟩ := List.any_eq_true.1 h
    exact hr _ (mem_fieldsAt he).1 (of_decide_eq_true hacc)
  refine ⟨?_, ?_, ?_⟩ <;> rintro rfl <;> refine none ?_ <;> simp only [rowsOf] <;> decide

/-- Registers whose read latches or starts something hold no counter. -/
theorem rcAt_of_latching (i : Nat) : rcAt .crs i 0x54 = false ∧ rcAt .ylm i 0x48 = false ∧ rcAt .pwr i 0x60 = false ∧
    rcAt .pue i 0x118 = false ∧ rcAt .pue i 0x128 = false ∧ rcAt .pwr i 0x58 = false ∧ rcAt .gut i 0x80 = false :=
  ⟨rfl, rfl, rfl, rfl, rfl, rfl, rfl⟩

/-- R11: the read of a register that holds a counter clears its counters. -/
theorem readEffect_of_rcAt {k : PgKind} {i o : Nat} (s : State) (pg : Nat) (h : rcAt k i o = true) :
    s.readEffect pg k i o = s.rcClear pg k i o := by
  obtain ⟨h1, h2, h3, h4, h5, h6, h7⟩ := rcAt_of_latching i
  have ne : ∀ (k' : PgKind) (o' : Nat), rcAt k' i o' = false → ¬ (k = k' ∧ o = o') := by
    rintro k' o' hf ⟨rfl, rfl⟩
    simp [hf] at h
  have hpue : ¬ (k = .pue ∧ (o = 0x118 ∨ o = 0x128)) := fun hc => hc.2.elim (fun e => ne _ _ h4 ⟨hc.1, e⟩) fun e => ne _ _ h5 ⟨hc.1, e⟩
  simp only [State.readEffect, ne _ _ h1, ne _ _ h2, ne _ _ h3, hpue, ne _ _ h6, ne _ _ h7, or_self, if_false]

/-- R11: RC_READ answers the register and clears its counters. -/
theorem rcRead_clears {s : State} {src : Src} {off : Fin 0x4000000} {key : Nat} {k : PgKind} {i : Nat}
    (hkey : key = srcKey src (off.val / 4 * 4)) (hp : pageOf key = some (k, i)) (hrc : holdsRc key = true) (hr : reaches src key = true)
    (ha : s.admits src = true) (hoff : s.pageOff k = false) :
    Completes (.rcRead src off) s fun t => t.out = .data src (s.regView src key).toNat :: s.out ∧
      Only (fun r => r == key || irqOwn r) [.out] s t ∧ ∀ e ∈ fieldsAt k i (key % 0x1000),
        t.rf (pgBaseOf key) e.1.f e.2 = if e.1.acc = .rc then 0 else s.rf (pgBaseOf key) e.1.f e.2 := by
  have hat := rcAt_of_holdsRc hp hrc
  obtain ⟨hirq, hdmr, hbtx⟩ := ne_of_rcAt hat
  have h4 : key % 4 = 0 := hkey ▸ key_mod_four (Nat.mul_mod_left ..)
  have hread : s.busRead src key true .clean = (s.rcClear (pgBaseOf key) k i (key % 0x1000), s.regView src key) := by
    rw [busRead_of_page hr ha hp hoff (regExists_of_rcAt hat), if_pos rfl,
      regRead_plain _ _ _ _ _ h4 (absurd · hirq) (absurd · hdmr) (absurd · hbtx), readEffect_of_rcAt _ _ hat]
  have hexec : exec (.rcRead src off) s =
      done s ((s.rcClear (pgBaseOf key) k i (key % 0x1000)).answer src (s.regView src key).toNat) := by
    rw [exec_rcRead, execRcRead, ← hkey, hread]
    simp only [hrc, ha, Bool.and_self, if_true]
  have hclr : Only (fun r => r == key) [] s (s.rcClear (pgBaseOf key) k i (key % 0x1000)) :=
    (Only.refl s).rcClear _ _ _ _ (by simp [pgBaseOf_add_mod])
  refine .of_done hexec ⟨?_, ?_, fun e he => ?_⟩
  · rw [settled_out, State.answer, State.emit_out, hclr.2 .out (by simp)]
  · exact Only.settled (R := fun r => r == key) ((hclr.mono (fun _ h => h) (by simp)).out (by simp) _)
  · rw [settled_rf _ _ _ _ _ (by rw [addr_of_mem_fieldsAt he, pgBaseOf_add_mod]; exact irqOwn_of_page hp hirq)]
    exact rf_rcClear s _ _ _ _ e he

end Sys2Proof.Machine
end

section
/-! PROOF. Register accesses (O4). -/

namespace Sys2Proof.Machine

/-- Settles O4: each clause is the lemma about its command; the writes of the pages that start nothing turn on no two fields of a register sharing a bit. -/
theorem registerAccess : Obligations.RegisterAccess := by
  unfold Obligations.RegisterAccess
  refine ⟨?writes, ?others⟩
  case writes =>
    rintro s src off v key pg o k i hkey rfl rfl hp
    refine ⟨fun ha ho hx hk => ⟨?fields, ?range, ?locked, ?record⟩, ?unmapped, ?writer⟩
    case fields => exact fun hb hl hv => registerWrite_fields hkey hp ha ho hx hk hb hl hv
    case range => exact fun hb => registerWrite_range hkey hp ha ho hx hk hb
    case locked => exact fun hb hl hv => registerWrite_locked hkey hp ha ho hx hk hb hl hv
    case record => exact fun hb hl hv hr => registerWrite_record hkey hp ha ho hx hk hb hl hv hr
    case unmapped => exact fun ha hx => registerWrite_unmapped hkey hp ha hx
    case writer => exact fun hr ha hoff hw => registerWrite_not_writer hkey hp hr ha hoff hw
  case others =>
    intro s src off
    refine ⟨?scratch, ?whole, ?pair, ?partial_write, ?read, ?oversize, ?crsNum, ?counters⟩
    case scratch => exact fun m v hoff ha hb => registerWrite_scratch m v hoff ha hb
    case whole => exact fun be d ups h4 hsz ha hbe => bar0Request_whole_write h4 hsz ha d hbe
    case pair => exact fun v hoff ha hs => bar0Request_scratch_pair v hoff ha hs
    case partial_write => exact fun be d ups k i h4 hsz hbe ha hp hx => bar0Request_partial_write h4 hsz hbe ha hp hx
    case read => exact fun be ups k i h4 hsz hr ha _ hp hoff hx hirq hdmr hbtx => bar0Request_read h4 hsz hr ha hp hoff hx hirq hdmr hbtx
    case oversize => exact fun hsz ha => oversizeRequest_aborts hsz ha
    case crsNum => exact fun hr ha hc => crsNumRead_latches hr ha hc
    case counters => exact fun key k i hkey hp hrc hr ha hoff => rcRead_clears hkey hp hrc hr ha hoff

end Sys2Proof.Machine
end

section
/-! PROOF. Fields of the common header that an operation leaves as they are (R76 to R80). -/

namespace Sys2Proof.Machine

/-- From s to t these fields stay as they are on every page. -/
def FldsKept (fs : List Fld) (s t : State) : Prop := ∀ pg, pg % 0x1000 = 0 → ∀ f ∈ fs, t.rf pg f = s.rf pg f

/-- The field meets none of these others of a page: it lies in another register, or in other bits. -/
def Fld.spares (g : Fld) (fs : List Fld) : Bool :=
  g.ok && decide (g.addr 0 < 0x1000) && fs.all fun f => decide (f.addr 0 < 0x1000) &&
    (decide (f.addr 0 ≠ g.addr 0) || decide (f.sh 0 + f.width ≤ g.sh 0) || decide (g.sh 0 + g.width ≤ f.sh 0))

/-- The header fields that the start of a block leaves. -/
def enFlds : List Fld := [PG_CTRL_EN, PG_STAT_QUIESCING, PG_STAT_EN_PEND]

/-- The header fields that a request to freeze, and the tray's changes of state, leave. -/
def statFlds : List Fld := [PG_CTRL_EN, PG_CTRL_SRST, PG_STAT_QUIESCING, PG_STAT_EN_PEND, PG_STAT_READY, PG_EVT_EN]

section
variable {fs : List Fld} {s t u : State}

theorem FldsKept.refl (s : State) : FldsKept fs s s := fun _ _ _ _ => rfl

theorem FldsKept.trans (h1 : FldsKept fs s t) (h2 : FldsKept fs t u) : FldsKept fs s u :=
  fun pg hpg f hf => (h2 pg hpg f hf).trans (h1 pg hpg f hf)

theorem FldsKept.of_regs (h : FldsKept fs s t) (hr : u.regs = t.regs) : FldsKept fs s u :=
  h.trans fun _ _ _ _ => by simp only [State.rf, State.reg, hr]

/-- A write of a field that meets none of them. -/
theorem FldsKept.wf (h : FldsKept fs s t) {pg : Nat} {g : Fld} {v : Nat} (hpg : pg % 0x1000 = 0) (hg : g.spares fs = true) :
    FldsKept fs s (t.wf pg g v) := by
  refine h.trans fun pg' hpg' f hf => ?_
  simp only [Fld.spares, Bool.and_eq_true, decide_eq_true_eq, List.all_eq_true, Bool.or_eq_true] at hg
  obtain ⟨⟨hok, hlt⟩, hall⟩ := hg
  obtain ⟨hflt, (haddr | hlow) | hhigh⟩ := hall f hf
  · exact rf_wf_ne _ _ _ _ _ _ _ _ (by omega)
  all_goals
    by_cases hsame : pg' = pg
    · subst hsame
      exact rf_wf_of_disjoint _ _ _ _ _ _ _ hok (by omega)
    · exact rf_wf_ne _ _ _ _ _ _ _ _ (by omega)

theorem FldsKept.ite {c : Prop} [Decidable c] (ht : FldsKept fs s t) (hu : FldsKept fs s u) :
    FldsKept fs s (if c then t else u) := by split <;> assumption

theorem FldsKept.bit (h : FldsKept fs s t) {pg : Nat} {f : Fld} (hpg : pg % 0x1000 = 0) (hf : f ∈ fs) : t.bit pg f = s.bit pg f := by
  simp only [State.bit, h pg hpg f hf]

end

/-! ## The tray's states, and the starts of blocks -/

theorem setTray_kept (s : State) (st step : Nat) (wait : Bool) : FldsKept statFlds s (s.setTray st step wait) := by
  have hset := (((FldsKept.refl (fs := statFlds) s).wf (pg := pgGLB) (g := GLB_STATE_STATE) (v := st) rfl rfl).wf
    (pg := pgGLB) (g := GLB_STATE_STEP) (v := step) rfl rfl).wf (pg := pgPWR) (g := PWR_STAT_WAIT_ADV) (v := bnat wait) rfl rfl
  exact FldsKept.ite (hset.wf (pg := pgPWR) (g := PG_EVT_RAW) rfl rfl) hset

/-- R614: the changes between RUN and IDLE leave the headers alone. -/
theorem idleCheck_kept (s : State) : FldsKept statFlds s s.idleCheck :=
  .ite ((setTray_kept s tIDLE 0 false).of_regs rfl) (.ite ((setTray_kept s tRUN 0 false).of_regs rfl) (.refl s))

theorem otFormat_kept (s : State) : FldsKept enFlds s s.otFormat := by
  have hpages : ∀ (l : List Nat) (s : State), (l.foldl (fun s p => (s.setPageUse p .used).zeroPage p) s).regs = s.regs := by
    intro l
    induction l with
    | nil => exact fun _ => rfl
    | cons p l ih => exact fun s => ih _
  unfold State.otFormat
  refine FldsKept.wf (.of_regs (.refl s) ?_) rfl rfl
  exact hpages _ _

theorem crsStart_kept (s : State) : FldsKept enFlds s s.crsStart := by
  have hforget := ((FldsKept.refl (fs := enFlds) s).wf (pg := pgCRS) (g := CRS_STAT_HOLDOVER) (v := 0) rfl rfl).wf
    (pg := pgCRS) (g := CRS_STAT_REALIGN) (v := 0) rfl rfl
  exact (hforget.of_regs rfl).wf (pg := pgCRS) (g := CRS_STAT_SYNC_OK) rfl rfl

theorem katStart_kept (s : State) (y : Nat) : FldsKept enFlds s (s.katStart y) := by
  have hpg : pgYLM y % 0x1000 = 0 := by unfold pgYLM; omega
  exact (((FldsKept.refl s).of_regs rfl).wf (g := YLM_KAT_STAT_RUN) hpg rfl).wf (g := PG_STAT_READY) hpg rfl

theorem fscStart_kept (s : State) : FldsKept enFlds s s.fscStart :=
  .ite (((FldsKept.refl s).of_regs rfl).wf (pg := pgFSC) (g := FSC_TEST_STAT_RUN) rfl rfl) ((FldsKept.refl s).of_regs rfl)

/-- The start of a block neither ends its enable nor begins or ends a drain. -/
theorem startBegin_kept (s : State) (pg : Nat) (k : PgKind) (i : Nat) : FldsKept enFlds s (s.startBegin pg k i) := by
  cases k with
  | crs => exact crsStart_kept s
  | pur => exact FldsKept.ite (.refl s) (otFormat_kept s)
  | pue => exact (FldsKept.refl s).wf (pg := pgPUE) (g := PUE_LEVEL_UJ) rfl rfl
  | ylm => exact FldsKept.ite (katStart_kept s i) ((FldsKept.refl s).of_regs rfl)
  | stk | btxc => exact (FldsKept.refl s).of_regs rfl
  | fsc => exact fscStart_kept s
  | _ => exact .refl s

end Sys2Proof.Machine
end

section
/-! PROOF. A write of PG_CTRL: enable, drain, soft reset, freeze (R77 to R80). -/

namespace Sys2Proof.Machine

/-! ## EN of a page (R77, R78) -/

section
variable {s : State} {pg : Nat} {k : PgKind} {i : Nat}

/-- A block that is disabled and does not drain starts. -/
theorem enWrite_starts (hpg : pg % 0x1000 = 0) (hen : s.bit pg PG_CTRL_EN = false) (hq : s.bit pg PG_STAT_QUIESCING = false) :
    (s.enWrite pg k i true).bit pg PG_CTRL_EN = true := by
  have hstart : s.enWrite pg k i true = (s.wf pg PG_CTRL_EN 1).startBegin pg k i := by simp [State.enWrite, hen, hq]
  rw [hstart, (startBegin_kept _ pg k i).bit hpg (by decide), bit_wf_same _ _ _ _ _ rfl]
  rfl

/-- An enable during a drain is held. -/
theorem enWrite_pends (hen : s.bit pg PG_CTRL_EN = false) (hq : s.bit pg PG_STAT_QUIESCING = true) :
    (s.enWrite pg k i true).bit pg PG_CTRL_EN = true ∧ (s.enWrite pg k i true).bit pg PG_STAT_EN_PEND = true ∧
      (s.enWrite pg k i true).bit pg PG_STAT_QUIESCING = true := by
  have hpend : s.enWrite pg k i true = (s.wf pg PG_CTRL_EN 1).wf pg PG_STAT_EN_PEND 1 := by simp [State.enWrite, hen, hq]
  rw [hpend]
  refine ⟨?_, ?_, ?_⟩
  · rw [bit_wf_of_disjoint _ _ _ _ _ _ _ rfl (by decide), bit_wf_same _ _ _ _ _ rfl]; rfl
  · rw [bit_wf_same _ _ _ _ _ rfl]; rfl
  · rw [bit_wf_of_disjoint _ _ _ _ _ _ _ rfl (by decide), bit_wf_of_disjoint _ _ _ _ _ _ _ rfl (by decide), hq]

/-- A disable begins a drain; but CRS before its first tick stops at once. -/
theorem enWrite_drains (hen : s.bit pg PG_CTRL_EN = true) (hq : s.bit pg PG_STAT_QUIESCING = false)
    (hc : k = .crs → s.crs.first = false) : (s.enWrite pg k i false).bit pg PG_CTRL_EN = false ∧
      (s.enWrite pg k i false).bit pg PG_STAT_READY = false ∧ (s.enWrite pg k i false).bit pg PG_STAT_QUIESCING = true := by
  have hno : ¬ (k = .crs ∧ s.crs.first = true) := fun h => by simp [hc h.1] at h
  have hdrain : s.enWrite pg k i false =
      ((({ s with drainReady := smSet (fun _ => false) s.drainReady pg (s.ready pg) } : State).wf pg PG_CTRL_EN 0).wf pg
        PG_STAT_READY 0).wf pg PG_STAT_QUIESCING 1 := by
    simp [State.enWrite, hen, hq, hno]
  rw [hdrain]
  refine ⟨?_, ?_, ?_⟩
  · rw [bit_wf_of_disjoint _ _ _ _ _ _ _ rfl (by decide), bit_wf_of_disjoint _ _ _ _ _ _ _ rfl (by decide), bit_wf_same _ _ _ _ _ rfl]; rfl
  · rw [bit_wf_of_disjoint _ _ _ _ _ _ _ rfl (by decide), bit_wf_same _ _ _ _ _ rfl]; rfl
  · rw [bit_wf_same _ _ _ _ _ rfl]; rfl

/-- A disable during a drain takes a held enable back. -/
theorem enWrite_unpends (hen : s.bit pg PG_CTRL_EN = true) (hq : s.bit pg PG_STAT_QUIESCING = true) :
    (s.enWrite pg k i false).bit pg PG_CTRL_EN = false ∧ (s.enWrite pg k i false).bit pg PG_STAT_EN_PEND = false ∧
      (s.enWrite pg k i false).bit pg PG_STAT_QUIESCING = true := by
  have hunpend : s.enWrite pg k i false = (s.wf pg PG_CTRL_EN 0).wf pg PG_STAT_EN_PEND 0 := by simp [State.enWrite, hen, hq]
  rw [hunpend]
  refine ⟨?_, ?_, ?_⟩
  · rw [bit_wf_of_disjoint _ _ _ _ _ _ _ rfl (by decide), bit_wf_same _ _ _ _ _ rfl]; rfl
  · rw [bit_wf_same _ _ _ _ _ rfl]; rfl
  · rw [bit_wf_of_disjoint _ _ _ _ _ _ _ rfl (by decide), bit_wf_of_disjoint _ _ _ _ _ _ _ rfl (by decide), hq]

/-- EN written with the value that it holds changes nothing. -/
theorem enWrite_same : s.enWrite pg k i (s.bit pg PG_CTRL_EN) = s := by
  cases hen : s.bit pg PG_CTRL_EN <;> simp [State.enWrite, hen]

/-- R78: as a drain ends, no enable is held any more. -/
theorem drainEnd_clears (hpg : pg % 0x1000 = 0) (s : State) (k : PgKind) (i : Nat) :
    (s.drainEnd pg k i).bit pg PG_STAT_QUIESCING = false ∧ (s.drainEnd pg k i).bit pg PG_STAT_EN_PEND = false := by
  have hquiet : (s.wf pg PG_STAT_QUIESCING 0).bit pg PG_STAT_QUIESCING = false := by rw [bit_wf_same _ _ _ _ _ rfl]; rfl
  unfold State.drainEnd
  split
  · have hkept := startBegin_kept ((s.wf pg PG_STAT_QUIESCING 0).wf pg PG_STAT_EN_PEND 0) pg k i
    rw [hkept.bit hpg (by decide), hkept.bit hpg (by decide), bit_wf_same _ _ _ _ _ rfl,
      bit_wf_of_disjoint _ _ _ _ _ _ _ rfl (by decide)]
    exact ⟨hquiet, rfl⟩
  · next hno =>
    refine ⟨hquiet, ?_⟩
    rw [bit_wf_of_disjoint _ _ _ _ _ _ _ rfl (by decide)]
    simpa using hno

end

/-! ## The parts of PG_CTRL in one write -/

/-- FREEZE of a page that has it. -/
def State.freezePart (s : State) (pg : Nat) (k : PgKind) (on : Bool) : State := if k.freezes then s.freezeWrite pg on else s

theorem freezeWrite_kept (s : State) {pg : Nat} (hpg : pg % 0x1000 = 0) (on : Bool) : FldsKept statFlds s (s.freezeWrite pg on) := by
  have hset := (FldsKept.refl (fs := statFlds) s).wf (g := PG_CTRL_FREEZE) (v := bnat on) hpg rfl
  exact FldsKept.ite hset (hset.of_regs rfl)

theorem freezePart_kept (s : State) {pg : Nat} (hpg : pg % 0x1000 = 0) (k : PgKind) (on : Bool) : FldsKept statFlds s (s.freezePart pg k on) :=
  .ite (freezeWrite_kept s hpg on) (.refl s)

theorem crs_freezePart (s : State) (pg : Nat) (k : PgKind) (on : Bool) : (s.freezePart pg k on).crs = s.crs := by
  cases on <;> unfold State.freezePart State.freezeWrite <;> split <;> rfl

theorem bit_freezePart {s : State} {pg : Nat} {k : PgKind} (hk : k.freezes = true) (on : Bool) :
    (s.freezePart pg k on).bit pg PG_CTRL_FREEZE = on := by
  have hset : (s.wf pg PG_CTRL_FREEZE (bnat on)).bit pg PG_CTRL_FREEZE = on := by
    rw [bit_wf_same _ _ _ _ _ rfl]; cases on <;> rfl
  rw [State.freezePart, if_pos hk]
  cases on <;> exact hset

/-- Every page with a soft reset or a freeze has an enable; FLS has none of them, and HBM no more than the enable. -/
theorem enables_of_srsts {k : PgKind} (h : k.srsts = true) : k.enables = true := by revert h; cases k <;> decide
theorem enables_of_freezes {k : PgKind} (h : k.freezes = true) : k.enables = true := by revert h; cases k <;> decide
theorem ne_fls_of_enables {k : PgKind} (h : k.enables = true) : k ≠ .fls := by rintro rfl; exact absurd h (by decide)
theorem ne_hbm_of_srsts {k : PgKind} (h : k.srsts = true) : k ≠ .hbm := by rintro rfl; exact absurd h (by decide)
theorem ne_hbm_of_freezes {k : PgKind} (h : k.freezes = true) : k ≠ .hbm := by rintro rfl; exact absurd h (by decide)

section
variable {s : State} {src : Src} {pg : Nat} {k : PgKind} {i : Nat} (hpg : pg % 0x1000 = 0) (hk : k.enables = true)
include hpg hk

/-- Of a write without SRST: FREEZE, and then EN; a stack takes none while CRS is enabled. -/
theorem ctrlWrite_of_no_srst {v : Word32} (hh : k = .hbm → s.bit pgCRS PG_CTRL_EN = false) (hv : v.getLsbD 1 = false) :
    s.ctrlWrite src pg k i v = (s.freezePart pg k (v.getLsbD 2)).enWrite pg k i (v.getLsbD 0) := by
  have hno : ¬ (k = .hbm ∧ (s.freezePart pg k (v.getLsbD 2)).bit pgCRS PG_CTRL_EN = true) := by
    rintro ⟨hhbm, hen⟩
    rw [(freezePart_kept s hpg k _).bit rfl (by decide), hh hhbm] at hen
    exact absurd hen (by decide)
  simp only [State.ctrlWrite, hv, Bool.and_false, Bool.false_eq_true, if_false, hk, Bool.not_true]
  exact if_neg hno

variable (hp : pageOf pg = some (k, i)) (ha : s.accepts src (pg + 8) = true)
include hp ha

/-- A command that writes PG_CTRL and is taken up. -/
theorem ctrlCmd_of_accepts (f : Nat → Nat) :
    s.ctrlCmd src pg f = s.ctrlWrite src pg k i (BitVec.ofNat 32 (f (s.rf pg PG_CTRL_EN + 4 * s.rf pg PG_CTRL_FREEZE))) := by
  have hp8 : pageOf (pg + 8) = some (k, i) := (pageOf_add _ _ hpg (by decide)).trans hp
  simp only [State.ctrlCmd, hpg, ne_eq, not_true_eq_false, if_false, ifWriter_accepted _ ha hp8 (ne_fls_of_enables hk), hp]

end

/-! ## The values that the commands write -/

/-- EN and FREEZE are bits. -/
theorem ctrl_fields_lt (s : State) (pg : Nat) : s.rf pg PG_CTRL_EN < 2 ∧ s.rf pg PG_CTRL_FREEZE < 2 := ⟨rf_lt .., rf_lt ..⟩

theorem eq_zero_or_one {e : Nat} (he : e < 2) : e = 0 ∨ e = 1 := by omega

theorem enable_value {e z : Nat} (he : e < 2) (hz : z < 2) : (BitVec.ofNat 32 ((e + 4 * z) / 2 * 2 + 1)).getLsbD 0 = true ∧
    (BitVec.ofNat 32 ((e + 4 * z) / 2 * 2 + 1)).getLsbD 1 = false := by
  rcases eq_zero_or_one he with rfl | rfl <;> rcases eq_zero_or_one hz with rfl | rfl <;> decide

theorem disable_value {e z : Nat} (he : e < 2) (hz : z < 2) : (BitVec.ofNat 32 ((e + 4 * z) / 2 * 2)).getLsbD 0 = false ∧
    (BitVec.ofNat 32 ((e + 4 * z) / 2 * 2)).getLsbD 1 = false := by
  rcases eq_zero_or_one he with rfl | rfl <;> rcases eq_zero_or_one hz with rfl | rfl <;> decide

theorem srst_value {e z : Nat} (he : e < 2) (hz : z < 2) : (BitVec.ofNat 32 (e + 4 * z + 2)).getLsbD 0 = (e != 0) ∧
    (BitVec.ofNat 32 (e + 4 * z + 2)).getLsbD 1 = true := by
  rcases eq_zero_or_one he with rfl | rfl <;> rcases eq_zero_or_one hz with rfl | rfl <;> decide

theorem freeze_value {e z : Nat} (on : Bool) (he : e < 2) (hz : z < 2) :
    (BitVec.ofNat 32 ((e + 4 * z) % 4 + 4 * bnat on)).getLsbD 0 = (e != 0) ∧
      (BitVec.ofNat 32 ((e + 4 * z) % 4 + 4 * bnat on)).getLsbD 1 = false ∧
      (BitVec.ofNat 32 ((e + 4 * z) % 4 + 4 * bnat on)).getLsbD 2 = on := by
  revert on
  rcases eq_zero_or_one he with rfl | rfl <;> rcases eq_zero_or_one hz with rfl | rfl <;> decide

/-! ## The commands -/

theorem exec_enable (src : Src) (pg : Nat) (s : State) : exec (.enable src pg) s = done s (s.ctrlCmd src pg fun x => x / 2 * 2 + 1) := rfl

theorem exec_disable (src : Src) (pg : Nat) (s : State) : exec (.disable src pg) s = done s (s.ctrlCmd src pg fun x => x / 2 * 2) := rfl

theorem exec_srst (src : Src) (pg : Nat) (s : State) : exec (.srst src pg) s = done s (s.ctrlCmd src pg fun x => x + 2) := rfl

theorem exec_freeze (src : Src) (pg : Nat) (on : Bool) (s : State) :
    exec (.freeze src pg on) s = done s (s.ctrlCmd src pg fun x => x % 4 + 4 * bnat on) := rfl

/-- A header field other than PG_EVT_RAW reads after a command what the command's effect leaves. -/
theorem settled_hdr {s u : State} {pg : Nat} (hpg : pg % 0x1000 = 0) {f : Fld} (hf : f ∈ statFlds ++ [PG_CTRL_FREEZE, PG_LOCK_LOCK]) :
    (settled s u).rf pg f = u.rf pg f := by
  refine settled_rf _ _ _ _ _ (irqOwn_header _ _ hpg ?_ ?_) <;> revert f <;> decide

theorem settled_hdr_bit {s u : State} {pg : Nat} (hpg : pg % 0x1000 = 0) {f : Fld} (hf : f ∈ statFlds ++ [PG_CTRL_FREEZE, PG_LOCK_LOCK]) :
    (settled s u).bit pg f = u.bit pg f := by simp only [State.bit, settled_hdr hpg hf]

/-- A command whose effect is a write of FREEZE and EN: what holds of every write of EN to a block as enabled and as draining as it was. -/
theorem completes_enWrite {c : Instr} {s : State} {pg : Nat} {k : PgKind} {i : Nat} {en : Bool} {Q : State → Prop} (hpg : pg % 0x1000 = 0)
    (hexec : ∃ z, exec c s = done s ((s.freezePart pg k z).enWrite pg k i en))
    (h : ∀ u : State, u.bit pg PG_CTRL_EN = s.bit pg PG_CTRL_EN → u.bit pg PG_STAT_QUIESCING = s.bit pg PG_STAT_QUIESCING →
      u.crs = s.crs → Q (settled s (u.enWrite pg k i en))) : Completes c s Q := by
  obtain ⟨z, hexec⟩ := hexec
  have hkept := freezePart_kept s hpg k z
  exact .of_done hexec (h _ (hkept.bit hpg (by decide)) (hkept.bit hpg (by decide)) (crs_freezePart ..))

section
variable {s : State} {src : Src} {pg : Nat} {k : PgKind} {i : Nat} (hpg : pg % 0x1000 = 0) (hp : pageOf pg = some (k, i))
  (ha : s.accepts src (pg + 8) = true)
include hpg hp ha

section
variable (hk : k.enables = true) (hh : k = .hbm → s.bit pgCRS PG_CTRL_EN = false)
include hk hh

/-- ENABLE writes EN = 1, and what FREEZE holds. -/
theorem exec_enable_of_accepts : ∃ z, exec (.enable src pg) s = done s ((s.freezePart pg k z).enWrite pg k i true) := by
  obtain ⟨h0, h1⟩ := enable_value (ctrl_fields_lt s pg).1 (ctrl_fields_lt s pg).2
  have hw := ctrlCmd_of_accepts hpg hk hp ha fun x => x / 2 * 2 + 1
  rw [ctrlWrite_of_no_srst hpg hk hh h1, h0] at hw
  exact ⟨_, (exec_enable ..).trans (congrArg (done s) hw)⟩

/-- DISABLE writes EN = 0, and what FREEZE holds. -/
theorem exec_disable_of_accepts : ∃ z, exec (.disable src pg) s = done s ((s.freezePart pg k z).enWrite pg k i false) := by
  obtain ⟨h0, h1⟩ := disable_value (ctrl_fields_lt s pg).1 (ctrl_fields_lt s pg).2
  have hw := ctrlCmd_of_accepts hpg hk hp ha fun x => x / 2 * 2
  rw [ctrlWrite_of_no_srst hpg hk hh h1, h0] at hw
  exact ⟨_, (exec_disable ..).trans (congrArg (done s) hw)⟩

/-- R77: EN = 1 written to a block that is disabled and does not drain. -/
theorem enable_starts (hen : s.bit pg PG_CTRL_EN = false) (hq : s.bit pg PG_STAT_QUIESCING = false) :
    Completes (.enable src pg) s fun t => t.bit pg PG_CTRL_EN = true :=
  completes_enWrite hpg (exec_enable_of_accepts hpg hp ha hk hh) fun u hen' hq' _ => by
    simpa (disch := decide) only [settled_hdr_bit hpg] using enWrite_starts hpg (hen'.trans hen) (hq'.trans hq)

/-- R77: EN = 1 written to a block that is disabled and drains. -/
theorem enable_pends (hen : s.bit pg PG_CTRL_EN = false) (hq : s.bit pg PG_STAT_QUIESCING = true) :
    Completes (.enable src pg) s fun t =>
      t.bit pg PG_CTRL_EN = true ∧ t.bit pg PG_STAT_EN_PEND = true ∧ t.bit pg PG_STAT_QUIESCING = true :=
  completes_enWrite hpg (exec_enable_of_accepts hpg hp ha hk hh) fun u hen' hq' _ => by
    simpa (disch := decide) only [settled_hdr_bit hpg] using enWrite_pends (hen'.trans hen) (hq'.trans hq)

/-- R77: EN = 0 written to a block that is enabled and does not drain. -/
theorem disable_drains (hen : s.bit pg PG_CTRL_EN = true) (hq : s.bit pg PG_STAT_QUIESCING = false)
    (hc : k = .crs → s.crs.first = false) : Completes (.disable src pg) s fun t =>
      t.bit pg PG_CTRL_EN = false ∧ t.bit pg PG_STAT_READY = false ∧ t.bit pg PG_STAT_QUIESCING = true :=
  completes_enWrite hpg (exec_disable_of_accepts hpg hp ha hk hh) fun u hen' hq' hcrs => by
    simpa (disch := decide) only [settled_hdr_bit hpg] using enWrite_drains (hen'.trans hen) (hq'.trans hq) (hcrs ▸ hc)

/-- R77: EN = 0 written to a block that is enabled and drains. -/
theorem disable_unpends (hen : s.bit pg PG_CTRL_EN = true) (hq : s.bit pg PG_STAT_QUIESCING = true) :
    Completes (.disable src pg) s fun t =>
      t.bit pg PG_CTRL_EN = false ∧ t.bit pg PG_STAT_EN_PEND = false ∧ t.bit pg PG_STAT_QUIESCING = true :=
  completes_enWrite hpg (exec_disable_of_accepts hpg hp ha hk hh) fun u hen' hq' _ => by
    simpa (disch := decide) only [settled_hdr_bit hpg] using enWrite_unpends (hen'.trans hen) (hq'.trans hq)

end

/-- R80: FREEZE takes the value that is written. -/
theorem freeze_sets (hf : k.freezes = true) (on : Bool) : Completes (.freeze src pg on) s fun t => t.bit pg PG_CTRL_FREEZE = on := by
  obtain ⟨h0, h1, h2⟩ := freeze_value on (ctrl_fields_lt s pg).1 (ctrl_fields_lt s pg).2
  have hk := enables_of_freezes hf
  have hw := ctrlCmd_of_accepts hpg hk hp ha fun x => x % 4 + 4 * bnat on
  have hen : (s.rf pg PG_CTRL_EN != 0) = (s.freezePart pg k on).bit pg PG_CTRL_EN :=
    ((freezePart_kept s hpg k on).bit hpg (by decide)).symm
  rw [ctrlWrite_of_no_srst hpg hk (absurd · (ne_hbm_of_freezes hf)) h1, h0, h2, hen, enWrite_same] at hw
  refine .of_done ((exec_freeze ..).trans (congrArg (done s) hw)) ?_
  rw [settled_hdr_bit hpg (by decide), bit_freezePart hf]

end

end Sys2Proof.Machine
end

section
/-! PROOF. The ends of start and drain, soft reset, and the event, error and lock registers (R78 to R80, R84, R87, R89). -/

namespace Sys2Proof.Machine

/-! ## Ends of start and drain (R78) -/

theorem enPage_eq {pg : Nat} {k : PgKind} {i : Nat} (h : enPage pg = some (k, i)) :
    pg % 0x1000 = 0 ∧ pageOf pg = some (k, i) ∧ k.enables = true := by
  simp only [enPage] at h
  split at h
  · next hpg =>
    split at h
    · next k' i' hp =>
      split at h
      · next hk => cases h; exact ⟨hpg, hp, hk⟩
      · cases h
    · cases h
  · cases h

theorem enPage_of_page {pg : Nat} {k : PgKind} {i : Nat} (hpg : pg % 0x1000 = 0) (hp : pageOf pg = some (k, i)) (hk : k.enables = true) :
    enPage pg = some (k, i) := by simp [enPage, hpg, hp, hk]

theorem exec_startComplete (pg : Nat) (s : State) : exec (.startComplete pg) s = execStartComplete pg s := rfl

theorem exec_drainComplete (pg : Nat) (s : State) : exec (.drainComplete pg) s = execDrainComplete pg s := rfl

section
variable {s : State} {pg : Nat} {k : PgKind} {i : Nat} (he : enPage pg = some (k, i))
include he

/-- The start of an enabled block ends: it is ready. -/
theorem startComplete_readies (hen : s.bit pg PG_CTRL_EN = true) (hq : s.bit pg PG_STAT_QUIESCING = false) (hr : s.ready pg = false)
    (hst : s.started pg k = true) : Completes (.startComplete pg) s fun t => t.bit pg PG_STAT_READY = true := by
  have hpg := (enPage_eq he).1
  have hexec : exec (.startComplete pg) s =
      done s (((if k = .hbm then s.wf pg HBM_STAT_SREF 0 else s).wf pg PG_STAT_READY 1).idleCheck) := by
    simp [exec_startComplete, execStartComplete, he, hen, hq, hr, hst]
  refine .of_done hexec ?_
  rw [settled_hdr_bit hpg (by decide), (idleCheck_kept _).bit hpg (by decide), bit_wf_same _ _ _ _ _ rfl]
  rfl

/-- R78: the drain of a block ends. -/
theorem drainComplete_ends (hq : s.bit pg PG_STAT_QUIESCING = true) (hf : s.frozenPage pg = false) (hd : s.drained pg k = true) :
    Completes (.drainComplete pg) s fun t => t.bit pg PG_STAT_QUIESCING = false ∧ t.bit pg PG_STAT_EN_PEND = false := by
  have hpg := (enPage_eq he).1
  have hexec : exec (.drainComplete pg) s =
      done s (((if k = .hbm then s.wf pg HBM_STAT_SREF 1 else s).drainEnd pg k i).idleCheck) := by
    simp [exec_drainComplete, execDrainComplete, he, hq, hf, hd]
  refine .of_done hexec ?_
  rw [settled_hdr_bit hpg (by decide), settled_hdr_bit hpg (by decide), (idleCheck_kept _).bit hpg (by decide),
    (idleCheck_kept _).bit hpg (by decide)]
  exact drainEnd_clears hpg _ k i

end

/-! ## Soft reset (R79) -/

/-- A key that a list of writes sets to one value alone, or that holds it and is not listed. -/
theorem smGet_smSetMany_of_all {α : Type} [DecidableEq α] (d : Nat → α) (l : List (Nat × α)) (m : SMap α) (j : Nat) (v : α)
    (hl : ∀ e ∈ l, e.1 = j → e.2 = v) (hm : (∀ e ∈ l, e.1 ≠ j) → smGet d m j = v) : smGet d (smSetMany d m l) j = v := by
  induction l generalizing m with
  | nil => exact hm (by simp)
  | cons e l ih =>
    obtain ⟨a, w⟩ := e
    refine ih _ (fun e he => hl e (.tail _ he)) fun hno => ?_
    by_cases h : j = a
    · subst h
      rw [smGet_smSet_same]
      exact hl (j, w) (.head _) rfl
    · rw [smGet_smSet_ne _ _ _ _ h]
      refine hm fun e he => ?_
      rcases List.mem_cons.1 he with rfl | he
      · exact Ne.symm h
      · exact hno e he

theorem smGet_of_unlisted {α : Type} (d : Nat → α) (m : SMap α) (j : Nat) (h : ∀ e ∈ m, e.1 ≠ j) : smGet d m j = d j := by
  induction m with
  | nil => rfl
  | cons e m ih =>
    rw [smGet, if_neg (h e (.head _)), ih fun e he => h e (.tail _ he)]

/-- A soft reset returns the header registers of a page to 0, but for PG_LOCK and the dormer's events. -/
theorem reg_warmPages_header (s : State) (p : PgKind → Nat → Bool) {pg off : Nat} {k : PgKind} {i : Nat} (hpg : pg % 0x1000 = 0)
    (hp : pageOf pg = some (k, i)) (hk : p k i = true) (ho : off < 0x40) (hlock : off ≠ 0x2C) (hraw : off ≠ 0x10) :
    (s.warmPages p true).reg (pg + off) = 0 := by
  have hpage : pageOf (pg + off) = some (k, i) := (pageOf_add _ _ hpg (by omega)).trans hp
  have hoff : (pg + off) % 0x1000 = off := by omega
  refine smGet_smSetMany_of_all _ _ _ _ _ (fun e he hkey => ?_) fun hno => ?_
  · obtain ⟨e, -, rfl⟩ := List.mem_map.1 he
    have hkey : e.1 = pg + off := hkey
    simp [warmEntry, hkey, hpage, hk, hoff, ho, hlock]
  · rw [smGet_of_unlisted _ _ _ fun e he => hno (e.1, warmEntry p true e.1 e.2) (List.mem_map_of_mem he)]
    simp [regDefault, hpage, hoff, ho, hraw]

theorem rf_warmPages_header (s : State) (p : PgKind → Nat → Bool) {pg : Nat} {k : PgKind} {i : Nat} (hpg : pg % 0x1000 = 0)
    (hp : pageOf pg = some (k, i)) (hk : p k i = true) {f : Fld} (hf : f ∈ statFlds) : (s.warmPages p true).rf pg f = 0 := by
  obtain ⟨hlt, hlock, hraw⟩ : f.addr 0 < 0x40 ∧ f.addr 0 ≠ 0x2C ∧ f.addr 0 ≠ 0x10 := by revert f; decide
  simp [State.rf, reg_warmPages_header s p hpg hp hk hlt hlock hraw, fieldGet]

/-- What a soft reset leaves: SRST reads 1 over the page's reset values. -/
theorem srst_eq (s : State) (src : Src) (pg : Nat) (k : PgKind) (i : Nat) : s.srst src pg k i true =
    ((s.blockReset k i).warmPages (fun k' i' => k' == k && i' == i) true).wf pg PG_CTRL_SRST 1 := rfl

theorem bit_srst (s : State) (src : Src) (pg : Nat) (k : PgKind) (i : Nat) : (s.srst src pg k i true).bit pg PG_CTRL_SRST = true := by
  rw [srst_eq, bit_wf_same _ _ _ _ _ rfl]; rfl

section
variable {s : State} {src : Src} {pg : Nat} {k : PgKind} {i : Nat} (hpg : pg % 0x1000 = 0) (hp : pageOf pg = some (k, i))
include hpg hp

theorem rf_srst {f : Fld} (hf : f ∈ [PG_CTRL_EN, PG_EVT_EN]) : (s.srst src pg k i true).rf pg f = 0 := by
  obtain ⟨hmem, hapart⟩ : f ∈ statFlds ∧ (f.sh 0 + f.width ≤ PG_CTRL_SRST.sh 0 ∨ f.addr 0 ≠ PG_CTRL_SRST.addr 0) := by
    revert f; decide
  have hwarm := rf_warmPages_header (s.blockReset k i) (fun k' i' => k' == k && i' == i) hpg hp (by simp) hmem
  rw [srst_eq]
  rcases hapart with hlow | haddr
  · exact (rf_wf_of_disjoint _ _ _ _ _ _ _ rfl (.inl hlow)).trans hwarm
  · exact (rf_wf_ne _ _ _ _ _ _ _ _ (by omega)).trans hwarm

section
variable (hk : k.srsts = true) (hen : s.bit pg PG_CTRL_EN = false) (hq : s.bit pg PG_STAT_QUIESCING = false)
  (hpend : s.bit pg PG_STAT_EN_PEND = false)
include hk hen hq hpend

/-- Of a write with SRST = 1 and EN = 0 to a block at rest: the reset, and then FREEZE. -/
theorem ctrlWrite_of_srst {v : Word32} (h0 : v.getLsbD 0 = false) (h1 : v.getLsbD 1 = true) :
    s.ctrlWrite src pg k i v = (s.srst src pg k i true).freezePart pg k (v.getLsbD 2) := by
  have hoff : ((s.srst src pg k i true).freezePart pg k (v.getLsbD 2)).bit pg PG_CTRL_EN = false := by
    rw [(freezePart_kept _ hpg _ _).bit hpg (by decide), State.bit, rf_srst hpg hp (by decide)]
    rfl
  have hwrite : s.ctrlWrite src pg k i v = ((s.srst src pg k i true).freezePart pg k (v.getLsbD 2)).enWrite pg k i (v.getLsbD 0) := by
    simp only [State.ctrlWrite, hk, h1, hen, hq, hpend, enables_of_srsts hk, ne_hbm_of_srsts hk, Bool.and_self, Bool.not_false,
      Bool.not_true, Bool.false_eq_true, false_and, if_false, if_true]
    rfl
  rw [hwrite, h0, ← hoff, enWrite_same]

/-- R79: SRST written to a block at rest. -/
theorem srst_resets (ha : s.accepts src (pg + 8) = true) :
    Completes (.srst src pg) s fun t => t.bit pg PG_CTRL_SRST = true ∧ t.rf pg PG_EVT_EN = 0 := by
  obtain ⟨h0, h1⟩ := srst_value (ctrl_fields_lt s pg).1 (ctrl_fields_lt s pg).2
  have hw := ctrlCmd_of_accepts hpg (enables_of_srsts hk) hp ha fun x => x + 2
  rw [ctrlWrite_of_srst hpg hp hk hen hq hpend (h0.trans hen) h1] at hw
  have hkept := freezePart_kept (s.srst src pg k i true) hpg k
  refine .of_done ((exec_srst ..).trans (congrArg (done s) hw)) ⟨?_, ?_⟩
  · rw [settled_hdr_bit hpg (by decide), (hkept _).bit hpg (by decide), bit_srst]
  · rw [settled_hdr hpg (by decide), hkept _ pg hpg _ (by decide), rf_srst hpg hp (by decide)]

end

theorem srstDone_clears : Completes (.srstDone pg) s fun t => t.bit pg PG_CTRL_SRST = false := by
  have hexec : exec (.srstDone pg) s = done s (s.wf pg PG_CTRL_SRST 0) :=
    congrArg (done s) (if_pos ⟨hpg, by simp [hp]⟩)
  refine .of_done hexec ?_
  rw [settled_hdr_bit hpg (by decide), bit_wf_same _ _ _ _ _ rfl]
  rfl

/-- R80: a freeze request takes effect. -/
theorem freezeEffect_freezes (hk : k.enables = true) (hf : k.freezes = true) (hz : s.bit pg PG_CTRL_FREEZE = true) :
    Completes (.freezeEffect pg) s fun t => smGet (fun _ => false) t.frz pg = true := by
  have hexec : exec (.freezeEffect pg) s = done s { s with frz := smSet (fun _ => false) s.frz pg true } := by
    rw [show exec (.freezeEffect pg) s = execFreezeEffect pg s from rfl, execFreezeEffect, enPage_of_page hpg hp hk]
    simp [hf, hz]
  exact .of_done hexec (by rw [settled_frz, smGet_smSet_same])

end

/-! ## Events, errors, lock (R84, R87, R89) -/

/-- R535: the end of an arming writes no header register. -/
theorem reg_armEnds {pg : Nat} (hpg : pg % 0x1000 = 0) (s : State) (k : PgKind) (o : Nat) {off : Nat} (ho : off < 0x40) :
    (s.armEnds k o).reg (pg + off) = s.reg (pg + off) := by
  unfold State.armEnds
  split
  · refine reg_wf_ne _ _ _ _ _ ?_
    simp only [pgFLS, show FLS_STAT_ARMED.addr 0 = 0x40 from rfl]
    omega
  · rfl

/-- R84: unlocked, the bits that the block assigns are set; on the FLS page an arming ends besides. -/
theorem rf_evtSet {s : State} {src : Src} {pg : Nat} {k : PgKind} {i : Nat} (hpg : pg % 0x1000 = 0) (v : Word32)
    (hl : s.locked pg = false) : ((s.evtSet src pg k i v).armEnds k 0x1C).rf pg PG_EVT_RAW =
      s.rf pg PG_EVT_RAW ||| (v.toNat &&& evtMask k i) := by
  have hlt : s.rf pg PG_EVT_RAW ||| (v.toNat &&& evtMask k i) < 2 ^ PG_EVT_RAW.width :=
    Nat.or_lt_two_pow (rf_lt ..) (Nat.lt_of_le_of_lt Nat.and_le_left v.isLt)
  rw [State.rf, reg_armEnds hpg _ _ _ (by decide), ← State.rf, State.evtSet, hl, if_neg (by decide), rf_wf_same _ _ _ _ _ rfl, Nat.mod_eq_of_lt hlt]

theorem exec_evtSet (src : Src) (pg : Nat) (v : Word32) (s : State) : exec (.evtSet src pg v) s = execEvtSet src pg v s := rfl

section
variable {s : State} {src : Src} {pg : Nat} {k : PgKind} {i : Nat} (hpg : pg % 0x1000 = 0) (hp : pageOf pg = some (k, i))
include hpg hp

/-- R84: an EVT_SET that is taken up; on the FLS page it also ends an arming (R535). -/
theorem exec_evtSet_of_accepts (v : Word32) (ha : s.accepts src (pg + 0x1C) = true) :
    exec (.evtSet src pg v) s = done s ((s.evtSet src pg k i v).armEnds k 0x1C) := by
  have hoff : (pg + 0x1C) % 0x1000 = 0x1C := by omega
  have hp' : pageOf (pg + 0x1C) = some (k, i) := (pageOf_add _ _ hpg (by decide)).trans hp
  simp [exec_evtSet, execEvtSet, hpg, hp, ifWriter_of_accepts _ ha hp', hoff]

theorem evtSet_sets (v : Word32) (ha : s.accepts src (pg + 0x1C) = true) (hl : s.locked pg = false) (hirq : pg ≠ pgIRQ) :
    Completes (.evtSet src pg v) s fun t => t.rf pg PG_EVT_RAW = s.rf pg PG_EVT_RAW ||| (v.toNat &&& evtMask k i) := by
  refine .of_done (exec_evtSet_of_accepts hpg hp v ha) ?_
  rw [settled_rf _ _ _ _ _ (irqOwn_off_page _ _ hpg hirq (by decide)), rf_evtSet hpg v hl]

/-- R87: the error record is cleared. -/
theorem errClear_clears (ha : s.accepts src (pg + 0x20) = true) : Completes (.errClear src pg) s fun t =>
    t.reg (pg + 0x20) = 0 ∧ t.reg (pg + 0x24) = 0 ∧ t.reg (pg + 0x28) = 0 := by
  have hp20 : pageOf (pg + 0x20) = some (k, i) := (pageOf_add _ _ hpg (by decide)).trans hp
  have hexec : exec (.errClear src pg) s = done s ((s.errClear pg).armEnds k ((pg + 0x20) % 0x1000)) := by
    rw [show exec (.errClear src pg) s = execErrClear src pg s from rfl, execErrClear, if_neg (by simp [hpg]),
      ifWriter_of_accepts _ ha hp20]
  have hreg : ∀ o ∈ [0x20, 0x24, 0x28], (settled s ((s.errClear pg).armEnds k ((pg + 0x20) % 0x1000))).reg (pg + o) = 0 := by
    intro o ho
    have ho' : o ≠ 0x10 ∧ o < 0x40 := by revert o; decide
    rw [settled_reg _ _ _ (irqOwn_header _ _ hpg ho'.1 (by omega)), reg_armEnds hpg _ _ _ ho'.2, State.errClear, reg_foldl_clear,
      if_pos ⟨o, ho, rfl⟩]
  exact .of_done hexec ⟨hreg _ (by simp), hreg _ (by simp), hreg _ (by simp)⟩

/-- R89: the lock of a page that has one is set. -/
theorem lock_locks (hk : k.lockable = true) (ha : s.accepts src (pg + 0x2C) = true) :
    Completes (.lock src pg) s fun t => t.bit pg PG_LOCK_LOCK = true := by
  have hp2C : pageOf (pg + 0x2C) = some (k, i) := (pageOf_add _ _ hpg (by decide)).trans hp
  have hexec : exec (.lock src pg) s = done s ((s.wf pg PG_LOCK_LOCK 1).armEnds k ((pg + 0x2C) % 0x1000)) := by
    rw [show exec (.lock src pg) s = execLock src pg s from rfl, execLock, if_neg (by simp [hpg]), ifWriter_of_accepts _ ha hp2C]
    simp [hp, State.lockWrite, hk]
  refine .of_done hexec ?_
  rw [settled_hdr_bit hpg (by decide), State.bit, State.rf, reg_armEnds hpg _ _ _ (by decide)]
  exact bit_wf_same s pg PG_LOCK_LOCK 1 0 rfl

end

end Sys2Proof.Machine
end

section
/-! PROOF. EVT_SET on the IRQ page: the interrupt controller, when it settles, raises events of its page and clears none (R81, R469). -/

namespace Sys2Proof.Machine

/-- From s to t the IRQ page loses no event. -/
def IrqEventsStay (s t : State) : Prop :=
  ∀ b, bitOf (s.rf pgIRQ PG_EVT_RAW) b = true → bitOf (t.rf pgIRQ PG_EVT_RAW) b = true

theorem IrqEventsStay.refl (s : State) : IrqEventsStay s s := fun _ h => h

theorem IrqEventsStay.trans {s t u : State} (h1 : IrqEventsStay s t) (h2 : IrqEventsStay t u) : IrqEventsStay s u :=
  fun b h => h2 b (h1 b h)

/-- A state whose PG_EVT_RAW of the IRQ page is the same. -/
theorem IrqEventsStay.of_reg {s t : State} (h : t.reg 0x7010 = s.reg 0x7010) : IrqEventsStay s t := by
  have hrf : t.rf pgIRQ PG_EVT_RAW = s.rf pgIRQ PG_EVT_RAW := congrArg (fieldGet · _ _) h
  intro b hb
  rwa [hrf]

theorem IrqEventsStay.raise (s : State) {b : Nat} (hb : b < 32) : IrqEventsStay s (s.raise pgIRQ b) := by
  intro c hc
  rw [rf_raise _ _ _ hb, bitOf, Nat.testBit_or]
  rw [bitOf] at hc
  rw [hc, Bool.true_or]

/-- The registers of the sources lie past the header. -/
theorem irqSource_addr (n : Nat) : 0x7010 ≠ pgIRQ + IRQ_SRC_STATE.addr n ∧ 0x7010 ≠ pgIRQ + IRQ_LOST_LOST.addr n ∧
    0x7010 ≠ pgIRQ + IRQ_LOST_COUNT.addr n := by
  simp only [pgIRQ, Fld.addr, IRQ_SRC_STATE, IRQ_LOST_LOST, IRQ_LOST_COUNT]
  omega

section
variable (s : State) (n : Nat) (h32 : 32 ≤ n)
include h32

theorem irqLose_eventsStay : IrqEventsStay s (s.irqLose 0 n) := by
  have hp : irqPage 0 n = pgIRQ := if_neg (Nat.not_lt.2 h32)
  obtain ⟨-, hlost, hcount⟩ := irqSource_addr n
  simp only [State.irqLose, hp]
  refine IrqEventsStay.trans (.of_reg ?_) (.raise _ (by decide))
  exact (reg_wf_ne _ _ _ _ _ hcount).trans (reg_wf_ne _ _ _ _ _ hlost)

theorem irqEvent_eventsStay : IrqEventsStay s (s.irqEvent 0 n) := by
  have hp : irqPage 0 n = pgIRQ := if_neg (Nat.not_lt.2 h32)
  obtain ⟨hstate, -, -⟩ := irqSource_addr n
  simp only [State.irqEvent, hp]
  split
  · exact .of_reg (reg_wf_ne _ _ _ _ _ hstate)
  · split
    · exact irqLose_eventsStay s n h32
    · exact .refl s

theorem irqFall_eventsStay : IrqEventsStay s (s.irqFall n) := by
  have hp : irqPage 0 n = pgIRQ := if_neg (Nat.not_lt.2 h32)
  obtain ⟨hstate, -, -⟩ := irqSource_addr n
  simp only [State.irqFall, State.irqIdle, hp, Nat.not_lt.2 h32, if_false]
  split
  · exact .of_reg (reg_wf_ne _ _ _ _ _ hstate)
  · split
    · exact .of_reg (reg_wf_ne s pgIRQ IRQ_SRC_STATE srcIdle n hstate)
    · exact .refl s

theorem irqSettleOne_eventsStay (old new : State) : IrqEventsStay s (irqSettleOne old new n s) := by
  unfold irqSettleOne
  split
  · exact irqEvent_eventsStay s n h32
  · split
    · exact .refl s
    · exact irqFall_eventsStay s n h32

end

theorem IrqEventsStay.foldl (f : State → Nat → State) (l : List Nat) (hf : ∀ s, ∀ n ∈ l, IrqEventsStay s (f s n)) (s : State) :
    IrqEventsStay s (l.foldl f s) := by
  induction l generalizing s with
  | nil => exact .refl s
  | cons n l ih => exact (hf s n (.head _)).trans (ih (fun s m hm => hf s m (.tail _ hm)) _)

theorem settled_eventsStay (old new : State) : IrqEventsStay new (settled old new) := by
  refine IrqEventsStay.trans (.trans (.foldl _ _ ?sources _) (irqSettleOne_eventsStay _ 39 (by decide) _ _))
    (irqSettleOne_eventsStay _ 39 (by decide) _ _)
  intro s n hn
  simp only [List.mem_filter, List.mem_range, Bool.and_eq_true, decide_eq_true_eq] at hn
  exact irqSettleOne_eventsStay s n hn.2.1.1 _ _

/-- R84 on the IRQ page: the events that were there, and those that are set, stand after the controller has settled. -/
theorem evtSet_irq_sets {s : State} {src : Src} (v : Word32) (ha : s.accepts src (pgIRQ + 0x1C) = true) (hl : s.locked pgIRQ = false) :
    Completes (.evtSet src pgIRQ v) s fun t => ∀ b, bitOf (s.rf pgIRQ PG_EVT_RAW ||| (v.toNat &&& 3)) b = true →
      bitOf (t.rf pgIRQ PG_EVT_RAW) b = true := by
  have hset := rf_evtSet (src := src) (k := .irq) (i := 0) (pg := pgIRQ) rfl v hl
  refine .of_done (exec_evtSet_of_accepts rfl (show pageOf pgIRQ = some (.irq, 0) from rfl) v ha) fun b hb => ?_
  refine settled_eventsStay s _ b ?_
  rwa [hset]

end Sys2Proof.Machine
end

section
/-! PROOF. Header commands (O3). -/

namespace Sys2Proof.Machine

/-- Settles O3: each clause is the lemma about its command; a start, a freeze and the tray's own states leave the fields of the header that the clause names. -/
theorem headerCommands : Obligations.HeaderCommands := by
  unfold Obligations.HeaderCommands
  refine ⟨?enables, ?header⟩
  case enables =>
    intro s src pg k i he
    obtain ⟨hpg, hp, hk⟩ := enPage_eq he
    refine ⟨?start, ?pend, ?drain, ?unpend, ?started, ?drained⟩
    case start => exact fun ha hen hq hh => enable_starts hpg hp ha hk hh hen hq
    case pend => exact fun ha hen hq hh => enable_pends hpg hp ha hk hh hen hq
    case drain => exact fun ha hen hq hc hh => disable_drains hpg hp ha hk hh hen hq hc
    case unpend => exact fun ha hen hq hh => disable_unpends hpg hp ha hk hh hen hq
    case started => exact fun hen hq hr hst => startComplete_readies he hen hq hr hst
    case drained => exact fun hq hf hd => drainComplete_ends he hq hf hd
  case header =>
    intro s src pg k i hpg hp
    refine ⟨?srst, ?srstDone, ?freeze, ?freezeEffect, ?events, ?irqEvents, ?errors, ?lock⟩
    case srst => exact fun hk ha hen hq hpend => srst_resets hpg hp hk hen hq hpend ha
    case srstDone => exact srstDone_clears hpg hp
    case freeze => exact fun on hf ha => freeze_sets hpg hp ha hf on
    case freezeEffect => exact fun hk hf hz => freezeEffect_freezes hpg hp hk hf hz
    case events => exact fun v ha hl hirq => evtSet_sets hpg hp v ha hl hirq
    case irqEvents => exact fun v ha hl => evtSet_irq_sets v ha hl
    case errors => exact fun ha => errClear_clears hpg hp ha
    case lock => exact fun hk ha => lock_locks hpg hp hk ha

end Sys2Proof.Machine
end

section
/-! PROOF. EVT_SET of the FLS page changes more than its events (O57). -/

namespace Sys2Proof.Machine

/-- A command has one outcome: what two statements say of it holds of one state. -/
theorem Completes.both {c : Instr} {s : State} {P Q : State → Prop} (hp : Completes c s P) (hq : Completes c s Q) :
    ∃ t, P t ∧ Q t := by
  obtain ⟨t, ht, hP⟩ := hp
  obtain ⟨u, hu, hQ⟩ := hq
  obtain rfl : t = u := Host.Outcome.next.inj (ht.symm.trans hu)
  exact ⟨t, hP, hQ⟩

/-- R535: a write of the FLS page ends an arming. -/
theorem evtSet_fls_ends_arming {s : State} {src : Src} {v : Word32} (ha : s.accepts src (pgFLS + 0x1C) = true) :
    Completes (.evtSet src pgFLS v) s fun t => t.bit pgFLS FLS_STAT_ARMED = false := by
  refine .of_done (exec_evtSet_of_accepts (by decide) (show pageOf pgFLS = some (.fls, 0) from rfl) v ha) ?_
  rw [settled_bit _ _ _ _ _ (by decide), State.armEnds, if_pos (by decide), bit_wf_same _ _ _ _ _ rfl]
  rfl

/-- The tray after the cold reset, with the fuses armed. -/
def armedFuses : State := State.reset.wf pgFLS FLS_STAT_ARMED 1

/-- Refutes O57: gable 0 sets an event of the FLS page while the fuses are armed, and the write ends the arming (R535): FLS_STAT changes besides PG_EVT_RAW. -/
theorem not_eventSetWritesEventsAlone : ¬ Obligations.EventSetWritesEventsAlone := by
  unfold Obligations.EventSetWritesEventsAlone
  intro h
  have hacc : armedFuses.accepts (.gable 0) (pgFLS + 0x1C) = true := by decide +kernel
  obtain ⟨hset, -⟩ := h armedFuses (.gable 0) pgFLS .fls 0 1 (by decide) rfl rfl hacc
  obtain ⟨t, ⟨honly, -⟩, hend⟩ := (hset (by decide +kernel)).both (evtSet_fls_ends_arming hacc)
  have hkept : t.bit pgFLS FLS_STAT_ARMED = armedFuses.bit pgFLS FLS_STAT_ARMED := by
    simp only [State.bit, State.rf, honly.1 (pgFLS + FLS_STAT_ARMED.addr 0) (by decide)]
  rw [hend] at hkept
  exact absurd hkept (by decide +kernel)

end Sys2Proof.Machine
end

section
/-! PROOF. A debug request to a gable in the middle of a micro-word (O15). -/

namespace Sys2Proof.Machine

theorem exec_dbgGattn (g : Fin 2) (cmd : Fin 4) (left : Nat) (data : List Bool) (s : State) :
    exec (.dbgGattn g cmd left data) s = execDbgGattn g cmd left data s := rfl

/-- R650: a request that finds a word of the gable in mid-effect waits for the word's end, and the service is not yet entered. -/
theorem svcEnter_of_busy {s : State} {g left : Nat} (hb : (s.gable g).u.q.busy = true) (hh : (s.gable g).u.q.hold = .none) :
    (s.svcEnter g left).tap = s.tap := by
  simp only [State.svcEnter, hb, hh]
  split <;> rfl

theorem dbgGattn_waits_for_word {s : State} {g : Fin 2} {left : Nat} {data : List Bool} (hw : s.watched = true) (ho : s.dbgOpen = true)
    (hb : (s.gable g).u.q.busy = true) (hh : (s.gable g).u.q.hold = .none) :
    Completes (.dbgGattn g 1 left data) s fun t => t.inSvc g = s.inSvc g := by
  have hexec : exec (.dbgGattn g 1 left data) s = done s ((s.fresh.2.tapShift 0x21 3 s.fresh.1).svcEnter g left) := by
    simp [exec_dbgGattn, execDbgGattn, hw, ho]
  refine .of_done hexec ?_
  rw [State.inSvc, settled_tap, svcEnter_of_busy (s := s.fresh.2.tapShift 0x21 3 s.fresh.1) hb hh]
  rfl

/-- Gable 0 after the cold reset, at a word whose micro-operation has still to take effect. -/
def midWord : State := { gab := [(0, { u := { q := { opDue := true } } })], pwr := { cold := false } }

/-- Refutes O15: DBG_GATTN finds gable 0 in the middle of a micro-word, and the service begins only at the word's end (R650). -/
theorem not_debugAndWindows : ¬ Obligations.DebugAndWindows := by
  unfold Obligations.DebugAndWindows
  intro h
  obtain ⟨-, hattn, -⟩ := h midWord
  have hwatched : midWord.watched = true := by decide +kernel
  have hopen : midWord.dbgOpen = true := by decide +kernel
  have hin := hattn 0 0 [] hwatched hopen (by decide +kernel) (by decide) (by decide) (by decide)
  obtain ⟨t, hyes, hno⟩ := hin.both (dbgGattn_waits_for_word hwatched hopen (by decide) (by decide))
  rw [hyes] at hno
  exact absurd hno (by decide)

end Sys2Proof.Machine
end

section
/-! PROOF. The object table and the page list: what an update of an entry changes, and what Purlin reads of it after (R111, R114 to R116). -/

namespace Sys2Proof.Machine

/-! ## Fields and stacks under a footprint -/

section
variable {R : Nat → Bool} {P : List Part} {s t : State}

theorem Only.rf_eq (h : Only R P s t) {pg : Nat} {f : Fld} {i : Nat} (hk : R (pg + f.addr i) = false) : t.rf pg f i = s.rf pg f i := by
  simp only [State.rf, h.1 _ hk]

theorem Only.bit_eq (h : Only R P s t) {pg : Nat} {f : Fld} {i : Nat} (hk : R (pg + f.addr i) = false) : t.bit pg f i = s.bit pg f i := by
  simp only [State.bit, h.rf_eq hk]

/-- What stops a stack lies on its page, in the state of the stacks and in that of the power (R712). -/
theorem Only.stackStopped_eq (h : Only R P s t) (n : Nat) (hk : R (pgHBM n + 0x40) = false) (hhbm : Part.hbm ∉ P) (hpwr : Part.pwr ∉ P) :
    t.stackStopped n = s.stackStopped n := by
  have hh : t.hbm = s.hbm := h.2 .hbm hhbm
  have hp : t.pwr = s.pwr := h.2 .pwr hpwr
  simp only [State.stackStopped, h.bit_eq (f := HBM_STAT_LOST) (i := 0) hk, hh, hp]

end

/-! ## The page list -/

/-- From s to t at most the page list changes, and where the objects' entries begin in it. -/
def PlistOnly (s t : State) : Prop := ∃ l a, t = { s with pur := { s.pur with plist := l, plAt := a } }

theorem PlistOnly.refl (s : State) : PlistOnly s s := ⟨_, _, rfl⟩

theorem PlistOnly.trans {s t u : State} (h1 : PlistOnly s t) (h2 : PlistOnly t u) : PlistOnly s u := by
  obtain ⟨l, a, rfl⟩ := h1
  obtain ⟨l', a', rfl⟩ := h2
  exact ⟨l', a', rfl⟩

theorem plPut_only (s : State) (h n : Nat) (ps : List Nat) : PlistOnly s (s.plPut h n ps) := ⟨_, _, rfl⟩

theorem plDrop_only (s : State) (h n : Nat) : PlistOnly s (s.plDrop h n) := ⟨_, _, rfl⟩

theorem PlistOnly.foldl {α β : Type} {f : State × β → α → State × β} (hf : ∀ x e, PlistOnly x.1 (f x e).1) (l : List α) (x : State × β) :
    PlistOnly x.1 (l.foldl f x).1 := by
  induction l generalizing x with
  | nil => exact .refl _
  | cons e l ih => exact (hf x e).trans (ih _)

theorem plCompact_only (s : State) : PlistOnly s s.plCompact :=
  PlistOnly.trans (t := { s with pur := { s.pur with plist := [], plAt := [] } }) ⟨_, _, rfl⟩ (.foldl (fun x _ => plPut_only x.1 _ _ _) _ (_, 0))

theorem listPages_only (s : State) (h : Nat) (ps : List Nat) : PlistOnly s (s.listPages h ps) := by
  have hdrop := plDrop_only s h (smGet objDflt s.pur.objs h).pages.length
  simp only [State.listPages]
  split
  · exact hdrop
  · split
    · exact hdrop.trans (plPut_only _ _ _ _)
    · have hcompact := hdrop.trans (plCompact_only _)
      split
      · exact hcompact.trans (plPut_only _ _ _ _)
      · exact hcompact

/-- The page list after the update of an entry: rewritten where the object's pages change. -/
theorem relist_only (s : State) (h : Nat) (o : Obj) : PlistOnly s (if (s.obj h).pages = o.pages then s else s.listPages h o.pages) := by
  split
  · exact .refl s
  · exact listPages_only s h o.pages

/-! ## Entries -/

/-- R114, R115: the update of an entry writes Purlin's objects, the page list and the bytes of the table, and nothing else. -/
theorem setObj_eq (s : State) (h : Nat) (o : Obj) : ∃ l a b, s.setObj h o =
    { s with pur := { s.pur with plist := l, plAt := a, table := b, objs := smSet objDflt s.pur.objs h o } } := by
  obtain ⟨l, a, hlist⟩ := relist_only s h o
  rw [State.setObj, hlist]
  exact ⟨l, a, _, rfl⟩

section
variable (s : State) (h : Nat) (o : Obj)

@[simp] theorem obj_setObj_same : (s.setObj h o).obj h = o := by
  obtain ⟨l, a, b, he⟩ := setObj_eq s h o
  rw [he]
  exact smGet_smSet_same _ _ _ _

@[simp] theorem setObj_pur_move : (s.setObj h o).pur.move = s.pur.move := by
  obtain ⟨l, a, b, he⟩ := setObj_eq s h o; rw [he]

@[simp] theorem setObj_pur_tries : (s.setObj h o).pur.tries = s.pur.tries := by
  obtain ⟨l, a, b, he⟩ := setObj_eq s h o; rw [he]

end

/-- R121: an entry that becomes FREE leaves the objects. -/
@[simp] theorem clearObj_objs (s : State) (h : Nat) : (s.clearObj h).pur.objs = smErase s.pur.objs h := by
  obtain ⟨l, a, he⟩ := plDrop_only s h (s.obj h).pages.length
  simp only [State.clearObj, State.putEntry, he]

/-! ## What Purlin reads of an entry -/

/-- R115: where the page of the primary copy is there and its stack completes accesses, Purlin reads that copy. -/
theorem tabEntry_of_primary {s : State} {h : Nat} (ht : s.tabHas 0 h = true) (hs : s.stackStopped 0 = false) :
    s.tabEntry h = smGet (fun _ => 0) s.pur.table (tabKey 0 h) := by
  simp only [State.tabEntry, ht, if_true, hs, Bool.false_eq_true, if_false]

/-- The primary copy takes an update; the mirror's bytes lie elsewhere. -/
theorem smGet_putEntry_primary {s : State} {h : Nat} (w : BitVec 256) (ht : s.tabHas 0 h = true) (hs : s.stackStopped 0 = false) :
    smGet (fun _ => 0) (s.putEntry h w).pur.table (tabKey 0 h) = w := by
  have hcopies : tabKey 0 h ≠ tabKey 1 h := by simp only [tabKey]; omega
  simp only [State.putEntry, List.foldl, ht, hs, Bool.not_false, Bool.and_self, if_true]
  split
  · rw [smGet_smSet_ne _ _ _ _ hcopies, smGet_smSet_same]
  · rw [smGet_smSet_same]

theorem tabEntry_putEntry_primary {s : State} {h : Nat} (w : BitVec 256) (ht : s.tabHas 0 h = true) (hs : s.stackStopped 0 = false) :
    (s.putEntry h w).tabEntry h = w :=
  (tabEntry_of_primary (s := s.putEntry h w) ht hs).trans (smGet_putEntry_primary w ht hs)

/-- R111: what CREATE, PIN and the pager write of an entry is what Purlin reads of it. -/
theorem tabEntry_setObj {s : State} {h : Nat} (o : Obj) (ht : s.tabHas 0 h = true) (hs : s.stackStopped 0 = false) :
    ∃ p, (s.setObj h o).tabEntry h = o.entry p := by
  obtain ⟨l, a, hlist⟩ := relist_only s h o
  rw [State.setObj, hlist]
  exact ⟨_, tabEntry_putEntry_primary _ ht hs⟩

/-- R111: bytes 0x00 to 0x03 of an entry. -/
theorem entry_word0 (o : Obj) (p : Nat) : bits (o.entry p).toNat 31 0 = o.word0 % 2 ^ 32 := by
  simp only [bits, Obj.entry, BitVec.toNat_ofNat]
  omega

/-- R111: bits [31:0] of the EPOCH of an entry whose other parts fit in their places. -/
theorem entry_epoch {o : Obj} {p : Nat} (hp : p < 2 ^ 32) (hw : o.word0 < 2 ^ 32) (hsize : o.size1 < 2 ^ 32) (hlast : o.last < 2 ^ 64)
    (hslot : o.slots.headD 0 < 2 ^ 32) : bits (o.entry p).toNat 223 192 = o.epoch % 2 ^ 32 := by
  have hplist : (if o.state = .resident then p else 0) < 2 ^ 32 := by split <;> omega
  have hhslot : (if o.state = .evicted then o.slots.headD 0 else 0) < 2 ^ 32 := by split <;> omega
  simp only [bits, Obj.entry, BitVec.toNat_ofNat]
  omega

end Sys2Proof.Machine
end

section
/-! PROOF. The command slots of Purlin: which writes are taken up, and what the sender reads of a command that completes (R117, R119, R122). -/

namespace Sys2Proof.Machine

/-- A command that completes with P completes with what follows from P. -/
theorem Completes.imp {c : Instr} {s : State} {P Q : State → Prop} (h : Completes c s P) (hPQ : ∀ t, P t → Q t) : Completes c s Q := by
  obtain ⟨t, ht, hP⟩ := h
  exact ⟨t, ht, hPQ t hP⟩

/-! ## The answer to a command -/

/-- The registers that a command's answer and the interrupt controller may write. -/
def answerRegs (k : Nat) : Bool := onPage pgPUR k || irqOwn k

theorem answerRegs_hbm (n : Nat) : answerRegs (pgHBM n + 0x40) = false := by
  have hpage : onPage pgPUR (pgHBM n + 0x40) = false := by
    simp only [onPage, pgHBM, pgPUR, beq_eq_false_iff_ne]
    omega
  rw [answerRegs, hpage, irqOwn_hbm n _ (by decide)]
  rfl

/-- The fields of a slot that an answer writes. -/
def answerFlds : List Fld := [PUR_CMD_STAT_BUSY, PUR_CMD_STAT_STATUS, PUR_CMD_RES0_RES, PUR_CMD_RES1_RES]

theorem answerFlds_addr : ∀ slot : Fin 2, ∀ f ∈ answerFlds, 0x10 < f.addr slot ∧ f.addr slot < 0x1000 := by decide

/-- From u, in which a command has had its effect, to t its answer stands in its slot, and its event is raised; beside the PUR page and the interrupt controller's registers nothing differs. -/
structure Answered (u t : State) (slot : Fin 2) (st : Nat) (res : Option (Nat × Nat)) : Prop where
  status : t.rf pgPUR PUR_CMD_STAT_STATUS slot = st
  results : ∀ e, res = some e → t.rf pgPUR PUR_CMD_RES0_RES slot = e.1 % 2 ^ 32 ∧ t.rf pgPUR PUR_CMD_RES1_RES slot = e.2 % 2 ^ 32
  event : bitOf (t.rf pgPUR PG_EVT_RAW) slot = true
  rest : Only answerRegs [] u t

section
variable {u t : State} {slot : Fin 2} {st : Nat} {res : Option (Nat × Nat)}

/-- The answer leaves Purlin's state beyond its registers. -/
theorem Answered.pur (h : Answered u t slot st res) : t.pur = u.pur := h.rest.2 .pur (by simp)

theorem Answered.obj (h : Answered u t slot st res) (n : Nat) : t.obj n = u.obj n := by simp only [State.obj, h.pur]

theorem Answered.tabEntry (h : Answered u t slot st res) (n : Nat) : t.tabEntry n = u.tabEntry n := by
  have hstop : t.stackStopped = u.stackStopped := funext fun c =>
    h.rest.stackStopped_eq c (answerRegs_hbm c) (by simp) (by simp)
  have htab : ∀ c, t.tabHas c n = u.tabHas c n := fun c => by simp only [State.tabHas, h.pur]
  simp only [State.tabEntry, htab, hstop, h.pur]

end

/-- A register of the PUR page reads after a command what the command's effect leaves. -/
theorem settled_rf_pur (s u : State) (f : Fld) (i : Nat) (hf : f.addr i < 0x1000) :
    (settled s u).rf pgPUR f i = u.rf pgPUR f i := settled_rf _ _ _ _ _ (irqOwn_off_page _ _ rfl (by decide) hf)

section
variable (s : State) (slot : Fin 2) (st : Nat)

theorem cmdDone_none : s.cmdDone slot st none =
    ((s.wf pgPUR PUR_CMD_STAT_BUSY 0 slot).wf pgPUR PUR_CMD_STAT_STATUS st slot).raise pgPUR slot := rfl

theorem cmdDone_some (e : Nat × Nat) : s.cmdDone slot st (some e) =
    ((((s.wf pgPUR PUR_CMD_STAT_BUSY 0 slot).wf pgPUR PUR_CMD_STAT_STATUS st slot).wf pgPUR PUR_CMD_RES0_RES e.1 slot).wf pgPUR
      PUR_CMD_RES1_RES e.2 slot).raise pgPUR slot := rfl

/-- The footprint of an answer. -/
theorem cmdDone_only (res : Option (Nat × Nat)) : Only (onPage pgPUR) [] s (s.cmdDone slot st res) := by
  have hpage : ∀ f ∈ answerFlds, onPage pgPUR (pgPUR + f.addr slot) = true := fun f hf => by
    have hlt := (answerFlds_addr slot f hf).2
    simp only [onPage, pgPUR, beq_iff_eq]
    omega
  have hstat := ((Only.refl (R := onPage pgPUR) (P := []) s).wf pgPUR PUR_CMD_STAT_BUSY 0 slot (hpage _ (by decide))).wf pgPUR
    PUR_CMD_STAT_STATUS st slot (hpage _ (by decide))
  cases res with
  | none => exact hstat.raise _ _ rfl
  | some e =>
    exact ((hstat.wf pgPUR PUR_CMD_RES0_RES e.1 slot (hpage _ (by decide))).wf pgPUR PUR_CMD_RES1_RES e.2 slot
      (hpage _ (by decide))).raise _ _ rfl

/-- The fields of a slot lie apart from PG_EVT_RAW. -/
theorem rf_raise_slot {f : Fld} (hf : f ∈ answerFlds) : (s.raise pgPUR slot).rf pgPUR f slot = s.rf pgPUR f slot := by
  have hne : pgPUR + f.addr slot ≠ pgPUR + 0x10 := by
    have hlt := (answerFlds_addr slot f hf).1
    omega
  simp only [State.rf, reg_raise_ne s pgPUR slot.val hne]

theorem cmdDone_status (res : Option (Nat × Nat)) : (s.cmdDone slot st res).rf pgPUR PUR_CMD_STAT_STATUS slot = st % 2 ^ 16 := by
  cases res with
  | none =>
    rw [cmdDone_none, rf_raise_slot _ _ (by decide)]
    exact rf_wf_same _ _ _ _ _ rfl
  | some e =>
    rw [cmdDone_some, rf_raise_slot _ _ (by decide), rf_wf_ne _ _ _ _ _ _ _ _ (by revert slot; decide),
      rf_wf_ne _ _ _ _ _ _ _ _ (by revert slot; decide)]
    exact rf_wf_same _ _ _ _ _ rfl

theorem cmdDone_results (e : Nat × Nat) : (s.cmdDone slot st (some e)).rf pgPUR PUR_CMD_RES0_RES slot = e.1 % 2 ^ 32 ∧
    (s.cmdDone slot st (some e)).rf pgPUR PUR_CMD_RES1_RES slot = e.2 % 2 ^ 32 := by
  rw [cmdDone_some, rf_raise_slot _ _ (by decide), rf_raise_slot _ _ (by decide),
    rf_wf_ne _ _ _ _ _ pgPUR PUR_CMD_RES0_RES _ (by revert slot; decide)]
  exact ⟨rf_wf_same _ _ _ _ _ rfl, rf_wf_same _ _ _ _ _ rfl⟩

theorem cmdDone_event (res : Option (Nat × Nat)) : bitOf ((s.cmdDone slot st res).rf pgPUR PG_EVT_RAW) slot = true := by
  rw [State.cmdDone.eq_def, rf_raise _ _ _ (by omega), bitOf, Nat.testBit_or, Nat.testBit_two_pow_self, Bool.or_true]

end

/-- A command whose effect is u, and which completes with a status and perhaps results. -/
theorem completes_cmdDone {c : Instr} {s u : State} {slot : Fin 2} {st : Nat} {res : Option (Nat × Nat)}
    (hc : exec c s = done s (u.cmdDone slot st res)) (hst : st < 2 ^ 16) : Completes c s fun t => Answered u t slot st res := by
  have hread : ∀ f ∈ answerFlds, (settled s (u.cmdDone slot st res)).rf pgPUR f slot = (u.cmdDone slot st res).rf pgPUR f slot :=
    fun f hf => settled_rf_pur _ _ _ _ (answerFlds_addr slot f hf).2
  refine .of_done hc { status := ?status, results := ?results, event := ?event, rest := ?rest }
  case status => rw [hread _ (by decide), cmdDone_status, Nat.mod_eq_of_lt hst]
  case results =>
    rintro e rfl
    rw [hread _ (by decide), hread _ (by decide)]
    exact cmdDone_results ..
  case event => rw [settled_rf_pur _ _ _ _ (by decide), cmdDone_event]
  case rest =>
    refine Only.trans ((cmdDone_only u slot st res).mono (fun k hk => by rw [answerRegs, hk]; rfl) (by simp)) ⟨fun k hk => ?_, fun p _ => ?_⟩
    · exact settled_reg _ _ _ (Bool.or_eq_false_iff.1 hk).2
    · cases p <;> simp [Part.same]

/-! ## Commands that are taken up -/

theorem pageOf_slot (slot : Fin 2) : pageOf (pgPUR + 0xD0 + 0x20 * slot.val) = some (.pur, 0) := by revert slot; decide

section
variable {s : State} {src : Src} {slot : Fin 2} (ha : s.accepts src (pgPUR + 0xD0 + 0x20 * slot.val) = true) (ho : slotOwner slot src = true)
include ha ho

/-- R117: the owner's write to a slot has its effect. -/
theorem ifSlot_accepted (f : State → State) : s.ifSlot src slot (pgPUR + 0xD0 + 0x20 * slot.val) f = f s := by
  simp only [State.ifSlot, ifWriter_accepted _ ha (pageOf_slot slot) (by decide), ho, if_true]

variable (hb : s.bit pgPUR PUR_CMD_STAT_BUSY slot = false)
include hb

/-- R124: a command that waits makes its slot BUSY and is kept with its arguments. -/
theorem stWait_accepted (c : State → StCmd) : (s.stWait src slot c).bit pgPUR PUR_CMD_STAT_BUSY slot = true ∧
    (s.stWait src slot c).pur.stWait.length = s.pur.stWait.length + 1 := by
  simp only [State.stWait, ifSlot_accepted ha ho, hb, Bool.false_eq_true, if_false]
  refine ⟨?_, by simp⟩
  rw [bit_wf_same _ _ _ _ _ rfl]
  rfl

variable (hg : s.cmdGate slot false = 0)
include hg

/-- R122: a command that nothing refuses before its own checks. -/
theorem purCmd_accepted {bad : State → Bool} (hbad : bad s = false) (body : State → State × Nat × Option (Nat × Nat)) :
    s.purCmd src slot bad body = (body s).1.cmdDone slot (body s).2.1 (body s).2.2 := by
  simp only [State.purCmd, ifSlot_accepted ha ho, hb, hbad, hg, Bool.false_eq_true, if_false, ne_eq, not_true_eq_false]

/-- R119, R122: a command that names an object which is there and which its function owns. -/
theorem handleCmd_accepted (harg : s.arg0 slot < 2 ^ 24) (hok : s.handleOk (s.arg0 slot) = true) (hst : (s.obj (s.arg0 slot)).state ≠ .free)
    (hown : s.cmdFunc slot = 0 ∨ (s.obj (s.arg0 slot)).owner = s.cmdFunc slot) (body : State → Nat → State × Nat × Option (Nat × Nat)) :
    s.handleCmd src slot body =
      (body s (s.arg0 slot)).1.cmdDone slot (body s (s.arg0 slot)).2.1 (body s (s.arg0 slot)).2.2 := by
  have hstate : ((s.obj (s.arg0 slot)).state == .free) = false := by simp [hst]
  have howner : (s.cmdFunc slot != 0 && (s.obj (s.arg0 slot)).owner != s.cmdFunc slot) = false := by
    rcases hown with h | h <;> simp [h]
  rw [State.handleCmd, purCmd_accepted ha ho hb hg (by simpa using harg)]
  simp [hok, hstate, howner]

end

end Sys2Proof.Machine
end

section
/-! PROOF. What the object commands do to the table, to the windows and to what the pager is asked for (R119 to R121, R670). -/

namespace Sys2Proof.Machine

/-! ## Windows of an object (R670) -/

/-- BAR2 window w maps object h. -/
def State.mapsWin (s : State) (h w : Nat) : Prop := s.bit pgEAV EAV_WIN_VALID w = true ∧ s.rf pgEAV EAV_WIN_HANDLE w = h

/-- A window is cleared if it maps the object. -/
def State.unmapWin (s : State) (h w : Nat) : State :=
  if s.bit pgEAV EAV_WIN_VALID w && s.rf pgEAV EAV_WIN_HANDLE w == h then s.wf pgEAV EAV_WIN_VALID 0 w else s

theorem unmap_eq_foldl (s : State) (h : Nat) : s.unmap h = (List.range 8).foldl (fun s w => s.unmapWin h w) s := rfl

theorem unmapWin_only (s : State) (h w : Nat) : Only (onPage pgEAV) [] s (s.unmapWin h w) := by
  refine .ite ((Only.refl s).wf _ _ _ _ ?_) (.refl s)
  simp only [onPage, pgEAV, Fld.addr, EAV_WIN_VALID, beq_iff_eq]
  omega

theorem unmap_only (s : State) (h : Nat) : Only (onPage pgEAV) [] s (s.unmap h) := by
  rw [unmap_eq_foldl]
  exact (Only.refl s).foldl _ _ fun u w _ => unmapWin_only u h w

@[simp] theorem unmap_pur (s : State) (h : Nat) : (s.unmap h).pur = s.pur := (unmap_only s h).2 .pur (by simp)

theorem unmapWin_same (s : State) (h w : Nat) : ¬ (s.unmapWin h w).mapsWin h w := by
  unfold State.unmapWin
  split
  · rintro ⟨hvalid, -⟩
    rw [bit_wf_same _ _ _ _ _ rfl] at hvalid
    exact absurd hvalid (by decide)
  · next hno =>
    rintro ⟨hvalid, hhandle⟩
    simp [hvalid, hhandle] at hno

/-- Clearing one window makes no other map the object. -/
theorem mapsWin_of_unmapWin {s : State} {h v w : Nat} (hv : v < 8) (hw : w < 8) (hm : (s.unmapWin h v).mapsWin h w) : s.mapsWin h w := by
  by_cases hvw : w = v
  · subst hvw
    exact absurd hm (unmapWin_same s h w)
  · have hne : pgEAV + EAV_WIN_VALID.addr w ≠ pgEAV + EAV_WIN_VALID.addr v := by
      simp only [Fld.addr, EAV_WIN_VALID]
      omega
    unfold State.unmapWin at hm
    split at hm
    · obtain ⟨hvalid, hhandle⟩ := hm
      rw [bit_wf_ne _ _ _ _ _ _ _ _ hne] at hvalid
      rw [rf_wf_of_disjoint _ _ _ _ _ _ _ rfl (by simp [Fld.sh, Fld.width, EAV_WIN_VALID, EAV_WIN_HANDLE])] at hhandle
      exact ⟨hvalid, hhandle⟩
    · exact hm

theorem not_mapsWin_foldl {h w : Nat} (hw : w < 8) (l : List Nat) (hl : ∀ v ∈ l, v < 8) (s : State) (hs : w ∈ l ∨ ¬ s.mapsWin h w) :
    ¬ (l.foldl (fun s v => s.unmapWin h v) s).mapsWin h w := by
  induction l generalizing s with
  | nil => simpa using hs
  | cons v l ih =>
    refine ih (fun x hx => hl x (.tail _ hx)) _ ?_
    rcases hs with hmem | hs
    · rcases List.mem_cons.1 hmem with rfl | hmem
      · exact .inr (unmapWin_same s h w)
      · exact .inl hmem
    · exact .inr fun hm => hs (mapsWin_of_unmapWin (hl v (.head _)) hw hm)

/-- R670: no window maps the object any more. -/
theorem not_mapsWin_unmap (s : State) (h : Nat) {w : Nat} (hw : w < 8) : ¬ (s.unmap h).mapsWin h w := by
  rw [unmap_eq_foldl]
  exact not_mapsWin_foldl hw _ (fun _ hv => List.mem_range.1 hv) s (.inl (List.mem_range.2 hw))

/-- VALID and HANDLE of a window lie in one register of the EAV page. -/
theorem answerRegs_window (w : Fin 8) : answerRegs (pgEAV + EAV_WIN_VALID.addr w) = false := by revert w; decide

/-! ## Pages and slots that are released -/

theorem releasePages_eq (s : State) (ps : List Nat) : ∃ u, s.releasePages ps = { s with pur := { s.pur with pages := u } } := by
  unfold State.releasePages
  induction ps generalizing s with
  | nil => exact ⟨_, rfl⟩
  | cons p ps ih =>
    obtain ⟨u, hu⟩ := ih (if s.pageUse p = .retired then s else s.setPageUse p .free)
    rw [List.foldl_cons, hu]
    split <;> exact ⟨u, rfl⟩

section
variable (s : State) (ps : List Nat)

@[simp] theorem releasePages_objs : (s.releasePages ps).pur.objs = s.pur.objs := by
  obtain ⟨u, hu⟩ := releasePages_eq s ps; rw [hu]

@[simp] theorem releasePages_move : (s.releasePages ps).pur.move = s.pur.move := by
  obtain ⟨u, hu⟩ := releasePages_eq s ps; rw [hu]

@[simp] theorem releasePages_dying : (s.releasePages ps).pur.dying = s.pur.dying := by
  obtain ⟨u, hu⟩ := releasePages_eq s ps; rw [hu]

@[simp] theorem releaseSlots_objs : (s.releaseSlots ps).pur.objs = s.pur.objs := rfl
@[simp] theorem releaseSlots_move : (s.releaseSlots ps).pur.move = s.pur.move := rfl
@[simp] theorem releaseSlots_dying : (s.releaseSlots ps).pur.dying = s.pur.dying := rfl

end

/-- R121: a freed object leaves the objects, whether its pages are released at once or after its move. -/
theorem freeObj_objs (s : State) (h : Nat) : (s.freeObj h).pur.objs = smErase s.pur.objs h := by
  have hleft : (((s.clearObj h).unmap h).forget h).pur.objs = smErase s.pur.objs h := by
    simp only [State.forget, unmap_pur, clearObj_objs]
  simp only [State.freeObj]
  split
  · exact hleft
  · rw [releaseSlots_objs, releasePages_objs, hleft]

theorem obj_freeObj (s : State) (h : Nat) : (s.freeObj h).obj h = {} := by
  rw [State.obj, freeObj_objs]
  exact smGet_smErase_same _ _ _

/-! ## What the pager is asked for -/

@[simp] theorem askFetch_objs (s : State) (h : Nat) : (s.askFetch h).pur.objs = s.pur.objs := by
  simp only [State.askFetch]
  split <;> rfl

/-- R119: an EVICTED object that does not move is asked for. -/
theorem mem_asks_askFetch {s : State} {h : Nat} (he : (s.obj h).state = .evicted) (hm : (s.obj h).moving = false) :
    ({ out := false, handle := h } : Ask) ∈ (s.askFetch h).pur.asks := by
  by_cases hin : ({ out := false, handle := h } : Ask) ∈ s.pur.asks <;> simp [State.askFetch, he, hm, hin]

end Sys2Proof.Machine
end

section
/-! PROOF. The object commands, each taken up in its slot (R119 to R122, R124). -/

namespace Sys2Proof.Machine

section
variable {s : State} {src : Src} {slot : Fin 2} (ha : s.accepts src (pgPUR + 0xD0 + 0x20 * slot.val) = true) (ho : slotOwner slot src = true)
  (hb : s.bit pgPUR PUR_CMD_STAT_BUSY slot = false)
include ha ho hb

/-- R124: the commands that wait for a selection point. -/
theorem completes_stWait {c : Instr} {f : State → StCmd} (hc : exec c s = done s (s.stWait src slot f)) : Completes c s fun t =>
    t.bit pgPUR PUR_CMD_STAT_BUSY slot = true ∧ t.pur.stWait.length = s.pur.stWait.length + 1 := by
  obtain ⟨hbusy, hlen⟩ := stWait_accepted ha ho hb f
  refine .of_done hc ⟨?_, by rw [settled_pur, hlen]⟩
  rwa [State.bit, settled_rf_pur _ _ _ _ (answerFlds_addr slot _ (by decide)).2]

variable (hg : s.cmdGate slot false = 0)
include hg

/-- R119, R120: CREATE with its arguments in range. -/
theorem create_makes (hsize : s.arg0 slot < 2 ^ 31) (harg : s.arg1 slot < 2 ^ 15) (hzero : bits (s.arg1 slot) 7 6 = 0)
    (hkind : bits (s.arg1 slot) 11 8 ≤ 4) (hplace : bits (s.arg1 slot) 14 12 ≤ 4)
    (hdom : s.domainBad (s.cmdFunc slot) (bits (s.arg1 slot) 5 0) = false) (hok : s.handleOk s.lowestFree = true) :
    Completes (.create src slot) s fun t => t.rf pgPUR PUR_CMD_STAT_STATUS slot = 0 ∧ t.rf pgPUR PUR_CMD_RES0_RES slot = s.lowestFree % 2 ^ 32 ∧
      t.obj s.lowestFree = ({
          state := .empty, place := bits (s.arg1 slot) 14 12, kind := bits (s.arg1 slot) 11 8, owner := s.cmdFunc slot
          domain := bits (s.arg1 slot) 5 0, size1 := s.arg0 slot, last := s.courseNum } : Obj) ∧
      (s.tabHas 0 s.lowestFree = true → s.stackStopped 0 = false → ∃ p, t.tabEntry s.lowestFree = (t.obj s.lowestFree).entry p) := by
  have hbody : s.create slot = (s.setObj s.lowestFree {
      state := .empty, place := bits (s.arg1 slot) 14 12, kind := bits (s.arg1 slot) 11 8, owner := s.cmdFunc slot
      domain := bits (s.arg1 slot) 5 0, size1 := s.arg0 slot, last := s.courseNum }, 0, some (s.lowestFree, 0)) := by
    simp [State.create, hdom, hok]
  have hexec : exec (.create src slot) s = done s (s.createCmd src slot) := rfl
  rw [State.createCmd, purCmd_accepted ha ho hb hg (by simp; omega), hbody] at hexec
  refine (completes_cmdDone hexec (Nat.two_pow_pos 16)).imp fun t h => ⟨h.status, (h.results _ rfl).1, ?_, fun htab hstop => ?_⟩
  · rw [h.obj, obj_setObj_same]
  · rw [h.tabEntry, h.obj, obj_setObj_same]
    exact tabEntry_setObj _ htab hstop

variable (harg : s.arg0 slot < 2 ^ 24) (hok : s.handleOk (s.arg0 slot) = true) (hst : (s.obj (s.arg0 slot)).state ≠ .free)
  (hown : s.cmdFunc slot = 0 ∨ (s.obj (s.arg0 slot)).owner = s.cmdFunc slot)
include harg hok hst hown

/-- A command on a handle that its body lets through. -/
theorem completes_handleCmd {c : Instr} {body : State → Nat → State × Nat × Option (Nat × Nat)} {u : State} {res : Option (Nat × Nat)}
    (hc : exec c s = done s (s.handleCmd src slot body)) (hbody : body s (s.arg0 slot) = (u, 0, res)) :
    Completes c s fun t => Answered u t slot 0 res := by
  rw [handleCmd_accepted ha ho hb hg harg hok hst hown, hbody] at hc
  exact completes_cmdDone hc (by decide)

/-- R121: FREE of an object that no plan names. -/
theorem free_frees (hplan : s.inPlan (s.arg0 slot) = false) : Completes (.free src slot) s fun t =>
    t.rf pgPUR PUR_CMD_STAT_STATUS slot = 0 ∧ (t.obj (s.arg0 slot)).state = .free := by
  refine (completes_handleCmd ha ho hb hg harg hok hst hown (c := .free src slot) rfl (if_neg (by simp [hplan]))).imp fun t h => ⟨h.status, ?_⟩
  rw [h.obj, obj_freeObj]

/-- R146: PIN of an object that is pinned, or whose pages the limit still allows. -/
theorem pin_pins (hmax : (s.obj (s.arg0 slot)).pin = true ∨ s.pinnedPages + (s.obj (s.arg0 slot)).npages ≤ s.rf pgPUR PUR_PIN_MAX_PAGES) :
    Completes (.pin src slot) s fun t => t.rf pgPUR PUR_CMD_STAT_STATUS slot = 0 ∧
      t.obj (s.arg0 slot) = { s.obj (s.arg0 slot) with pin := true } := by
  have hroom : ¬ (!(s.obj (s.arg0 slot)).pin && decide (s.rf pgPUR PUR_PIN_MAX_PAGES < s.pinnedPages + (s.obj (s.arg0 slot)).npages)) = true := by
    rcases hmax with h | h <;> simp [h]
  refine (completes_handleCmd ha ho hb hg harg hok hst hown (c := .pin src slot) rfl (if_neg hroom)).imp fun t h => ⟨h.status, ?_⟩
  rw [h.obj, State.obj, askFetch_objs]
  exact obj_setObj_same ..

/-- R119, R670: UNPIN takes the object out of every window of BAR2. -/
theorem unpin_unpins : Completes (.unpin src slot) s fun t => t.rf pgPUR PUR_CMD_STAT_STATUS slot = 0 ∧
    t.obj (s.arg0 slot) = { s.obj (s.arg0 slot) with pin := false } ∧
      ∀ w : Fin 8, t.bit pgEAV EAV_WIN_VALID w = true → t.rf pgEAV EAV_WIN_HANDLE w ≠ s.arg0 slot := by
  refine (completes_handleCmd ha ho hb hg harg hok hst hown (c := .unpin src slot) rfl rfl).imp fun t h => ⟨h.status, ?_, fun w hvalid hhandle => ?_⟩
  · rw [h.obj, State.obj, unmap_pur]
    exact obj_setObj_same ..
  · rw [h.rest.bit_eq (answerRegs_window w)] at hvalid
    rw [h.rest.rf_eq (f := EAV_WIN_HANDLE) (answerRegs_window w)] at hhandle
    exact not_mapsWin_unmap _ _ w.isLt ⟨hvalid, hhandle⟩

/-- R119: EVICT asks the pager for a page-out. -/
theorem evict_asks (hcand : s.candidate (s.arg0 slot) = true) (hslots : (s.obj (s.arg0 slot)).npages ≤ s.slotsFree) :
    Completes (.evict src slot) s fun t =>
      t.rf pgPUR PUR_CMD_STAT_STATUS slot = 0 ∧ ({ out := true, handle := s.arg0 slot } : Ask) ∈ t.pur.asks := by
  refine (completes_handleCmd ha ho hb hg harg hok hst hown (c := .evict src slot) rfl
    ((if_neg (by simp [hcand])).trans (if_neg (Nat.not_lt.2 hslots)))).imp fun t h => ⟨h.status, ?_⟩
  rw [h.pur]
  split
  · next hin => simpa using hin
  · simp

/-- R119: FETCH of an EVICTED object asks the pager for a page-in. -/
theorem fetch_asks (hev : (s.obj (s.arg0 slot)).state = .evicted) (hmov : (s.obj (s.arg0 slot)).moving = false) :
    Completes (.fetch src slot) s fun t =>
      t.rf pgPUR PUR_CMD_STAT_STATUS slot = 0 ∧ ({ out := false, handle := s.arg0 slot } : Ask) ∈ t.pur.asks := by
  refine (completes_handleCmd ha ho hb hg harg hok hst hown (c := .fetch src slot) rfl rfl).imp fun t h => ⟨h.status, ?_⟩
  rw [h.pur]
  exact mem_asks_askFetch hev hmov

/-- R119: QUERY answers the first word of the entry and the low word of its EPOCH. -/
theorem query_answers : Completes (.query src slot) s fun t => t.rf pgPUR PUR_CMD_STAT_STATUS slot = 0 ∧
    t.rf pgPUR PUR_CMD_RES0_RES slot = (s.tabEntry (s.arg0 slot)).toNat % 2 ^ 32 ∧
    t.rf pgPUR PUR_CMD_RES1_RES slot = (s.tabEntry (s.arg0 slot)).toNat / 2 ^ 192 % 2 ^ 32 ∧
    (∀ p, p < 2 ^ 32 → (s.obj (s.arg0 slot)).word0 < 2 ^ 32 → (s.obj (s.arg0 slot)).size1 < 2 ^ 32 → (s.obj (s.arg0 slot)).last < 2 ^ 64 →
      (s.obj (s.arg0 slot)).slots.headD 0 < 2 ^ 32 → s.tabEntry (s.arg0 slot) = (s.obj (s.arg0 slot)).entry p →
      t.rf pgPUR PUR_CMD_RES0_RES slot = (s.obj (s.arg0 slot)).word0 % 2 ^ 32 ∧
      t.rf pgPUR PUR_CMD_RES1_RES slot = (s.obj (s.arg0 slot)).epoch % 2 ^ 32) ∧ bitOf (t.rf pgPUR PG_EVT_RAW) slot = true := by
  refine (completes_handleCmd ha ho hb hg harg hok hst hown (c := .query src slot) rfl rfl).imp fun t h => ?_
  obtain ⟨h0, h1⟩ := h.results _ rfl
  refine ⟨h.status, ?_, ?_, fun p hp hw hsize hlast hslot hentry => ⟨?_, ?_⟩, h.event⟩
  · simpa [bits] using h0
  · simpa [bits] using h1
  · rw [h0, hentry, entry_word0, Nat.mod_mod]
  · rw [h1, hentry, entry_epoch hp hw hsize hlast hslot, Nat.mod_mod]

end

end Sys2Proof.Machine
end

section
/-! PROOF. The pager: the start and the end of a move, the object that is given up, and the repair of a table page (R116, R137, R140). -/

namespace Sys2Proof.Machine

/-! ## The start of a move (R137) -/

@[simp] theorem hbFulls_objs (s : State) : s.hbFulls.pur.objs = s.pur.objs := by
  simp only [State.hbFulls, State.raiseIf]
  split <;> simp

/-- As many host slots are taken as are asked for. -/
theorem takeSlots_length (s : State) (n : Nat) : (s.takeSlots n).1.length = n := by
  simp only [State.takeSlots]
  split <;> simp

/-- One page is taken from each stack named. -/
theorem takePages_length (ns : List Nat) (s : State) : (s.takePages ns).1.length = ns.length := by
  induction ns generalizing s with
  | nil => rfl
  | cons n ns ih => simp only [State.takePages, List.length_cons, ih]

/-- R110: an object has as many pages as its size requires. -/
theorem stacks_length (o : Obj) : o.stacks.length = o.npages := by simp [Obj.stacks]

section
variable {s : State} {a : Ask}

theorem moveStart_out (ha : a.out = true) : ((s.moveStart a).obj a.handle).moving = true ∧ ∃ m, (s.moveStart a).pur.move = some m ∧
    m.out = true ∧ m.handle = a.handle ∧ m.pages = (s.obj a.handle).pages ∧ m.slots.length = (s.obj a.handle).npages := by
  simp only [State.moveStart, ha, if_true]
  rw [obj_setObj_same, setObj_pur_move]
  exact ⟨rfl, _, rfl, rfl, rfl, rfl, takeSlots_length _ _⟩

theorem moveStart_in (ha : a.out = false) : ((s.moveStart a).obj a.handle).moving = true ∧ ∃ m, (s.moveStart a).pur.move = some m ∧
    m.out = false ∧ m.handle = a.handle ∧ m.slots = (s.obj a.handle).slots ∧ m.pages.length = (s.obj a.handle).npages := by
  simp only [State.moveStart, ha, Bool.false_eq_true, if_false]
  rw [obj_setObj_same, setObj_pur_move]
  exact ⟨rfl, _, rfl, rfl, rfl, rfl, (takePages_length _ _).trans (stacks_length _)⟩

variable (hfree : s.pagerFree = true) (hpick : s.pagerPick = some a)
include hfree hpick

theorem pageOut_starts (ha : a.out = true) : Completes .pageOut s fun t => (t.obj a.handle).moving = true ∧ ∃ m, t.pur.move = some m ∧
    m.out = true ∧ m.handle = a.handle ∧ m.pages = (s.obj a.handle).pages ∧ m.slots.length = (s.obj a.handle).npages := by
  have hexec : exec .pageOut s = done s (s.hbFulls.moveStart a) := by
    rw [show exec .pageOut s = execPageOut s from rfl]
    simp [execPageOut, hfree, hpick, ha]
  have hstart := moveStart_out (s := s.hbFulls) ha
  simp only [State.obj, hbFulls_objs] at hstart
  refine .of_done hexec ?_
  simpa only [State.obj, settled_pur] using hstart

theorem pageIn_starts (ha : a.out = false) : Completes .pageIn s fun t => (t.obj a.handle).moving = true ∧ ∃ m, t.pur.move = some m ∧
    m.out = false ∧ m.handle = a.handle ∧ m.slots = (s.obj a.handle).slots ∧ m.pages.length = (s.obj a.handle).npages := by
  have hexec : exec .pageIn s = done s (s.hbFulls.moveStart a) := by
    rw [show exec .pageIn s = execPageIn s from rfl]
    simp [execPageIn, hfree, hpick, ha]
  have hstart := moveStart_in (s := s.hbFulls) ha
  simp only [State.obj, hbFulls_objs] at hstart
  refine .of_done hexec ?_
  simpa only [State.obj, settled_pur] using hstart

end

/-! ## The end of a move (R137) -/

/-- No symbol is in error in any page. -/
theorem struckIn_of_clean {s : State} (hs : s.hbm.syms = []) (p : Nat) : s.struckIn p = [] := by
  simp [State.struckIn, State.struckBeats, hs]

/-- The last page of a move: its copy leaves Purlin's state alone, and then the object's move ends. -/
theorem pageMoved_last {s : State} {m : Move} (hs : s.hbm.syms = []) (hl : m.pages.length ≤ m.next + 1) :
    ∃ u : State, u.pur = s.pur ∧ s.pageMoved m = u.moveEnd { m with next := m.next + 1 } := by
  simp only [State.pageMoved, if_pos hl]
  refine ⟨_, ?_, rfl⟩
  cases m.out with
  | true =>
    simp only [if_true, State.inc_pur, State.pageRead, struckIn_of_clean hs, List.foldl_nil]
    split <;> rfl
  | false =>
    simp only [Bool.false_eq_true, if_false, State.inc_pur]
    split <;> rfl

section
variable {s : State} {m : Move} (hd : s.pur.dying = [])
include hd

/-- No object has been freed in the middle of its move. -/
theorem setMoving_of_no_dying (h : Nat) (o : Obj) : s.setMoving h o = s.setObj h o := by simp [State.setMoving, hd]

theorem moving_of_no_dying (h : Nat) : s.moving h = s.obj h := by simp [State.moving, hd]

/-- R137: after a page-out the object lies in its host slots. -/
theorem moveEnd_out (ho : m.out = true) : (s.moveEnd m).pur.move = none ∧
    (s.moveEnd m).obj m.handle = { s.obj m.handle with state := .evicted, moving := false, pages := [], slots := m.slots } := by
  simp only [State.moveEnd, ho, if_true, moving_of_no_dying hd]
  rw [setMoving_of_no_dying (by rw [releasePages_dying]; exact hd), setObj_pur_move, releasePages_move, obj_setObj_same]
  exact ⟨rfl, rfl⟩

/-- R137: after a page-in the object lies in its pages. -/
theorem moveEnd_in (ho : m.out = false) : (s.moveEnd m).pur.move = none ∧
    (s.moveEnd m).obj m.handle = { s.obj m.handle with state := .resident, moving := false, pages := m.pages, slots := [] } := by
  simp only [State.moveEnd, ho, Bool.false_eq_true, if_false, moving_of_no_dying hd]
  rw [setMoving_of_no_dying (by rw [releaseSlots_dying]; exact hd), setObj_pur_move, releaseSlots_move, obj_setObj_same]
  exact ⟨rfl, rfl⟩

end

section
variable {s : State} {m : Move} (hz : s.frozenPage pgPUR = false) (ht : s.tray ≠ tIDLE) (hm : s.pur.move = some m) (hs : s.hbm.syms = [])
  (hl : m.pages.length ≤ m.next + 1)
include hz ht hm hs hl

/-- The last PAGE_MOVE of a move ends it, in a state with the Purlin of before. -/
theorem exec_pageMove_last : ∃ u : State, u.pur = s.pur ∧ exec (.pageMove true) s = done s (u.moveEnd { m with next := m.next + 1 }) := by
  obtain ⟨u, hu, hmoved⟩ := pageMoved_last hs hl
  have hrun : (s.frozenPage pgPUR || s.rf pgGLB GLB_STATE_STATE == 3) = false := by
    simp only [hz, Bool.false_or, beq_eq_false_iff_ne]
    exact ht
  refine ⟨u, hu, ?_⟩
  rw [show exec (.pageMove true) s = execPageMove true s from rfl]
  simp only [execPageMove, hrun, hm, hmoved, Bool.false_eq_true, if_false, if_true]

variable (hd : s.pur.dying = [])
include hd

theorem pageMove_ends_out (ho : m.out = true) : Completes (.pageMove true) s fun t => t.pur.move = none ∧
    (t.obj m.handle).state = .evicted ∧ (t.obj m.handle).slots = m.slots ∧ (t.obj m.handle).moving = false := by
  obtain ⟨u, hu, hexec⟩ := exec_pageMove_last hz ht hm hs hl
  obtain ⟨hmove, hobj⟩ := moveEnd_out (s := u) (m := { m with next := m.next + 1 }) (by rw [hu, hd]) ho
  refine .of_done hexec ?_
  simp only [State.obj, settled_pur] at hobj ⊢
  rw [hmove, hobj]
  exact ⟨rfl, rfl, rfl, rfl⟩

theorem pageMove_ends_in (ho : m.out = false) : Completes (.pageMove true) s fun t => t.pur.move = none ∧
    (t.obj m.handle).state = .resident ∧ (t.obj m.handle).pages = m.pages ∧ (t.obj m.handle).moving = false := by
  obtain ⟨u, hu, hexec⟩ := exec_pageMove_last hz ht hm hs hl
  obtain ⟨hmove, hobj⟩ := moveEnd_in (s := u) (m := { m with next := m.next + 1 }) (by rw [hu, hd]) ho
  refine .of_done hexec ?_
  simp only [State.obj, settled_pur] at hobj ⊢
  rw [hmove, hobj]
  exact ⟨rfl, rfl, rfl, rfl⟩

end

/-! ## A move that has failed three times (R140) -/

theorem poisonObj_poisons (s : State) (h : Nat) : ((s.poisonObj h).obj h).poison = true := by
  simp only [State.poisonObj]
  split
  · assumption
  · simp only [State.obj, State.raise_pur, State.wf_pur, State.inc_pur]
    exact congrArg Obj.poison (obj_setObj_same s h _)

theorem poisonObj_tries (s : State) (h : Nat) : (s.poisonObj h).pur.tries = s.pur.tries := by
  simp only [State.poisonObj]
  split
  · rfl
  · simp

theorem pagerPoison_poisons {s : State} {h : Fin (2 ^ 24)} {out : Bool} (hm : s.pur.move = none)
    (h3 : 3 ≤ smGet (fun _ => 0) s.pur.tries (tryKey out h)) : Completes (.pagerPoison h out) s fun t =>
      (t.obj h).poison = true ∧ smGet (fun _ => 0) t.pur.tries (tryKey out h) = 0 := by
  have hexec : exec (.pagerPoison h out) s = execPagerPoison h out s := rfl
  simp only [execPagerPoison, hm, if_neg (Nat.not_lt.2 h3)] at hexec
  refine .of_done hexec ?_
  rw [State.obj, settled_pur, poisonObj_tries]
  exact ⟨poisonObj_poisons _ _, smGet_smErase_same _ _ _⟩

/-! ## The repair of a table page (R116) -/

@[simp] theorem err_pur (s : State) (pg code addr src : Nat) : (s.err pg code addr src).pur = s.pur := by
  unfold State.err
  split <;> simp only [State.wf_pur]

@[simp] theorem err_hbm (s : State) (pg code addr src : Nat) : (s.err pg code addr src).hbm = s.hbm := by
  unfold State.err
  split <;> simp only [State.wf_hbm]

/-- A new page of a table copy takes what the other copy holds, as far as the two stacks complete accesses (R712). -/
def State.refillPage (s : State) (c idx p : Nat) : State :=
  if s.stackStopped c then s else if s.stackStopped (1 - c) then s.zeroPage p else (s.zeroPage p).tabRefill c idx

theorem refillPage_clean {s : State} (hs : s.hbm.syms = []) (c idx p : Nat) : (s.refillPage c idx p).hbm.syms = [] := by
  have hzero : (s.zeroPage p).hbm.syms = [] := by simp [State.zeroPage, smDrop, hs]
  unfold State.refillPage
  split
  · exact hs
  · split <;> exact hzero

theorem refillPage_unrep (s : State) (c idx p : Nat) : (s.refillPage c idx p).pur.unrep = s.pur.unrep := by
  unfold State.refillPage
  split
  · rfl
  · split <;> rfl

/-- A read of a page in which nothing is struck counts nothing. -/
theorem foldl_struckIn_of_clean {s : State} (hs : s.hbm.syms = []) (f : State → Nat → State) (p : Nat) : (s.struckIn p).foldl f s = s := by
  rw [struckIn_of_clean hs, List.foldl_nil]

/-- The page that the repair of a table page takes, entered in the copy. -/
def State.replacePage (s : State) (c idx : Nat) : State :=
  let s1 := (s.takePage c).2
  { s1 with pur := { s1.pur with
      tab := s1.pur.tab.set c ((s1.pur.tab.getD c []).set idx (s.takePage c).1), unrep := s1.pur.unrep.filter (· != (c, idx)) } }

theorem replacePage_unrep (s : State) (c idx : Nat) : (s.replacePage c idx).pur.unrep = s.pur.unrep.filter (· != (c, idx)) := rfl

/-- R116: with nothing struck, the repair replaces the page, refills it and records what was lost. -/
theorem exec_otRepaired_clean {s : State} {c idx : Nat}
    (hfind : s.pur.unrep.find? (fun e => decide (0 < s.freeCount e.1)) = some (c, idx)) (hs : s.hbm.syms = []) :
    exec .otRepaired s = done s (((s.replacePage c idx).refillPage c idx (s.takePage c).1).err pgPUR 0x8001 ((s.pur.tab.getD c []).getD idx 0)) := by
  have hclean : (((s.replacePage c idx).refillPage c idx (s.takePage c).1).err pgPUR 0x8001 ((s.pur.tab.getD c []).getD idx 0)).hbm.syms = [] := by
    rw [err_hbm]
    exact refillPage_clean (s := s.replacePage c idx) hs c idx _
  have hexec : exec .otRepaired s = execOtRepaired s := rfl
  rw [hexec, execOtRepaired, hfind]
  refine congrArg (done s) ?_
  exact (congrArg (ite _ _) (foldl_struckIn_of_clean hclean _ _)).trans (ite_self _)

theorem otRepaired_repairs {s : State} {c idx : Nat}
    (hfind : s.pur.unrep.find? (fun e => decide (0 < s.freeCount e.1)) = some (c, idx)) (hs : s.hbm.syms = []) :
    Completes .otRepaired s fun t => t.pur.unrep = s.pur.unrep.filter (· != (c, idx)) := by
  refine .of_done (exec_otRepaired_clean hfind hs) ?_
  rw [settled_pur, err_pur, refillPage_unrep, replacePage_unrep]

end Sys2Proof.Machine
end

section
/-! PROOF. The object commands and the pager (O21). -/

namespace Sys2Proof.Machine

/-- Settles O21: each clause is the lemma about its command, taken up in its slot, or about its step of the pager. -/
theorem objectsAndPager : Obligations.ObjectsAndPager := by
  unfold Obligations.ObjectsAndPager
  refine ⟨?commands, ?pager⟩
  case commands =>
    intro s src slot ha ho hb
    refine ⟨?create, ?handle, ?stGrant, ?stFree⟩
    case create => exact create_makes ha ho hb
    case handle =>
      intro hg harg hok hst hown
      refine ⟨?free, ?pin, ?unpin, ?evict, ?fetch, ?query⟩
      case free => exact free_frees ha ho hb hg harg hok hst hown
      case pin => exact pin_pins ha ho hb hg harg hok hst hown
      case unpin => exact unpin_unpins ha ho hb hg harg hok hst hown
      case evict => exact evict_asks ha ho hb hg harg hok hst hown
      case fetch => exact fetch_asks ha ho hb hg harg hok hst hown
      case query => exact query_answers ha ho hb hg harg hok hst hown
    case stGrant => exact completes_stWait ha ho hb rfl
    case stFree => exact completes_stWait ha ho hb rfl
  case pager =>
    intro s
    refine ⟨?pageOut, ?pageIn, ?pageMove, ?poison, ?repair⟩
    case pageOut => exact fun a hfree hpick => pageOut_starts hfree hpick
    case pageIn => exact fun a hfree hpick => pageIn_starts hfree hpick
    case pageMove =>
      intro m hz ht hm hd hs hl
      exact ⟨pageMove_ends_out hz ht hm hs hl hd, pageMove_ends_in hz ht hm hs hl hd⟩
    case poison => exact fun h out => pagerPoison_poisons
    case repair => exact fun c idx => otRepaired_repairs

end Sys2Proof.Machine
end

section
/-! PROOF. Standing grants (O22). -/

namespace Sys2Proof.Machine

/-! ## The selection point (R124) -/

/-- The tick guard begins in CRS_STAT alone. -/
theorem guardBegin_only (s : State) : Only (fun k => k == pgCRS + 0x64) [] s s.guardBegin := by
  unfold State.guardBegin
  split
  · exact .refl s
  · exact (Only.refl s).wf _ _ _ _ rfl

@[simp] theorem guardBegin_pur (s : State) : s.guardBegin.pur = s.pur := (guardBegin_only s).2 .pur (by simp)

@[simp] theorem guardBegin_frozenPage (s : State) (pg : Nat) : s.guardBegin.frozenPage pg = s.frozenPage pg := by
  have hfrz : s.guardBegin.frz = s.frz := (guardBegin_only s).2 .frz (by simp)
  simp only [State.frozenPage, hfrz]

/-- The fences and the headers lie outside CRS_STAT. -/
theorem guardBegin_bit (s : State) {pg : Nat} {f : Fld} (h : pg + f.addr 0 ≠ pgCRS + 0x64) : s.guardBegin.bit pg f = s.bit pg f :=
  (guardBegin_only s).bit_eq (by simpa using h)

/-- Purlin with no command waiting. -/
def State.noneWaiting (s : State) : State := { s with pur := { s.pur with stWait := [] } }

/-- A single command that waits is the one that is applied. -/
theorem stApplyAll_single {s : State} {slot : Nat} {c : StCmd} (hz : s.frozenPage pgPUR = false) (hw : s.pur.stWait = [(slot, c)]) :
    s.stApplyAll = s.noneWaiting.stApply slot c := by
  have horder : ([(slot, c)].filter (·.1 == 0)) ++ [(slot, c)].filter (·.1 != 0) = [(slot, c)] := by
    by_cases h : slot = 0 <;> simp [h]
  simp only [State.stApplyAll, hz, Bool.false_eq_true, if_false, hw, horder]
  rfl

section
variable {s : State} {slot : Nat} {c : StCmd} (hp : s.selPoint = true) (hz : s.frozenPage pgPUR = false)
  (hw : s.pur.stWait = [(slot, c)])
include hp hz hw

theorem exec_standingGrantApply_single : exec .standingGrantApply s = done s (s.guardBegin.noneWaiting.stApply slot c) := by
  rw [show exec .standingGrantApply s = execStandingGrantApply s from rfl, execStandingGrantApply, if_pos hp,
    stApplyAll_single ((guardBegin_frozenPage s _).trans hz) ((congrArg _ (guardBegin_pur s)).trans hw)]

end

/-! ## What a command that waited does -/

@[simp] theorem grant_setGrant_same (s : State) (n : Nat) (g : Grant) : (s.setGrant n g).grant n = g := smGet_smSet_same _ _ _ _

@[simp] theorem setGrant_stWait (s : State) (n : Nat) (g : Grant) : (s.setGrant n g).pur.stWait = s.pur.stWait := rfl

section
variable {s : State} {slot : Nat} {c : StCmd} (hr : s.ready pgPUR = true) (hbad : c.bad = false)
include hr hbad

/-- R124: a grant of a free number on a batten without a fence takes the run that is found. -/
theorem stApply_grants {f : Nat} (hf : c.free = false) (hg : (s.grant c.num).len = 0) (hfence : s.bit (pgBST c.batten) BST_FENCE_FENCED = false)
    (hrun : s.grantRun c.batten c.len = some f) : s.stApply slot c =
      ((s.openGrant { batten := c.batten, first := f, len := c.len }).setGrant c.num { batten := c.batten, first := f, len := c.len }).cmdDone
        slot 0 (some (f, 0)) := by
  simp [State.stApply, hr, hbad, hf, hg, hfence, hrun]

/-- R124: a grant that is there is removed. -/
theorem stApply_frees (hf : c.free = true) (hg : (s.grant c.num).len ≠ 0) :
    s.stApply slot c = (s.setGrant c.num {}).cmdDone slot 0 none := by
  simp [State.stApply, hr, hbad, hf, hg]

end

section
variable {s : State} {slot : Nat} {c : StCmd} (hp : s.selPoint = true) (hz : s.frozenPage pgPUR = false)
  (hw : s.pur.stWait = [(slot, c)]) (hslot : slot < 2)
include hp hz hw hslot

/-- The one command that waits completes, with a grant of its number set. -/
theorem completes_setGrant {u : State} {g : Grant} {res : Option (Nat × Nat)} (hu : u.pur.stWait = [])
    (happly : s.guardBegin.noneWaiting.stApply slot c = (u.setGrant c.num g).cmdDone slot 0 res) :
    Completes .standingGrantApply s fun t => t.grant c.num = g ∧ t.rf pgPUR PUR_CMD_STAT_STATUS slot = 0 ∧ t.pur.stWait = [] := by
  have hexec := exec_standingGrantApply_single hp hz hw
  rw [happly] at hexec
  refine (completes_cmdDone (slot := ⟨slot, hslot⟩) hexec (by decide)).imp fun t h => ⟨?_, h.status, ?_⟩
  · rw [State.grant, h.pur]
    exact grant_setGrant_same _ _ _
  · rw [h.pur, setGrant_stWait, hu]

variable (hr : s.ready pgPUR = true) (hbad : c.bad = false)
include hr hbad

theorem standingGrantApply_grants (hf : c.free = false) (hg : (s.grant c.num).len = 0)
    (hfence : s.bit (pgBST c.batten) BST_FENCE_FENCED = false) {f : Nat} (hrun : s.grantRun c.batten c.len = some f) :
    Completes .standingGrantApply s fun t => t.grant c.num = { batten := c.batten, first := f, len := c.len } ∧
      t.rf pgPUR PUR_CMD_STAT_STATUS slot = 0 ∧ t.pur.stWait = [] := by
  refine completes_setGrant hp hz hw hslot ?_ (stApply_grants ?_ hbad hf ?_ ?_ ?_)
  · rfl
  · exact (guardBegin_bit s (by decide)).trans hr
  · simpa only [State.grant, State.noneWaiting, guardBegin_pur] using hg
  · exact (guardBegin_bit s (by simp only [pgBST, pgCRS]; omega)).trans hfence
  · simpa only [State.grantRun, State.grantsOn, State.noneWaiting, guardBegin_pur] using hrun

theorem standingGrantApply_frees (hf : c.free = true) (hg : (s.grant c.num).len ≠ 0) :
    Completes .standingGrantApply s fun t => t.grant c.num = {} ∧ t.rf pgPUR PUR_CMD_STAT_STATUS slot = 0 ∧ t.pur.stWait = [] := by
  refine completes_setGrant hp hz hw hslot rfl (stApply_frees ?_ hbad hf ?_)
  · exact (guardBegin_bit s (by decide)).trans hr
  · simpa only [State.grant, State.noneWaiting, guardBegin_pur] using hg

end

/-! ## The run that a grant takes -/

/-- The first number that a search from n - 1 downward finds is the highest. -/
theorem find?_reverse_range_eq_some {p : Nat → Bool} {n f : Nat} (h : (List.range n).reverse.find? p = some f) :
    p f = true ∧ f < n ∧ ∀ f', f < f' → f' < n → p f' = false := by
  induction n with
  | zero => simp at h
  | succ n ih =>
    rw [List.range_succ, List.reverse_append, List.reverse_singleton, List.singleton_append, List.find?_cons] at h
    split at h
    · next hp =>
      obtain rfl := Option.some.inj h
      exact ⟨hp, Nat.lt_succ_self _, fun f' hlt hle => by omega⟩
    · next hp =>
      obtain ⟨hf, hlt, habove⟩ := ih h
      refine ⟨hf, by omega, fun f' hff' hf'n => ?_⟩
      rcases Nat.lt_succ_iff_lt_or_eq.1 hf'n with hlt' | rfl
      · exact habove f' hff' hlt'
      · simpa using hp

/-- R124: the run that is found lies on the batten, apart from the grants there, and no higher run does. -/
theorem grantRun_highest {s : State} {b len f : Nat} (hlen : len ≤ 1024) (h : s.grantRun b len = some f) :
    f + len ≤ 1024 ∧ (∀ g ∈ s.grantsOn b, f + len ≤ g.first ∨ g.first + g.len ≤ f) ∧
      ∀ f', f < f' → f' + len ≤ 1024 → ∃ g ∈ s.grantsOn b, ¬ (f' + len ≤ g.first ∨ g.first + g.len ≤ f') := by
  obtain ⟨hfree, hlt, habove⟩ := find?_reverse_range_eq_some h
  refine ⟨by omega, ?_, fun f' hff' hf' => ?_⟩
  · simpa using hfree
  · have hmeets := habove f' hff' (by omega)
    simpa [not_or, List.all_eq_false] using hmeets

/-- Settles O22: the command that waits is applied, and the run that it takes is the highest free one. -/
theorem standingGrants : Obligations.StandingGrants := by
  unfold Obligations.StandingGrants
  refine ⟨?apply, ?run⟩
  case apply =>
    intro s slot c hp hz hw hslot hr hbad
    exact ⟨fun hf hg hfence f hrun => standingGrantApply_grants hp hz hw hslot hr hbad hf hg hfence hrun,
      standingGrantApply_frees hp hz hw hslot hr hbad⟩
  case run => exact fun s b len f _ hlen => grantRun_highest hlen

end Sys2Proof.Machine
end

section
/-! PROOF. Fields of one page that share no bit, and reads of fields past updates of other fields and of other parts (R10). -/

namespace Sys2Proof.Machine

/-! ## Fields of one page -/

/-- Every occurrence of the field lies within its register, and every register of it within a page. -/
def Fld.fits (f : Fld) : Bool := f.ok && decide (0 < f.n1) && decide (0 < f.n2) && decide (f.last < 0x1000)

/-- A test that two fields of a page share no bit, in any occurrence: by their bits, or by where their registers begin and end. -/
def Fld.apart (f g : Fld) : Bool :=
  f.fits && g.fits && (decide (f.top ≤ g.lo) || decide (g.top ≤ f.lo) || decide (f.last < g.off) || decide (g.last < f.off))

/-- The register of any occurrence lies between the field's first and last, and its bits below the field's top. -/
theorem Fld.bounds_of_fits {f : Fld} (h : f.fits = true) (i : Nat) :
    f.off ≤ f.addr i ∧ f.addr i ≤ f.last ∧ f.last < 0x1000 ∧ f.lo ≤ f.sh i ∧ f.sh i + f.width ≤ f.top ∧ f.ok = true := by
  simp only [Fld.fits, Bool.and_eq_true, decide_eq_true_eq] at h
  obtain ⟨⟨⟨hok, hn1⟩, hn2⟩, hlast⟩ := h
  have hnb : 0 < f.nb := by
    simp only [Fld.ok, Bool.and_eq_true, decide_eq_true_eq] at hok
    exact hok.1
  have hview := Nat.mul_le_mul_left f.s2 (Nat.le_sub_one_of_lt (Nat.mod_lt (i / (f.nb * f.n1)) hn2))
  have hreg := Nat.mul_le_mul_left f.s1 (Nat.le_sub_one_of_lt (Nat.mod_lt (i / f.nb) hn1))
  have hbit := Nat.mul_le_mul_left f.sb (Nat.le_sub_one_of_lt (Nat.mod_lt i hnb))
  simp only [Fld.addr, Fld.last, Fld.sh, Fld.top] at hlast ⊢
  exact ⟨by omega, by omega, hlast, by omega, by omega, hok⟩

theorem Fld.addr_lt {f : Fld} (h : f.fits = true) (i : Nat) : f.addr i < 0x1000 := by
  have hb := f.bounds_of_fits h i
  omega

section
variable (s : State) (pg : Nat) {f g : Fld} (v i j : Nat)

/-- A write of a field leaves the fields of its page that share no bit with it. -/
theorem rf_wf_apart (h : f.apart g = true) : (s.wf pg g v j).rf pg f i = s.rf pg f i := by
  simp only [Fld.apart, Bool.and_eq_true, Bool.or_eq_true, decide_eq_true_eq] at h
  obtain ⟨⟨hf, hg⟩, hd⟩ := h
  obtain ⟨hf1, hf2, -, hf3, hf4, -⟩ := f.bounds_of_fits hf i
  obtain ⟨hg1, hg2, -, hg3, hg4, hok⟩ := g.bounds_of_fits hg j
  rcases hd with ((hd | hd) | hd) | hd
  · exact rf_wf_of_disjoint _ _ _ _ _ _ _ hok (by omega)
  · exact rf_wf_of_disjoint _ _ _ _ _ _ _ hok (by omega)
  · exact rf_wf_ne _ _ _ _ _ _ _ _ (by omega)
  · exact rf_wf_ne _ _ _ _ _ _ _ _ (by omega)

theorem bit_wf_apart (h : f.apart g = true) : (s.wf pg g v j).bit pg f i = s.bit pg f i := by
  simp only [State.bit, rf_wf_apart s pg v i j h]

/-- An event leaves the fields of its page that lie past the header. -/
theorem rf_raise_apart (h : f.apart PG_EVT_RAW = true) : (s.raise pg v).rf pg f i = s.rf pg f i := rf_wf_apart _ _ _ _ _ h

theorem bit_raise_apart (h : f.apart PG_EVT_RAW = true) : (s.raise pg v).bit pg f i = s.bit pg f i := bit_wf_apart _ _ _ _ _ h

theorem rf_inc_same (hf : f.ok = true) : (s.inc pg f v i).rf pg f i = min (2 ^ f.width - 1) (s.rf pg f i + v) := by
  rw [State.inc, rf_wf_same _ _ _ _ _ hf]
  have := Nat.two_pow_pos f.width
  exact Nat.mod_eq_of_lt (by omega)

theorem rf_inc_apart (h : f.apart g = true) : (s.inc pg g v j).rf pg f i = s.rf pg f i := rf_wf_apart _ _ _ _ _ h

theorem bit_inc_apart (h : f.apart g = true) : (s.inc pg g v j).bit pg f i = s.bit pg f i := bit_wf_apart _ _ _ _ _ h

/-- R81: the event that is raised reads 1. -/
theorem bitOf_raise {b : Nat} (hb : b < 32) : bitOf ((s.raise pg b).rf pg PG_EVT_RAW) b = true := by
  rw [rf_raise _ _ _ hb, bitOf, Nat.testBit_or, Nat.testBit_two_pow_self, Bool.or_true]

end

/-! ## Reads past updates of other parts -/

section
variable (s : State) (pg : Nat) (f g : Fld) (i v j b a : Nat)

@[simp] theorem rf_setBatten (x : BstSt) : (s.setBatten b x).rf pg f i = s.rf pg f i := by simp only [State.rf, State.reg, State.setBatten_regs]
@[simp] theorem bit_setBatten (x : BstSt) : (s.setBatten b x).bit pg f i = s.bit pg f i := by simp only [State.bit, rf_setBatten]
@[simp] theorem rf_setSp (p : SprSt) : (s.setSp b p).rf pg f i = s.rf pg f i := by simp only [State.rf, State.reg, State.setSp_regs]
@[simp] theorem bit_setSp (p : SprSt) : (s.setSp b p).bit pg f i = s.bit pg f i := by simp only [State.bit, rf_setSp]
@[simp] theorem rf_setStWord (w : StWord) : (s.setStWord b a w).rf pg f i = s.rf pg f i := by simp only [State.rf, State.reg, State.setStWord_regs]
@[simp] theorem bit_setStWord (w : StWord) : (s.setStWord b a w).bit pg f i = s.bit pg f i := by simp only [State.bit, rf_setStWord]
@[simp] theorem batten_wf : (s.wf pg g v j).batten b = s.batten b := by simp only [State.batten, State.wf_bst]
@[simp] theorem batten_raise : (s.raise pg v).batten b = s.batten b := by simp only [State.batten, State.raise_bst]
@[simp] theorem batten_inc : (s.inc pg g v j).batten b = s.batten b := by simp only [State.batten, State.inc_bst]
@[simp] theorem batten_setStWord (c : Nat) (w : StWord) : (s.setStWord c a w).batten b = s.batten b := by simp only [State.batten, State.setStWord_bst]
@[simp] theorem batten_setSp (p : SprSt) : (s.setSp i p).batten b = s.batten b := by simp only [State.batten, State.setSp_bst]
@[simp] theorem sp_wf : (s.wf pg g v j).sp i = s.sp i := by simp only [State.sp, State.wf_spr]
@[simp] theorem sp_raise : (s.raise pg v).sp i = s.sp i := by simp only [State.sp, State.raise_spr]
@[simp] theorem sp_inc : (s.inc pg g v j).sp i = s.sp i := by simp only [State.sp, State.inc_spr]
@[simp] theorem sp_setBatten (x : BstSt) : (s.setBatten b x).sp i = s.sp i := by simp only [State.sp, State.setBatten_spr]

theorem settled_batten (u : State) : (settled s u).batten b = u.batten b := by simp only [State.batten, settled_bst]

theorem settled_sp (u : State) : (settled s u).sp i = u.sp i := by simp only [State.sp, settled_spr]

/-- The registers of a batten's store are not the interrupt controller's own. -/
theorem settled_rf_bst (u : State) {f : Fld} (hf : f.fits = true) : (settled s u).rf (pgBST b) f i = u.rf (pgBST b) f i :=
  settled_rf _ _ _ _ _ (irqOwn_bst _ _ (Fld.addr_lt hf i))

theorem settled_bit_bst (u : State) {f : Fld} (hf : f.fits = true) : (settled s u).bit (pgBST b) f i = u.bit (pgBST b) f i := by
  simp only [State.bit, settled_rf_bst s i b u hf]

/-- Nor are those of a spar. -/
theorem settled_rf_spr (u : State) {f : Fld} (hf : f.fits = true) : (settled s u).rf (pgSPR b) f i = u.rf (pgSPR b) f i :=
  settled_rf _ _ _ _ _ (irqOwn_spr _ _ (Fld.addr_lt hf i))

theorem settled_bit_spr (u : State) {f : Fld} (hf : f.fits = true) : (settled s u).bit (pgSPR b) f i = u.bit (pgSPR b) f i := by
  simp only [State.bit, settled_rf_spr s i b u hf]

end

end Sys2Proof.Machine
end

section
/-! PROOF. Words of a batten's store, reads of them, owners of banks, and fence causes (R175, R190 to R192, R194, R205). -/

namespace Sys2Proof.Machine

/-! ## Where a word is stored (R205) -/

/-- The fields of a batten's page that say where a word is stored. -/
def repairFlds : List Fld := [BST_REPAIR_VALID0, BST_REPAIR_ROW0, BST_REPAIR_VALID1, BST_REPAIR_ROW1]

/-- The repair entries alone decide where a word is stored. -/
theorem stKey_congr {s t : State} {b : Nat} (h : ∀ f ∈ repairFlds, ∀ i, t.rf (pgBST b) f i = s.rf (pgBST b) f i) (a : Nat) :
    t.stKey b a = s.stKey b a := by
  simp only [repairFlds, List.forall_mem_cons] at h
  obtain ⟨hvalid0, hrow0, hvalid1, hrow1, -⟩ := h
  have hbit0 : ∀ i, t.bit (pgBST b) BST_REPAIR_VALID0 i = s.bit (pgBST b) BST_REPAIR_VALID0 i := fun i => by rw [State.bit, hvalid0, State.bit]
  have hbit1 : ∀ i, t.bit (pgBST b) BST_REPAIR_VALID1 i = s.bit (pgBST b) BST_REPAIR_VALID1 i := fun i => by rw [State.bit, hvalid1, State.bit]
  simp only [State.stKey, hbit0, hrow0, hbit1, hrow1]

/-- A word is as it was when the repair entries and the stored words are. -/
theorem stWord_congr {s t : State} {b : Nat} (h : ∀ f ∈ repairFlds, ∀ i, t.rf (pgBST b) f i = s.rf (pgBST b) f i)
    (hs : ∀ k, smGet stDflt t.store k = smGet stDflt s.store k) (a : Nat) : t.stWord b a = s.stWord b a := by
  simp only [State.stWord, stKey_congr h, hs]

@[simp] theorem stWord_setBatten (s : State) (b c a : Nat) (x : BstSt) : (s.setBatten c x).stWord b a = s.stWord b a :=
  stWord_congr (fun _ _ _ => rf_setBatten ..) (fun _ => by rw [State.setBatten_store]) a

/-- A write of a field of the page that is none of a repair entry changes no word. -/
theorem stWord_wf_apart (s : State) (b a v j : Nat) {g : Fld} (h : ∀ f ∈ repairFlds, f.apart g = true) :
    (s.wf (pgBST b) g v j).stWord b a = s.stWord b a :=
  stWord_congr (fun f hf i => rf_wf_apart s (pgBST b) v i j (h f hf)) (fun _ => by rw [State.wf_store]) a

@[simp] theorem stWord_raise (s : State) (b a v : Nat) : (s.raise (pgBST b) v).stWord b a = s.stWord b a :=
  stWord_wf_apart _ _ _ _ _ (by decide)

theorem repairFlds_fits : ∀ f ∈ repairFlds, f.fits = true := by decide

theorem settled_stWord (s u : State) (b a : Nat) : (settled s u).stWord b a = u.stWord b a :=
  stWord_congr (fun f hf i => settled_rf_bst s i b u (repairFlds_fits f hf)) (fun _ => by rw [settled_store]) a

/-- R205: a word's storage, by its own cells or by a spare row of its bank. -/
theorem stKey_cases (s : State) (b : Nat) {a : Nat} (ha : a < 2 ^ 18) :
    s.stKey b a = b * 2 ^ 19 + a ∨ ∃ spare < 2, s.stKey b a = spareKey b (bankOf a) spare (colOf a) := by
  simp only [State.stKey]
  split
  · exact .inr ⟨0, by omega, rfl⟩
  · split
    · exact .inr ⟨1, by omega, rfl⟩
    · exact .inl (by rw [Nat.mod_eq_of_lt ha])

/-! ## Fence causes (R194) -/

section
variable (s : State) (b cause : Nat)

/-- A fence cause writes CAUSE, and of the batten that it is due. -/
theorem fenceCause_cases : s.fenceCause b cause = s ∨ s.fenceCause b cause =
    (s.wf (pgBST b) BST_FENCE_CAUSE cause).setBatten b { s.batten b with fenceDue := true } := by
  simp only [State.fenceCause]
  split
  · exact .inl rfl
  · exact .inr rfl

/-- R194: the first cause of a batten that is not fenced is recorded. -/
theorem fenceCause_first (hf : s.bit (pgBST b) BST_FENCE_FENCED = false) (hd : (s.batten b).fenceDue = false)
    (ht : (s.batten b).fenceTick = false) :
    s.fenceCause b cause = (s.wf (pgBST b) BST_FENCE_CAUSE cause).setBatten b { s.batten b with fenceDue := true } := by
  simp only [State.fenceCause, hf, hd, ht, Bool.or_self, Bool.false_eq_true, if_false]

/-- After a cause a batten that is not fenced is to be fenced at a tick. -/
theorem fenceCause_due (hf : s.bit (pgBST b) BST_FENCE_FENCED = false) :
    ((s.fenceCause b cause).batten b).fenceDue = true ∨ ((s.fenceCause b cause).batten b).fenceTick = true := by
  cases hd : (s.batten b).fenceDue
  · cases ht : (s.batten b).fenceTick
    · exact .inl (by rw [fenceCause_first s b cause hf hd ht, State.batten_setBatten_same])
    · exact .inr (by simp only [State.fenceCause, ht, Bool.or_true, if_true])
  · exact .inl (by simp only [State.fenceCause, hd, Bool.or_true, Bool.true_or, if_true])

/-- A fence cause leaves the fields of the page that share no bit with CAUSE. -/
theorem rf_fenceCause_apart {f : Fld} (i : Nat) (h : f.apart BST_FENCE_CAUSE = true) :
    (s.fenceCause b cause).rf (pgBST b) f i = s.rf (pgBST b) f i := by
  rcases fenceCause_cases s b cause with e | e
  · rw [e]
  · rw [e, rf_setBatten, rf_wf_apart _ _ _ _ _ h]

theorem bit_fenceCause_apart {f : Fld} (i : Nat) (h : f.apart BST_FENCE_CAUSE = true) :
    (s.fenceCause b cause).bit (pgBST b) f i = s.bit (pgBST b) f i := by
  simp only [State.bit, rf_fenceCause_apart s b cause i h]

end

/-! ## Reads of a clean word (R190, R191) -/

section
variable {s : State} {b a : Nat} (h : (s.stWord b a).err = .clean)
include h

theorem stRead_of_clean : (s.stRead b a .clean).1.regs = s.regs ∧ (s.stRead b a .clean).2 = ((s.stWord b a).data, false) := by
  obtain ⟨⟨⟨_, hregs⟩, -⟩, hdata⟩ := stRead_clean s b a h
  exact ⟨by rw [hregs], hdata⟩

/-- R190: a single-bit error is corrected, counted, and queued for its write-back. -/
theorem stRead_of_single : (s.stRead b a .single).2 = ((s.stWord b a).data, false) ∧
    a ∈ ((s.stRead b a .single).1.batten b).writeBack ∧
    (s.stRead b a .single).1.rf (pgBST b) BST_CE_CNT_COUNT = min (2 ^ BST_CE_CNT_COUNT.width - 1) (s.rf (pgBST b) BST_CE_CNT_COUNT + 1) := by
  have hj : stJoin (s.stWord b a).err .single = .single := by rw [h]; rfl
  simp only [State.stRead, hj]
  refine ⟨trivial, ?_, ?_⟩
  · simp only [batten_raise, batten_wf, batten_inc, State.batten_setBatten_same, batten_setStWord]
    split
    · next hc => exact List.contains_iff_mem.1 hc
    · exact List.mem_append_right _ (List.mem_singleton.2 rfl)
  · simp (disch := decide) only [rf_raise_apart, rf_wf_apart, rf_inc_same, rf_setBatten, rf_setStWord]

/-- R191: an uncorrectable error is POISON, raises its event, and fences the batten. -/
theorem stRead_of_multi : (s.stRead b a .multi).2.2 = true ∧ bitOf ((s.stRead b a .multi).1.rf (pgBST b) PG_EVT_RAW) 1 = true ∧
    (s.bit (pgBST b) BST_FENCE_FENCED = false → (s.batten b).fenceDue = false → (s.batten b).fenceTick = false →
      ((s.stRead b a .multi).1.batten b).fenceDue = true) := by
  have hj : stJoin (s.stWord b a).err .multi = .multi := by rw [h]; rfl
  simp only [State.stRead, hj]
  refine ⟨trivial, ?_, fun hf hd ht => ?_⟩
  · rw [rf_fenceCause_apart _ _ _ _ (by decide), bitOf_raise _ _ (by decide)]
  · rw [fenceCause_first, State.batten_setBatten_same]
    · simp (disch := decide) only [bit_raise_apart, bit_wf_apart, bit_inc_apart, bit_setStWord, hf]
    · simpa only [batten_raise, batten_wf, batten_inc, batten_setStWord] using hd
    · simpa only [batten_raise, batten_wf, batten_inc, batten_setStWord] using ht

end

/-! ## Owners of banks (R175) -/

theorem ownByte_lt (o : Nat) : ownByte o < 2 ^ 8 := by simp only [ownByte]; omega

theorem ownByte_ownByte (o : Nat) : ownByte (ownByte o) = ownByte o := by simp only [ownByte]; omega

section
variable (s : State) (b o : Nat) {bank k : Nat}

/-- The owner bytes of two banks share no bit. -/
theorem rf_owner_wf_ne (hb : bank < 32) (hk : k < 32) (hne : k ≠ bank) :
    (s.wf (pgBST b) BST_OWNER_BANK o bank).rf (pgBST b) BST_OWNER_BANK k = s.rf (pgBST b) BST_OWNER_BANK k := by
  by_cases hreg : k / 4 = bank / 4
  · refine rf_wf_of_disjoint _ _ _ _ _ _ _ (by decide) ?_
    simp only [Fld.sh, Fld.width, BST_OWNER_BANK]
    omega
  · refine rf_wf_ne _ _ _ _ _ _ _ _ ?_
    simp only [Fld.addr, BST_OWNER_BANK]
    omega

theorem handOver_owner (hb : bank < 32) (hk : k < 32) : ownByte ((s.handOver b bank o).rf (pgBST b) BST_OWNER_BANK k) =
    if k = bank then ownByte o else ownByte (s.rf (pgBST b) BST_OWNER_BANK k) := by
  simp only [State.handOver]
  split
  · next hsame =>
    split
    · next he => rw [he, hsame]
    · rfl
  · rw [rf_setBatten, rf_wf_apart _ _ _ _ _ (by decide)]
    split
    · next he =>
      rw [he, rf_wf_same _ _ _ _ _ (by decide), show BST_OWNER_BANK.width = 8 from rfl, Nat.mod_eq_of_lt (ownByte_lt o), ownByte_ownByte]
    · next hne => rw [rf_owner_wf_ne s b _ hb hk hne]

/-- A handover of one bank leaves those that are pending, and begins its own when the owner changes. -/
theorem handOver_pend (hb : bank < 32) (h : bitOf (s.rf (pgBST b) BST_OWNER_PEND_PEND) k = true ∨
      (k = bank ∧ ownByte (s.rf (pgBST b) BST_OWNER_BANK bank) ≠ ownByte o)) :
    bitOf ((s.handOver b bank o).rf (pgBST b) BST_OWNER_PEND_PEND) k = true := by
  simp only [State.handOver]
  split
  · next he => exact h.resolve_right fun hn => hn.2 he
  · have hlt : s.rf (pgBST b) BST_OWNER_PEND_PEND ||| 2 ^ bank < 2 ^ 32 :=
      Nat.or_lt_two_pow (rf_lt ..) (Nat.pow_lt_pow_right (by omega) hb)
    rw [rf_setBatten, rf_wf_same _ _ _ _ _ (by decide), show BST_OWNER_PEND_PEND.width = 32 from rfl, Nat.mod_eq_of_lt hlt, bitOf, Nat.testBit_or]
    rcases h with h | ⟨rfl, -⟩
    · rw [show Nat.testBit _ k = true from h, Bool.true_or]
    · rw [Nat.testBit_two_pow_self, Bool.or_true]

/-- The first n bytes of a write of BST_OWNERj, taken in turn. -/
theorem handOvers (byte : Nat → Nat) {j n : Nat} (hj : j < 8) (hn : n ≤ 4) :
    let t := (List.range n).foldl (fun s i => s.handOver b (4 * j + i) (byte i)) s
    (∀ i, i < n → ownByte (t.rf (pgBST b) BST_OWNER_BANK (4 * j + i)) = ownByte (byte i) ∧
      (ownByte (s.rf (pgBST b) BST_OWNER_BANK (4 * j + i)) ≠ ownByte (byte i) →
        bitOf (t.rf (pgBST b) BST_OWNER_PEND_PEND) (4 * j + i) = true)) ∧
    ∀ i, n ≤ i → i < 4 → ownByte (t.rf (pgBST b) BST_OWNER_BANK (4 * j + i)) = ownByte (s.rf (pgBST b) BST_OWNER_BANK (4 * j + i)) := by
  induction n with
  | zero => exact ⟨fun i hi => absurd hi (Nat.not_lt_zero i), fun _ _ _ => rfl⟩
  | succ n ih =>
    obtain ⟨hdone, hrest⟩ := ih (by omega)
    simp only [List.range_succ, List.foldl_append, List.foldl_cons, List.foldl_nil] at hdone hrest ⊢
    refine ⟨fun i hi => ?_, fun i hi hi4 => ?_⟩
    · rw [handOver_owner _ _ _ (by omega) (by omega)]
      rcases Nat.lt_succ_iff_lt_or_eq.1 hi with hlt | rfl
      · obtain ⟨hown, hpend⟩ := hdone i hlt
        exact ⟨by rw [if_neg (by omega), hown], fun hne => handOver_pend _ _ _ (by omega) (.inl (hpend hne))⟩
      · exact ⟨if_pos rfl, fun hne => handOver_pend _ _ _ (by omega) (.inr ⟨rfl, by rwa [hrest i (Nat.le_refl i) (by omega)]⟩)⟩
    · rw [handOver_owner _ _ _ (by omega) (by omega), if_neg (by omega), hrest i (by omega) hi4]

end

end Sys2Proof.Machine
end

section
/-! PROOF. Marches that find no fault, and soft repairs (R200, R201, R206, R207). -/

namespace Sys2Proof.Machine

/-! ## The start of a march (R201) -/

section
variable (s : State) (b mode banks : Nat)

/-- A march that starts is the batten's, and says whether it started under a fence. -/
theorem marchBegin_march : ((s.marchBegin b mode banks).batten b).march =
    some { mode := mode, banks := banks, waiting := false, fenced := s.bit (pgBST b) BST_FENCE_FENCED } := by
  simp only [State.marchBegin, State.batten_setBatten_same]

/-- A march that starts leaves the fields that share no bit with MARCHING or with what MARCH_STAT says of a result. -/
theorem rf_marchBegin_apart {f : Fld} (i : Nat) (hrun : f.apart BST_MARCH_STAT_RUN = true) (hpass : f.apart BST_MARCH_STAT_PASS = true)
    (hdone : f.apart BST_MARCH_STAT_DONE = true) (hm : f.apart BST_FENCE_MARCHING = true) :
    (s.marchBegin b mode banks).rf (pgBST b) f i = s.rf (pgBST b) f i := by
  simp only [State.marchBegin, rf_setBatten, rf_wf_apart _ _ _ _ _ hrun, rf_wf_apart _ _ _ _ _ hpass, rf_wf_apart _ _ _ _ _ hdone,
    rf_wf_apart _ _ _ _ _ hm]

theorem bit_marchBegin_apart {f : Fld} (i : Nat) (hrun : f.apart BST_MARCH_STAT_RUN = true) (hpass : f.apart BST_MARCH_STAT_PASS = true)
    (hdone : f.apart BST_MARCH_STAT_DONE = true) (hm : f.apart BST_FENCE_MARCHING = true) :
    (s.marchBegin b mode banks).bit (pgBST b) f i = s.bit (pgBST b) f i := by
  simp only [State.bit, rf_marchBegin_apart s b mode banks i hrun hpass hdone hm]

theorem marchBegin_runs : (s.marchBegin b mode banks).bit (pgBST b) BST_MARCH_STAT_RUN = true := by
  simp (disch := decide) only [State.marchBegin, bit_setBatten, bit_wf_apart, bit_wf_same]
  decide

theorem marchBegin_marching (hf : s.bit (pgBST b) BST_FENCE_FENCED = true) :
    (s.marchBegin b mode banks).bit (pgBST b) BST_FENCE_MARCHING = true := by
  simp (disch := decide) only [State.marchBegin, bit_setBatten, bit_wf_same, hf]
  decide

/-- R202: what a march request that is not refused leaves. -/
theorem marchRequest_accepted {spar : Bool} (h : s.marchStatus b mode banks spar = 0) :
    let t := s.marchRequest b mode banks spar
    t.rf (pgBST b) BST_MARCH_STAT_STATUS = 0 ∧ t.bit (pgBST b) BST_MARCH_STAT_RUN = true ∧
      ∃ m, (t.batten b).march = some m ∧ m.mode = mode ∧ m.banks = banks ∧
        m.waiting = (s.crs.running && !s.bit (pgBST b) BST_FENCE_FENCED) := by
  have hcrs : (s.wf (pgBST b) BST_MARCH_STAT_STATUS 0).crs = s.crs := State.wf_crs ..
  have hfenced : (s.wf (pgBST b) BST_MARCH_STAT_STATUS 0).bit (pgBST b) BST_FENCE_FENCED = s.bit (pgBST b) BST_FENCE_FENCED :=
    bit_wf_apart _ _ _ _ _ (by decide)
  have hstatus : (s.wf (pgBST b) BST_MARCH_STAT_STATUS 0).rf (pgBST b) BST_MARCH_STAT_STATUS = 0 := by
    rw [rf_wf_same _ _ _ _ _ (by decide), Nat.zero_mod]
  simp only [State.marchRequest, h, ne_eq, not_true_eq_false, if_false, show ¬ (0 = 8) by decide]
  split
  case isTrue hnow =>
    refine ⟨?_, marchBegin_runs .., _, marchBegin_march .., rfl, rfl, ?_⟩
    · rw [rf_marchBegin_apart _ _ _ _ _ (by decide) (by decide) (by decide) (by decide), hstatus]
    · revert hnow
      cases s.crs.running <;> cases s.bit (pgBST b) BST_FENCE_FENCED <;> simp
  case isFalse hwait =>
    refine ⟨?_, ?_, _, by rw [State.batten_setBatten_same], rfl, rfl, ?_⟩
    · rw [rf_setBatten, rf_wf_apart _ _ _ _ _ (by decide), rf_fenceCause_apart _ _ _ _ (by decide), hstatus]
    · rw [bit_setBatten, bit_wf_same _ _ _ _ _ (by decide)]
      decide
    · revert hwait
      cases s.crs.running <;> cases s.bit (pgBST b) BST_FENCE_FENCED <;> simp

end

/-! ## A march that finds no fault (R200, R204) -/

section
variable (s : State) (b : Nat)

/-- A passing destructive march of these banks empties each of them; a preserving one changes no word. -/
def State.marchedBanks (s : State) (b mode : Nat) (ks : List Nat) : State :=
  ks.foldl (fun s k => if mode = 0 then s.zeroBank b k else s) s

theorem marchBanks_of_no_faults (mode : Nat) (ks : List Nat) :
    s.marchBanks b mode [] ks = (s.marchedBanks b mode ks, true, false) := by
  induction ks generalizing s with
  | nil => rfl
  | cons k r ih =>
    have hk : s.marchBank b mode [] k = (if mode = 0 then s.zeroBank b k else s, true, false) := by
      simp [State.marchBank, faultRows, State.spareBad, State.repairRows]
    simp [State.marchBanks, hk, ih, State.marchedBanks]

theorem marchedBanks_cases (mode : Nat) (ks : List Nat) : ∃ x, s.marchedBanks b mode ks = { s with store := x } := by
  induction ks generalizing s with
  | nil => exact ⟨_, rfl⟩
  | cons k r ih =>
    obtain ⟨x, hx⟩ := ih (if mode = 0 then s.zeroBank b k else s)
    refine ⟨x, ?_⟩
    rw [State.marchedBanks, List.foldl_cons, ← State.marchedBanks, hx]
    split <;> rfl

/-- The batten and the bank of a word of a spare row. -/
theorem spareKey_parts {bank spare col : Nat} (hbank : bank < 32) (hspare : spare < 2) (hcol : col < 64) :
    spareKey b bank spare col / 2 ^ 19 = b ∧ ¬ spareKey b bank spare col % 2 ^ 19 < 2 ^ 18 ∧
      spareKey b bank spare col % 2 ^ 18 / 128 = bank := by
  have hrest : spareKey b bank spare col % 2 ^ 18 = 128 * bank + (64 * spare + col) := by simp only [spareKey]; omega
  refine ⟨by simp only [spareKey]; omega, by simp only [spareKey]; omega, ?_⟩
  rw [hrest, Nat.mul_add_div (by decide), Nat.div_eq_of_lt (by omega), Nat.add_zero]

/-- The words of a bank lie, in its cells or in its spare rows, among what an empty bank drops. -/
theorem stWord_zeroBank {a : Nat} (k : Nat) (ha : a < 2 ^ 18) (h : a % 32 = k ∨ s.stWord b a = {}) :
    (s.zeroBank b k).stWord b a = {} := by
  have hkey : (s.zeroBank b k).stKey b a = s.stKey b a := stKey_congr (fun _ _ _ => rfl) a
  rw [State.stWord, hkey, State.zeroBank, smGet_smDrop]
  rcases h with rfl | hempty
  · refine if_pos ?_
    rcases stKey_cases s b ha with e | ⟨spare, hs, e⟩
    · have hbatten : (b * 2 ^ 19 + a) / 2 ^ 19 = b := by omega
      have hcell : (b * 2 ^ 19 + a) % 2 ^ 19 < 2 ^ 18 := by omega
      have hbank : (b * 2 ^ 19 + a) % 32 = a % 32 := by omega
      simp only [e, hbatten, if_pos hcell, hbank, beq_self_eq_true, Bool.and_self]
    · obtain ⟨hbatten, hspare, hbank⟩ := spareKey_parts b (bank := a % 32) (col := colOf a) (Nat.mod_lt a (by decide)) hs
        (Nat.mod_lt _ (by decide))
      simp only [e, bankOf, hbatten, if_neg hspare, hbank, beq_self_eq_true, Bool.and_self]
  · rw [show smGet stDflt s.store (s.stKey b a) = {} from hempty]
    exact ite_self _

/-- R200: after a passing destructive march every word of its banks is 0 with good check bits. -/
theorem stWord_marchedBanks {a : Nat} (ha : a < 2 ^ 18) {ks : List Nat} (h : a % 32 ∈ ks ∨ s.stWord b a = {}) :
    (s.marchedBanks b 0 ks).stWord b a = {} := by
  induction ks generalizing s with
  | nil => exact h.resolve_left (by simp)
  | cons k r ih =>
    rw [State.marchedBanks, List.foldl_cons, if_pos rfl]
    refine ih _ ?_
    rcases h with h | h
    · rcases List.mem_cons.1 h with hk | hr
      · exact .inr (stWord_zeroBank s b k ha (.inl hk))
      · exact .inl hr
    · exact .inr (stWord_zeroBank s b k ha (.inr h))

/-- R204: what a march that finds no fault leaves of a batten that is not fenced. -/
theorem marchEnd_of_no_faults (m : March) (hf : s.bit (pgBST b) BST_FENCE_FENCED = false) :
    let t := s.marchEnd b m []
    (t.batten b).march = none ∧ t.bit (pgBST b) BST_MARCH_STAT_PASS = true ∧ t.bit (pgBST b) BST_MARCH_STAT_DONE = true ∧
      t.bit (pgBST b) BST_MARCH_STAT_RUN = false ∧
      ∀ a, t.stWord b a = (s.marchedBanks b m.mode ((List.range 32).filter (bitOf m.banks))).stWord b a := by
  obtain ⟨x, hx⟩ := marchedBanks_cases s b m.mode ((List.range 32).filter (bitOf m.banks))
  have hfenced : (s.marchedBanks b m.mode ((List.range 32).filter (bitOf m.banks))).bit (pgBST b) BST_FENCE_FENCED = false := by
    rw [hx]; exact hf
  simp only [State.marchEnd, marchBanks_of_no_faults]
  generalize s.marchedBanks b m.mode ((List.range 32).filter (bitOf m.banks)) = u at hfenced
  simp (disch := decide) only [Bool.false_eq_true, if_false, if_true, bit_setBatten, bit_raise_apart, bit_wf_apart, bit_wf_same, hfenced,
    Bool.false_and, State.batten_setBatten_same]
  refine ⟨trivial, by decide, by decide, by decide, fun a => ?_⟩
  simp (disch := decide) only [stWord_setBatten, stWord_raise, stWord_wf_apart]

end

/-! ## Soft repairs (R206) -/

section
variable (s : State) (b bank : Nat)

/-- What a newly mapped spare row holds is open, and nothing else changes. -/
theorem rf_openRow (spare pg : Nat) (f : Fld) (i : Nat) : (s.openRow b bank spare).rf pg f i = s.rf pg f i := by
  suffices h : (s.openRow b bank spare).regs = s.regs by simp only [State.rf, State.reg, h]
  unfold State.openRow
  generalize List.range 64 = l
  induction l generalizing s with
  | nil => rfl
  | cons c l ih => exact ih _

/-- R206: an entry for the first spare row that is written VALID and was not takes the row, as a soft repair. -/
theorem repairEntry_maps (row : Nat) (hv : s.bit (pgBST b) BST_REPAIR_VALID0 bank = false) :
    let t := s.repairEntry b bank 0 1 row
    t.bit (pgBST b) BST_REPAIR_VALID0 bank = true ∧ t.bit (pgBST b) BST_REPAIR_SOFT0 bank = true ∧
      t.rf (pgBST b) BST_REPAIR_ROW0 bank = row % 2 ^ 7 := by
  have hv0 : s.rf (pgBST b) BST_REPAIR_VALID0 bank = 0 := by simpa [State.bit] using hv
  simp (disch := decide) only [State.repairEntry, State.mapSpare, if_true, hv0, show ¬ (0 = 1) by decide, false_and, not_false_eq_true,
    and_true, if_false, bit_wf_apart, rf_wf_apart, bit_wf_same, rf_wf_same]
  exact ⟨by decide, by decide, rfl⟩

/-- The fields of an entry for the first spare row. -/
def entry0Flds : List Fld := [BST_REPAIR_VALID0, BST_REPAIR_SOFT0, BST_REPAIR_ROW0]

/-- A write of the entry for the second spare row leaves that for the first. -/
theorem rf_repairEntry_one (valid row : Nat) {f : Fld} (hf : f ∈ entry0Flds) (i : Nat) :
    (s.repairEntry b bank 1 valid row).rf (pgBST b) f i = s.rf (pgBST b) f i := by
  have hvalid : ∀ f ∈ entry0Flds, f.apart BST_REPAIR_VALID1 = true := by decide
  have hsoft : ∀ f ∈ entry0Flds, f.apart BST_REPAIR_SOFT1 = true := by decide
  have hrow : ∀ f ∈ entry0Flds, f.apart BST_REPAIR_ROW1 = true := by decide
  simp only [State.repairEntry, State.mapSpare, show ¬ (1 = 0) by decide, if_false]
  split
  · rfl
  · rw [rf_wf_apart _ _ _ _ _ (hvalid f hf), rf_wf_apart _ _ _ _ _ (hrow f hf), rf_wf_apart _ _ _ _ _ (hsoft f hf),
      rf_wf_apart _ _ _ _ _ (hvalid f hf)]
    split
    · exact rf_openRow ..
    · rfl

end

end Sys2Proof.Machine
end

section
/-! PROOF. The commands of the batten stores (O23). -/

namespace Sys2Proof.Machine

/-- A register of a batten's page, by an offset in two parts. -/
theorem pageOf_bst_add (b : Fin 64) {o m : Nat} (h : o + m < 0x1000) : pageOf (pgBST b + o + m) = some (.bst, b.val) := by
  rw [Nat.add_assoc, pageOf_bst b _ h]

section
variable {s : State} {src : Src} {b : Fin 64}

/-! ## Owners and write-backs (R175, R190) -/

theorem ownerWrite_completes {j : Fin 8} {v : Word32} (ha : s.accepts src (pgBST b + 0x40 + 4 * j.val) = true)
    (hv : ∀ i : Fin 4, ownValid (bits v.toNat (8 * i.val + 7) (8 * i.val)) = true) (hp : s.planOn b = false) :
    Completes (.ownerWrite src b j v) s fun t => ∀ i : Fin 4,
      ownByte (t.rf (pgBST b) BST_OWNER_BANK (4 * j.val + i.val)) = ownByte (bits v.toNat (8 * i.val + 7) (8 * i.val)) ∧
      (ownByte (s.rf (pgBST b) BST_OWNER_BANK (4 * j.val + i.val)) ≠ ownByte (bits v.toNat (8 * i.val + 7) (8 * i.val)) →
        bitOf (t.rf (pgBST b) BST_OWNER_PEND_PEND) (4 * j.val + i.val) = true) := by
  have hvalid : (List.range 4).any (fun i => !ownValid (bits v.toNat (8 * i + 7) (8 * i))) = false := by
    rw [List.any_eq_false]
    intro i hi
    have hi4 := hv ⟨i, List.mem_range.1 hi⟩
    simpa using hi4
  refine .of_done (u := (List.range 4).foldl (fun s i => s.handOver b (4 * j.val + i) (bits v.toNat (8 * i + 7) (8 * i))) s) ?_ fun i => ?_
  · rw [show exec (.ownerWrite src b j v) s = done s (s.ownerWrite src b j v) from rfl, State.ownerWrite,
      ifWriter_accepted _ ha (pageOf_bst_add b (by omega)) (by decide)]
    simp only [hvalid, hp, Bool.false_eq_true, if_false]
  · rw [settled_rf_bst _ _ _ _ (by decide), settled_rf_bst _ _ _ _ (by decide)]
    exact (handOvers s b _ j.isLt (Nat.le_refl 4)).1 i.val i.isLt

theorem testBit_setBit_false (v i : Nat) : (setBit v i false).testBit i = false := by
  cases h : v.testBit i
  · simp [setBit, h]
  · have hbit : v / 2 ^ i % 2 = 1 := by rwa [Nat.testBit_eq_decide_div_mod_eq, decide_eq_true_eq] at h
    have hdiv : (v - 2 ^ i) / 2 ^ i = v / 2 ^ i - 1 := by
      have := Nat.sub_mul_div v (2 ^ i) 1
      rwa [Nat.mul_one] at this
    simp only [setBit, h, if_true, Bool.false_eq_true, if_false, Nat.testBit_eq_decide_div_mod_eq, hdiv]
    exact decide_eq_false (by omega)

theorem setBit_false_le (v i : Nat) : setBit v i false ≤ v := by
  simp only [setBit, Bool.false_eq_true, if_false]
  split
  · exact Nat.sub_le ..
  · exact Nat.le_refl v

theorem handoverComplete_completes (bank : Fin 32) :
    Completes (.handoverComplete b bank) s fun t => bitOf (t.rf (pgBST b) BST_OWNER_PEND_PEND) bank = false := by
  refine .of_done rfl ?_
  have hlt : setBit (s.rf (pgBST b) BST_OWNER_PEND_PEND) bank false < 2 ^ 32 := Nat.lt_of_le_of_lt (setBit_false_le _ _) (rf_lt ..)
  rw [settled_rf_bst _ _ _ _ (by decide), rf_wf_same _ _ _ _ _ (by decide), show BST_OWNER_PEND_PEND.width = 32 from rfl,
    Nat.mod_eq_of_lt hlt]
  exact testBit_setBit_false _ _

theorem correctionWriteBack_completes {a : Nat} {r : List Nat} (hw : (s.batten b).writeBack = a :: r)
    (ht : s.bankTested b (bankOf a) = false) :
    Completes (.correctionWriteBack b) s fun t => t.stWord b a = { data := (s.stWord b a).data } ∧ a ∉ (t.batten b).writeBack := by
  refine .of_done (u := s.stPut b a (s.stWord b a).data) ?_ ⟨?_, ?_⟩
  · rw [show exec (.correctionWriteBack b) s = execCorrectionWriteBack b s from rfl, execCorrectionWriteBack, hw]
    simp only [ht, Bool.false_eq_true, if_false]
  · rw [settled_stWord, State.stPut, stWord_setBatten, State.stWord_setStWord_same]
  · rw [settled_batten, State.stPut, State.batten_setBatten_same]
    simp

/-! ## Fences (R194 to R197) -/

theorem ceFence_completes (hl : s.rf (pgBST b) BST_CFG_CE_FENCE ≠ 0) (hc : s.rf (pgBST b) BST_CFG_CE_FENCE ≤ (s.batten b).ceCourse)
    (hf : s.bit (pgBST b) BST_FENCE_FENCED = false) (hd : (s.batten b).fenceDue = false) (ht : (s.batten b).fenceTick = false) :
    Completes (.ceFence b) s fun t => (t.batten b).fenceDue = true ∧ t.rf (pgBST b) BST_FENCE_CAUSE = 2 := by
  refine .of_done rfl ?_
  rw [if_pos ⟨hl, hc⟩, fenceCause_first _ _ _ hf hd ht, settled_batten, State.batten_setBatten_same, settled_rf_bst _ _ _ _ (by decide),
    rf_setBatten, rf_wf_same _ _ _ _ _ (by decide)]
  exact ⟨rfl, rfl⟩

theorem fenceRequest_completes (ha : s.accepts src (pgBST b + 0x68) = true) (hf : s.bit (pgBST b) BST_FENCE_FENCED = false) :
    Completes (.fenceRequest src b) s fun t => t.bit (pgBST b) BST_FENCE_REQ = true ∧
      ((t.batten b).fenceDue = true ∨ (t.batten b).fenceTick = true) := by
  refine .of_done (u := (s.wf (pgBST b) BST_FENCE_REQ 1).fenceCause b 4) ?_ ⟨?_, ?_⟩
  · rw [show exec (.fenceRequest src b) s = done s (s.fenceWrite src b) from rfl, State.fenceWrite,
      ifWriter_accepted _ ha (pageOf_bst b _ (by decide)) (by decide), if_neg (by simp [hf])]
  · rw [settled_bit_bst _ _ _ _ (by decide), bit_fenceCause_apart _ _ _ _ (by decide), bit_wf_same _ _ _ _ _ (by decide)]
    decide
  · rw [settled_batten]
    exact fenceCause_due _ _ _ (by rw [bit_wf_apart _ _ _ _ _ (by decide), hf])

/-- R195, R196: the batten as its fence takes effect, before a march that starts by itself. -/
def State.fencedAt (s : State) (b : Nat) : State :=
  (((s.wf (pgBST b) BST_FENCE_FENCED 1).wf (pgBST b) BST_FENCE_REQ 0).raise (pgBST b) 4).setBatten b
    { s.batten b with fenceTick := false, passed := false, backTick := false }

theorem exec_fenced_due (ht : (s.batten b).fenceTick = true) : exec (.fenced b) s = done s
    (if (s.fencedAt b).bit (pgBST b) BST_CFG_AUTO_MARCH && (s.batten b).march.isNone then (s.fencedAt b).marchBegin b 1 allBanks else s.fencedAt b) := by
  simp only [show exec (.fenced b) s = execFenced b s from rfl, execFenced, ht, Bool.not_true, Bool.false_eq_true, if_false]
  rfl

theorem fenced_completes (ht : (s.batten b).fenceTick = true) :
    Completes (.fenced b) s fun t => t.bit (pgBST b) BST_FENCE_FENCED = true ∧
      t.bit (pgBST b) BST_FENCE_REQ = false ∧ bitOf (t.rf (pgBST b) PG_EVT_RAW) 4 = true := by
  have hmarch : ∀ (c : Bool) (f : Fld), f ∈ [BST_FENCE_FENCED, BST_FENCE_REQ, PG_EVT_RAW] →
      (if c then (s.fencedAt b).marchBegin b 1 allBanks else s.fencedAt b).rf (pgBST b) f = (s.fencedAt b).rf (pgBST b) f := by
    intro c f hf
    have hapart : f.apart BST_MARCH_STAT_RUN = true ∧ f.apart BST_MARCH_STAT_PASS = true ∧ f.apart BST_MARCH_STAT_DONE = true ∧
        f.apart BST_FENCE_MARCHING = true := by revert f; decide
    obtain ⟨hrun, hpass, hdone, hm⟩ := hapart
    cases c
    · rfl
    · exact rf_marchBegin_apart _ _ _ _ _ hrun hpass hdone hm
  refine .of_done (exec_fenced_due ht) ⟨?_, ?_, ?_⟩
  · rw [settled_bit_bst _ _ _ _ (by decide), State.bit, hmarch _ _ (by simp), ← State.bit, State.fencedAt]
    simp (disch := decide) only [bit_setBatten, bit_raise_apart, bit_wf_apart, bit_wf_same]
    decide
  · rw [settled_bit_bst _ _ _ _ (by decide), State.bit, hmarch _ _ (by simp), ← State.bit, State.fencedAt]
    simp (disch := decide) only [bit_setBatten, bit_raise_apart, bit_wf_same]
    decide
  · rw [settled_rf_bst _ _ _ _ (by decide), hmarch _ _ (by simp), State.fencedAt, rf_setBatten, bitOf_raise _ _ (by decide)]

theorem unfenced_completes (hf : s.bit (pgBST b) BST_FENCE_FENCED = true) (ht : (s.batten b).backTick = true) :
    Completes (.unfenced b) s fun t => t.bit (pgBST b) BST_FENCE_FENCED = false ∧ bitOf (t.rf (pgBST b) PG_EVT_RAW) 5 = true := by
  refine .of_done rfl ?_
  simp only [hf, ht, Bool.and_self, if_true]
  refine ⟨?_, ?_⟩
  · rw [settled_bit_bst _ _ _ _ (by decide), bit_raise_apart _ _ _ _ (by decide), bit_setBatten, bit_wf_same _ _ _ _ _ (by decide)]
    decide
  · rw [settled_rf_bst _ _ _ _ (by decide), bitOf_raise _ _ (by decide)]

/-! ## Marches (R200 to R204) -/

theorem marchRequest_completes {mode : Fin 4} (ha : s.accepts src (pgBST b + 0x70) = true)
    (hm : s.marchStatus b mode (s.rf (pgBST b) BST_MARCH_BANKS_BANKS) false = 0) :
    Completes (.marchRequest src b mode) s fun t => t.rf (pgBST b) BST_MARCH_STAT_STATUS = 0 ∧ t.bit (pgBST b) BST_MARCH_STAT_RUN = true ∧
      ∃ m, (t.batten b).march = some m ∧ m.mode = mode.val ∧ m.banks = s.rf (pgBST b) BST_MARCH_BANKS_BANKS ∧
        m.waiting = (s.crs.running && !s.bit (pgBST b) BST_FENCE_FENCED) := by
  refine .of_done (u := s.marchRequest b mode (s.rf (pgBST b) BST_MARCH_BANKS_BANKS) false) ?_ ?_
  · rw [show exec (.marchRequest src b mode) s = done s (s.marchWrite src b mode) from rfl, State.marchWrite,
      ifWriter_accepted _ ha (pageOf_bst b _ (by decide)) (by decide)]
  · rw [settled_rf_bst _ _ _ _ (by decide), settled_bit_bst _ _ _ _ (by decide), settled_batten]
    exact marchRequest_accepted s b mode _ hm

theorem marchStart_completes {m : March} (hm : (s.batten b).march = some m) (hw : m.waiting = true) (hg : s.gated = false)
    (hf : s.bit (pgBST b) BST_FENCE_FENCED = true) :
    Completes (.marchStart b) s fun t => (t.batten b).march = some { mode := m.mode, banks := m.banks, waiting := false, fenced := true } ∧
      t.bit (pgBST b) BST_FENCE_MARCHING = true := by
  refine .of_done (u := s.marchBegin b m.mode m.banks) ?_ ⟨?_, ?_⟩
  · simp only [show exec (.marchStart b) s = execMarchStart b s from rfl, execMarchStart, hm, hw, hg, hf, Bool.not_false, Bool.and_self, if_true]
  · rw [settled_batten, marchBegin_march, hf]
  · rw [settled_bit_bst _ _ _ _ (by decide), marchBegin_marching _ _ _ _ hf]

theorem marchDone_completes {m : March} (hm : (s.batten b).march = some m) (hw : m.waiting = false) (hg : s.gated = false)
    (hf : s.bit (pgBST b) BST_FENCE_FENCED = false) :
    Completes (.marchDone b []) s fun t => (t.batten b).march = none ∧ t.bit (pgBST b) BST_MARCH_STAT_PASS = true ∧
      t.bit (pgBST b) BST_MARCH_STAT_DONE = true ∧ t.bit (pgBST b) BST_MARCH_STAT_RUN = false ∧
      (m.mode = 0 → ∀ k : Fin 32, bitOf m.banks k = true → ∀ a, a < 2 ^ 18 → a % 32 = k.val → t.stWord b a = {}) := by
  obtain ⟨hmarch, hpass, hdone, hrun, hwords⟩ := marchEnd_of_no_faults s b m hf
  refine .of_done (u := s.marchEnd b m []) ?_ ⟨?_, ?_, ?_, ?_, fun hz k hk a ha hak => ?_⟩
  · simp only [show exec (.marchDone b []) s = execMarchDone b [] s from rfl, execMarchDone, hm, hw, hg, Bool.or_self, Bool.false_eq_true, if_false]
  · rw [settled_batten, hmarch]
  · rw [settled_bit_bst _ _ _ _ (by decide), hpass]
  · rw [settled_bit_bst _ _ _ _ (by decide), hdone]
  · rw [settled_bit_bst _ _ _ _ (by decide), hrun]
  · rw [settled_stWord, hwords, hz]
    refine stWord_marchedBanks s b ha (.inl ?_)
    rw [hak, List.mem_filter, List.mem_range]
    exact ⟨k.isLt, hk⟩

/-! ## Repairs (R206) -/

theorem repairWrite_completes {bank : Fin 32} {v : Word32} (ha : s.accepts src (pgBST b + 0x200 + 4 * bank.val) = true)
    (hp : s.planUses b = false) (hv : s.bit (pgBST b) BST_REPAIR_VALID0 bank = false) (hv1 : bits v.toNat 7 7 = 1) :
    Completes (.repairWrite src b bank v) s fun t => t.bit (pgBST b) BST_REPAIR_VALID0 bank = true ∧
      t.bit (pgBST b) BST_REPAIR_SOFT0 bank = true ∧ t.rf (pgBST b) BST_REPAIR_ROW0 bank = bits v.toNat 6 0 := by
  obtain ⟨hvalid, hsoft, hrow⟩ := repairEntry_maps s b bank (bits v.toNat 6 0) hv
  refine .of_done (u := (s.repairEntry b bank 0 1 (bits v.toNat 6 0)).repairEntry b bank 1 (bits v.toNat 23 23) (bits v.toNat 22 16)) ?_ ⟨?_, ?_, ?_⟩
  · rw [show exec (.repairWrite src b bank v) s = done s (s.repairWrite src b bank v) from rfl, State.repairWrite,
      ifWriter_accepted _ ha (pageOf_bst_add b (by omega)) (by decide)]
    simp only [hp, Bool.false_eq_true, if_false, hv1]
  · rw [settled_bit_bst _ _ _ _ (by decide), State.bit, rf_repairEntry_one _ _ _ _ _ (by decide)]
    exact hvalid
  · rw [settled_bit_bst _ _ _ _ (by decide), State.bit, rf_repairEntry_one _ _ _ _ _ (by decide)]
    exact hsoft
  · rw [settled_rf_bst _ _ _ _ (by decide), rf_repairEntry_one _ _ _ _ _ (by decide), hrow]
    exact Nat.mod_eq_of_lt (Nat.mod_lt _ (by decide))

end

/-- Settles O23: each clause is the lemma about its command; a march that finds no fault empties its banks, wherever their words are stored, and a read of a clean word turns on what strikes it. -/
theorem battenStores : Obligations.BattenStores := by
  unfold Obligations.BattenStores
  refine ⟨?commands, ?reads⟩
  case commands =>
    intro s b
    refine ⟨?owner, ?handover, ?writeBack, ?ceFence, ?request, ?fenced, ?unfenced, ?march, ?start, ?ends, ?repair⟩
    case owner => exact fun src j v ha hv hp => ownerWrite_completes ha hv hp
    case handover => exact handoverComplete_completes
    case writeBack => exact fun a r hw ht => correctionWriteBack_completes hw ht
    case ceFence => exact ceFence_completes
    case request => exact fun src ha hf => fenceRequest_completes ha hf
    case fenced => exact fenced_completes
    case unfenced => exact unfenced_completes
    case march => exact fun src mode ha hm => marchRequest_completes ha hm
    case start => exact fun m hm hw hg hf => marchStart_completes hm hw hg hf
    case ends => exact fun m hm hw hg hf => marchDone_completes hm hw hg hf
    case repair => exact fun src bank v ha hp hv hv1 _ _ => repairWrite_completes ha hp hv hv1
  case reads =>
    intro s b a _ _
    exact ⟨stRead_of_clean, stRead_of_single, stRead_of_multi⟩

end Sys2Proof.Machine
end

section
/-! PROOF. What the end of a micro-word leaves: a stint that ends or is entered, a held ATTN and a halt change no stored word, no march, and few registers (R401, R404 to R408, R414). -/

namespace Sys2Proof.Machine

/-! ## The footprint -/

/-- Registers of spar i's page that a trap, a halt or a stint's end writes: events, SPR_STAT, SPR_HALT, SPR_TRAP, SPR_TRAP_CNT and SPR_STINT. -/
def sprEndRegs : List Nat := [0x10, 0x40, 0x44, 0x48, 0x4C, 0x5C]

/-- Registers of a batten's page that a read of a word writes: events, BST_FENCE, and the counters and addresses of errors. -/
def bstReadRegs : List Nat := [0x10, 0x68, 0x80, 0x84, 0x88, 0x8C, 0x90]

/-- The registers that the end of a word of spar i may write. -/
def endRegs (i k : Nat) : Bool := regsOf (pgSPR i) sprEndRegs k || regsOf (pgBST i) bstReadRegs k || gabPages k || ligPages k

/-- The parts of the state that the end of a word may write. -/
def endParts : List Part := [.crs, .store, .bst, .slt, .spr, .gab]

theorem regsOf_of_mem {pg o : Nat} {offs : List Nat} (h : o ∈ offs) : regsOf pg offs (pg + o) = true :=
  List.any_eq_true.2 ⟨o, h, beq_self_eq_true _⟩

theorem endRegs_spr {i o : Nat} (h : o ∈ sprEndRegs) : endRegs i (pgSPR i + o) = true := by
  simp only [endRegs, regsOf_of_mem h, Bool.true_or]

theorem endRegs_bst {i o : Nat} (h : o ∈ bstReadRegs) : endRegs i (pgBST i + o) = true := by
  simp only [endRegs, regsOf_of_mem h, Bool.true_or, Bool.or_true]

theorem endRegs_gab (i g : Nat) {o : Nat} (h : o < 0x1000) : endRegs i (pgGAB g + o) = true := by
  have hlo : 0xD000 ≤ pgGAB g + o := by simp only [pgGAB]; omega
  have hhi : pgGAB g + o < 0xF000 := by simp only [pgGAB]; omega
  have hp : gabPages (pgGAB g + o) = true := Bool.and_eq_true_iff.2 ⟨decide_eq_true hlo, decide_eq_true hhi⟩
  simp only [endRegs, hp, Bool.true_or, Bool.or_true]

theorem endRegs_lig (i m : Nat) {o : Nat} (h : o < 0x1000) : endRegs i (pgLIG m + o) = true := by
  have hlo : 0x41000 ≤ pgLIG m + o := by simp only [pgLIG]; omega
  have hhi : pgLIG m + o < 0x51000 := by simp only [pgLIG]; omega
  have hp : ligPages (pgLIG m + o) = true := Bool.and_eq_true_iff.2 ⟨decide_eq_true hlo, decide_eq_true hhi⟩
  simp only [endRegs, hp, Bool.or_true]

/-- What the end of a word of spar i leaves from s to t. -/
structure EndKept (i : Nat) (s t : State) : Prop where
  only : Only (endRegs i) endParts s t
  words : ∀ k, smGet stDflt t.store k = smGet stDflt s.store k
  march : ∀ b, (t.batten b).march = (s.batten b).march
  csMarch : ∀ j, (t.sp j).march = (s.sp j).march

section
variable {i : Nat} {s t u : State}

theorem EndKept.refl (s : State) : EndKept i s s := ⟨.refl s, fun _ => rfl, fun _ => rfl, fun _ => rfl⟩

theorem EndKept.trans (h1 : EndKept i s t) (h2 : EndKept i t u) : EndKept i s u where
  only := h1.only.trans h2.only
  words k := (h2.words k).trans (h1.words k)
  march b := (h2.march b).trans (h1.march b)
  csMarch j := (h2.csMarch j).trans (h1.csMarch j)

theorem EndKept.ite {c : Prop} [Decidable c] (ht : EndKept i s t) (hu : EndKept i s u) : EndKept i s (if c then t else u) := by
  split <;> assumption

/-- A change of registers of the footprint, of the course, of arrays and of gables. -/
theorem EndKept.of_only (h : Only (endRegs i) [.crs, .slt, .gab] s t) : EndKept i s t where
  only := h.mono (fun _ hk => hk) (by decide)
  words k := by rw [show t.store = s.store from h.2 .store (by decide)]
  march b := by rw [State.batten, show t.bst = s.bst from h.2 .bst (by decide), State.batten]
  csMarch j := by rw [State.sp, show t.spr = s.spr from h.2 .spr (by decide), State.sp]

theorem EndKept.wf (h : EndKept i s t) (pg : Nat) (f : Fld) (v j : Nat) (hk : endRegs i (pg + f.addr j) = true) :
    EndKept i s (t.wf pg f v j) := h.trans (.of_only ((Only.refl t).wf _ _ _ _ hk))

theorem EndKept.inc (h : EndKept i s t) (pg : Nat) (f : Fld) (k j : Nat) (hk : endRegs i (pg + f.addr j) = true) :
    EndKept i s (t.inc pg f k j) := h.wf _ _ _ _ hk

theorem EndKept.raise (h : EndKept i s t) (pg b : Nat) (hk : endRegs i (pg + 0x10) = true) : EndKept i s (t.raise pg b) :=
  h.wf _ _ _ _ hk

theorem EndKept.setSp (h : EndKept i s t) (j : Nat) (p : SprSt) (hp : p.march = (t.sp j).march) : EndKept i s (t.setSp j p) :=
  h.trans
    { only := (Only.refl t).spr (by decide) _
      words := fun _ => rfl
      march := fun _ => by rw [batten_setSp]
      csMarch := fun k => by
        by_cases hk : k = j
        · rw [hk, State.sp_setSp_same, hp]
        · rw [State.sp_setSp_ne _ _ hk] }

theorem EndKept.setBatten (h : EndKept i s t) (b : Nat) (x : BstSt) (hx : x.march = (t.batten b).march) :
    EndKept i s (t.setBatten b x) :=
  h.trans
    { only := (Only.refl t).bst (by decide) _
      words := fun _ => rfl
      march := fun c => by
        by_cases hc : c = b
        · rw [hc, State.batten_setBatten_same, hx]
        · rw [State.batten_setBatten_ne _ _ hc]
      csMarch := fun _ => by rw [sp_setBatten] }

/-- A word that is stored as it stands. -/
theorem EndKept.setStWord (h : EndKept i s t) (b a : Nat) (w : StWord) (hw : w = t.stWord b a) : EndKept i s (t.setStWord b a w) :=
  h.trans
    { only := (Only.refl t).store (by decide) _
      words := fun k => by
        by_cases hk : k = t.stKey b a
        · rw [hk, State.setStWord, smGet_smSet_same, hw, State.stWord]
        · exact smGet_smSet_ne _ _ _ _ hk
      march := fun _ => by rw [batten_setStWord]
      csMarch := fun _ => rfl }

end

/-! ## Halts, traps and ATTN (R401, R404, R414) -/

section
variable (i : Nat) (s : State)

theorem overrun_kept (cause lig : Nat) : EndKept i s (s.overrun cause lig) := by
  unfold State.overrun
  split
  · exact .refl s
  · exact .ite (.refl s) (.of_only ((Only.refl s).crs (by decide) _))

/-- A spar that halts shows it in SPR_STAT. -/
def State.haltShown (s : State) (i : Nat) : State :=
  ((s.wf (pgSPR i) SPR_STAT_HALTED 1).wf (pgSPR i) SPR_STAT_RUNNING 0).wf (pgSPR i) SPR_STAT_WAITING 0

/-- The first halt of a spar is recorded (R404). -/
def State.haltNoted (s : State) (i why : Nat) : State :=
  if s.bit (pgSPR i) SPR_HALT_VALID then s
  else ((s.wf (pgSPR i) SPR_HALT_VALID 1).wf (pgSPR i) SPR_HALT_UPC (s.rf (pgSPR i) SPR_STAT_UPC)).wf (pgSPR i) SPR_HALT_WHY why

/-- What is left of a spar's word when it halts. -/
def State.haltDropped (s : State) (i : Nat) : State := (s.setSp i { (s.sp i).drop with hold := .none }).raise (pgSPR i) 0

/-- R404: a halt by its parts. -/
theorem haltSpar_eq (why : Nat) : s.haltSpar i why = if s.bit (pgSPR i) SPR_STAT_HALTED then s
    else if s.drives i then (((s.haltShown i).haltNoted i why).haltDropped i).overrun 4 else ((s.haltShown i).haltNoted i why).haltDropped i := rfl

theorem haltShown_kept : EndKept i s (s.haltShown i) :=
  (((EndKept.refl s).wf _ _ _ _ (endRegs_spr (by decide))).wf _ _ _ _ (endRegs_spr (by decide))).wf _ _ _ _ (endRegs_spr (by decide))

theorem haltNoted_kept (why : Nat) : EndKept i s (s.haltNoted i why) :=
  .ite (.refl s) ((((EndKept.refl s).wf _ _ _ _ (endRegs_spr (by decide))).wf _ _ _ _ (endRegs_spr (by decide))).wf _ _ _ _
    (endRegs_spr (by decide)))

theorem haltDropped_kept : EndKept i s (s.haltDropped i) :=
  ((EndKept.refl s).setSp i { (s.sp i).drop with hold := .none } rfl).raise _ _ (endRegs_spr (by decide))

theorem haltSpar_kept (why : Nat) : EndKept i s (s.haltSpar i why) := by
  have hhalt := ((haltShown_kept i s).trans (haltNoted_kept i _ why)).trans (haltDropped_kept i _)
  rw [haltSpar_eq]
  exact .ite (.refl s) (.ite (hhalt.trans (overrun_kept ..)) hhalt)

/-- A spar whose micro-trap is taken. -/
def SprSt.trapped (p : SprSt) (cause saved residue : Nat) : SprSt :=
  { (if cause = 6 then p else p.drop) with
    frame := { saved := saved, cl := p.cl, lc0 := p.lc0, lc1 := p.lc1, residue := residue } :: p.frame, next := 8 * cause, hold := .none }

/-- The first micro-trap of a spar is recorded, and each is counted (R401). -/
def State.trapNoted (s : State) (i cause saved : Nat) : State :=
  let s1 := if s.bit (pgSPR i) SPR_TRAP_VALID then s
    else ((s.wf (pgSPR i) SPR_TRAP_VALID 1).wf (pgSPR i) SPR_TRAP_UPC saved).wf (pgSPR i) SPR_TRAP_CAUSE cause
  ((s1.inc (pgSPR i) SPR_TRAP_CNT_COUNT).wf (pgSPR i) SPR_STAT_WAITING 0).raise (pgSPR i) 1

/-- R401: a micro-trap by its parts. -/
theorem microTrap_eq (cause saved residue : Nat) : s.microTrap i cause saved residue = if 4 ≤ (s.sp i).frame.length then s.haltSpar i 3
    else ((s.setSp i ((s.sp i).trapped cause saved residue)).showFrame i).trapNoted i cause saved := rfl

theorem showFrame_kept : EndKept i s (s.showFrame i) :=
  ((EndKept.refl s).wf _ _ _ _ (endRegs_spr (by decide))).wf _ _ _ _ (endRegs_spr (by decide))

theorem trapNoted_kept (cause saved : Nat) : EndKept i s (s.trapNoted i cause saved) := by
  have hrecord : EndKept i s (((s.wf (pgSPR i) SPR_TRAP_VALID 1).wf (pgSPR i) SPR_TRAP_UPC saved).wf (pgSPR i) SPR_TRAP_CAUSE cause) :=
    (((EndKept.refl s).wf _ _ _ _ (endRegs_spr (by decide))).wf _ _ _ _ (endRegs_spr (by decide))).wf _ _ _ _ (endRegs_spr (by decide))
  exact (((EndKept.ite (.refl s) hrecord).inc _ _ _ _ (endRegs_spr (by decide))).wf _ _ _ _ (endRegs_spr (by decide))).raise _ _
    (endRegs_spr (by decide))

theorem microTrap_kept (cause saved residue : Nat) : EndKept i s (s.microTrap i cause saved residue) := by
  have hmarch : ((s.sp i).trapped cause saved residue).march = (s.sp i).march := by simp only [SprSt.trapped]; split <;> rfl
  rw [microTrap_eq]
  exact .ite (haltSpar_kept ..) ((((EndKept.refl s).setSp i _ hmarch).trans (showFrame_kept i _)).trans (trapNoted_kept i _ _ _))

theorem sparSnap_kept (g saved : Nat) : EndKept i s (s.sparSnap i g saved) :=
  .of_only ((((Only.refl s).gab (by decide) _).wf _ _ _ _ (endRegs_gab i g (by decide))).raise _ _ (endRegs_gab i g (by decide)))

theorem attnTrap_kept (g saved residue : Nat) : EndKept i s (s.attnTrap i g saved residue) :=
  .trans (.ite (sparSnap_kept ..) (.refl s)) (microTrap_kept ..)

theorem attnTake_kept : EndKept i s (s.attnTake i) := by
  unfold State.attnTake
  split
  · exact (((EndKept.refl s).setSp i { s.sp i with attn := none, free := true } rfl).wf _ _ _ _ (endRegs_spr (by decide))).trans
      (attnTrap_kept ..)
  · exact .refl s

end

/-! ## Reads of stint words (R190 to R192, R407) -/

section
variable (b : Nat) (s : State)

theorem stJoin_clean (e : StErr) : stJoin e .clean = e := by cases e <;> rfl

theorem fenceCause_kept (cause : Nat) : EndKept b s (s.fenceCause b cause) := by
  rcases fenceCause_cases s b cause with h | h
  · rw [h]; exact .refl s
  · rw [h]; exact .setBatten (.wf (.refl s) _ _ _ _ (endRegs_bst (by decide))) _ _ rfl

/-- A read that nothing strikes changes no word. -/
theorem stRead_kept (a : Nat) : EndKept b s (s.stRead b a .clean).1 := by
  have hword : ∀ e, (s.stWord b a).err = e → EndKept b s (s.setStWord b a { data := (s.stWord b a).data, err := e }) :=
    fun e he => .setStWord (.refl s) _ _ _ (by rw [← he])
  cases he : (s.stWord b a).err
  all_goals simp only [State.stRead, stJoin_clean, he]
  case clean => exact hword _ he
  case single =>
    refine .raise (.wf (.inc (.setBatten (hword _ he) b _ ?_) _ _ _ _ ?_) _ _ _ _ ?_) _ _ ?_
    · rfl
    all_goals exact endRegs_bst (by decide)
  case multi =>
    refine .trans (.raise (.wf (.inc (hword _ he) _ _ _ _ ?_) _ _ _ _ ?_) _ _ ?_) (fenceCause_kept ..)
    all_goals exact endRegs_bst (by decide)
  case poison =>
    refine .raise (.inc (hword _ he) _ _ _ _ ?_) _ _ ?_
    all_goals exact endRegs_bst (by decide)

theorem stintWords_kept (idx n : Nat) : EndKept b s (s.stintWords b idx n).1 := by
  induction n with
  | zero => exact .refl s
  | succ n ih => exact ih.trans (stRead_kept b _ _)

theorem stintAhead_kept (n idx : Nat) : EndKept b s (s.stintAhead b idx n) := by
  induction n generalizing s idx with
  | zero => exact .refl s
  | succ n ih =>
    have hread := stintWords_kept b s idx 8
    rw [State.stintAhead]
    generalize s.stintWords b idx 8 = read at hread ⊢
    obtain ⟨t, ws, bad⟩ := read
    replace hread : EndKept b s t := hread
    exact .ite (.refl s) ((hread.setSp b { t.sp b with ahead := (t.sp b).ahead ++ [(ws, bad)] } rfl).trans (ih _ _))

end

/-! ## Stints that end, and stints that are entered (R330, R407, R408) -/

section
variable (b i : Nat) (s : State)

/-- A spar that takes its registers keeps its march. -/
theorem march_wr (p : SprSt) (r : Nat) (x : BitVec 36) : (p.wr r x).march = p.march := by
  unfold SprSt.wr
  split <;> rfl

theorem march_foldl_wr (l : List Nat) (x : Nat → BitVec 36) (p : SprSt) :
    (l.foldl (fun p j => SprSt.wr p (j + 1) (x j)) p).march = p.march := by
  induction l generalizing p with
  | nil => rfl
  | cons j l ih => rw [List.foldl_cons, ih, march_wr]

theorem modeWant_kept (x mode : Nat) : EndKept i s (s.modeWant x mode) :=
  .ite (.refl s) (.of_only ((Only.refl s).slt (by decide) _))

theorem modeWants_kept (l : List Nat) (x mode : Nat → Nat) : EndKept i s (l.foldl (fun s a => s.modeWant (x a) (mode a)) s) := by
  induction l generalizing s with
  | nil => exact .refl s
  | cons a l ih => exact (modeWant_kept i s (x a) (mode a)).trans (ih _)

theorem swayMet_kept (e : Nat) (earlier : Bool) : EndKept i s (s.swayMet e earlier).1 := by
  unfold State.swayMet
  split
  · exact .refl s
  · unfold State.swayTake
    split
    · exact .refl s
    · split
      · exact .refl s
      · exact (EndKept.refl s).wf _ _ _ _ (endRegs_lig i _ (Fld.addr_lt (by decide) _))

/-- What a spar holds as it enters a stint. -/
def SprSt.entered (p : SprSt) (ws : List Nat) : SprSt :=
  { (List.range 5).foldl (fun p j => SprSt.wr p (j + 1) (BitVec.ofNat 36 (ws.getD (3 + j) 0))) p with
    lp := slotsOf ws, next := ws.getD 0 0 % 8192, sat := 0, hold := .none }

theorem stintLoad_kept (idx : Nat) (ws : List Nat) : EndKept b s (s.stintLoad b idx ws) := by
  have hmodes : EndKept b s (if idx = 0 then s else (List.range 4).foldl (fun s a =>
      s.modeWant (arrNo b a) (bits (ws.getD 0 0) (25 + 2 * a) (24 + 2 * a))) s) := .ite (.refl s) (modeWants_kept ..)
  simp only [State.stintLoad]
  generalize (if idx = 0 then s else (List.range 4).foldl (fun s a =>
      s.modeWant (arrNo b a) (bits (ws.getD 0 0) (25 + 2 * a) (24 + 2 * a))) s) = t at hmodes ⊢
  have hmarch : ((t.sp b).entered ws).march = (t.sp b).march := march_foldl_wr _ _ _
  refine .wf (.wf (.wf (hmodes.setSp b ((t.sp b).entered ws) hmarch) _ _ _ _ ?_) _ _ _ _ ?_) _ _ _ _ ?_
  all_goals exact endRegs_spr (by decide)

theorem stintTake_kept (idx : Nat) (ws : List Nat) : EndKept b s (s.stintTake b idx ws) :=
  (((EndKept.refl s).setSp b { s.sp b with ahead := (s.sp b).ahead.drop 1 } rfl).trans (stintAhead_kept ..)).trans (stintLoad_kept ..)

theorem stintEnter_kept (idx : Nat) : EndKept b s (s.stintEnter b idx) := by
  have hahead : EndKept b s (if (s.sp b).ahead.isEmpty then s.stintAhead b idx 4 else s) := .ite (stintAhead_kept ..) (.refl s)
  simp only [State.stintEnter]
  generalize (if (s.sp b).ahead.isEmpty then s.stintAhead b idx 4 else s) = t at hahead ⊢
  refine hahead.trans ?_
  split
  · exact haltSpar_kept ..
  · refine .ite (haltSpar_kept ..) (.ite (stintTake_kept ..) ?_)
    have hsway := swayMet_kept b t b (t.stintsAcked b)
    generalize t.swayMet b (t.stintsAcked b) = met at hsway ⊢
    obtain ⟨u, met⟩ := met
    replace hsway : EndKept b t u := hsway
    cases met
    · exact ((hsway.setSp b { u.sp b with hold := .sway idx } rfl).wf _ _ _ _ (endRegs_spr (by decide))).wf _ _ _ _ (endRegs_spr (by decide))
    · exact hsway.trans (stintTake_kept ..)

theorem listEnd_kept : EndKept i s (s.listEnd i) := by
  have hended : EndKept i s ((s.wf (pgSPR i) SPR_STAT_ENDED 1).wf (pgSPR i) SPR_STAT_RUNNING 0) :=
    ((EndKept.refl s).wf _ _ _ _ (endRegs_spr (by decide))).wf _ _ _ _ (endRegs_spr (by decide))
  exact (EndKept.ite (hended.setBatten i { ((s.wf (pgSPR i) SPR_STAT_ENDED 1).wf (pgSPR i) SPR_STAT_RUNNING 0).batten i with stWords := 0 } rfl)
    hended).trans (attnTake_kept ..)

theorem endFree_kept : EndKept i s (s.endFree i) :=
  (((EndKept.refl s).setSp i { s.sp i with free := false } rfl).wf _ _ _ _ (endRegs_spr (by decide))).trans (attnTake_kept ..)

theorem endStint_kept : EndKept i s (s.endStint i) := by
  unfold State.endStint
  split
  · exact .ite (endFree_kept ..) (.ite (.ite (listEnd_kept ..) (.refl s)) (.ite (listEnd_kept ..) (stintEnter_kept ..)))
  · exact endFree_kept ..

theorem endWord_kept : EndKept i s (s.endWord i) := by
  simp only [State.endWord]
  refine .ite (.refl s) (.ite (((EndKept.refl s).setSp i { s.sp i with hold := .none } rfl).trans (endStint_kept ..)) ?_)
  split
  · exact .ite (((EndKept.refl s).setSp i { s.sp i with attn := none } rfl).trans (attnTrap_kept ..)) (.refl s)
  · exact .refl s

/-- A micro-operation that has been issued. -/
theorem opDone_kept : EndKept i s (s.opDone i) :=
  ((EndKept.refl s).setSp i { s.sp i with opDue := false } rfl).trans (endWord_kept ..)

end

/-! ## What the end of a word leaves of the pages of a batten and of a spar -/

/-- Every register of the field lies outside these registers of its page. -/
def Fld.outside (f : Fld) (offs : List Nat) : Bool := f.fits && offs.all fun o => decide (o < f.off) || decide (f.last < o)

theorem Fld.addr_not_mem {f : Fld} {offs : List Nat} (h : f.outside offs = true) (j : Nat) : f.addr j < 0x1000 ∧ f.addr j ∉ offs := by
  simp only [Fld.outside, Bool.and_eq_true, List.all_eq_true, Bool.or_eq_true, decide_eq_true_eq] at h
  obtain ⟨hfits, hout⟩ := h
  obtain ⟨hlo, hhi, -⟩ := f.bounds_of_fits hfits j
  refine ⟨f.addr_lt hfits j, fun hm => ?_⟩
  have := hout _ hm
  omega

theorem regsOf_of_not_mem {pg o : Nat} {offs : List Nat} (h : o ∉ offs) : regsOf pg offs (pg + o) = false := by
  rw [regsOf, List.any_eq_false]
  intro o' ho'
  rw [beq_iff_eq]
  rintro he
  exact h (by rwa [Nat.add_left_cancel he])

theorem regsOf_of_lt {pg k : Nat} {offs : List Nat} (ho : ∀ o ∈ offs, o < 0x1000) (h : k < pg ∨ pg + 0x1000 ≤ k) : regsOf pg offs k = false := by
  rw [regsOf, List.any_eq_false]
  intro o ho'
  have := ho o ho'
  rw [beq_iff_eq]
  omega

/-- A register past the pages of gables and ligger pairs, or of a yealm's or stook's spar, is of neither kind. -/
theorem gabPages_ligPages_of {k : Nat} (h : 0x51000 ≤ k ∨ (0xF000 ≤ k ∧ k < 0x41000)) : gabPages k = false ∧ ligPages k = false := by
  simp only [gabPages, ligPages, Bool.and_eq_false_iff, decide_eq_false_iff_not]
  omega

/-- A spar's page lies clear of the pages of gables and of ligger pairs, and below that of the store. -/
theorem pgSPR_place : ∀ i : Fin 72, (0x51000 ≤ pgSPR i ∨ (0xF000 ≤ pgSPR i ∧ pgSPR i + 0x1000 ≤ 0x41000)) ∧ pgSPR i + 0x1000 ≤ pgBST i := by
  decide

section
variable {s t : State} {f : Fld}

theorem EndKept.rf_bst {b : Nat} (hb : b < 64) (h : EndKept b s t) (hf : f.outside bstReadRegs = true) (j : Nat) :
    t.rf (pgBST b) f j = s.rf (pgBST b) f j := by
  obtain ⟨hlt, hmem⟩ := Fld.addr_not_mem hf j
  obtain ⟨hgab, hlig⟩ := gabPages_ligPages_of (k := pgBST b + f.addr j) (.inl (by simp only [pgBST]; omega))
  have hspr : regsOf (pgSPR b) sprEndRegs (pgBST b + f.addr j) = false :=
    regsOf_of_lt (by decide) (.inr (by simp only [pgSPR, hb, if_true, pgBST]; omega))
  exact h.only.rf_eq (by simp only [endRegs, hspr, regsOf_of_not_mem hmem, hgab, hlig, Bool.or_self])

theorem EndKept.rf_spr {i : Fin 72} (h : EndKept i s t) (hf : f.outside sprEndRegs = true) (j : Nat) :
    t.rf (pgSPR i) f j = s.rf (pgSPR i) f j := by
  obtain ⟨hlt, hmem⟩ := Fld.addr_not_mem hf j
  obtain ⟨hplace, hbelow⟩ := pgSPR_place i
  obtain ⟨hgab, hlig⟩ := gabPages_ligPages_of (k := pgSPR i + f.addr j) (by omega)
  have hbst : regsOf (pgBST i) bstReadRegs (pgSPR i + f.addr j) = false := regsOf_of_lt (by decide) (.inl (by omega))
  exact h.only.rf_eq (by simp only [endRegs, hbst, regsOf_of_not_mem hmem, hgab, hlig, Bool.or_self])

theorem EndKept.bit_bst {b : Nat} (hb : b < 64) (h : EndKept b s t) (hf : f.outside bstReadRegs = true) (j : Nat) :
    t.bit (pgBST b) f j = s.bit (pgBST b) f j := by simp only [State.bit, h.rf_bst hb hf j]

theorem EndKept.bit_spr {i : Fin 72} (h : EndKept i s t) (hf : f.outside sprEndRegs = true) (j : Nat) :
    t.bit (pgSPR i) f j = s.bit (pgSPR i) f j := by simp only [State.bit, h.rf_spr hf j]

/-- The end of a word changes no word of the batten's store. -/
theorem EndKept.stWord {b : Nat} (hb : b < 64) (h : EndKept b s t) (a : Nat) : t.stWord b a = s.stWord b a := by
  have hout : ∀ f ∈ repairFlds, f.outside bstReadRegs = true := by decide
  exact stWord_congr (fun f hf j => h.rf_bst hb (hout f hf) j) h.words a

end

/-! ## Micro-operations that are issued (R387, R390) -/

/-- A micro-operation that goes has its effect, and its word goes on. -/
theorem sparOp_of_opGoes {s : State} {i code : Nat} {d : BitVec 96} (h : s.opGoes i d code = true) (eff : State → State) :
    s.sparOp i d code eff = (eff s).opDone i := if_pos h

/-- The completion of a micro-operation of a spar, from what holds whatever the end of the word does. -/
theorem completes_sparOp {c : Instr} {s : State} {i code : Nat} {d : BitVec 96} {eff : State → State} {Q : State → Prop}
    (hc : exec c s = done s (s.sparOp i d code eff)) (hg : s.opGoes i d code = true)
    (hQ : ∀ t, EndKept i (eff s) t → Q (settled s t)) : Completes c s Q :=
  .of_done (hc.trans (congrArg _ (sparOp_of_opGoes hg eff))) (hQ _ (opDone_kept ..))

end Sys2Proof.Machine
end

section
/-! PROOF. Micro-operations of spars that define windows, read and write words, test and repair stores (R187 to R189, R201, R206, R390). -/

namespace Sys2Proof.Machine

/-! ## Registers of a spar (R388) -/

theorem rd_wr (p : SprSt) (r q : Nat) (x : BitVec 36) : (p.wr r x).rd q = if q = r ∧ r ≠ 0 then x else p.rd q := by
  by_cases hr : r = 0
  · simp [SprSt.wr, hr]
  · simp only [SprSt.wr, if_neg hr, SprSt.rd, smGet_smSet]
    by_cases hq : q = 0
    · simp [hq, Ne.symm hr]
    · simp [hq, hr]

/-- Registers 1 to n that are cleared in turn. -/
theorem rd_clears (p : SprSt) {r n : Nat} (h : r < n) : ((List.range n).foldl (fun p j => SprSt.wr p (j + 1) 0) p).rd (r + 1) = 0 := by
  induction n with
  | zero => exact absurd h (Nat.not_lt_zero r)
  | succ n ih =>
    rw [List.range_succ, List.foldl_append, List.foldl_cons, List.foldl_nil, rd_wr]
    split
    · rfl
    · exact ih (by omega)

/-! ## The end of a word after which the spar enters no stint (R407, R414) -/

section
variable {s : State} {i : Nat}

/-- With no ATTN held and no stint to end, nothing follows the word. -/
theorem endWord_idle (hh : (s.sp i).hold = .none) (ha : (s.sp i).attn = none) : s.endWord i = s := by
  simp only [State.endWord, hh, ha, reduceCtorEq, if_false, ite_self]

theorem endStint_of_not_drives (h : s.drives i = false) : s.endStint i = s.endFree i := by
  simp only [State.endStint, h, Bool.not_false, if_true]
  split <;> rfl

theorem attnTake_of_none (h : (s.sp i).attn = none) : s.attnTake i = s := by simp only [State.attnTake, h]

/-- A spar that enters no stint after its word changes no more than its hold and its run. -/
theorem sp_opDone_of_staysOn (h : s.staysOn i = true) :
    ∃ hold free, (s.opDone i).sp i = { s.sp i with opDue := false, hold := hold, free := free } := by
  simp only [State.staysOn, Bool.and_eq_true, Option.isNone_iff_eq_none, Bool.or_eq_true, beq_iff_eq, Bool.not_eq_true'] at h
  obtain ⟨hattn, hhold⟩ := h
  simp only [State.opDone, State.endWord, State.sp_setSp_same]
  split
  · exact ⟨_, _, State.sp_setSp_same ..⟩
  · split
    · next hend =>
      have hdrives : s.drives i = false := hhold.resolve_left (by rw [hend]; exact SprHold.noConfusion)
      rw [endStint_of_not_drives (s := (s.setSp i { s.sp i with opDue := false }).setSp i { s.sp i with opDue := false, hold := .none }) hdrives,
        State.endFree, attnTake_of_none (by rw [sp_wf, State.sp_setSp_same, State.sp_setSp_same]; exact hattn), sp_wf, State.sp_setSp_same,
        State.sp_setSp_same]
      exact ⟨_, _, rfl⟩
    · simp only [hattn]
      exact ⟨_, _, State.sp_setSp_same ..⟩

end

/-! ## Reads through a window (R187, R390) -/

theorem onPage_bst (b : Nat) {o : Nat} (h : o < 0x1000) : onPage (pgBST b) (pgBST b + o) = true := by
  simp only [onPage, pgBST, beq_iff_eq]
  omega

section
variable {s : State} {b : Nat}

/-- A read of a word writes its batten's page, its words and what its store keeps. -/
theorem stRead_only (a : Nat) (up : StErr) : Only (onPage (pgBST b)) [.store, .bst] s (s.stRead b a up).1 := by
  have hword : ∀ e, Only (onPage (pgBST b)) [.store, .bst] s (s.setStWord b a { s.stWord b a with err := e }) := fun e =>
    (Only.refl s).store (by decide) _
  simp only [State.stRead]
  generalize stJoin (s.stWord b a).err up = e
  cases e
  case clean => exact hword _
  case single =>
    refine .raise (.wf (.inc (.bst (hword _) (by decide) _) _ _ _ _ ?_) _ _ _ _ ?_) _ _ ?_
    all_goals exact onPage_bst b (by decide)
  case multi =>
    have hcount : Only (onPage (pgBST b)) [.store, .bst] s ((((s.setStWord b a { s.stWord b a with err := .multi }).inc (pgBST b)
        BST_UE_CNT_COUNT).wf (pgBST b) BST_UE_ADDR_ADDR a).raise (pgBST b) 1) := by
      refine .raise (.wf (.inc (hword _) _ _ _ _ ?_) _ _ _ _ ?_) _ _ ?_
      all_goals exact onPage_bst b (by decide)
    refine hcount.trans ?_
    generalize (((s.setStWord b a { s.stWord b a with err := .multi }).inc (pgBST b) BST_UE_CNT_COUNT).wf (pgBST b) BST_UE_ADDR_ADDR a).raise
      (pgBST b) 1 = t
    rcases fenceCause_cases t b 1 with h | h
    · rw [h]; exact .refl t
    · rw [h]; exact ((Only.refl t).wf _ _ _ _ (onPage_bst b (by decide))).bst (by decide) _
  case poison =>
    refine .raise (.inc (hword _) _ _ _ _ ?_) _ _ ?_
    all_goals exact onPage_bst b (by decide)

/-- Words that are all delivered were read with no halt. -/
theorem readWords_only {w k n : Nat} {ups : List StErr} {ws : List (BitVec 72)} (h : (s.readWords b w k ups n).2 = some ws) :
    Only (onPage (pgBST b)) [.store, .bst] s (s.readWords b w k ups n).1 := by
  induction n generalizing ws with
  | zero => exact .refl s
  | succ n ih =>
    rw [State.readWords] at h ⊢
    generalize s.readWords b w k ups n = read at ih h ⊢
    obtain ⟨t, got⟩ := read
    cases got with
    | none => simp at h
    | some ws' =>
      have ht := ih rfl
      simp only at h ht ⊢
      split at h
      · simp at h
      · next huser =>
        rw [if_neg huser]
        split at h
        · simp at h
        · next hright =>
          have hread := ht.trans (stRead_only (s := t) (b := b) (t.winAddr b w (k + n)) (ups.getD n .clean))
          generalize t.stRead b (t.winAddr b w (k + n)) (ups.getD n .clean) = r at h hread ⊢
          obtain ⟨t', v, poison⟩ := r
          cases poison
          · exact hread
          · simp at h

/-- The advance of a window writes its P and the spar's WRAP bit. -/
theorem operandAdvance_only (w : Nat) (adv : Bool) : Only (onPage (pgBST b)) [.spr] s (s.operandAdvance b w adv) ∧
    ((s.operandAdvance b w adv).sp b).attn = (s.sp b).attn ∧ ((s.operandAdvance b w adv).sp b).hold = (s.sp b).hold := by
  cases adv
  · exact ⟨.refl s, rfl, rfl⟩
  · refine ⟨((Only.refl s).wf _ _ _ _ (onPage_bst b (Fld.addr_lt (by decide) _))).spr (by decide) _, ?_, ?_⟩
    all_goals simp only [State.operandAdvance, if_true, State.noteWrap, State.sp_setSp_same, State.winAdvance, sp_wf]

/-- An operand whose words are all delivered leaves the spar where it stands. -/
theorem staysOn_operandWords (hb : b < 64) {w k n : Nat} {adv : Bool} {ups : List StErr} {ws : List (BitVec 72)}
    (h : (s.operandWords b w adv k n ups).2 = some ws) (hs : s.staysOn b = true) : (s.operandWords b w adv k n ups).1.staysOn b = true := by
  have hread := readWords_only (s := s) (b := b) (w := w) (k := k) (n := n) (ups := ups) (ws := ws)
  rw [State.operandWords] at h ⊢
  generalize s.readWords b w k ups n = read at hread h ⊢
  obtain ⟨t, got⟩ := read
  cases got with
  | none => simp at h
  | some ws' =>
    replace hread : Only (onPage (pgBST b)) [.store, .bst] s t := hread h
    obtain ⟨hadv, hattn, hhold⟩ := operandAdvance_only (s := t) (b := b) w adv
    have hsp : t.sp b = s.sp b := by rw [State.sp, show t.spr = s.spr from hread.2 .spr (by decide), State.sp]
    have hcrs : (t.operandAdvance b w adv).crs = s.crs := (hadv.2 .crs (by decide)).trans (hread.2 .crs (by decide))
    have hplace : onPage (pgBST b) (pgSPR b + SPR_STAT_ENDED.addr 0) = false := by
      simp only [onPage, pgSPR, pgBST, hb, if_true, beq_eq_false_iff_ne, show SPR_STAT_ENDED.addr 0 = 0x40 from rfl]
      omega
    have hended : (t.operandAdvance b w adv).bit (pgSPR b) SPR_STAT_ENDED = s.bit (pgSPR b) SPR_STAT_ENDED :=
      (hadv.bit_eq hplace).trans (hread.bit_eq hplace)
    simpa only [State.staysOn, State.drives, hcrs, hattn, hhold, hsp, hended] using hs

end

end Sys2Proof.Machine
end

section
/-! PROOF. The micro-operations of spars (O29). -/

namespace Sys2Proof.Machine

/-! ## Words that are written (R187, R190) -/

section
variable (s : State) (b w : Nat)

@[simp] theorem stWord_setSp (c i a : Nat) (p : SprSt) : (s.setSp i p).stWord c a = s.stWord c a :=
  stWord_congr (fun _ _ _ => rf_setSp ..) (fun _ => by rw [State.setSp_store]) a

theorem stWord_operandAdvance (adv : Bool) (a : Nat) : (s.operandAdvance b w adv).stWord b a = s.stWord b a := by
  cases adv
  · rfl
  · simp (disch := decide) only [State.operandAdvance, if_true, State.noteWrap, stWord_setSp, State.winAdvance, stWord_wf_apart]

/-- A word that the processor may write through its window is stored. -/
theorem stWord_storeOperand {adv : Bool} {k : Nat} (v : BitVec 72) (hu : s.winUser b w ownSpar = true)
    (hd : s.stDenied b (s.winAddr b w k) ownSpar true (s.drives b) = none) :
    (s.storeOperand b w adv k [v]).stWord b (s.winAddr b w k) = { data := v } := by
  have hwrite : s.writeWords b w k [v] = (s.stPut b (s.winAddr b w k) v, true) := by
    simp only [State.writeWords, hu, hd, Bool.not_true, Bool.false_eq_true, if_false]
  rw [State.storeOperand, hwrite]
  simp only
  rw [stWord_operandAdvance, State.stPut, stWord_setBatten, State.stWord_setStWord_same]

end

/-! ## Traps that are taken (R401) -/

section
variable {s : State} {i : Nat}

theorem sp_trapNoted (cause saved j : Nat) : (s.trapNoted i cause saved).sp j = s.sp j := by
  simp only [State.trapNoted, sp_raise, sp_wf, sp_inc]
  split
  · rfl
  · simp only [sp_wf]

theorem sp_showFrame (j : Nat) : (s.showFrame i).sp j = s.sp j := by simp only [State.showFrame, sp_wf]

variable (h : (s.sp i).frame.length < 4) (cause saved residue : Nat)
include h

theorem microTrap_of_room : s.microTrap i cause saved residue =
    ((s.setSp i ((s.sp i).trapped cause saved residue)).showFrame i).trapNoted i cause saved := by
  rw [microTrap_eq, if_neg (by omega)]

theorem sp_microTrap : (s.microTrap i cause saved residue).sp i = (s.sp i).trapped cause saved residue := by
  rw [microTrap_of_room h, sp_trapNoted, sp_showFrame, State.sp_setSp_same]

end

/-! ## The micro-operations -/

/-- Past its effect a command changes the interrupt controller's own registers alone (R461). -/
theorem settled_only (s u : State) : Only irqOwn [] u (settled s u) :=
  ⟨settled_reg s u, fun p _ => by cases p <;> simp [Part.same]⟩

section
variable {s : State} {b : Fin 64} {i : Fin 72} {d : BitVec 96}

theorem nop_completes (hf : s.sparFree i = true) (hh : (s.sp i).hold = .none) (ha : (s.sp i).attn = none) :
    Completes (.nop i) s fun t => Only irqOwn [] s t := by
  refine .of_done (u := s) ?_ (settled_only s s)
  rw [show exec (.nop i) s = execNop i s from rfl, execNop, if_pos hf, endWord_idle hh ha]

theorem wset_completes (hg : s.opGoes b d 0x28 = true) (hlo : 1 ≤ ((s.sp b).rdPre (dpRB d)).toNat)
    (hhi : ((s.sp b).rdPre (dpRB d)).toNat ≤ 262144) (hstride : bits (dpIMM d) 17 0 < ((s.sp b).rdPre (dpRB d)).toNat) :
    Completes (.wset b d) s fun t =>
      t.rf (pgBST b) BST_CW_BASE_BASE (dpWD d) = bits ((s.sp b).rdPre (dpRA d)).toNat 17 5 ∧
      t.rf (pgBST b) BST_CW_LEN_LEN (dpWD d) = ((s.sp b).rdPre (dpRB d)).toNat ∧
      t.rf (pgBST b) BST_CW_STRIDE_STRIDE (dpWD d) = bits (dpIMM d) 17 0 ∧ t.rf (pgBST b) BST_CW_PTR_P (dpWD d) = 0 := by
  have hlen : ((s.sp b).rdPre (dpRB d)).toNat % 2 ^ BST_CW_LEN_LEN.width = ((s.sp b).rdPre (dpRB d)).toNat :=
    Nat.mod_eq_of_lt (Nat.lt_of_le_of_lt hhi (by decide))
  refine completes_sparOp (c := .wset b d) rfl hg fun t ht => ?_
  simp (disch := decide) only [settled_rf_bst, ht.rf_bst b.isLt, State.winReset, if_pos (And.intro hlo hhi), rf_wf_same, rf_wf_apart, hlen,
    if_pos hstride]
  exact ⟨Nat.mod_eq_of_lt (Nat.mod_lt _ (by decide)), trivial, Nat.mod_eq_of_lt (Nat.mod_lt _ (by decide)), rfl⟩

theorem wgroup_completes (hg : s.opGoes b d 0x29 = true) (hok : groupOk (bits (dpIMM d) 15 0) = true) : Completes (.wgroup b d) s fun t =>
    t.rf (pgBST b) BST_CW_GROUP_USER (dpWD d) = ownByte (bits (dpIMM d) 15 8) ∧ t.rf (pgBST b) BST_CW_GROUP_F (dpWD d) = bits (dpIMM d) 7 3 ∧
      t.rf (pgBST b) BST_CW_GROUP_W (dpWD d) = bits (dpIMM d) 2 0 ∧ t.rf (pgBST b) BST_CW_PTR_P (dpWD d) = 0 := by
  have huser : bits (bits (dpIMM d) 15 0) 15 8 = bits (dpIMM d) 15 8 := by simp only [bits]; omega
  have hfirst : bits (bits (dpIMM d) 15 0) 7 3 = bits (dpIMM d) 7 3 := by simp only [bits]; omega
  have hwidth : bits (bits (dpIMM d) 15 0) 2 0 = bits (dpIMM d) 2 0 := by simp only [bits]; omega
  refine completes_sparOp (c := .wgroup b d) rfl hg fun t ht => ?_
  simp (disch := decide) only [settled_rf_bst, ht.rf_bst b.isLt, if_pos hok, State.winReset, rf_wf_same, rf_wf_apart, huser, hfirst, hwidth]
  exact ⟨Nat.mod_eq_of_lt (ownByte_lt _), Nat.mod_eq_of_lt (Nat.mod_lt _ (by decide)), Nat.mod_eq_of_lt (Nat.mod_lt _ (by decide)), rfl⟩

/-- What an SRD leaves in the spar: its register, the word and the value. -/
def SprSt.readBy (p : SprSt) (r : Nat) (w : BitVec 72) (v : BitVec 36) : SprSt := { p.wr r v with srdWord := w, srdVal := v }

theorem staysOn_readBy (hs : s.staysOn b = true) (r : Nat) (w : BitVec 72) (v : BitVec 36) :
    (s.setSp b ((s.sp b).readBy r w v)).staysOn b = true := by
  have hkept : ((s.sp b).readBy r w v).attn = (s.sp b).attn ∧ ((s.sp b).readBy r w v).hold = (s.sp b).hold := by
    simp only [SprSt.readBy, SprSt.wr]
    split <;> exact ⟨rfl, rfl⟩
  obtain ⟨hattn, hhold⟩ := hkept
  rw [State.staysOn, State.sp_setSp_same, hattn, hhold]
  exact hs

theorem exec_srd_of_opGoes {w : BitVec 72} {up : StErr} (hg : s.opGoes b d 0x40 = true) (hsealed : s.bit (pgSPR b) SPR_STAT_SEALED = false)
    (hw : (s.operandWords b (dpWA d) (dpAA d) (s.dpOffset b d) 1 [up]).2 = some [w]) :
    exec (.srd b d up) s = done s (((s.operandWords b (dpWA d) (dpAA d) (s.dpOffset b d) 1 [up]).1.setSp b
      (((s.operandWords b (dpWA d) (dpAA d) (s.dpOffset b d) 1 [up]).1.sp b).readBy (dpRD d) w
        (if dpOPT d % 2 = 0 then w.truncate 36 else (w >>> 36).truncate 36))).opDone b) := by
  rw [show exec (.srd b d up) s = execSrd b d up s from rfl, execSrd, sparOp_of_opGoes hg]
  simp only [hsealed, Bool.false_eq_true, if_false]
  generalize s.operandWords b (dpWA d) (dpAA d) (s.dpOffset b d) 1 [up] = read at hw ⊢
  obtain ⟨t, got⟩ := read
  obtain rfl : got = some [w] := hw
  rfl

theorem srd_completes {w : BitVec 72} {up : StErr} (hg : s.opGoes b d 0x40 = true) (hs : s.staysOn b = true)
    (hsealed : s.bit (pgSPR b) SPR_STAT_SEALED = false)
    (hw : (s.operandWords b (dpWA d) (dpAA d) (s.dpOffset b d) 1 [up]).2 = some [w]) : Completes (.srd b d up) s fun t =>
      (t.sp b).srdWord = w ∧ (t.sp b).srdVal = (if dpOPT d % 2 = 0 then w.truncate 36 else (w >>> 36).truncate 36) ∧
      (dpRD d ≠ 0 → (t.sp b).rd (dpRD d) = (t.sp b).srdVal) ∧
      ∀ r, r ≠ dpRD d → (t.sp b).rd r = ((s.operandWords b (dpWA d) (dpAA d) (s.dpOffset b d) 1 [up]).1.sp b).rd r := by
  have hstays := staysOn_operandWords b.isLt hw hs
  refine .of_done (exec_srd_of_opGoes hg hsealed hw) ?_
  generalize (s.operandWords b (dpWA d) (dpAA d) (s.dpOffset b d) 1 [up]).1 = u at hstays ⊢
  generalize (if dpOPT d % 2 = 0 then w.truncate 36 else (w >>> 36).truncate 36 : BitVec 36) = v
  obtain ⟨hold, free, hp⟩ := sp_opDone_of_staysOn (staysOn_readBy hstays (dpRD d) w v)
  rw [settled_sp, hp, State.sp_setSp_same]
  exact ⟨rfl, rfl, fun hr => (rd_wr ..).trans (if_pos ⟨rfl, hr⟩), fun r hr => (rd_wr ..).trans (if_neg fun hc => hr hc.1)⟩

theorem swr_completes (hg : s.opGoes b d 0x41 = true) (hu : s.winUser b (dpWD d) ownSpar = true)
    (hd : s.stDenied b (s.winAddr b (dpWD d) (s.dpOffset b d)) ownSpar true (s.drives b) = none) : Completes (.swr b d) s fun t =>
      t.stWord b (s.winAddr b (dpWD d) (s.dpOffset b d)) =
        { data := BitVec.ofNat 72 (((s.sp b).rdPre (dpRA d)).toNat + 2 ^ 36 * ((s.sp b).rdPre (dpRB d)).toNat) } := by
  refine completes_sparOp (c := .swr b d) rfl hg fun t ht => ?_
  rw [settled_stWord, ht.stWord b.isLt]
  exact stWord_storeOperand s b _ _ hu hd

theorem storeTest_completes (hg : s.opGoes b d 0x48 = true) (hm : s.marchStatus b (dpOPT d % 2) (dpIMM d) true = 0) :
    Completes (.storeTest b d) s fun t => t.bit (pgBST b) BST_MARCH_STAT_RUN = true ∧ t.rf (pgBST b) BST_MARCH_STAT_STATUS = 0 ∧
      ∃ m, (t.batten b).march = some m ∧ m.mode = dpOPT d % 2 ∧ m.banks = dpIMM d := by
  obtain ⟨hstatus, hrun, m, hmarch, hmode, hbanks, -⟩ := marchRequest_accepted s b _ _ hm
  refine completes_sparOp (c := .storeTest b d) rfl hg fun t ht => ⟨?_, ?_, m, ?_, hmode, hbanks⟩
  · rw [settled_bit_bst _ _ _ _ (by decide), ht.bit_bst b.isLt (by decide), hrun]
  · rw [settled_rf_bst _ _ _ _ (by decide), ht.rf_bst b.isLt (by decide), hstatus]
  · rw [settled_batten, ht.march, hmarch]

theorem storeRepair_completes (hg : s.opGoes b d 0x49 = true) (hl : s.listInBanks b (2 ^ bits (dpIMM d) 4 0) = false)
    (hp : s.planUses b = false) (ho : dpOPT d % 4 = 2) (hv : s.bit (pgBST b) BST_REPAIR_VALID0 (bits (dpIMM d) 4 0) = false) :
    Completes (.storeRepair b d) s fun t => t.bit (pgBST b) BST_REPAIR_VALID0 (bits (dpIMM d) 4 0) = true ∧
      t.bit (pgBST b) BST_REPAIR_SOFT0 (bits (dpIMM d) 4 0) = true ∧
      t.rf (pgBST b) BST_REPAIR_ROW0 (bits (dpIMM d) 4 0) = bits (dpIMM d) 14 8 := by
  obtain ⟨hvalid, hsoft, hrow⟩ := repairEntry_maps s b (bits (dpIMM d) 4 0) (bits (dpIMM d) 14 8) hv
  have hspare : dpOPT d % 2 = 0 := by omega
  have hbit : bits (dpOPT d) 1 1 = 1 := by simp only [bits]; omega
  refine completes_sparOp (c := .storeRepair b d) rfl hg fun t ht => ?_
  simp only [hl, hp, Bool.false_eq_true, if_false, hspare, hbit] at ht
  refine ⟨?_, ?_, ?_⟩
  · rw [settled_bit_bst _ _ _ _ (by decide), ht.bit_bst b.isLt (by decide), hvalid]
  · rw [settled_bit_bst _ _ _ _ (by decide), ht.bit_bst b.isLt (by decide), hsoft]
  · rw [settled_rf_bst _ _ _ _ (by decide), ht.rf_bst b.isLt (by decide), hrow]
    exact Nat.mod_eq_of_lt (Nat.mod_lt _ (by decide))

/-- R415: what a request of a control-store march that is not refused leaves. -/
theorem csTest_accepted {region : Nat} {spar : Bool} (h : s.csStatus i region spar = 0) :
    let t := s.csTest i region spar
    (t.sp i).march = region ∧ t.bit (pgSPR i) SPR_CS_TSTAT_RUN = true ∧ t.rf (pgSPR i) SPR_CS_TSTAT_STATUS = 0 := by
  simp (disch := decide) only [State.csTest, h, ne_eq, not_true_eq_false, if_false, show ¬ (0 = 8) by decide, State.sp_setSp_same,
    bit_setSp, rf_setSp, bit_wf_apart, rf_wf_apart, bit_wf_same, rf_wf_same]
  exact ⟨trivial, by decide, Nat.zero_mod _⟩

theorem csTest_completes (hg : s.opGoes i d 0x4A = true) (hm : s.csStatus i (dpOPT d % 4) true = 0) : Completes (.csTest i d) s fun t =>
    (t.sp i).march = dpOPT d % 4 ∧ t.bit (pgSPR i) SPR_CS_TSTAT_RUN = true ∧ t.rf (pgSPR i) SPR_CS_TSTAT_STATUS = 0 := by
  obtain ⟨hmarch, hrun, hstatus⟩ := csTest_accepted hm
  refine completes_sparOp (c := .csTest i d) rfl hg fun t ht => ⟨?_, ?_, ?_⟩
  · rw [settled_sp, ht.csMarch, hmarch]
  · rw [settled_bit_spr _ _ _ _ (by decide), ht.bit_spr (by decide), hrun]
  · rw [settled_rf_spr _ _ _ _ (by decide), ht.rf_spr (by decide), hstatus]

/-- R394: an engine's micro-operation drives a stage of its engine; in a batten's spar it is a trap. -/
theorem exec_engineMicroOperation_of_opGoes (hg : s.opGoes i d (dpOP d) = true) (he : opEngine (dpOP d) = true) :
    exec (.engineMicroOperation i d) s = done s
      ((if i.val < 64 then s.microTrap i 3 (s.rf (pgSPR i) SPR_STAT_UPC) else s.driveStage i (dpOP d)).opDone i) := by
  rw [show exec (.engineMicroOperation i d) s = execEngineMicroOperation i d s from rfl, execEngineMicroOperation, if_pos he,
    sparOp_of_opGoes hg]

theorem engineMicroOperation_drives (hg : s.opGoes i d (dpOP d) = true) (he : opEngine (dpOP d) = true) (hi : 64 ≤ i.val) :
    Completes (.engineMicroOperation i d) s fun t => Only irqOwn [] ((s.driveStage i (dpOP d)).opDone i) t := by
  refine .of_done (exec_engineMicroOperation_of_opGoes hg he) ?_
  rw [if_neg (by omega)]
  exact settled_only ..

theorem engineMicroOperation_traps (hg : s.opGoes i d (dpOP d) = true) (he : opEngine (dpOP d) = true) (hi : i.val < 64)
    (ha : (s.sp i).attn = none) (hroom : (s.sp i).frame.length < 4) : Completes (.engineMicroOperation i d) s fun t => (t.sp i).next = 24 ∧
      (t.sp i).frame.length = (s.sp i).frame.length + 1 := by
  refine .of_done (exec_engineMicroOperation_of_opGoes hg he) ?_
  rw [if_pos hi, settled_sp, State.opDone, sp_microTrap hroom, endWord_idle, State.sp_setSp_same]
  · exact ⟨rfl, rfl⟩
  · rw [State.sp_setSp_same]; rfl
  · rw [State.sp_setSp_same]; exact ha

end

end Sys2Proof.Machine
end

section
/-! PROOF. Control of spars: PARK, SPR_RUN, ATTN, the control store, the patch match registers and the control-store test (R410 to R415, R456); O29 is settled. -/

namespace Sys2Proof.Machine

/-- A register of a spar's page, by an offset in two parts. -/
theorem pageOf_spr_add (i : Fin 72) {o m : Nat} (h : o + m < 0x1000) : pageOf (pgSPR i + o + m) = some (.spr, i.val) := by
  rw [Nat.add_assoc, pageOf_spr i _ h]

/-- Bit 31 of a word, as a field of one bit. -/
theorem bits_top (v : Word32) : (bits v.toNat 31 31 % 2 ^ 1 != 0) = v.getLsbD 31 := by
  have hmod : v.toNat / 2 ^ 31 % 2 % 2 = v.toNat / 2 ^ 31 % 2 := Nat.mod_mod ..
  rw [BitVec.getLsbD, Nat.testBit_eq_decide_div_mod_eq, bits, show 31 + 1 - 31 = 1 from rfl, Nat.pow_one, hmod]
  rcases Nat.mod_two_eq_zero_or_one (v.toNat / 2 ^ 31) with h | h <;> rw [h] <;> rfl

section
variable {s : State} {i : Fin 72} {src : Src} {v : Word32}

/-! ## PARK and SPR_RUN (R410, R411) -/

theorem park_completes (ha : s.accepts src (pgSPR i + 0x50) = true) (hm : isMaster0 src = true) : Completes (.park src i v) s fun t =>
    t.bit (pgSPR i) SPR_PARK_PARK = v.getLsbD 0 ∧ (v.getLsbD 0 = false → t.bit (pgSPR i) SPR_STAT_PARKED = false) := by
  refine .of_done (u := if v.getLsbD 0 then s.wf (pgSPR i) SPR_PARK_PARK 1
    else (s.wf (pgSPR i) SPR_PARK_PARK 0).wf (pgSPR i) SPR_STAT_PARKED 0) ?_ ?_
  · rw [show exec (.park src i v) s = done s (s.parkWrite src i v) from rfl, State.parkWrite,
      ifWriter_accepted _ ha (pageOf_spr i _ (by decide)) (by decide), hm, Bool.not_true, if_neg Bool.false_ne_true]
  · rw [settled_bit_spr _ _ _ _ (by decide), settled_bit_spr _ _ _ _ (by decide)]
    cases v.getLsbD 0
    · simp (disch := decide) only [Bool.false_eq_true, if_false, bit_wf_apart, bit_wf_same]
      exact ⟨by decide, fun _ => by decide⟩
    · simp (disch := decide) only [if_true, bit_wf_same]
      exact ⟨by decide, fun h => nomatch h⟩

/-- R410: a spar that parks. -/
theorem park_shows (s : State) (i : Nat) : (s.park i).bit (pgSPR i) SPR_STAT_PARKED = true ∧ (s.park i).bit (pgSPR i) SPR_STAT_RUNNING = false ∧
    bitOf ((s.park i).rf (pgSPR i) PG_EVT_RAW) 2 = true := by
  refine ⟨?_, ?_, bitOf_raise _ _ (by decide)⟩
  · simp (disch := decide) only [State.park, bit_raise_apart, bit_setSp, bit_wf_apart, bit_wf_same]
    decide
  · simp (disch := decide) only [State.park, bit_raise_apart, bit_setSp, bit_wf_apart, bit_wf_same]
    decide

theorem parked_completes (hp : s.bit (pgSPR i) SPR_PARK_PARK = true) (hn : s.bit (pgSPR i) SPR_STAT_PARKED = false) (hd : s.drives i = false) :
    Completes (.parked i) s fun t => t.bit (pgSPR i) SPR_STAT_PARKED = true ∧ t.bit (pgSPR i) SPR_STAT_RUNNING = false ∧
      bitOf (t.rf (pgSPR i) PG_EVT_RAW) 2 = true := by
  refine .of_done (u := s.park i) ?_ ?_
  · rw [show exec (.parked i) s = execParked i s from rfl, execParked]
    simp only [hp, hn, hd, Bool.not_false, Bool.and_self, if_true]
  · rw [settled_bit_spr _ _ _ _ (by decide), settled_bit_spr _ _ _ _ (by decide), settled_rf_spr _ _ _ _ (by decide)]
    exact park_shows s i

/-- What a spar holds as SPR_RUN starts it (R411). -/
def SprSt.started (p : SprSt) (addr : Nat) : SprSt :=
  { ((List.range 5).foldl (fun p j => SprSt.wr p (j + 1) 0) p).drop with lp := [], next := addr, hold := .none, free := true, residue := 0 }

theorem sprRun_completes (ha : s.accepts src (pgSPR i + 0x54) = true) (hv : v.getLsbD 31 = true) (hidle : s.sparIdle i = true) :
    Completes (.sprRun src i v) s fun t => t.bit (pgSPR i) SPR_STAT_RUNNING = true ∧ (t.sp i).next = bits v.toNat 12 0 ∧ (t.sp i).lp = [] ∧
      ∀ r : Fin 5, (t.sp i).rd (r.val + 1) = 0 := by
  refine .of_done (u := (((s.setSp i ((s.sp i).started (bits v.toNat 12 0))).wf (pgSPR i) SPR_STAT_HALTED 0).wf (pgSPR i) SPR_STAT_ENDED 0).wf
    (pgSPR i) SPR_STAT_RUNNING 1) ?_ ?_
  · rw [show exec (.sprRun src i v) s = done s (s.runGoWrite src i v) from rfl, State.runGoWrite,
      ifWriter_accepted _ ha (pageOf_spr i _ (by decide)) (by decide)]
    simp only [hv, hidle, Bool.not_true, Bool.false_eq_true, if_false]
    rfl
  · rw [settled_bit_spr _ _ _ _ (by decide), bit_wf_same _ _ _ _ _ (by decide), settled_sp, sp_wf, sp_wf, sp_wf, State.sp_setSp_same]
    exact ⟨by decide, rfl, rfl, fun r => rd_clears (s.sp i) r.isLt⟩

/-! ## ATTN (R414) -/

theorem sp_sparSnap (s : State) (i g saved j : Nat) : (s.sparSnap i g saved).sp j = s.sp j := by
  simp only [State.sparSnap, sp_raise, sp_wf]
  rw [State.sp, State.setGab_spr, State.sp]

/-- R401: a trap that is taken shows in SPR_STAT and in the events. -/
theorem bit_inTrap_trapNoted (s : State) (i cause saved : Nat) :
    (s.trapNoted i cause saved).bit (pgSPR i) SPR_STAT_IN_TRAP = s.bit (pgSPR i) SPR_STAT_IN_TRAP := by
  simp (disch := decide) only [State.trapNoted, bit_raise_apart, bit_wf_apart, bit_inc_apart]
  split
  · rfl
  · simp (disch := decide) only [bit_wf_apart]

theorem bit_inTrap_showFrame (s : State) (i : Nat) (h : 0 < (s.sp i).frame.length) :
    (s.showFrame i).bit (pgSPR i) SPR_STAT_IN_TRAP = true := by
  have hone : min (s.sp i).frame.length 1 = 1 := Nat.min_eq_right h
  rw [State.showFrame, hone, bit_wf_same _ _ _ _ _ (by decide)]
  decide

theorem microTrap_shows {s : State} {i : Nat} (h : (s.sp i).frame.length < 4) (cause saved residue : Nat) :
    bitOf ((s.microTrap i cause saved residue).rf (pgSPR i) PG_EVT_RAW) 1 = true ∧
      (s.microTrap i cause saved residue).bit (pgSPR i) SPR_STAT_IN_TRAP = true := by
  rw [microTrap_of_room h]
  refine ⟨bitOf_raise _ _ (by decide), ?_⟩
  rw [bit_inTrap_trapNoted, bit_inTrap_showFrame]
  rw [State.sp_setSp_same]
  exact Nat.succ_pos _

/-- R414: a spar with a frame to spare that takes an ATTN. -/
theorem attnTrap_taken {s : State} {i : Nat} (h : (s.sp i).frame.length < 4) (g saved residue : Nat) :
    (s.attnTrap i g saved residue).sp i = (s.sp i).trapped 7 saved residue ∧
      bitOf ((s.attnTrap i g saved residue).rf (pgSPR i) PG_EVT_RAW) 1 = true ∧
      (s.attnTrap i g saved residue).bit (pgSPR i) SPR_STAT_IN_TRAP = true := by
  have hroom : ((s.sparSnap i g saved).sp i).frame.length < 4 := by rwa [sp_sparSnap]
  have hsnap : s.attnTrap i g saved residue = (s.sparSnap i g saved).microTrap i 7 saved residue := by
    simp only [State.attnTrap, if_pos h]
  rw [hsnap, sp_microTrap hroom, sp_sparSnap]
  exact ⟨rfl, microTrap_shows hroom 7 saved residue⟩

section
variable {left : Nat} (ha : s.accepts src (pgSPR i + 0x58) = true) (hv : v.getLsbD 0 = true)
include ha hv

/-- An ATTN during a course that the spar drives is held. -/
theorem attnWrite_of_drives (hd : s.drives i = true) : ∃ g, s.attnWrite src i v left = s.setSp i { s.sp i with attn := some g } := by
  unfold State.attnWrite
  rw [ifWriter_accepted _ ha (pageOf_spr i _ (by decide)) (by decide)]
  simp only [hv, hd, Bool.not_true, Bool.false_eq_true, if_false, if_true]
  exact ⟨_, rfl⟩

variable (hd : s.drives i = false) (hr : s.bit (pgSPR i) SPR_STAT_RUNNING = true)
include hd hr

/-- Between words it is taken at the word that comes next. -/
theorem attnWrite_of_idle (hh : (s.sp i).hold = .none) (hb : (s.sp i).busy = false) :
    ∃ g, s.attnWrite src i v left = s.attnTrap i g (s.sp i).next := by
  unfold State.attnWrite
  rw [ifWriter_accepted _ ha (pageOf_spr i _ (by decide)) (by decide)]
  simp only [hv, hd, hr, hh, hb, Bool.not_true, Bool.false_eq_true, if_false]
  exact ⟨_, rfl⟩

/-- In a WAIT it is taken at the WAIT's own word, with what is left of its limit. -/
theorem attnWrite_of_wait {lim : Nat} (hh : (s.sp i).hold = .wait lim) : ∃ g, s.attnWrite src i v left =
    s.attnTrap i g (s.rf (pgSPR i) SPR_STAT_UPC) (if lim = 0 then 0 else min left lim) := by
  unfold State.attnWrite
  rw [ifWriter_accepted _ ha (pageOf_spr i _ (by decide)) (by decide)]
  simp only [hv, hd, hr, hh, Bool.not_true, Bool.false_eq_true, if_false]
  exact ⟨_, rfl⟩

end

theorem exec_attn (s : State) (src : Src) (i : Fin 72) (v : Word32) (left : Nat) :
    exec (.attn src i v left) s = done s (s.attnWrite src i v left) := rfl

section
variable {left : Nat} (ha : s.accepts src (pgSPR i + 0x58) = true) (hv : v.getLsbD 0 = true)
include ha hv

theorem attn_held (hd : s.drives i = true) : Completes (.attn src i v left) s fun t => (t.sp i).attn.isSome = true ∧ (t.sp i).next = (s.sp i).next := by
  obtain ⟨g, hw⟩ := attnWrite_of_drives (left := left) ha hv hd
  refine .of_done (exec_attn ..) ?_
  rw [hw, settled_sp, State.sp_setSp_same]
  exact ⟨rfl, rfl⟩

variable (hd : s.drives i = false) (hr : s.bit (pgSPR i) SPR_STAT_RUNNING = true)
include hd hr

theorem attn_between_words (hh : (s.sp i).hold = .none) (hb : (s.sp i).busy = false) (hroom : (s.sp i).frame.length < 4) :
    Completes (.attn src i v left) s fun t => (t.sp i).next = 56 ∧ bitOf (t.rf (pgSPR i) PG_EVT_RAW) 1 = true ∧
      t.bit (pgSPR i) SPR_STAT_IN_TRAP = true ∧ ∃ f, (t.sp i).frame = f :: (s.sp i).frame ∧ f.saved = (s.sp i).next ∧ f.cl = (s.sp i).cl ∧
        f.lc0 = (s.sp i).lc0 ∧ f.lc1 = (s.sp i).lc1 := by
  obtain ⟨g, hw⟩ := attnWrite_of_idle (left := left) ha hv hd hr hh hb
  obtain ⟨hsp, hraw, htrap⟩ := attnTrap_taken hroom g (s.sp i).next 0
  refine .of_done (exec_attn ..) ?_
  rw [hw, settled_sp, settled_rf_spr _ _ _ _ (by decide), settled_bit_spr _ _ _ _ (by decide), hsp]
  exact ⟨rfl, hraw, htrap, _, rfl, rfl, rfl, rfl, rfl⟩

theorem attn_in_wait {lim : Nat} (hh : (s.sp i).hold = .wait lim) (hroom : (s.sp i).frame.length < 4) :
    Completes (.attn src i v left) s fun t => (t.sp i).next = 56 ∧ ∃ f, (t.sp i).frame = f :: (s.sp i).frame ∧
      f.saved = s.rf (pgSPR i) SPR_STAT_UPC ∧ f.residue = if lim = 0 then 0 else min left lim := by
  obtain ⟨g, hw⟩ := attnWrite_of_wait (left := left) ha hv hd hr hh
  obtain ⟨hsp, -, -⟩ := attnTrap_taken hroom g (s.rf (pgSPR i) SPR_STAT_UPC) (if lim = 0 then 0 else min left lim)
  refine .of_done (exec_attn ..) ?_
  rw [hw, settled_sp, hsp]
  exact ⟨rfl, _, rfl, rfl, rfl⟩

end

/-! ## The control store and the patch match registers (R412, R413) -/

/-- A word of spar i's control store is written. -/
def State.csPut (s : State) (i a : Nat) (w : BitVec 128) : State := { s with cs := smSet (fun _ => 0) s.cs (csKey i a) w }

theorem rf_csPut (s : State) (i a : Nat) (w : BitVec 128) (pg : Nat) (f : Fld) (j : Nat) : (s.csPut i a w).rf pg f j = s.rf pg f j := rfl

theorem csWord_csPut (s : State) (i a : Nat) (w : BitVec 128) : (s.csPut i a w).csWord i a = w := smGet_smSet_same ..

theorem csWord_wf (s : State) (pg : Nat) (f : Fld) (x j i a : Nat) : (s.wf pg f x j).csWord i a = s.csWord i a := by
  rw [State.csWord, State.wf_cs, State.csWord]

theorem csWord_settled (s u : State) (i a : Nat) : (settled s u).csWord i a = u.csWord i a := by
  rw [State.csWord, settled_cs, State.csWord]

theorem foldl_range_three (f : Nat → Nat → Nat) (y : Nat) : (List.range 3).foldl f y = f (f (f y 0) 1) 2 := rfl

/-- The lower three parts of a micro-word beside the last one. -/
theorem csData_sum (x : Nat → Nat) (y : Nat) :
    (List.range 3).foldl (fun w k => w + x k * 2 ^ (32 * k)) y = x 0 + 2 ^ 32 * x 1 + 2 ^ 64 * x 2 + y := by
  rw [foldl_range_three]
  omega

/-- A spar's control store after the word at SPR_CS_ADDR is written. -/
def State.csCommitted (s : State) (i : Nat) (v : Word32) : State :=
  (s.wf (pgSPR i) SPR_CS_D_DATA v.toNat 3).csPut i (s.rf (pgSPR i) SPR_CS_ADDR_ADDR) (BitVec.ofNat 128 (s.rf (pgSPR i) SPR_CS_D_DATA 0 +
    2 ^ 32 * s.rf (pgSPR i) SPR_CS_D_DATA 1 + 2 ^ 64 * s.rf (pgSPR i) SPR_CS_D_DATA 2 + 2 ^ 96 * v.toNat))

theorem csCommitWrite_accepted (ha : s.accepts src (pgSPR i + 0x70) = true) (hc : s.csRefusal src i = 0) : s.csCommitWrite src i v =
    if s.bit (pgSPR i) SPR_CS_ADDR_INC then
      (s.csCommitted i v).wf (pgSPR i) SPR_CS_ADDR_ADDR ((s.rf (pgSPR i) SPR_CS_ADDR_ADDR + 1) % 8192)
    else s.csCommitted i v := by
  have hinc : (s.csCommitted i v).bit (pgSPR i) SPR_CS_ADDR_INC = s.bit (pgSPR i) SPR_CS_ADDR_INC := by
    rw [State.bit, State.csCommitted, rf_csPut, rf_wf_apart _ _ _ _ _ (by decide), State.bit]
  rw [← hinc, State.csCommitWrite, ifWriter_accepted _ ha (pageOf_spr i _ (by decide)) (by decide)]
  simp only [hc, ne_eq, not_true_eq_false, if_false, csData_sum, Nat.mul_comm v.toNat]
  rfl

theorem csCommit_completes (ha : s.accepts src (pgSPR i + 0x70) = true) (hc : s.csRefusal src i = 0) : Completes (.csCommit src i v) s fun t =>
    t.csWord i (s.rf (pgSPR i) SPR_CS_ADDR_ADDR) = BitVec.ofNat 128 (s.rf (pgSPR i) SPR_CS_D_DATA 0 + 2 ^ 32 * s.rf (pgSPR i) SPR_CS_D_DATA 1 +
      2 ^ 64 * s.rf (pgSPR i) SPR_CS_D_DATA 2 + 2 ^ 96 * v.toNat) ∧
    t.rf (pgSPR i) SPR_CS_ADDR_ADDR = if s.bit (pgSPR i) SPR_CS_ADDR_INC = true then (s.rf (pgSPR i) SPR_CS_ADDR_ADDR + 1) % 8192
      else s.rf (pgSPR i) SPR_CS_ADDR_ADDR := by
  refine .of_done (u := s.csCommitWrite src i v) rfl ?_
  rw [csWord_settled, settled_rf_spr _ _ _ _ (by decide), csCommitWrite_accepted ha hc]
  split
  · rw [csWord_wf, State.csCommitted, csWord_csPut, rf_wf_same _ _ _ _ _ (by decide)]
    exact ⟨rfl, Nat.mod_mod ..⟩
  · rw [State.csCommitted, csWord_csPut, rf_csPut, rf_wf_apart _ _ _ _ _ (by decide)]
    exact ⟨rfl, rfl⟩

theorem patchMatchWrite_completes {m : Fin 16} (ha : s.accepts src (pgSPR i + 0x80 + 4 * m.val) = true) (hlo : 6144 ≤ bits v.toNat 28 16)
    (hhi : bits v.toNat 28 16 < 7680) (hmatch : bits v.toNat 12 0 < 16 ∨ 24 ≤ bits v.toNat 12 0)
    (hl : s.lockBad (pgSPR i) .spr i (0x80 + 4 * m.val) v = false) (hp : s.bit (pgSPR i) SPR_STAT_PARKED = true) :
    Completes (.patchMatchWrite src i m v) s fun t => t.bit (pgSPR i) SPR_PM_VALID m = v.getLsbD 31 ∧
      t.rf (pgSPR i) SPR_PM_TARGET m = bits v.toNat 28 16 ∧ t.rf (pgSPR i) SPR_PM_MATCH m = bits v.toNat 12 0 := by
  have hrange : (decide (bits v.toNat 28 16 < 6144 ∨ 7680 ≤ bits v.toNat 28 16) || decide (16 ≤ bits v.toNat 12 0 ∧ bits v.toNat 12 0 < 24)) =
      false := by
    rw [Bool.or_eq_false_iff, decide_eq_false_iff_not, decide_eq_false_iff_not]
    omega
  refine .of_done (u := ((s.wf (pgSPR i) SPR_PM_VALID (bits v.toNat 31 31) m).wf (pgSPR i) SPR_PM_TARGET (bits v.toNat 28 16) m).wf (pgSPR i)
    SPR_PM_MATCH (bits v.toNat 12 0) m) ?_ ?_
  · rw [show exec (.patchMatchWrite src i m v) s = done s (s.pmWrite src i m v) from rfl, State.pmWrite,
      ifWriter_accepted _ ha (pageOf_spr_add i (by omega)) (by decide)]
    simp only [hrange, hl, hp, Bool.not_true, Bool.false_eq_true, if_false]
  · simp (disch := decide) only [settled_bit_spr, settled_rf_spr, bit_wf_apart, rf_wf_apart, bit_wf_same, rf_wf_same]
    exact ⟨bits_top v, Nat.mod_eq_of_lt (Nat.mod_lt _ (by decide)), Nat.mod_eq_of_lt (Nat.mod_lt _ (by decide))⟩

/-! ## The control-store test (R415) -/

theorem csTestRequest_completes (ha : s.accepts src (pgSPR i + 0x74) = true) (hv : v.getLsbD 31 = true)
    (hm : s.csStatus i (bits v.toNat 1 0) false = 0) : Completes (.csTestRequest src i v) s fun t =>
      (t.sp i).march = bits v.toNat 1 0 ∧ t.bit (pgSPR i) SPR_CS_TSTAT_RUN = true ∧ t.rf (pgSPR i) SPR_CS_TSTAT_STATUS = 0 := by
  refine .of_done (u := s.csTest i (bits v.toNat 1 0) false) ?_ ?_
  · rw [show exec (.csTestRequest src i v) s = done s (s.csTestWrite src i v) from rfl, State.csTestWrite,
      ifWriter_accepted _ ha (pageOf_spr i _ (by decide)) (by decide), if_pos hv]
  · rw [settled_sp, settled_bit_spr _ _ _ _ (by decide), settled_rf_spr _ _ _ _ (by decide)]
    exact csTest_accepted hm

theorem csTestDone_completes {bad : Bool} (hm : (s.sp i).march ≠ 0) (hg : s.gated = false) : Completes (.csTestDone i bad) s fun t =>
    (t.sp i).march = 0 ∧ t.bit (pgSPR i) SPR_CS_TSTAT_RUN = false ∧ t.bit (pgSPR i) SPR_CS_TSTAT_PASS = !bad ∧
      t.bit (pgSPR i) SPR_CS_TSTAT_DONE = true ∧ bitOf (t.rf (pgSPR i) PG_EVT_RAW) 4 = true := by
  refine .of_done (u := ((((s.setSp i { s.sp i with march := 0 }).wf (pgSPR i) SPR_CS_TSTAT_RUN 0).wf (pgSPR i) SPR_CS_TSTAT_PASS (bnat !bad)).wf
    (pgSPR i) SPR_CS_TSTAT_DONE 1).raise (pgSPR i) 4) ?_ ?_
  · rw [show exec (.csTestDone i bad) s = execCsTestDone i bad s from rfl, execCsTestDone, if_neg (by simp [hm, hg])]
  · rw [settled_rf_spr _ _ _ _ (by decide), bitOf_raise _ _ (by decide), settled_sp]
    simp (disch := decide) only [settled_bit_spr, sp_raise, sp_wf, State.sp_setSp_same, bit_raise_apart, bit_wf_apart, bit_wf_same]
    exact ⟨trivial, by decide, by cases bad <;> decide, by decide, trivial⟩

end

/-- Settles O29, command by command: a micro-operation from its effect and what the end of its word keeps, a control of a spar from its write. -/
theorem spars : Obligations.Spars := by
  unfold Obligations.Spars
  refine ⟨?microOperations, ?control⟩
  case microOperations =>
    intro s b i d
    exact ⟨nop_completes, wset_completes, wgroup_completes, fun _ _ => srd_completes, swr_completes, storeTest_completes,
      fun hg hl hp ho hv _ => storeRepair_completes hg hl hp ho hv, csTest_completes,
      fun hg he => ⟨engineMicroOperation_drives hg he, engineMicroOperation_traps hg he⟩⟩
  case control =>
    intro s i src v
    exact ⟨park_completes, parked_completes, sprRun_completes,
      fun _ ha hv => ⟨attn_held ha hv, attn_between_words ha hv, fun _ hd hr => attn_in_wait ha hv hd hr⟩,
      csCommit_completes, fun _ => patchMatchWrite_completes, csTestRequest_completes, fun _ => csTestDone_completes⟩

end Sys2Proof.Machine
end

section
/-! PROOF. Reads of a run's objects in which the decoder finds no uncorrectable codeword: they write counters and addresses on the stacks' pages and the scrub queues, and no byte (R131, R355, R356). -/

namespace Sys2Proof.Machine

/-! ## The footprint -/

/-- Registers of a stack's page that a corrected codeword writes: events, HBM_CE_CNT and HBM_CE_ADDR. -/
def correctedOffs : List Nat := [0x10, 0x4C, 0x54]

def correctedRegs (k : Nat) : Bool := hbmPages k && decide (k % 0x1000 ∈ correctedOffs)

theorem correctedRegs_hbm (n : Nat) {o : Nat} (ho : o < 0x1000) : correctedRegs (pgHBM n + o) = decide (o ∈ correctedOffs) := by
  have hlo : 0x10000 ≤ pgHBM n + o := by simp only [pgHBM]; omega
  have hhi : pgHBM n + o < 0x14000 := by simp only [pgHBM]; omega
  have hpage : hbmPages (pgHBM n + o) = true := Bool.and_eq_true_iff.2 ⟨decide_eq_true hlo, decide_eq_true hhi⟩
  have hoff : (pgHBM n + o) % 0x1000 = o := by simp only [pgHBM]; omega
  rw [correctedRegs, hpage, Bool.true_and, hoff]

theorem correctedRegs_of_mem (n : Nat) {o : Nat} (h : o ∈ correctedOffs) : correctedRegs (pgHBM n + o) = true := by
  have hlt : ∀ o ∈ correctedOffs, o < 0x1000 := by decide
  rw [correctedRegs_hbm n (hlt o h), decide_eq_true h]

theorem correctedRegs_off {k : Nat} (h : k < 0x10000 ∨ 0x14000 ≤ k) : correctedRegs k = false := by
  have hpage : hbmPages k = false := by simp only [hbmPages, Bool.and_eq_false_iff, decide_eq_false_iff_not]; omega
  rw [correctedRegs, hpage, Bool.false_and]

/-- Of the stacks, the scrub queues alone differ. -/
def ScrubsOnly (s t : State) : Prop := ∃ q, t.hbm = { s.hbm with scrub := q }

/-- From s to t codewords have been read that were clean or corrected. -/
structure Corrected (s t : State) : Prop where
  only : Only correctedRegs [.hbm] s t
  mem : ScrubsOnly s t

section
variable {s t u : State}

theorem ScrubsOnly.refl (s : State) : ScrubsOnly s s := ⟨_, rfl⟩

theorem ScrubsOnly.of_eq (h : t.hbm = s.hbm) : ScrubsOnly s t := ⟨_, h⟩

theorem ScrubsOnly.trans (h1 : ScrubsOnly s t) (h2 : ScrubsOnly t u) : ScrubsOnly s u := by
  obtain ⟨p, hp⟩ := h1
  obtain ⟨q, hq⟩ := h2
  exact ⟨q, by rw [hq, hp]⟩

theorem ScrubsOnly.symErrs (h : ScrubsOnly s t) (n b : Nat) : t.symErrs n b = s.symErrs n b := by
  obtain ⟨q, hq⟩ := h
  simp only [State.symErrs, hq]

theorem ScrubsOnly.decodeAt (h : ScrubsOnly s t) (n b : Nat) : t.decodeAt n b = s.decodeAt n b := by
  simp only [State.decodeAt, h.symErrs]

theorem ScrubsOnly.hbmByte (h : ScrubsOnly s t) (a : Nat) : t.hbmByte a = s.hbmByte a := by
  have hbytes : t.hbm.bytes = s.hbm.bytes := by
    obtain ⟨q, hq⟩ := h
    rw [hq]
  simp only [State.hbmByte, h.symErrs, hbytes]

theorem Corrected.refl (s : State) : Corrected s s := ⟨.refl s, .refl s⟩

theorem Corrected.trans (h1 : Corrected s t) (h2 : Corrected t u) : Corrected s u := ⟨h1.only.trans h2.only, h1.mem.trans h2.mem⟩

/-- Reads one after the other, each made in a state that the ones before it have left. -/
theorem Corrected.foldl {α : Type} {f : State → α → State} (hf : ∀ t, Corrected s t → ∀ a, Corrected t (f t a)) (l : List α)
    (h : Corrected s t) : Corrected s (l.foldl f t) := by
  induction l generalizing t with
  | nil => exact h
  | cons a r ih => exact ih (h.trans (hf t h a))

theorem Corrected.rf_eq (h : Corrected s t) {pg : Nat} {f : Fld} {i : Nat} (hk : pg + f.addr i < 0x10000 ∨ 0x14000 ≤ pg + f.addr i) :
    t.rf pg f i = s.rf pg f i := h.only.rf_eq (correctedRegs_off hk)

theorem Corrected.live (h : Corrected s t) : t.live = s.live := by
  have hcrs : t.crs = s.crs := h.only.2 .crs (by decide)
  have hphase : t.phase = s.phase := h.rf_eq (pg := pgCRS) (f := CRS_STAT_PHASE) (i := 0) (.inl (by decide))
  simp only [State.live, hcrs, hphase]

end

/-! ## The reads -/

section
variable {s : State}

theorem countCe_corrected (n b syms : Nat) : Corrected s (s.countCe n b syms) where
  only := ((((Only.refl s).inc _ _ _ _ (correctedRegs_of_mem n (by decide))).wf _ _ _ _ (correctedRegs_of_mem n (by decide))).wf _ _ _ _
    (correctedRegs_of_mem n (by decide))).raise _ _ (correctedRegs_of_mem n (by decide))
  mem := .of_eq (by simp only [State.countCe, State.raise_hbm, State.wf_hbm, State.inc_hbm])

theorem queueScrub_corrected (n b : Nat) : Corrected s (s.queueScrub n b) := by
  unfold State.queueScrub
  dsimp only
  split
  · exact .refl s
  · exact ⟨(Only.refl s).hbm (by decide) _, ⟨_, rfl⟩⟩

theorem demandRead_corrected {n b : Nat} (h : s.decodeAt n b ≠ .bad) (planReads : Bool) : Corrected s (s.demandRead n b planReads) := by
  unfold State.demandRead
  split
  · exact .refl s
  · exact (countCe_corrected ..).trans (queueScrub_corrected ..)
  · next hbad => exact absurd hbad h

variable (hd : ∀ n b, s.decodeAt n b ≠ .bad)
include hd

theorem Corrected.decodes {t : State} (h : Corrected s t) (n b : Nat) : t.decodeAt n b ≠ .bad := by
  rw [h.mem.decodeAt]
  exact hd n b

theorem spanDecode_corrected (pages : List Nat) (off n : Nat) (planReads : Bool) : Corrected s (s.spanDecode pages off n planReads) := by
  refine Corrected.foldl (fun t ht e => ?_) _ (.refl s)
  split
  · exact .refl t
  · exact demandRead_corrected (ht.decodes hd _ _) _

/-- A live plan whose codewords can all be corrected goes on after a read (R57, R355). -/
theorem runReads_corrected (hl : s.live.isSome = true) (r : Run) (h : Nat) (spans : List (Nat × Nat)) :
    ∃ t, s.runReads r h spans = (t, true) ∧ Corrected s t := by
  have hread : Corrected s (s.runReads r h spans).1 :=
    Corrected.foldl (fun _ ht _ => spanDecode_corrected (ht.decodes hd) _ _ _ _) spans (.refl s)
  have hgo : (s.runReads r h spans).2 = (s.runReads r h spans).1.live.isSome := rfl
  exact ⟨_, Prod.ext rfl (by rw [hgo, hread.live, hl]), hread⟩

end

end Sys2Proof.Machine
end

section
/-! PROOF. What the checks and stages of a yealm read is the same while it takes a descriptor, and limbs pass through the banks of its row (R131, R142, R271, R275). -/

namespace Sys2Proof.Machine

/-! ## Registers of a yealm and of its spar -/

theorem pgSPR_of_yealm (y : Fin 4) : pgSPR (64 + y) = pgYLM y + 0x1000 := by revert y; decide

theorem pgYLM_place (y : Nat) : 0x20000 ≤ pgYLM y ∧ pgYLM y + 0x4000 ≤ 0x30000 := by simp only [pgYLM]; omega

section
variable (s u : State) (y i : Nat)

theorem settled_rf_ylm {f : Fld} (hf : f.fits = true) : (settled s u).rf (pgYLM y) f i = u.rf (pgYLM y) f i :=
  settled_rf _ _ _ _ _ (irqOwn_ylm _ _ (Fld.addr_lt hf i))

theorem settled_bit_ylm {f : Fld} (hf : f.fits = true) : (settled s u).bit (pgYLM y) f i = u.bit (pgYLM y) f i := by
  simp only [State.bit, settled_rf_ylm s u y i hf]

@[simp] theorem settled_yealm : (settled s u).yealm y = u.yealm y := by simp only [State.yealm, settled_ylm]

@[simp] theorem rf_setYealm (x : YlmSt) (pg : Nat) (f : Fld) : (s.setYealm y x).rf pg f i = s.rf pg f i := by
  simp only [State.rf, State.reg, State.setYealm_regs]

@[simp] theorem bit_setYealm (x : YlmSt) (pg : Nat) (f : Fld) : (s.setYealm y x).bit pg f i = s.bit pg f i := by
  simp only [State.bit, rf_setYealm]

@[simp] theorem yealm_wf (pg : Nat) (f : Fld) (v : Nat) : (s.wf pg f v i).yealm y = s.yealm y := by simp only [State.yealm, State.wf_ylm]

@[simp] theorem yealm_inc (pg : Nat) (f : Fld) (v : Nat) : (s.inc pg f v i).yealm y = s.yealm y := by simp only [State.yealm, State.inc_ylm]

@[simp] theorem yealm_raise (pg v : Nat) : (s.raise pg v).yealm y = s.yealm y := by simp only [State.yealm, State.raise_ylm]

theorem yealm_ylmBytes (n : Nat) : (s.ylmBytes y n).yealm y = { s.yealm y with bytes := ((s.yealm y).bytes + n) % 2 ^ 64 } :=
  State.yealm_setYealm_same ..

@[simp] theorem rf_ylmBytes (n pg : Nat) (f : Fld) : (s.ylmBytes y n).rf pg f i = s.rf pg f i := rf_setYealm ..

@[simp] theorem bit_ylmBytes (n pg : Nat) (f : Fld) : (s.ylmBytes y n).bit pg f i = s.bit pg f i := bit_setYealm ..

end

section
variable (s : State) (y : Fin 4) (f g : Fld) (v i j : Nat)

/-- The page of a yealm's spar follows its own. -/
theorem rf_ylm_wf_spr (hf : f.fits = true) : (s.wf (pgSPR (64 + y)) g v j).rf (pgYLM y) f i = s.rf (pgYLM y) f i := by
  have := Fld.addr_lt hf i
  exact rf_wf_ne _ _ _ _ _ _ _ _ (by rw [pgSPR_of_yealm]; omega)

theorem rf_spr_wf_ylm (hg : g.fits = true) : (s.wf (pgYLM y) g v j).rf (pgSPR (64 + y)) f i = s.rf (pgSPR (64 + y)) f i := by
  have := Fld.addr_lt hg j
  exact rf_wf_ne _ _ _ _ _ _ _ _ (by rw [pgSPR_of_yealm]; omega)

end

theorem Only.yealm_eq {R : Nat → Bool} {P : List Part} {s t : State} (h : Only R P s t) (hp : Part.ylm ∉ P) (y : Nat) :
    t.yealm y = s.yealm y := by
  rw [State.yealm, show t.ylm = s.ylm from h.2 .ylm hp, State.yealm]

/-! ## While a descriptor is taken -/

/-- Registers that change while yealm y takes a descriptor: STAGE, the index of the descriptor, and what corrected reads write. -/
def takeRegs (y k : Nat) : Bool := regsOf (pgYLM y) [0x40] k || regsOf (pgSPR (64 + y)) [0x5C] k || correctedRegs k

/-- From s to t yealm y has begun to take a descriptor: of what its checks and stages read, nothing differs. -/
structure Taking (y : Nat) (s t : State) : Prop where
  only : Only (takeRegs y) [.hbm, .ylm] s t
  mem : ScrubsOnly s t

theorem takeRegs_off (y : Fin 4) {k : Nat} (h : k < 0x10000 ∨ 0x40000 ≤ k) : takeRegs y k = false := by
  obtain ⟨hlo, hhi⟩ := pgYLM_place y
  have hpage : regsOf (pgYLM y) [0x40] k = false := regsOf_of_lt (by decide) (by omega)
  have hspar : regsOf (pgSPR (64 + y)) [0x5C] k = false := regsOf_of_lt (by decide) (by rw [pgSPR_of_yealm]; omega)
  rw [takeRegs, hpage, hspar, correctedRegs_off (by omega)]
  rfl

theorem takeRegs_hbm (y : Fin 4) {n o : Nat} (ho : o < 0x1000) (hm : o ∉ correctedOffs) : takeRegs y (pgHBM n + o) = false := by
  obtain ⟨hlo, -⟩ := pgYLM_place y
  have hlt : pgHBM n + o < 0x14000 := by simp only [pgHBM]; omega
  have hpage : regsOf (pgYLM y) [0x40] (pgHBM n + o) = false := regsOf_of_lt (by decide) (by omega)
  have hspar : regsOf (pgSPR (64 + y)) [0x5C] (pgHBM n + o) = false := regsOf_of_lt (by decide) (by rw [pgSPR_of_yealm]; omega)
  rw [takeRegs, hpage, hspar, correctedRegs_hbm n ho, decide_eq_false hm]
  rfl

theorem takeRegs_ylm (y : Fin 4) {o : Nat} (ho : o < 0x1000) (hne : o ≠ 0x40) : takeRegs y (pgYLM y + o) = false := by
  obtain ⟨hlo, -⟩ := pgYLM_place y
  have hspar : regsOf (pgSPR (64 + y)) [0x5C] (pgYLM y + o) = false := regsOf_of_lt (by decide) (by rw [pgSPR_of_yealm]; omega)
  rw [takeRegs, regsOf_of_not_mem (by rwa [List.mem_singleton]), hspar, correctedRegs_off (by omega)]
  rfl

section
variable {y : Fin 4} {s t u : State}

theorem Taking.refl (s : State) : Taking y s s := ⟨.refl s, .refl s⟩

theorem Taking.trans (h1 : Taking y s t) (h2 : Taking y t u) : Taking y s u := ⟨h1.only.trans h2.only, h1.mem.trans h2.mem⟩

theorem Corrected.taking (h : Corrected s t) : Taking y s t :=
  ⟨h.only.mono (fun k hk => by rw [takeRegs, hk, Bool.or_true]) (by decide), h.mem⟩

theorem Taking.setYealm (h : Taking y s t) (x : YlmSt) : Taking y s (t.setYealm y x) :=
  ⟨h.only.ylm (by decide) _, h.mem⟩

theorem Taking.ylmBytes (h : Taking y s t) (n : Nat) : Taking y s (t.ylmBytes y n) := h.setYealm _

theorem Taking.stage (h : Taking y s t) (v : Nat) : Taking y s (t.wf (pgYLM y) YLM_STAT_STAGE v) where
  only := h.only.wf _ _ _ _ (by rw [takeRegs, regsOf_of_mem (by decide), Bool.true_or, Bool.true_or])
  mem := h.mem.trans (.of_eq (State.wf_hbm ..))

theorem Taking.index (h : Taking y s t) (v : Nat) : Taking y s (t.wf (pgSPR (64 + y)) SPR_STINT_INDEX v) where
  only := h.only.wf _ _ _ _ (by rw [takeRegs, regsOf_of_mem (by decide), Bool.or_true, Bool.true_or])
  mem := h.mem.trans (.of_eq (State.wf_hbm ..))

variable (h : Taking y s t)
include h

theorem Taking.pur : t.pur = s.pur := h.only.2 .pur (by decide)

theorem Taking.obj (n : Nat) : t.obj n = s.obj n := by simp only [State.obj, h.pur]

theorem Taking.live : t.live = s.live := by
  have hcrs : t.crs = s.crs := h.only.2 .crs (by decide)
  have hphase : t.phase = s.phase := h.only.rf_eq (pg := pgCRS) (f := CRS_STAT_PHASE) (i := 0) (takeRegs_off y (.inl (by decide)))
  simp only [State.live, hcrs, hphase]

theorem Taking.stackStopped (n : Nat) : t.stackStopped n = s.stackStopped n := by
  have hlost : t.bit (pgHBM n) HBM_STAT_LOST = s.bit (pgHBM n) HBM_STAT_LOST :=
    h.only.bit_eq (takeRegs_hbm y (o := HBM_STAT_LOST.addr 0) (by decide) (by decide))
  have hstop : t.hbm.stop = s.hbm.stop := by
    obtain ⟨q, hq⟩ := h.mem
    rw [hq]
  have hpwr : t.pwr = s.pwr := h.only.2 .pwr (by decide)
  simp only [State.stackStopped, hlost, hstop, hpwr]

/-- An engine of the run reads the same bytes. -/
theorem Taking.runBytes (r : Run) (o off n : Nat) : t.runBytes r o off n = s.runBytes r o off n := by
  simp only [State.runBytes, State.runByte, State.runPages, h.obj, State.readByte, h.stackStopped, h.mem.hbmByte]

theorem Taking.residues (r : Run) (o off n : Nat) : t.residues r o off n = s.residues r o off n := by
  have hresidue : t.residue r o off = s.residue r o off := funext fun k => by simp only [State.residue, h.runBytes]
  rw [State.residues, hresidue, State.residues]

theorem Taking.blockTakes : t.blockTakes (pgYLM y) = s.blockTakes (pgYLM y) := by
  have hready : t.bit (pgYLM y) PG_STAT_READY = s.bit (pgYLM y) PG_STAT_READY :=
    h.only.bit_eq (takeRegs_ylm y (o := PG_STAT_READY.addr 0) (by decide) (by decide))
  have hdrains : t.bit (pgYLM y) PG_STAT_QUIESCING = s.bit (pgYLM y) PG_STAT_QUIESCING :=
    h.only.bit_eq (takeRegs_ylm y (o := PG_STAT_QUIESCING.addr 0) (by decide) (by decide))
  have hwas : t.drainReady = s.drainReady := h.only.2 .drainReady (by decide)
  have htick : t.drainTick = s.drainTick := h.only.2 .drainTick (by decide)
  simp only [State.blockTakes, State.ready, State.drainTicked, hready, hdrains, hwas, htick]

/-- The checks of R275 find the same. -/
theorem Taking.ksCheck (r : Run) (d : KsDesc) : t.ksCheck r y d = s.ksCheck r y d := by
  have hobj : t.obj = s.obj := funext h.obj
  have haccess : t.accessBad r = s.accessBad r := funext fun n => by simp only [State.accessBad, h.obj]
  have hfield : t.seedField r = s.seedField r := by funext n off k; simp only [State.seedField, h.runBytes]
  rw [State.ksCheck, h.blockTakes, hobj, haccess, hfield, State.ksCheck]

theorem Taking.rf_bst {b : Nat} {f : Fld} (j : Nat) : t.rf (pgBST b) f j = s.rf (pgBST b) f j :=
  h.only.rf_eq (takeRegs_off y (.inr (by simp only [pgBST]; omega)))

theorem Taking.limbDenied (b : Nat) : t.limbDenied y b = s.limbDenied y b := by
  have hbatten : t.batten b = s.batten b := by rw [State.batten, show t.bst = s.bst from h.only.2 .bst (by decide), State.batten]
  simp only [State.limbDenied, h.rf_bst, hbatten]

theorem Taking.modQ (b e : Nat) : t.modQ b e = s.modQ b e := by
  have hfield : ∀ f : Fld, t.rf (pgSLT b) f e = s.rf (pgSLT b) f e := fun f =>
    h.only.rf_eq (takeRegs_off y (.inr (by simp only [pgSLT]; omega)))
  simp only [State.modQ, hfield]

/-- The key streams the same (R280). -/
theorem Taking.keyStream (r : Run) (d : KsRec) (c : KsCtx) : t.keyStream r y d c = s.keyStream r y d c := by
  simp only [State.keyStream, State.keyAt, h.obj, h.residues, h.runBytes, h.modQ]

end

/-! ## Limbs in the store of the row (R184, R271) -/

section
variable (s : State)

theorem stPut_only (b a : Nat) (v : BitVec 72) : Only (fun _ => false) [.free, .store, .bst] s (s.stPut b a v) :=
  ((Only.refl s).store (by decide) _).bst (by decide) _

theorem limbWords_only (y b : Nat) : Only (fun _ => false) [.free, .store, .bst] s (s.limbWords y b) := by
  unfold State.limbWords
  refine (Only.refl s).foldl _ _ fun u a _ => ?_
  split
  · exact ((Only.refl u).free (by decide) _).trans (stPut_only ..)
  · exact .refl u

/-- Limbs pass where no batten denies the yealm: no register changes, and nothing beside words of stores. -/
theorem limbPass_of_granted {s : State} {y : Nat} {bs : List Nat} (h : ∀ b ∈ bs, s.limbDenied y b = none) :
    ∃ t, s.limbPass y bs = (t, true) ∧ Only (fun _ => false) [.free, .store, .bst] s t := by
  have hnone : bs.findSome? (fun b => (s.limbDenied y b).map (b, ·)) = none :=
    List.findSome?_eq_none_iff.2 fun b hb => by rw [h b hb, Option.map_none]
  refine ⟨bs.foldl (fun s b => s.limbWords y b) s, ?_, (Only.refl s).foldl _ _ fun u b _ => limbWords_only u y b⟩
  simp only [State.limbPass, hnone]

end

/-! ## Records in the pipeline -/

/-- A record that takes the place of another of its number is the one found. -/
theorem YlmSt.find_put {x : YlmSt} {d e : KsRec} (hd : d ∈ x.recs) (he : e.idx = d.idx) : (x.put e).find d.idx = some e := by
  have hsome : (x.recs.find? fun z => z.idx == d.idx).isSome = true := List.find?_isSome.2 ⟨d, hd, beq_self_eq_true _⟩
  obtain ⟨z, hz⟩ := Option.isSome_iff_exists.1 hsome
  have hidx : z.idx = d.idx := eq_of_beq (List.find?_some (p := fun z : KsRec => z.idx == d.idx) hz)
  have hcomp : ((fun z : KsRec => z.idx == d.idx) ∘ fun z => if z.idx = e.idx then e else z) = fun z => z.idx == d.idx := by
    funext w
    simp only [Function.comp_apply]
    split
    · next hw => rw [hw]
    · rfl
  rw [YlmSt.find, YlmSt.put, List.find?_map, hcomp, hz, Option.map_some, if_pos (hidx.trans he.symm)]

end Sys2Proof.Machine
end

section
/-! PROOF. The descriptor that a yealm reaches: it is read and checked, and enters the pipeline or is refused (R272 to R276, R279). -/

namespace Sys2Proof.Machine

/-! ## Halts of a yealm's spar (R404) -/

section
variable (s : State) (y : Fin 4) (why : Nat)

theorem overrun_regs (cause lig : Nat) : (s.overrun cause lig).regs = s.regs := by
  unfold State.overrun
  split
  · rfl
  · split <;> rfl

/-- A spar that halts, or has halted before, shows it. -/
theorem haltSpar_halted (i : Nat) : (s.haltSpar i why).bit (pgSPR i) SPR_STAT_HALTED = true := by
  have hshown : (((s.haltShown i).haltNoted i why).haltDropped i).bit (pgSPR i) SPR_STAT_HALTED = true := by
    have hnoted : ((s.haltShown i).haltNoted i why).bit (pgSPR i) SPR_STAT_HALTED = (s.haltShown i).bit (pgSPR i) SPR_STAT_HALTED := by
      unfold State.haltNoted
      split
      · rfl
      · simp (disch := decide) only [bit_wf_apart]
    rw [State.haltDropped, bit_raise_apart _ _ _ _ (by decide), bit_setSp, hnoted]
    simp (disch := decide) only [State.haltShown, bit_wf_apart, bit_wf_same]
    decide
  have hover : ∀ t : State, (t.overrun 4).bit (pgSPR i) SPR_STAT_HALTED = t.bit (pgSPR i) SPR_STAT_HALTED := fun t => by
    simp only [State.bit, State.rf, State.reg, overrun_regs]
  rw [haltSpar_eq]
  split
  · next hbefore => exact hbefore
  · split
    · rw [hover, hshown]
    · exact hshown

theorem endRegs_ylm {o : Nat} (ho : o < 0x1000) : endRegs (64 + y) (pgYLM y + o) = false := by
  obtain ⟨hlo, hhi⟩ := pgYLM_place y
  obtain ⟨hgab, hlig⟩ := gabPages_ligPages_of (k := pgYLM y + o) (by omega)
  have hspar : regsOf (pgSPR (64 + y)) sprEndRegs (pgYLM y + o) = false := regsOf_of_lt (by decide) (by rw [pgSPR_of_yealm]; omega)
  have hstore : regsOf (pgBST (64 + y)) bstReadRegs (pgYLM y + o) = false := regsOf_of_lt (by decide) (by simp only [pgBST]; omega)
  rw [endRegs, hspar, hstore, hgab, hlig]
  rfl

/-- The halt of its spar leaves the yealm's page. -/
theorem rf_haltSpar_ylm {f : Fld} (hf : f.fits = true) (j : Nat) : (s.haltSpar (64 + y) why).rf (pgYLM y) f j = s.rf (pgYLM y) f j :=
  (haltSpar_kept (64 + y) s why).only.rf_eq (endRegs_ylm y (Fld.addr_lt hf j))

theorem yealm_haltSpar (i z : Nat) : (s.haltSpar i why).yealm z = s.yealm z := (haltSpar_kept i s why).only.yealm_eq (by decide) z

end

/-! ## A descriptor is taken (R272 to R276, R279) -/

/-- The record with which a descriptor enters the pipeline, its input read. -/
def State.ksRec (s : State) (r : Run) (k : Nat) (d : KsDesc) : KsRec :=
  { idx := k, level := d.level, oper := d.oper, galois := d.galois, inH := d.inH, keyH := d.keyH, outH := d.outH
    input := s.residues r d.inH 0 (d.comps * d.level * 2 ^ r.plan.kLogn) }

def YlmSt.begun (x : YlmSt) : YlmSt := { x with swayWait := false, swayOk := false, descOk := false }

def YlmSt.passed (x : YlmSt) : YlmSt := { x with descOk := true }

/-- The yealm turns to descriptor k. -/
def State.ksBegun (s : State) (y k : Nat) : State := (s.setYealm y (s.yealm y).begun).wf (pgSPR (64 + y)) SPR_STINT_INDEX k

/-- The checks have passed, and the input of n bytes has arrived. -/
def State.ksArrived (s : State) (y n : Nat) : State := ((s.setYealm y (s.yealm y).passed).wf (pgYLM y) YLM_STAT_STAGE 2).ylmBytes y n

theorem live_of_engRun {s : State} {e : Nat} {r : Run} (h : s.engRun e = some r) : s.live = some r := by
  unfold State.engRun at h
  split at h
  · next hlive =>
    split at h
    · rw [hlive, h]
    · exact absurd h (by simp)
  · exact absurd h (by simp)

section
variable {s s1 : State} {r : Run} {y k : Nat} {d : KsDesc} {seeded : Bool}

/-- What becomes of descriptor k, by what its checks find. Checks, reads and passes are made variables before the match on them is reduced: the
kernel would else carry them out while it compares the two sides. -/
theorem ksTake_eq (hs1 : s.ksBegun y k = s1) (hs : ((s1.obj d.keyH).kind == 2) = seeded) :
    (∀ c h, s1.ksCheck r y d = .code c h → s.ksTake r y k d =
      ((if seeded && decide (7 ≤ c) then (s1.runReads r d.keyH [(0, 64)]).1 else s1).ylmBytes y
        (if seeded && decide (7 ≤ c) then 64 else 0)).ksRefuse y k c h) ∧
    (∀ s2 s3 s5, s1.ksCheck r y d = .ok → (if seeded then s1.runReads r d.keyH [(0, 64)] else (s1, true)) = (s2, true) →
      s2.runReads r d.inH [(0, d.comps * d.level * limbBytes r.plan.kLogn)] = (s3, true) →
      (s3.ksArrived y (d.comps * d.level * limbBytes r.plan.kLogn + 64 * bnat seeded)).limbPass y (r.plan.limbBattens y d.level) = (s5, true) →
      s.ksTake r y k d = s5.setYealm y { s5.yealm y with next := k + 1, recs := (s3.yealm y).recs ++ [s3.ksRec r k d] }) := by
  have htake : @State.ksTake = @State.ksTake := rfl
  conv at htake => rhs; delta State.ksTake
  rw [htake]
  clear htake
  generalize @State.ksCheck = check
  generalize @State.runReads = reads
  generalize @State.limbPass = pass
  simp only [State.ksBegun, YlmSt.begun] at hs1
  constructor
  · intro c h hc
    simp only [hs1, hs, hc]
  · intro s2 s3 s5 hc hkey hin hpass
    simp only [State.ksArrived, YlmSt.passed] at hpass
    simp only [hs1, hs, hc, hkey, hin, hpass, State.ksRec]

end

section
variable {s : State} {y : Fin 4} {r : Run}

theorem ksBegun_taking (k : Nat) : Taking y s (s.ksBegun y k) := ((Taking.refl s).setYealm _).index _

theorem ksArrived_taking (n : Nat) : Taking y s (s.ksArrived y n) := (((Taking.refl s).setYealm _).stage _).ylmBytes _

theorem yealm_ksBegun (k : Nat) : (s.ksBegun y k).yealm y = (s.yealm y).begun := by
  rw [State.ksBegun, yealm_wf, State.yealm_setYealm_same]

theorem index_ksBegun (k : Nat) : (s.ksBegun y k).rf (pgSPR (64 + y)) SPR_STINT_INDEX = k % 1024 := rf_wf_same _ _ _ _ _ (by decide)

theorem descOk_ksArrived (n : Nat) : ((s.ksArrived y n).yealm y).descOk = true := by
  rw [State.ksArrived, yealm_ylmBytes, yealm_wf, State.yealm_setYealm_same]
  rfl

theorem index_ksArrived (n : Nat) : (s.ksArrived y n).rf (pgSPR (64 + y)) SPR_STINT_INDEX = s.rf (pgSPR (64 + y)) SPR_STINT_INDEX := by
  rw [State.ksArrived, rf_ylmBytes, rf_spr_wf_ylm _ _ _ _ _ _ _ (by decide), rf_setYealm]

theorem ksRec_taking {t : State} (h : Taking y s t) (k : Nat) (d : KsDesc) : t.ksRec r k d = s.ksRec r k d := by
  simp only [State.ksRec, h.residues]

/-- The index that the spar shows lies past what reads write. -/
theorem Corrected.index {t : State} (h : Corrected s t) : t.rf (pgSPR (64 + y)) SPR_STINT_INDEX = s.rf (pgSPR (64 + y)) SPR_STINT_INDEX := by
  obtain ⟨hlo, -⟩ := pgYLM_place y
  exact h.rf_eq (.inr (by rw [pgSPR_of_yealm]; omega))

theorem Corrected.yealm_eq {t : State} (h : Corrected s t) (z : Nat) : t.yealm z = s.yealm z := h.only.yealm_eq (by decide) z

/-- R276: a refusal is recorded, raised, and halts the yealm's spar. -/
theorem ksRefuse_shows {k c : Nat} (h : Nat) (hc : c ≠ 9) (hv : s.bit (pgYLM y) YLM_REFUSE_VALID = false) :
    (s.ksRefuse y k c h).rf (pgYLM y) YLM_REFUSE_CODE = c % 256 ∧ (s.ksRefuse y k c h).rf (pgYLM y) YLM_REFUSE_H_HANDLE = h % 2 ^ 24 ∧
      bitOf ((s.ksRefuse y k c h).rf (pgYLM y) PG_EVT_RAW) 0 = true ∧ (s.ksRefuse y k c h).bit (pgSPR (64 + y)) SPR_STAT_HALTED = true ∧
      (s.ksRefuse y k c h).yealm y = s.yealm y := by
  have hrefuse : s.ksRefuse y k c h = (((((((s.wf (pgYLM y) YLM_REFUSE_VALID 1).wf (pgYLM y) YLM_REFUSE_DESC k).wf (pgYLM y) YLM_REFUSE_CODE c).wf
      (pgYLM y) YLM_REFUSE_H_HANDLE h).inc (pgYLM y) YLM_REFUSE_CNT_COUNT).raise (pgYLM y) 0).wf (pgYLM y) YLM_STAT_STAGE 1).haltSpar
      (64 + y) 12 := by
    simp only [State.ksRefuse, hv, hc, Bool.false_eq_true, if_false]
  rw [hrefuse, haltSpar_halted, yealm_haltSpar]
  simp (disch := decide) only [rf_haltSpar_ylm, rf_raise_apart, rf_inc_apart, rf_wf_apart, rf_wf_same, bitOf_raise, yealm_wf, yealm_raise,
    yealm_inc]
  exact ⟨rfl, rfl, trivial, trivial, trivial⟩

variable (hd : ∀ n b, s.decodeAt n b ≠ .bad)
include hd

theorem Taking.decodes {t : State} (h : Taking y s t) (n b : Nat) : t.decodeAt n b ≠ .bad := by
  rw [h.mem.decodeAt]
  exact hd n b

/-- The yealm reads the descriptor that it has reached, and takes it. -/
theorem ksNext_takes (hr : s.engRun y = some r) (hk : (s.yealm y).next < (r.plan.eng y).count) (hs : (s.yealm y).slotOpen (s.yealm y).next = true)
    (hw : (s.ksDesc r y (s.yealm y).next).sway = false ∨ (s.yealm y).swayOk = true)
    (hl : s.limbWaits y (r.plan.limbBattens y (s.ksDesc r y (s.yealm y).next).level) = false) :
    ∃ t, Corrected s t ∧ s.ksNext y = t.ksTake r y (s.yealm y).next (s.ksDesc r y (s.yealm y).next) := by
  obtain ⟨t, hread, hkept⟩ := runReads_corrected hd (by rw [live_of_engRun hr]; rfl) r r.plan.img
    (if (s.yealm y).swayWait || (s.yealm y).swayOk then [] else [((r.plan.eng y).descOff + 32 * (s.yealm y).next, 32)])
  have hgoes : ¬ ((r.plan.eng y).count ≤ (s.yealm y).next ∨ (!(s.yealm y).slotOpen (s.yealm y).next) = true) := by
    rw [hs]
    simp only [Bool.not_true, Bool.false_eq_true, or_false]
    omega
  have hmet : (!(s.ksDesc r y (s.yealm y).next).sway || (s.yealm y).swayOk) = true := by
    rcases hw with hw | hw <;> rw [hw]
    · rfl
    · exact Bool.or_true _
  refine ⟨t, hkept, ?_⟩
  simp only [State.ksNext, hr, if_neg hgoes, hl, Bool.false_eq_true, if_false, hread, hmet, if_true]

variable {k : Nat} {d : KsDesc} (hlive : s.live.isSome = true)
include hlive

/-- A descriptor that passes its checks, with no batten that denies the yealm, enters the pipeline. -/
theorem ksTake_of_ok (hc : s.ksCheck r y d = .ok) (hb : ∀ b ∈ r.plan.limbBattens y d.level, s.limbDenied y b = none) :
    ((s.ksTake r y k d).yealm y).next = k + 1 ∧ ((s.ksTake r y k d).yealm y).descOk = true ∧
      (s.ksTake r y k d).rf (pgSPR (64 + y)) SPR_STINT_INDEX = k % 1024 ∧
      ((s.ksTake r y k d).yealm y).recs = (s.yealm y).recs ++ [s.ksRec r k d] := by
  have hbegun : Taking y s (s.ksBegun y k) := ksBegun_taking k
  have hkey : ∃ t, (if ((s.ksBegun y k).obj d.keyH).kind == 2 then (s.ksBegun y k).runReads r d.keyH [(0, 64)] else (s.ksBegun y k, true)) =
      (t, true) ∧ Corrected (s.ksBegun y k) t := by
    split
    · exact runReads_corrected (hbegun.decodes hd) (by rw [hbegun.live, hlive]) r d.keyH _
    · exact ⟨_, rfl, .refl _⟩
  obtain ⟨s2, hread2, hkept2⟩ := hkey
  have htaking2 : Taking y s s2 := hbegun.trans hkept2.taking
  obtain ⟨s3, hread3, hkept3⟩ := runReads_corrected (htaking2.decodes hd) (by rw [htaking2.live, hlive]) r d.inH
    [(0, d.comps * d.level * limbBytes r.plan.kLogn)]
  have hreads : Corrected (s.ksBegun y k) s3 := hkept2.trans hkept3
  have htaking3 : Taking y s s3 := hbegun.trans hreads.taking
  obtain ⟨u, hpass, hlimbs⟩ := limbPass_of_granted (y := y) (bs := r.plan.limbBattens y d.level) fun b hm =>
    ((htaking3.trans (ksArrived_taking _)).limbDenied b).trans (hb b hm)
  rw [(ksTake_eq rfl rfl).2 s2 s3 u ((hbegun.ksCheck r d).trans hc) hread2 hread3 hpass]
  have hyealm : u.yealm y = (s3.ksArrived y _).yealm y := hlimbs.yealm_eq (by decide) y
  rw [State.yealm_setYealm_same, rf_setYealm, hlimbs.rf_eq rfl, index_ksArrived, hreads.index, index_ksBegun, ksRec_taking htaking3,
    hreads.yealm_eq, yealm_ksBegun]
  exact ⟨rfl, by rw [hyealm, descOk_ksArrived], rfl, rfl⟩

/-- A descriptor that fails a check is refused, whether or not the head of its key has been read. -/
theorem ksTake_of_code {c h : Nat} (hc : s.ksCheck r y d = .code c h) : ∃ n t, Corrected (s.ksBegun y k) t ∧
    s.ksTake r y k d = (t.ylmBytes y n).ksRefuse y k c h := by
  have hbegun : Taking y s (s.ksBegun y k) := ksBegun_taking k
  obtain ⟨t, hread, hkept⟩ := runReads_corrected (hbegun.decodes hd) (by rw [hbegun.live, hlive]) r d.keyH [(0, 64)]
  refine ⟨_, _, ?_, (ksTake_eq rfl rfl).1 c h ((hbegun.ksCheck r d).trans hc)⟩
  rw [hread]
  split
  · exact hkept
  · exact .refl _

theorem ksTake_refuses {c h : Nat} (hc : s.ksCheck r y d = .code c h) (h9 : c ≠ 9) (hv : s.bit (pgYLM y) YLM_REFUSE_VALID = false) :
    (s.ksTake r y k d).rf (pgYLM y) YLM_REFUSE_CODE = c % 256 ∧ (s.ksTake r y k d).rf (pgYLM y) YLM_REFUSE_H_HANDLE = h % 2 ^ 24 ∧
      bitOf ((s.ksTake r y k d).rf (pgYLM y) PG_EVT_RAW) 0 = true ∧ (s.ksTake r y k d).bit (pgSPR (64 + y)) SPR_STAT_HALTED = true ∧
      ((s.ksTake r y k d).yealm y).next = (s.yealm y).next := by
  obtain ⟨n, t, hkept, htake⟩ := ksTake_of_code hd hlive (k := k) hc
  have htaking : Taking y s t := (ksBegun_taking k).trans hkept.taking
  have hvalid : (t.ylmBytes y n).bit (pgYLM y) YLM_REFUSE_VALID = false := by
    rw [bit_ylmBytes, htaking.only.bit_eq (takeRegs_ylm y (o := YLM_REFUSE_VALID.addr 0) (by decide) (by decide)), hv]
  obtain ⟨hcode, hhandle, hevent, hhalt, hyealm⟩ := ksRefuse_shows (k := k) h h9 hvalid
  rw [htake, hyealm, yealm_ylmBytes, hkept.yealm_eq, yealm_ksBegun]
  exact ⟨hcode, hhandle, hevent, hhalt, rfl⟩

end

end Sys2Proof.Machine
end

section
/-! PROOF. The commands of a yealm, stage by stage (R272 to R285, R290, R291): O33 is settled. -/

namespace Sys2Proof.Machine

/-! ## KS_DESCRIPTOR (R272 to R276, R279) -/

section
variable {s : State} {y : Fin 4} {r : Run} (hr : s.engRun y = some r) (hk : (s.yealm y).next < (r.plan.eng y).count)
  (hs : (s.yealm y).slotOpen (s.yealm y).next = true)
  (hw : (s.ksDesc r y (s.yealm y).next).sway = false ∨ (s.yealm y).swayOk = true) (hd : ∀ n b, s.decodeAt n b ≠ .bad)
  (hl : s.limbWaits y (r.plan.limbBattens y (s.ksDesc r y (s.yealm y).next).level) = false)
include hr hk hs hw hd hl

theorem ksDescriptor_takes (hc : s.ksCheck r y (s.ksDesc r y (s.yealm y).next) = .ok)
    (hb : ∀ b ∈ r.plan.limbBattens y (s.ksDesc r y (s.yealm y).next).level, s.limbDenied y b = none) :
    Completes (.ksDescriptor y) s fun t => (t.yealm y).next = (s.yealm y).next + 1 ∧ (t.yealm y).descOk = true ∧
      t.rf (pgSPR (64 + y.val)) SPR_STINT_INDEX = (s.yealm y).next % 1024 ∧
      (t.yealm y).recs = (s.yealm y).recs ++ [s.ksRec r (s.yealm y).next (s.ksDesc r y (s.yealm y).next)] := by
  obtain ⟨t, hkept, htake⟩ := ksNext_takes hd hr hk hs hw hl
  refine .of_done (u := s.ksNext y) rfl ?_
  rw [settled_yealm, settled_rf_spr _ _ _ _ (by decide), htake]
  have htaken := ksTake_of_ok (y := y) (hkept.decodes hd) (by rw [hkept.live, live_of_engRun hr]; rfl) (k := (s.yealm y).next)
    ((hkept.taking.ksCheck ..).trans hc) fun b hm => (hkept.taking.limbDenied b).trans (hb b hm)
  rwa [hkept.yealm_eq, ksRec_taking (y := y) hkept.taking] at htaken

theorem ksDescriptor_refuses {c h : Nat} (hc : s.ksCheck r y (s.ksDesc r y (s.yealm y).next) = .code c h) (h9 : c ≠ 9)
    (hv : s.bit (pgYLM y) YLM_REFUSE_VALID = false) :
    Completes (.ksDescriptor y) s fun t => t.rf (pgYLM y) YLM_REFUSE_CODE = c % 256 ∧ t.rf (pgYLM y) YLM_REFUSE_H_HANDLE = h % 2 ^ 24 ∧
      bitOf (t.rf (pgYLM y) PG_EVT_RAW) 0 = true ∧ t.bit (pgSPR (64 + y.val)) SPR_STAT_HALTED = true ∧ (t.yealm y).next = (s.yealm y).next := by
  obtain ⟨t, hkept, htake⟩ := ksNext_takes hd hr hk hs hw hl
  refine .of_done (u := s.ksNext y) rfl ?_
  simp (disch := decide) only [settled_rf_ylm, settled_bit_spr, settled_yealm, htake]
  have hvalid : t.bit (pgYLM y) YLM_REFUSE_VALID = false := by
    rw [hkept.taking.only.bit_eq (takeRegs_ylm y (o := YLM_REFUSE_VALID.addr 0) (by decide) (by decide)), hv]
  have hrefused := ksTake_refuses (y := y) (hkept.decodes hd) (by rw [hkept.live, live_of_engRun hr]; rfl) (k := (s.yealm y).next)
    ((hkept.taking.ksCheck ..).trans hc) h9 hvalid
  rwa [hkept.yealm_eq] at hrefused

end

/-! ## PRE_STAGES, KEY_STREAM and POST_STAGES (R278 to R285) -/

section
variable {s : State} {y : Fin 4} {r : Run} {d : KsRec} (hr : s.engRun y = some r)
include hr

/-- S1 to S3 on the oldest descriptor whose input has arrived. -/
theorem preStages_completes (hf : (s.yealm y).recs.find? (fun e => e.stage == 1) = some d) (he : s.ksEntryBad r.plan y d.level = none) :
    Completes (.preStages y) s fun t => (t.yealm y).find d.idx = some { d with stage := 2, ext := d.preStages (s.ksCtx r.plan y d.level) } := by
  refine .of_done (u := s.ksPre y) rfl ?_
  simp only [State.ksPre, hr, hf, he, settled_yealm, yealm_wf, State.yealm_setYealm_same]
  exact YlmSt.find_put (List.mem_of_find?_eq_some hf) rfl

section
variable (hf : (s.yealm y).recs.find? (fun e => decide (e.stage ≤ 2)) = some d) (h2 : d.stage = 2)
  (hn : ((s.yealm y).find (d.idx + 1)).isSome = true ∨ s.ksHeld r y (d.idx + 1) = true) (ha : ∀ z ∈ (s.yealm y).recs, d.idx < z.idx + 2)
include h2 hn ha

omit hr in
/-- R279: nothing holds back the key of this descriptor. -/
theorem keyStream_goes : (d.stage == 1 || ((s.yealm y).find (d.idx + 1)).isNone && !s.ksHeld r y (d.idx + 1) ||
    (s.yealm y).recs.any fun z => decide (z.idx + 2 ≤ d.idx)) = false := by
  have hahead : ((s.yealm y).recs.any fun z => decide (z.idx + 2 ≤ d.idx)) = false := by
    rw [List.any_eq_false]
    intro z hz
    have := ha z hz
    rw [decide_eq_true_eq]
    omega
  have hnext : (((s.yealm y).find (d.idx + 1)).isNone && !s.ksHeld r y (d.idx + 1)) = false := by
    rcases hn with hn | hn
    · rw [← Option.not_isSome, hn]; rfl
    · rw [hn]; exact Bool.and_false _
  rw [h2, hahead, hnext]
  rfl

include hf

theorem keyStream_streams (hd : ∀ n b, s.decodeAt n b ≠ .bad) (he : s.seedEntryBad r.plan y d = none) :
    Completes (.keyStream y false) s fun t => (t.yealm y).find d.idx = some { d with
      stage := 3
      acc := d.inner (s.ksCtx r.plan y d.level) fun comp dg i z => (s.ksCtx r.plan y d.level).at
        (s.keyStream r y d (s.ksCtx r.plan y d.level))
        ((comp * (s.ksCtx r.plan y d.level).digits + dg) * (s.ksCtx r.plan y d.level).lk + i) z } := by
  obtain ⟨t, hread, hkept⟩ := runReads_corrected hd (by rw [live_of_engRun hr]; rfl) r d.keyH
    (s.keySpans r.plan d (s.ksCtx r.plan y d.level))
  refine .of_done (u := s.ksKey y false) rfl ?_
  simp only [State.ksKey, hr, hf, keyStream_goes h2 hn ha, Bool.false_eq_true, if_false, he, hread, settled_yealm, yealm_wf,
    yealm_ylmBytes, State.yealm_setYealm_same, hkept.taking.keyStream]
  exact YlmSt.find_put (List.mem_of_find?_eq_some hf) rfl

/-- R293: a word of the row's rail that fails parity halts the yealm. -/
theorem keyStream_halts : Completes (.keyStream y true) s fun t => t.bit (pgSPR (64 + y.val)) SPR_STAT_HALTED = true ∧
    bitOf (t.rf (pgYLM y) PG_EVT_RAW) 3 = true ∧ (t.yealm y).recs = (s.yealm y).recs := by
  have hkey : s.ksKey y true = ((s.inc (pgYLM y) YLM_RAIL_CNT_COUNT).raise (pgYLM y) 3).haltSpar (64 + y) 12 := by
    simp only [State.ksKey, hr, hf, keyStream_goes h2 hn ha, Bool.false_eq_true, if_false, if_true]
  refine .of_done (u := s.ksKey y true) rfl ?_
  rw [hkey]
  simp (disch := decide) only [settled_bit_spr, settled_rf_ylm, settled_yealm, haltSpar_halted, rf_haltSpar_ylm, bitOf_raise, yealm_haltSpar,
    yealm_raise, yealm_inc, and_self]

end

/-- X2 to F on the oldest descriptor whose key has been streamed. -/
theorem postStages_completes (hf : (s.yealm y).recs.find? (fun e => e.stage == 3) = some d)
    (hl : s.limbWaits y (r.plan.limbBattens y d.level) = false) (hb : ∀ b ∈ r.plan.limbBattens y d.level, s.limbDenied y b = none) :
    Completes (.postStages y) s fun t => (t.yealm y).find d.idx = some { d with stage := 4, out := d.modDown (s.ksCtx r.plan y d.level) } := by
  obtain ⟨t, hpass, -⟩ := limbPass_of_granted hb
  refine .of_done (u := s.ksPost y) rfl ?_
  simp only [State.ksPost, hr, hf, hl, Bool.false_eq_true, if_false, hpass, settled_yealm, State.yealm_setYealm_same]
  exact YlmSt.find_put (List.mem_of_find?_eq_some hf) rfl

end

/-! ## OUTPUT_WRITE (R279, R285) -/

section
variable {s : State}

theorem pagedWrite_only (pages : List Nat) (off : Nat) (bs : List Byte) : Only (fun _ => false) [.hbm] s (s.pagedWrite pages off bs) :=
  ((Only.refl s).hbm (by decide) _).hbm (by decide) _

theorem runWrite_only (r : Run) (h off : Nat) (bs : List Byte) : Only (fun _ => false) [.hbm] s (s.runWrite r h off bs) := by
  unfold State.runWrite
  split
  · exact pagedWrite_only ..
  · exact .refl s

variable {y : Fin 4} {r : Run} {d : KsRec}

/-- The output of descriptor d is written, and counted. -/
def State.ksWritten (s : State) (r : Run) (y : Nat) (d : KsRec) : State :=
  (((s.runWrite r d.outH 0 (packResidues d.out)).setYealm y { s.yealm y with recs := (s.yealm y).recs.tail }).ylmBytes y
    (2 * d.level * limbBytes r.plan.kLogn)).inc (pgYLM y) YLM_SW_CNT_COUNT

theorem ksWritten_shows : ((s.ksWritten r y d).yealm y).recs = (s.yealm y).recs.tail ∧
    (s.ksWritten r y d).hbm = (s.runWrite r d.outH 0 (packResidues d.out)).hbm ∧
    (s.ksWritten r y d).rf (pgYLM y) YLM_SW_CNT_COUNT = min (2 ^ YLM_SW_CNT_COUNT.width - 1) (s.rf (pgYLM y) YLM_SW_CNT_COUNT + 1) := by
  rw [State.ksWritten, yealm_inc, yealm_ylmBytes, State.yealm_setYealm_same, State.inc_hbm, rf_inc_same _ _ _ _ (by decide), rf_ylmBytes, rf_setYealm,
    (runWrite_only r _ _ _).rf_eq rfl]
  exact ⟨rfl, rfl, rfl⟩

section
variable (hr : s.engRun y = some r) (hf : (s.yealm y).recs.head? = some d) (h4 : d.stage = 4)
  (hb : s.holdsBuffers (0x80 + y.val) = true) (hn : ∀ e, (s.yealm y).find (d.idx + 1) = some e → 3 ≤ e.stage)
  (hh : (s.yealm y).find (d.idx + 1) = none → s.ksHeld r y (d.idx + 1) = true)
include hr hf h4 hb hn hh

/-- The output is written once the key of the next descriptor has been streamed, or the next one waits for this one (R279). -/
theorem ksOut_eq : s.ksOut y = if (r.plan.eng y).count ≤ d.idx + 1 then ((s.ksWritten r y d).wf (pgYLM y) YLM_STAT_STAGE 0).engEnded y
    else (s.ksWritten r y d).wf (pgYLM y) YLM_STAT_STAGE 4 := by
  cases hfind : (s.yealm y).find (d.idx + 1) with
  | none =>
    simp only [State.ksOut, hr, hf, hfind, h4, hb, hh hfind, bne_self_eq_false, Bool.not_true, Bool.or_self, Bool.false_eq_true, if_false]
    rfl
  | some e =>
    simp only [State.ksOut, hr, hf, hfind, h4, hb, decide_eq_false (Nat.not_lt.2 (hn e hfind)), bne_self_eq_false, Bool.not_true, Bool.or_self,
      Bool.false_eq_true, if_false]
    rfl

theorem outputWrite_completes : Completes (.outputWrite y) s fun t => (t.yealm y).recs = (s.yealm y).recs.tail ∧
    t.hbm = (s.runWrite r d.outH 0 (packResidues d.out)).hbm ∧
    t.rf (pgYLM y) YLM_SW_CNT_COUNT = min (2 ^ YLM_SW_CNT_COUNT.width - 1) (s.rf (pgYLM y) YLM_SW_CNT_COUNT + 1) ∧
    ((r.plan.eng y).count ≤ d.idx + 1 → t.bit (pgSPR (64 + y.val)) SPR_STAT_ENDED = true) := by
  obtain ⟨hrecs, hhbm, hcount⟩ := ksWritten_shows (s := s) (y := y) (r := r) (d := d)
  refine .of_done (u := s.ksOut y) rfl ?_
  rw [settled_yealm, settled_hbm, settled_rf_ylm _ _ _ _ (by decide), settled_bit_spr _ _ _ _ (by decide), ksOut_eq hr hf h4 hb hn hh]
  split
  · next hlast =>
    simp (disch := decide) only [State.engEnded, yealm_wf, State.wf_hbm, rf_ylm_wf_spr, rf_wf_apart, bit_wf_apart, bit_wf_same]
    exact ⟨hrecs, hhbm, hcount, fun _ => by decide⟩
  · next hmore =>
    rw [yealm_wf, State.wf_hbm, rf_wf_apart _ _ _ _ _ (by decide)]
    exact ⟨hrecs, hhbm, hcount, fun hlast => absurd hlast hmore⟩

end

end

/-! ## KAT and KAT_DONE (R290, R291) -/

section
variable {s : State} {y : Fin 4}

theorem kat_completes {src : Src} {v : Word32} (ha : s.accepts src (pgYLM y + 0x5C) = true) (hv : v.getLsbD 0 = true)
    (hact : s.bit (pgYLM y) YLM_STAT_ACTIVE = false) (hrun : s.bit (pgYLM y) YLM_KAT_STAT_RUN = false) :
    Completes (.kat src y v) s fun t => t.bit (pgYLM y) YLM_KAT_STAT_RUN = true ∧ t.bit (pgYLM y) PG_STAT_READY = false := by
  have hwrite : s.katWrite src y v = s.katStart y := by
    rw [State.katWrite, ifWriter_accepted _ ha (pageOf_ylm y _ (by decide)) (by decide)]
    simp only [hv, hact, hrun, Bool.not_true, Bool.or_self, Bool.false_eq_true, if_false]
  refine .of_done (u := s.katWrite src y v) rfl ?_
  rw [hwrite, State.katStart]
  simp (disch := decide) only [settled_bit_ylm, bit_wf_apart, bit_wf_same]
  decide

/-- A further event leaves one that is raised. -/
theorem bitOf_raise_of_set {pg b c : Nat} (hb : b < 32) (hc : bitOf (s.rf pg PG_EVT_RAW) c = true) :
    bitOf ((s.raise pg b).rf pg PG_EVT_RAW) c = true := by
  rw [rf_raise _ _ _ hb, bitOf, Nat.testBit_or, Bool.or_eq_true_iff]
  exact .inl hc

/-- The verdict of a known-answer test that ends (R291). -/
def State.katEnded (s : State) (y : Nat) (fail : BitVec 32) : State :=
  (((((s.wf (pgYLM y) YLM_KAT_STAT_RUN 0).wf (pgYLM y) YLM_KAT_STAT_PASS (bnat (fail == 0))).wf (pgYLM y) YLM_KAT_STAT_DONE 1).wf (pgYLM y)
    YLM_KAT_FAIL_ENGINE fail.toNat).raise (pgYLM y) 1).raiseIf (!(fail == 0)) (pgYLM y) 2

theorem katEnded_shows {fail : BitVec 32} : (s.katEnded y fail).bit (pgYLM y) YLM_KAT_STAT_RUN = false ∧
    (s.katEnded y fail).bit (pgYLM y) YLM_KAT_STAT_DONE = true ∧ (s.katEnded y fail).bit (pgYLM y) YLM_KAT_STAT_PASS = (fail == 0) ∧
    (s.katEnded y fail).rf (pgYLM y) YLM_KAT_FAIL_ENGINE = fail.toNat ∧ bitOf ((s.katEnded y fail).rf (pgYLM y) PG_EVT_RAW) 1 = true ∧
    (s.katEnded y fail).bit (pgYLM y) PG_CTRL_EN = s.bit (pgYLM y) PG_CTRL_EN := by
  have hfail : fail.toNat % 2 ^ 32 = fail.toNat := Nat.mod_eq_of_lt fail.isLt
  rw [State.katEnded]
  cases fail == 0
  · simp (disch := decide) only [State.raiseIf, Bool.not_false, if_true, bit_raise_apart, rf_raise_apart, bit_wf_apart, bit_wf_same, rf_wf_same]
    exact ⟨by decide, by decide, by decide, hfail, bitOf_raise_of_set (by decide) (bitOf_raise _ _ (by decide)), trivial⟩
  · simp (disch := decide) only [State.raiseIf, Bool.not_true, Bool.false_eq_true, if_false, bit_raise_apart, rf_raise_apart, bit_wf_apart,
      bit_wf_same, rf_wf_same, bitOf_raise]
    exact ⟨by decide, by decide, by decide, hfail, trivial, trivial⟩

theorem katDone_completes {fail : BitVec 32} (hrun : s.bit (pgYLM y) YLM_KAT_STAT_RUN = true) (hg : s.gated = false) :
    Completes (.katDone y fail) s fun t => t.bit (pgYLM y) YLM_KAT_STAT_RUN = false ∧ t.bit (pgYLM y) YLM_KAT_STAT_DONE = true ∧
      t.bit (pgYLM y) YLM_KAT_STAT_PASS = (fail == 0) ∧ t.rf (pgYLM y) YLM_KAT_FAIL_ENGINE = fail.toNat ∧
      bitOf (t.rf (pgYLM y) PG_EVT_RAW) 1 = true ∧
      (fail = 0 → s.bit (pgYLM y) PG_CTRL_EN = true → t.bit (pgYLM y) PG_STAT_READY = true) := by
  obtain ⟨hstop, hdone, hpass, hfail, hevent, hen⟩ := katEnded_shows (s := s) (y := y) (fail := fail)
  refine .of_done (u := if fail == 0 && (s.katEnded y fail).bit (pgYLM y) PG_CTRL_EN then (s.katEnded y fail).wf (pgYLM y) PG_STAT_READY 1
    else s.katEnded y fail) ?_ ?_
  · rw [show exec (.katDone y fail) s = execKatDone y fail s from rfl, execKatDone, if_neg (by rw [hrun, hg]; decide)]
    rfl
  · simp (disch := decide) only [settled_bit_ylm, settled_rf_ylm]
    split
    · simp (disch := decide) only [bit_wf_apart, rf_wf_apart, bit_wf_same]
      exact ⟨hstop, hdone, hpass, hfail, hevent, fun _ _ => by decide⟩
    · next hnot =>
      exact ⟨hstop, hdone, hpass, hfail, hevent, fun hf he => absurd (by rw [hen, he, hf]; rfl) hnot⟩

end

/-- Settles O33, command by command: each stage from the record that it finds, with the reads and the passes of limbs that it makes on its way. -/
theorem keySwitching : Obligations.KeySwitching := by
  unfold Obligations.KeySwitching
  intro s y
  exact ⟨fun r hr hk hs hw hd hl => ⟨fun hc hb => (ksDescriptor_takes hr hk hs hw hd hl hc hb).imp fun t ⟨hnext, hok, hindex, hrecs⟩ =>
      ⟨hnext, hok, hindex, _, hrecs, rfl, rfl, rfl, rfl, rfl, rfl, rfl⟩, fun c h => ksDescriptor_refuses hr hk hs hw hd hl⟩,
    fun r d => preStages_completes,
    fun r d hr hf h2 hn ha => ⟨keyStream_streams hr hf h2 hn ha, keyStream_halts hr hf h2 hn ha⟩,
    fun r d => postStages_completes, fun r d => outputWrite_completes, fun src v => kat_completes, fun fail => katDone_completes⟩

end Sys2Proof.Machine
end
